-- ==== Sys2Proof/Word.lean ====
section
/-! DEFINITION. Word.lean: the word types of the module and the keyed tables that State is made of.

The spec numbers every register from bit 0 (R14) and stores multi-byte values little-endian (R15). A register's
content is held here as a natural number below two to its width (the width is the one the object table gives);
a byte is `BitVec 8`. -/

namespace Sys2Proof

/-- One byte. -/
abbrev Byte := BitVec 8

/-- A table from a key to a value: a list of pairs with strictly rising keys. A key that is not listed has the
table's default value. -/
abbrev Tab (β : Type) := List (Nat × β)

end Sys2Proof
end

