-- ==== Sys2Proof/Syntax/Wire.lean ====
section
/-! DEFINITION. Syntax/Wire.lean: what travels into and out of the module: dictionary messages, control symbols and
blocks, packets, descriptors, and the records it writes. -/

namespace Sys2Proof

/-- The path a dictionary request arrives by (R497, R505; the codes of AUDIT byte 25 in Table 19.5). -/
inductive Path where
  | field
  | ep (n : Fin 2)
  | mailbox (n : Fin 4)
  | internal
deriving DecidableEq, Repr

/-- Who sends a dictionary request: the path, the session number of the message (0: sessionless over UDP, the
mailbox's own session over a mailbox), and over UDP the source address and port (R506). -/
structure Who where
  path : Path
  session : Nat
  addr : Nat
  port : Nat
deriving DecidableEq, Repr

/-- A dictionary message without its OP (Table 18.2): header fields, body, and the message authentication code that
follows when MAC_PRESENT is set; and what the IP and UDP headers of its datagram say (R497): the destination address, where none
stands for this module's own address on the path, the destination port, and the UDP checksum. -/
structure Msg where
  version : Nat
  status : Nat
  flags : Nat
  seq : Nat
  session : Nat
  count : Nat
  bodyLen : Nat
  retry : Nat
  resv : Nat
  body : List Byte
  mac : Nat
  dest : Option Nat := none
  dport : Nat := 5021
  checksum : Nat := 1
deriving DecidableEq, Repr

/-- What an IEEE 1588 Announce says (R526, R529): its domain and source port identity, the data that the best master clock
algorithm compares, the master's logSyncInterval, and what it says of UTC. -/
structure Announce where
  domain : Nat
  source : Nat
  priority1 : Nat
  clockClass : Nat
  accuracy : Nat
  variance : Nat
  priority2 : Nat
  grandmaster : Nat
  stepsRemoved : Nat
  logSyncInterval : Int
  utcOffset : Int
  utcValid : Bool
  leap61 : Bool
  leap59 : Bool
deriving DecidableEq, Repr

/-- What the module finds in a bring-up stage (R504, R530, R551, R557): the firmware images of slots A and B that fail (Table 20.5's
image numbers), the persistent values whose two copies both fail, the OR of the zeroization read-back, the first tile whose
grist unit gives another block than expected, with the block it gives, the first domain whose droop detector stays silent, the express map the switch
reads back, and whether the bridle-core firmware fails. -/
structure StageObs where
  slotA : Option (Fin 5)
  slotB : Option (Fin 5)
  lost : List Nat
  readBack : Nat
  grist : Option (Fin 384 × Nat)
  droop : Option (Fin 4 × Fin 16)
  express : Nat
  bridleBad : Bool
deriving DecidableEq, Repr

/-- What the error correction tells of a unit that is read (R289, R290): 0 no error, 1 a correctable one, 2 one that is not; and
whether the patrol scrub reads the unit (R295) or another read meets the error. -/
structure EccRead where
  err : Fin 3
  scrub : Bool
deriving DecidableEq, Repr

/-- A scan partition's signature that differs from its golden value (R552, R556): die 0 to 3 CD0 to CD3, 4 IOD-N, 5 IOD-S; the
partition; the golden signature and the one found. -/
structure BadSignature where
  die : Nat
  part : Nat
  expected : Nat
  found : Nat
deriving DecidableEq, Repr

/-- A packet without its trailer (Table 12.1). FLAGS, ROUTE, TAG and SYNC are held as the words of the table. -/
structure Packet where
  typ : Nat
  flags : Nat
  len : Nat
  srcChip : Nat
  srcEpoch : Nat
  dstChip : Nat
  dstEpoch : Nat
  tag : Nat
  route : Nat
  hops : Nat
  addr : Nat
  step : Nat
  sync : Nat
  arg : Nat
  payload : List Byte
deriving DecidableEq, Repr

/-- What the module sends. -/
inductive Out where
  /-- A control block on a link: group, kind and payload (Table 11.3). Beat symbols are group 1, link control group 2,
  discovery group 3; `lane` is 0 for the lowest active lane, 1 for the next (R308). -/
  | block (link grp kind payload lane : Nat)
  /-- A flit of 340 bytes on a link (R303); the codeword sent is its RS encoding. -/
  | flit (link : Nat) (bytes : List Byte)
  /-- A dictionary message to a requester: its OP and the message (Table 18.3). -/
  | message (who : Who) (op : Nat) (msg : Msg)
  /-- The status of a single dictionary write (Table 18.4). -/
  | status (who : Who) (key status : Nat)
  /-- A write of a host port into host memory. -/
  | hostWrite (port : Fin 4) (addr : Nat) (bytes : List Byte)
  /-- An MSI-X interrupt of a host port: the vector, its table entry's address and data. -/
  | msix (port : Fin 4) (vector addr data : Nat)
  /-- The completion of a host read: 0 success, 1 Unsupported Request, 2 Completer Abort (R474). -/
  | barData (port : Fin 4) (status : Nat) (bytes : List Byte)
  /-- A burst of low pulses on ENUM_OUT (R494). -/
  | enumBurst (count : Nat)
  /-- The BEACON of a PLCA coordinator (R496). -/
  | beacon
  /-- A Delay_Req of the PTP port of EPn (R526). -/
  | delayReq (ep : Nat) (seq : Nat)
  /-- Bytes written to a region of a partition's STORE_TARGET namespace over EP0-EP1, from a byte offset (R266, R436). -/
  | store (part : Nat) (off : Nat) (bytes : List Byte)
  /-- A lane of a class O link on which the module stops sending (R378). -/
  | laneOff (link lane : Nat)
deriving DecidableEq, Repr

end Sys2Proof
end

