-- ==== Sys2Proof/Syntax.lean ====
section
/-! DEFINITION. Syntax.lean: the commands of the block, one constructor per row of the spec's table of operations and
events. Each constructor's docstring gives the row and its rule; its operands are what the rule says the command
carries. Times are in units of 0.125 ns of reference time unless a name ends in Ns, Ms or S. -/

namespace Sys2Proof

/-- The commands of the module. -/
inductive Instr where
  /-- BEAT_PERIOD_NS_WRITE (R30): A write of BEAT_PERIOD_NS is accepted in UNLOCKED only and sets the beat period. -/
  | beatPeriodNsWrite (who : Who) (v : Nat)
  /-- BEAT_ROLE_WRITE (R51): A write of BEAT_ROLE is accepted in UNLOCKED only and sets follower or root role. -/
  | beatRoleWrite (who : Who) (v : Nat)
  /-- BEAT_START_COUNT_WRITE (R48): On a root in UNLOCKED, the write enters ROOT and emits BEATNUM and the first EDGE. -/
  | beatStartCountWrite (who : Who) (v : Nat)
  /-- ROOT_FIRST_EDGE (R48): 1,500 ns after BEAT_START_COUNT the root places its first local edge, sets BEAT_COUNT and raises BEAT_LOCKED. -/
  | rootFirstEdge
  /-- UPSTREAM_LINK_WRITE (R50): A write of UPSTREAM_PRIMARY, UPSTREAM_SECONDARY or DOWNSTREAM_MASK takes effect at the next edge or at once. -/
  | upstreamLinkWrite (who : Who) (which : Fin 3) (v : Nat)
  /-- BEAT_RELEASE (R51): An owner write of 1 returns the module to UNLOCKED at the end of E4 of the next edge, or at once. -/
  | beatRelease (who : Who) (v : Nat)
  /-- HOLD_RELEASE (R61): A write to the root clears the consecutive-slip count and ends the machine hold at the next EDGE. -/
  | holdRelease (who : Who) (v : Nat)
  /-- ROOT_EDGE_EMIT (R36): 1,500 ns before each nominal edge the root emits EDGE with REMAIN 12,000, the slack decided, and SLIP or HOLD. -/
  | rootEdgeEmit
  /-- EDGE_SECOND_COPY (R39): 64 ns after the first copy a sender sends the second EDGE copy with REMAIN lowered by 512. -/
  | edgeSecondCopy
  /-- EDGE_RX (R37): An accepted EDGE symbol sets the follower's local edge time, is passed downstream and counts toward acquisition. -/
  | edgeRx (link : Fin 24) (blk at_ : Nat) (residences : List Nat) (err : Fin 13)
  /-- BEATNUM_RX (R47): An accepted BEATNUM gives the full beat count and starts or restarts acquisition. -/
  | beatnumRx (link : Fin 24) (blk at_ : Nat)
  /-- SLACK_REQ_RX (R55): A SLACK_REQ from a downstream link is checked and passed upstream or accepted by the root. -/
  | slackReqRx (link : Fin 24) (blk : Nat)
  /-- SLIP_REQ_RX (R60): A SLIP_REQ from a downstream link is passed upstream once per beat or makes the root set SLIP. -/
  | slipReqRx (link : Fin 24) (blk : Nat)
  /-- SLACK_REQ_SEND (R54): When the finish forecast plus guard passes the nominal edge under an enabled cause, the module sends SLACK_REQ. -/
  | slackReqSend (cause : Nat) (excessNs : Int)
  /-- BEAT_LOST_TIMEOUT (R49): No good EDGE by the nominal edge plus 16/64 of the period puts a LOCKED follower in LOST. -/
  | beatLostTimeout
  /-- LOCAL_EDGE (R63): At each local edge the module runs steps E0–E7 of the edge sequence. -/
  | localEdge
  /-- LATE_BEAT_RESUME (R58): An overrunning module finishes its late schedule beat and starts the next one at once. -/
  | lateBeatResume
  /-- NS_DEADLINE_DUE (R65): A nanosecond sync deadline falls due when REF_NS reaches it and acts by ON_TIMEOUT. -/
  | nsDeadlineDue
  /-- DEBUG_ENABLE_WRITE (R127): An owner write enters debug mode at the next edge, or on 0 unloads and zeroes the partition. -/
  | debugEnableWrite (who : Who) (v : Nat)
  /-- DEBUG_HALT_WRITE (R127): In debug mode the write stops the partition's sequencers at their next operation boundary. -/
  | debugHaltWrite (who : Who) (v : Nat)
  /-- MATMUL (R249): A matrix product C = A·B runs its passes, collector rounding and epilogue. -/
  | matmul (part : Fin 4) (rel waited : Nat)
  /-- EMBED_GRAD (R251): The embedding gradient accumulates dY rows selected by indices, skipping null passes. -/
  | embedGrad (part : Fin 4) (rel waited : Nat)
  /-- EW_CHAIN (R253): An element-wise chain of vector steps runs on every row of its output. -/
  | ewChain (part : Fin 4) (rel waited stalled trimmed : Nat)
  /-- REDUCE_ROW (R258): A per-row SUM, MAX, MIN or SUMSQ is written for each logical row. -/
  | reduceRow (part : Fin 4) (rel waited stalled trimmed : Nat)
  /-- REDUCE_COLS (R258): Column sums are formed over all rows in increasing order. -/
  | reduceCols (part : Fin 4) (rel waited stalled trimmed : Nat)
  /-- LAYERNORM (R255): Layer normalization runs by the fixed procedure per logical row. -/
  | layernorm (part : Fin 4) (rel waited stalled trimmed : Nat)
  /-- LAYERNORM_GRAD (R255): The layer-norm gradient recomputes statistics and writes dx and optional EXTRA_OUT. -/
  | layernormGrad (part : Fin 4) (rel waited stalled trimmed : Nat)
  /-- RMSNORM (R255): RMS normalization runs by the fixed procedure per logical row. -/
  | rmsnorm (part : Fin 4) (rel waited stalled trimmed : Nat)
  /-- RMSNORM_GRAD (R255): The RMS-norm gradient recomputes statistics and writes dx. -/
  | rmsnormGrad (part : Fin 4) (rel waited stalled trimmed : Nat)
  /-- SOFTMAX (R255): Softmax runs by the fixed procedure per logical row. -/
  | softmax (part : Fin 4) (rel waited stalled trimmed : Nat)
  /-- SOFTMAX_GRAD (R255): The softmax gradient is formed from y and dy per logical row. -/
  | softmaxGrad (part : Fin 4) (rel waited stalled trimmed : Nat)
  /-- XENT (R257): Cross-entropy writes the per-row loss and the unshifted logit gradient. -/
  | xent (part : Fin 4) (rel waited stalled trimmed : Nat)
  /-- GATHER (R259): Table rows are copied by index, with NaN rows for out-of-range indices. -/
  | gather (part : Fin 4) (rel waited stalled trimmed : Nat)
  /-- CAST (R260): IN0 is converted to OUT's format by Table 3.5. -/
  | cast (part : Fin 4) (rel waited stalled trimmed : Nat)
  /-- REQUANTIZE (R260): IN0 is written with a given or copied block scale under R88. -/
  | requantize (part : Fin 4) (rel waited stalled trimmed : Nat)
  /-- LOSS_SEED (R261): After the previous vote applies, the seed is multiplied by 2^G into an ACTGRAD tensor. -/
  | lossSeed (part : Fin 4) (rel waited stalled trimmed : Nat)
  /-- OPT_STEP (R262): The optimizer update of one shard runs by R201 into shadow or live banks. -/
  | optStep (part : Fin 4) (rel waited stalled trimmed : Nat)
  /-- FOLD (R264): The fold pass adds tied-weight accumulators in listed order into use 0. -/
  | fold (part : Fin 4) (rel waited stalled trimmed : Nat)
  /-- COLLECTIVE (R265): The operation starts its COLLECTIVES entry on the collective engine. -/
  | collective (part : Fin 4) (rel waited : Nat)
  /-- TRANSFER (R266): The transfer engine copies a tensor locally or to or from an offload region. -/
  | transfer (part : Fin 4) (rel waited : Nat) (data : List Byte)
  /-- CHECKPOINT_COPY (R267): A PERSISTENT tensor's boundary bank is copied to the partner, flash or store target. -/
  | checkpointCopy (part : Fin 4) (rel : Nat)
  /-- DIGEST (R267): The SHA-256 digest of a PERSISTENT tensor is computed and stored at its index. -/
  | digest (part : Fin 4) (rel : Nat)
  /-- OPERATION_COMPLETE (R246): A tile's share completes: flags ORed, taps added and a completion posted to POST_PAIR. -/
  | operationComplete (part : Fin 4) (rel tile : Nat)
  /-- NORM_CONTRIBUTION_SEND (R194): Once the FINAL reduce-scatter's packets are handed to links, the norm-round contribution is sent. -/
  | normContributionSend (part : Fin 4)
  /-- VOTE_TIMEOUT (R209): No round result within VOTE_TIMEOUT_BEATS puts the partition in VOTE_LOST. -/
  | voteTimeout (part : Fin 4)
  /-- STEP_PARAM_WRITE (R197): A write of STEP_PARAM gives the step parameter block, rejected if out of range. -/
  | stepParamWrite (who : Who) (part : Fin 4) (v : Nat)
  /-- START_BEAT_WRITE (R234): In LOADED, a START_BEAT at least BEAT_COUNT + 2 arms the job start. -/
  | startBeatWrite (who : Who) (part : Fin 4) (v : Nat)
  /-- UNLOAD (R235): A write of 1 requests the partition's unload at the next edge or at once. -/
  | unload (who : Who) (part : Fin 4) (v : Nat)
  /-- IMAGE_LOAD_DONE (R239): The staged image finishes its load checks; the result is written and LOADED entered or refused. -/
  | imageLoadDone (part : Fin 4)
  /-- HOST_BAR_READ (R474): A host read through a BAR is checked by Table 10.5 and completed or refused. -/
  | hostBarRead (port : Fin 4) (bar : Fin 3) (off len : Nat)
  /-- HOST_BAR_WRITE (R474): A host write through a BAR is checked by Table 10.5 and applied or discarded. -/
  | hostBarWrite (port : Fin 4) (bar : Fin 3) (off : Nat) (bytes : List Byte)
  /-- HELD_ACCESS_RESUME (R282): A host access held during LOADING, UNLOADING or zeroing is checked under the new state. -/
  | heldAccessResume
  /-- PATROL_SCRUB (R295): The patrol scrub reads a unit, rewrites correctable errors and poisons uncorrectable ones. -/
  | patrolScrub (store : Fin 396) (unit : Nat) (found : EccRead) (row : Nat)
  /-- DIE_ZEROING_COMPLETE (R279): Zeroing of memory that changed owner completes and held accesses proceed. -/
  | dieZeroingComplete (die : Fin 4)
  /-- LINK_ENABLE_WRITE (R313): A write of LINK_ENABLE starts training or sends the link to DISABLED. -/
  | linkEnableWrite (who : Who) (link : Fin 24) (v : Nat)
  /-- LINK_TRAINING_COMPLETE (R313): A training or retrain attempt reaches UP and raises LINK_UP. -/
  | linkTrainingComplete (link : Fin 24)
  /-- TRAIN_ATTEMPT_TIMEOUT (R313): An attempt not reaching UP within its limit fails; repeated failures enter DOWN. -/
  | trainAttemptTimeout (link : Fin 24)
  /-- TRAIN_RETRY_TIMER (R313): Every 10 s a DOWN link starts a new training attempt. -/
  | trainRetryTimer (link : Fin 24)
  /-- TRAIN_PARAM_RX (R307): A TRAIN_PARAM block fixes the common lanes, replay depth and encryption agreement. -/
  | trainParamRx (link : Fin 24) (blk lanes : Nat)
  /-- IDENTIFY_TIMEOUT (R402): No held identity with HEARD within 1 ms of IDENTIFY fails the training attempt. -/
  | identifyTimeout (link : Fin 24)
  /-- LOOP_REQ_SEND (R314): A LOOP_REQ of the delay measurement is sent every 1 µs, replaced when late. -/
  | loopReqSend (link : Fin 24)
  /-- LOOP_REQ_RX (R314): A LOOP_REQ is answered with LOOP_RSP carrying TURNAROUND. -/
  | loopReqRx (link : Fin 24) (blk turnaround : Nat)
  /-- LOOP_RSP_RX (R314): A LOOP_RSP gives one round trip; after 16, EDGE_DELAY is set. -/
  | loopRspRx (link : Fin 24) (blk at_ : Nat)
  /-- FLIT_RX (R309): A received codeword is decoded and its flit accepted, NAKed or discarded. -/
  | flitRx (link : Fin 24) (cw : List Nat)
  /-- REPLAY_TIMEOUT (R310): No acknowledgement advance for REPLAY_TIMEOUT_NS replays from the oldest flit. -/
  | replayTimeout (link : Fin 24)
  /-- RETRAIN_REQ_RX (R307): A RETRAIN_REQ from the partner makes the link retrain. -/
  | retrainReqRx (link : Fin 24) (blk : Nat)
  /-- LANE_DROP_REQ_RX (R317): A LANE_DROP_REQ starts a planned removal announced by NEXT_LANES. -/
  | laneDropReqRx (link : Fin 24) (blk : Nat)
  /-- LANE_SET_RX (R318): A LANE_SET switches the lane map at the next codeword. -/
  | laneSetRx (link : Fin 24) (blk : Nat)
  /-- LANE_ADD_READY_RX (R319): A LANE_ADD_READY starts delay measurement and the lane's return. -/
  | laneAddReadyRx (link : Fin 24) (blk : Nat)
  /-- LANE_LOCK_LOST (R318): A receiver losing lock makes an unplanned lane removal with NAK and LANE_DROP_REQ. -/
  | laneLockLost (link : Fin 24) (lane : Fin 4)
  /-- LANE_SER_EXCEEDED (R316): Corrected symbols above LANE_SER_LIMIT in a millisecond make a planned removal. -/
  | laneSerExceeded (link : Fin 24) (lane : Fin 4) (corrected : Nat)
  /-- LANE_MAP_SWITCH (R317): At the codeword SWITCH_IN names, both sides change the lane map. -/
  | laneMapSwitch (link : Fin 24) (outbound : Bool)
  /-- LANE_RETRAINED (R319): A removed lane finishes its own retrain and the receiver sends LANE_ADD_READY. -/
  | laneRetrained (link : Fin 24) (lane : Fin 4)
  /-- KEY_EXHAUSTED (R322): A flit counter reaching 2^40 without a new key stops data and raises LINK_AUTH. -/
  | keyExhausted (link : Fin 24)
  /-- LINK_KEY_NEEDED (R535): A direction's flit counter reaching 2^38 raises LINK_KEY_NEEDED once. -/
  | linkKeyNeeded (link : Fin 24)
  /-- OUTPUT_PACKET_START (R335): At a packet boundary an output starts the waiting packet of the highest class with credit. -/
  | outputPacketStart (link : Fin 24)
  /-- NO_ROUTE_INJECT (R343): A waiting collective, vote or record packet injects once a candidate becomes usable. -/
  | noRouteInject (cycles : Nat)
  /-- LOCAL_PACKET_ACCEPT (R584): A local-destination packet passes the ejection stage and is accepted. -/
  | localPacketAccept
  /-- WRITE_RX (R346): An ejected WRITE is applied, optionally posted and answered. -/
  | writeRx (link : Fin 24) (pkt : Packet)
  /-- READ_REQ_RX (R346): An ejected READ_REQ is answered with a READ_RSP. -/
  | readReqRx (link : Fin 24) (pkt : Packet)
  /-- READ_RSP_RX (R346): A READ_RSP's data is written and its tag completed. -/
  | readRspRx (link : Fin 24) (pkt : Packet)
  /-- SYNC_POST_RX (R350): A SYNC_POST adds INCREMENT to its sync object and is answered if asked. -/
  | syncPostRx (link : Fin 24) (pkt : Packet)
  /-- RESPONSE_RX (R345): A RESPONSE completes its tag, or is dropped as late. -/
  | responseRx (link : Fin 24) (pkt : Packet)
  /-- COLL_RX (R356): A COLL packet is folded, copied or written for its collective entry. -/
  | collRx (link : Fin 24) (pkt : Packet)
  /-- VOTE_PACKET_RX (R362): A VOTE packet is combined as a contribution or accepted as the round result. -/
  | votePacketRx (link : Fin 24) (pkt : Packet)
  /-- MB_RECORD_RX (R227): A micro-batch record from the previous stage is checked and accepted or rejected. -/
  | mbRecordRx (link : Fin 24) (pkt : Packet)
  /-- FENCED_RX (R339): A FENCED packet naming this chip and epoch fences the module, otherwise is ignored. -/
  | fencedRx (link : Fin 24) (pkt : Packet)
  /-- EPOCH_VALUE_WRITE (R337): A fabric-manager write raises an epoch-table entry or is refused. -/
  | epochValueWrite (who : Who) (chip v : Nat)
  /-- ROUTE_ENTRY_WRITE (R341): A fabric-manager write replaces a routing entry or is refused. -/
  | routeEntryWrite (who : Who) (chip v : Nat)
  /-- REQ_TIMEOUT (R345): A tag without answer for REQ_TIMEOUT_NS completes with TIMEOUT. -/
  | reqTimeout (tag : Nat)
  /-- CONTEXT_IDLE_CLOSE (R344): An on-demand flow context idle for CONTEXT_IDLE_NS closes. -/
  | contextIdleClose (ctx : Nat)
  /-- COLLECTIVE_START (R355): A collective entry starts on trigger or operation once its previous start has completed. -/
  | collectiveStart (part : Fin 4) (entry waited : Nat)
  /-- COLLECTIVE_COMPLETE (R355): A collective entry's reads, sends, receives and results finish and it posts to POST_PAIR. -/
  | collectiveComplete (part : Fin 4) (entry : Nat)
  /-- LSM_INSERTED (R374): LSM_PRESENT_N going low supplies the LSM and turns on its lasers. -/
  | lsmInserted (serial : Nat) (nominal : List Nat)
  /-- LSM_REMOVED (R375): LSM_PRESENT_N high for 100 µs removes LSM power and darkens every class O lane. -/
  | lsmRemoved
  /-- LASER_WARMED (R373): A warming laser becomes SPARE_READY or ACTIVE. -/
  | laserWarmed (laser : Fin 8)
  /-- OPTICAL_POWER_SAMPLE (R389): Every 10 µs feed and channel powers are measured and fade judged. -/
  | opticalPowerSample (at_ : Nat) (feeds paths tx rx : List Nat) (express : List (Nat × Nat)) (lsm : List Nat)
  /-- SWITCHOVER_OLD_LASER_OFF (R391): 20 µs after the crossing the old laser is turned off and RETIRED. -/
  | switchoverOldLaserOff (wave : Fin 4)
  /-- COMMISSION (R376): An owner write takes present powers as fade references. -/
  | commission (who : Who) (v : Nat)
  /-- AUTO_REFERENCE (R376): After 600 s of usable lasers on LSM nominal, the module takes references itself. -/
  | autoReference
  /-- RING_LOCK_LOST (R378): A ring losing lock takes its lane out of service and reacquires. -/
  | ringLockLost (chan : Fin 64) (drop : Bool)
  /-- RING_REACQUIRE_TIMEOUT (R378): A ring not reacquired in 10 ms is calibrated at once. -/
  | ringReacquireTimeout (chan : Fin 64) (drop : Bool)
  /-- ENGINE_TEMP_SAMPLE (R379): Engine temperatures are sampled every 20 µs and channels marked due. -/
  | engineTempSample (at_ : Nat) (temps : List Nat) (heaters : List (Nat × Nat))
  /-- CAL_FORCE_DUE (R379): A channel's age reaching CAL_FORCE_AGE_S makes it due for forcing. -/
  | calForceDue (chan : Fin 64) (drop : Bool)
  /-- IDLE_CAL_WINDOW (R385): Every 5 s per link, or on forcing, an idle calibration window opens when no schedule runs. -/
  | idleCalWindow (link : Fin 24)
  /-- CAL_TIMELINE_PHASE (R380): A calibration advances to the next phase of Table 13.5 at its fixed time. -/
  | calTimelinePhase (chan : Fin 64) (transmit : Bool) (code : Nat)
  /-- CALIBRATION_COMPLETE (R380): A channel's calibration ends, its lane returns and CAL_TEMP and age are set. -/
  | calibrationComplete (chan : Fin 64) (transmit : Bool)
  /-- CAL_OVERDUE (R388): A channel's age passing 600 s raises CAL_OVERDUE once. -/
  | calOverdue (chan : Fin 64) (drop : Bool)
  /-- CAL_PLAN_WRITE (R383): A write to a calibration plan object is checked and refused while a partition runs. -/
  | calPlanWrite (who : Who) (which : Fin 18) (v : Nat)
  /-- RESHAPE_ARM (R394): An owner write checks EXPRESS_PENDING and arms or refuses a reshape. -/
  | reshapeArm (who : Who) (v : Nat)
  /-- RESHAPE_SWITCH_COMPLETE (R396): Switching ends; touched links take their new roles and EXPRESS_APPLIED is raised. -/
  | reshapeSwitchComplete
  /-- IDENT_SEND_TIMER (R402): The IDENT and serial set is sent again on its 1 µs, change or 100 ms schedule. -/
  | identSendTimer (link : Fin 24) (keepAlive : Bool)
  /-- IDENT_RX (R403): A received IDENT updates the held identity and the link is judged again. -/
  | identRx (link : Fin 24) (blk : Nat)
  /-- SERIAL_RX (R403): A SERIAL_0 or SERIAL_1 block updates the held serial. -/
  | serialRx (link : Fin 24) (half : Fin 2) (blk : Nat)
  /-- FENCED_NOTICE_RX (R416): A FENCED_NOTICE naming this chip and epoch fences the module. -/
  | fencedNoticeRx (link : Fin 24) (blk : Nat)
  /-- FENCED_NOTICE_REPEAT (R406): Every 100 µs a FENCED_NOTICE is repeated to a revenant neighbour. -/
  | fencedNoticeRepeat (link : Fin 24)
  /-- FENCE_ZERO_COMPLETE (R417): The fenced module's zeroing completes; ZERO_DONE_NS is written and FENCE_ZEROED raised. -/
  | fenceZeroComplete
  /-- MISSING_GRACE_EXPIRY (R407): MISSING_GRACE_MS passing rejudges a link not UP as MISSING. -/
  | missingGraceExpiry (link : Fin 24)
  /-- WIRING_ENTRY_WRITE (R404): An owner write of a wiring-plan entry rejudges every link or is refused. -/
  | wiringEntryWrite (who : Who) (link : Fin 24) (v : Nat)
  /-- ADOPT (R411): An owner write makes a standby HOLDER of a chip number at an epoch, or is refused. -/
  | adopt (who : Who) (v : Nat)
  /-- RELEASE (R412): An owner write returns a HOLDER with no images to STANDBY. -/
  | releaseChip (who : Who) (v : Nat)
  /-- CKPT_HOLD_RESUME (R424): A write held for checkpoint reads proceeds once every copy and digest has read the bytes. -/
  | ckptHoldResume (part : Fin 4) (cycles : Nat)
  /-- FLASH_CKPT_COMPLETE (R430): A flash copy is flushed and its slot written VALID. -/
  | flashCkptComplete (part : Fin 4) (good : Bool)
  /-- STORE_CKPT_COMPLETE (R437): A shared-store copy is flushed and its slot written VALID. -/
  | storeCkptComplete (part : Fin 4) (good : Bool)
  /-- STORE_TARGET_WRITE (R436): An owner write of STORE_TARGET connects the partition's NVMe/TCP target. -/
  | storeTargetWrite (who : Who) (part : Fin 4) (v status : Nat)
  /-- DATA_CURSORS_WRITE (R429): A host write gives the sample cursors of a boundary. -/
  | dataCursorsWrite (who : Who) (part : Fin 4) (v : Nat)
  /-- RESTORE_REQUEST (R438): An owner write of a block address starts a restore or is refused. -/
  | restoreRequest (who : Who) (part : Fin 4) (addr : Nat)
  /-- RESTORE_SOURCE_DONE (R441): A restore source finishes verification: state set from it, or the next source tried. -/
  | restoreSourceDone (part : Fin 4) (header : Nat) (copy : List Byte) (bad : List Nat)
  /-- SUPPLY_SAMPLE (R448): Every 1 µs VIN and input power are sampled and supply thresholds judged. -/
  | supplySample (at_ vin bus power railV railA : Nat)
  /-- POWER_ALERT_CLEAR (R451): VIN at or above 47.0 V for 10 ms clears the alert. -/
  | powerAlertClear
  /-- STOP_PENDING (R452): VIN below 44.0 V for 200 µs makes a stop pending. -/
  | stopPending
  /-- OVERVOLTAGE_SUSTAINED (R454): A bus above 60.0 V for 100 ms opens the input switch. -/
  | overvoltageSustained
  /-- INPUT_SWITCH_RECLOSE (R454): The bus at or below 62.0 V for 1 ms closes the input switch again. -/
  | inputSwitchReclose
  /-- RAIL_FAULT (R455): The 1.8 V rail outside 1.70–1.90 V for 10 µs stops the module. -/
  | railFault
  /-- DROOP_SAMPLE (R457): A domain's droop detector sets the ballast level from the rail excess. -/
  | droopSample (die : Fin 4) (domain : Fin 16) (rail at_ : Nat)
  /-- BALLAST_DECAY (R457): After 32 cycles below the present level the ballast level falls by one. -/
  | ballastDecay (die : Fin 4) (domain : Fin 16)
  /-- GOVERNOR_TICK (R459): Every 20 µs the power core updates TRIM_POWER from the power window. -/
  | governorTick (at_ : Nat)
  /-- THERMAL_SAMPLE (R464): Every 20 µs all sensors are sampled and thermal thresholds judged. -/
  | thermalSample (at_ : Nat) (readings : List Int) (powers : List Nat)
  /-- THERMAL_MARGIN (R465): A reading above 105.0 °C for 1 s raises THERMAL_MARGIN. -/
  | thermalMargin (die : Fin 6)
  /-- BOOST_STEP (R461): In BOOST, after 1 ms of margin the clock rises by 50 MHz. -/
  | boostStep
  /-- CLOCK_MODE_WRITE (R462): A write of CLOCK_MODE is checked and starts a clock move at the next edge or at once. -/
  | clockModeWrite (who : Who) (v : Nat)
  /-- CLOCK_STEP (R462): The clock moves one 50 MHz step every 5 µs until the target is reached. -/
  | clockStep
  /-- QUEUE_ENABLE_WRITE (R480): A write of CONTROL enables or disables a queue pair. -/
  | queueEnableWrite (port : Fin 4) (q : Fin 64) (v : Nat)
  /-- SQ_DOORBELL (R480): An SQ tail doorbell makes the module fetch descriptors or sets ERROR. -/
  | sqDoorbell (port : Fin 4) (q : Fin 64) (v : Nat)
  /-- CQ_DOORBELL (R481): A CQ head doorbell frees room and releases held completion records. -/
  | cqDoorbell (port : Fin 4) (q : Fin 64) (v : Nat)
  /-- DESC_TRANSFER (R484): A TRANSFER descriptor starts a transfer-engine copy. -/
  | descTransfer (port : Fin 4) (q : Fin 64) (raw : Nat) (data : List Byte)
  /-- DESC_SYNC_ARM (R485): A SYNC_ARM descriptor arms a plain sync object. -/
  | descSyncArm (port : Fin 4) (q : Fin 64) (raw : Nat)
  /-- DESC_SYNC_POST (R485): A SYNC_POST descriptor adds an increment to a plain sync object. -/
  | descSyncPost (port : Fin 4) (q : Fin 64) (raw : Nat)
  /-- DESC_LOAD (R233): A LOAD descriptor starts an image load. -/
  | descLoad (port : Fin 4) (q : Fin 64) (raw : Nat)
  /-- DESC_UNLOAD (R235): An UNLOAD descriptor requests the partition's unload. -/
  | descUnload (port : Fin 4) (q : Fin 64) (raw : Nat)
  /-- DESC_RESTORE (R438): A RESTORE descriptor starts a restore. -/
  | descRestore (port : Fin 4) (q : Fin 64) (raw : Nat)
  /-- DESC_MICROBATCH (R486): A MICROBATCH descriptor writes grain data and offers its record. -/
  | descMicrobatch (port : Fin 4) (q : Fin 64) (raw : Nat) (data : List Byte)
  /-- DESC_STEP_PARAM (R197): A STEP_PARAM descriptor gives a step parameter block. -/
  | descStepParam (port : Fin 4) (q : Fin 64) (raw : Nat)
  /-- DESC_OFFLOAD_REGISTER (R487): An OFFLOAD_REGISTER descriptor registers an offload region handle. -/
  | descOffloadRegister (port : Fin 4) (q : Fin 64) (raw : Nat)
  /-- DESC_OFFLOAD_RELEASE (R487): An OFFLOAD_RELEASE descriptor frees a handle after its transfers complete. -/
  | descOffloadRelease (port : Fin 4) (q : Fin 64) (raw : Nat)
  /-- DESCRIPTOR_COMPLETE (R481): A descriptor's work ends and its completion record is written with an MSI-X vector. -/
  | descriptorComplete (port : Fin 4) (q : Fin 64)
  /-- LAYOUT_APPLY (R475): An owner write checks the staged layout and applies it or reports the refusal. -/
  | layoutApply (who : Who) (v : Nat)
  /-- PORT_RESET (R490): FLR, hot reset, PERST_N or link-down resets a host port's queues. -/
  | portReset (port : Fin 4) (kind : Fin 4)
  /-- MSIX_UNMASK (R489): Unmasking a vector with its pending bit set sends the interrupt. -/
  | msixUnmask (port : Fin 4) (vector : Fin 2048)
  /-- ACCESS (R499): An ACCESS message runs its read and write items in order as one unit. -/
  | access (who : Who) (msg : Msg) (multicast : Bool)
  /-- OPEN_SESSION (R506): OPEN_SESSION assigns a session and nonce, or restarts a mailbox session. -/
  | openSession (who : Who) (msg : Msg)
  /-- AUTH (R506): AUTH checks PROOF and grants owner privilege to the session. -/
  | auth (who : Who) (msg : Msg)
  /-- CLOSE_SESSION (R506): CLOSE_SESSION ends a session and its privilege. -/
  | closeSession (who : Who) (msg : Msg)
  /-- SUBSCRIBE (R514): SUBSCRIBE adds a periodic publication of an object. -/
  | subscribe (who : Who) (msg : Msg)
  /-- UNSUBSCRIBE (R514): UNSUBSCRIBE removes a publication. -/
  | unsubscribe (who : Who) (msg : Msg)
  /-- EVENT_SUBSCRIBE (R519): EVENT_SUBSCRIBE sets or cancels the session's event masks. -/
  | eventSubscribe (who : Who) (msg : Msg)
  /-- LOG_READ (R518): LOG_READ returns event log entries from FROM_SEQ onward. -/
  | logRead (who : Who) (msg : Msg)
  /-- REGISTER_WRITE (R502): A write to an object without its own row is checked and applied. -/
  | registerWrite (who : Who) (key v : Nat)
  /-- PUBLISH_TICK (R514): A subscription's effective period expires and a PUBLISH is queued. -/
  | publishTick (session key : Nat)
  /-- TELEMETRY_LEVEL_TICK (R514): TELEMETRY_LEVEL rises after 100 ms with losses or falls after a clean second. -/
  | telemetryLevelTick (at_ : Nat)
  /-- SESSION_EXPIRY (R506): A UDP session idle for 60 s expires. -/
  | sessionExpiry (session : Nat)
  /-- MP_WATCHDOG_EXPIRY (R515): The MP watchdog or a fault restarts the MP alone. -/
  | mpWatchdogExpiry (bad : List Nat)
  /-- EVENT_LOG_FLUSH (R517): Staged event entries are written to the flash log. -/
  | eventLogFlush
  /-- PERSIST_WRITE_COMPLETE (R504): Both flash copies of an RWP value are written and its item completes. -/
  | persistWriteComplete
  /-- FACTORY_INIT (R510): An owner write returns every RWP object to its default when the module is idle. -/
  | factoryInit (who : Who) (v : Nat)
  /-- ENUM_HEAD_DETECT (R494): ENUM_IN low for 100 ms makes the module chain address 1. -/
  | enumHeadDetect
  /-- ENUM_BURST_RX (R494): A counted burst on ENUM_IN, confirmed twice, gives the chain address. -/
  | enumBurstRx (count : Nat)
  /-- ENUM_BURST_SEND (R494): Every 1 s a module with an address sends its burst on ENUM_OUT. -/
  | enumBurstSend
  /-- ENUM_FAILED (R494): No address 3 s after MP start sets ENUM_STATE FAILED. -/
  | enumFailed
  /-- PLCA_BEACON_TIMEOUT (R496): No BEACON for 4 ms falls back to CSMA/CD. -/
  | plcaBeaconTimeout
  /-- PLCA_BEACON_RX (R496): A BEACON returns a fallen-back module to PLCA. -/
  | plcaBeaconRx
  /-- PTP_ANNOUNCE_RX (R526): An Announce feeds master selection, UTC offset and leap flags. -/
  | ptpAnnounceRx (port : Fin 2) (ann : Announce)
  /-- PTP_SYNC_RX (R527): A Sync result drives the servo states and may step the calendar. -/
  | ptpSyncRx (port : Fin 2) (domain source seq at_ origin : Nat) (twoStep : Bool)
  /-- PTP_FOLLOW_UP_RX (R526): A Follow_Up gives the precise origin time of a two-step Sync. -/
  | ptpFollowUpRx (port : Fin 2) (domain source seq origin : Nat)
  /-- PTP_DELAY_REQ_SEND (R526): The module sends a Delay_Req of the end-to-end mechanism. -/
  | ptpDelayReqSend
  /-- PTP_DELAY_RESP_RX (R526): A Delay_Resp gives the mean path delay. -/
  | ptpDelayRespRx (port : Fin 2) (domain source seq received : Nat)
  /-- PTP_SYNC_LOSS (R527): No usable Sync for 4 s in LOCKED enters HOLDOVER. -/
  | ptpSyncLoss
  /-- PTP_HOLDOVER_EXPIRY (R527): 24 h in HOLDOVER without a master enters LISTENING. -/
  | ptpHoldoverExpiry
  /-- CALENDAR_SET (R528): An owner write steps the calendar counter when PTP is not LOCKED. -/
  | calendarSet (who : Who) (v : Nat)
  /-- LEAP_SECOND (R529): At the end of a UTC day with LEAP_PENDING the UTC offset changes. -/
  | leapSecond (at_ : Nat)
  /-- BACKUP_LOW (R525): A low or absent coin cell with only the supercapacitor raises BACKUP_LOW. -/
  | backupLow (supercap coin : Nat)
  /-- FW_UPDATE_OFFSET (R532): An owner write sets the firmware staging offset. -/
  | fwUpdateOffset (who : Who) (v : Nat)
  /-- FW_UPDATE_CHUNK (R532): A 1,024-byte chunk at the current offset is staged. -/
  | fwUpdateChunk (who : Who) (v : Nat)
  /-- FW_UPDATE_COMMIT (R532): The staged package is verified and written to the inactive slot. -/
  | fwUpdateCommit (who : Who) (v : Nat)
  /-- OWNER_KEY_INIT (R534): A mailbox write installs the owner key while UNSET. -/
  | ownerKeyInit (who : Who) (v : Nat)
  /-- OWNER_KEY_NEXT (R534): An owner write replaces the owner key with a wrapped new key. -/
  | ownerKeyNext (who : Who) (v : Nat)
  /-- IMAGE_KEY_WRITE (R533): An owner write sets an image key slot. -/
  | imageKeyWrite (who : Who) (slot : Fin 8) (v : Nat)
  /-- LINK_KEY_WRITE (R535): An owner write installs a wrapped link key for a link, direction and phase. -/
  | linkKeyWrite (who : Who) (sel : Fin 128) (v : Nat)
  /-- VENDOR_KEY_REVOKED (R537): An owner write burns revocation bits of vendor root slots. -/
  | vendorKeyRevoked (who : Who) (v : Nat)
  /-- POWER_CEILING_SET_W (R539): A limited write changes the power ceiling and spends one change. -/
  | powerCeilingSetW (who : Who) (v : Nat)
  /-- PARTITION_LAYOUT_LOCK (R539): A limited write locks or unlocks the partition layout. -/
  | partitionLayoutLock (who : Who) (v : Nat)
  /-- SECURITY_VERSION_FLOOR (R539): A limited write raises the security version floor. -/
  | securityVersionFloor (who : Who) (v : Nat)
  /-- RTV_MODE (R540): A write of 1 enters return-to-vendor mode and zeroes keys and memory. -/
  | rtvMode (who : Who) (v : Nat)
  /-- RNG_HEALTH_FAIL (R536): A health-test failure stops the random generator and raises RNG_FAULT. -/
  | rngHealthFail
  /-- RNG_RESTART_TEST (R536): Every 10 s a stopped generator attempts a restart test. -/
  | rngRestartTest (pass : Bool)
  /-- POWER_ON (R545): VIN rising through 40.0 V with the always-on domain down starts bring-up at S0. -/
  | powerOn (lost : Bool) (unpowered : Nat)
  /-- MODULE_RESET_N_PIN (R573): MODULE_RESET_N low for 10 µs triggers a module reset. -/
  | moduleResetNPin (lowNs : Nat)
  /-- MODULE_RESET (R545): An owner write of MODULE_RESET schedules a module reset. -/
  | moduleReset (who : Who) (v : Nat)
  /-- MODULE_RESET_DELAY (R545): 10 ms after the MODULE_RESET answer the reset acts. -/
  | moduleResetDelay
  /-- SELF_RESET_AFTER_STOP (R453): VIN at or above 46.0 V for 1 s after a stop resets the module. -/
  | selfResetAfterStop
  /-- SELF_RESET_AFTER_TRIP (R468): 60 s after a thermal trip the module resets itself. -/
  | selfResetAfterTrip
  /-- SC_WATCHDOG_EXPIRY (R545): The SC's 1 s watchdog expiry triggers a module reset. -/
  | scWatchdogExpiry
  /-- BRINGUP_STAGE_COMPLETE (R548): A bring-up stage ends and the next begins. -/
  | bringupStageComplete (at_ : Nat) (obs : StageObs)
  /-- STAGE_TIMEOUT (R548): A stage passing its limit puts the module in reset-hold. -/
  | stageTimeout
  /-- CAPACITANCE_MEASURE (R550): The 2 ms hold-up test ends and the capacitance is published and judged. -/
  | capacitanceMeasure (vStart fall : Nat)
  /-- LBIST_WAVE_COMPLETE (R552): A logic self-test wave ends and its signatures are compared. -/
  | lbistWaveComplete (bad : List BadSignature)
  /-- BIST_POWER_SAMPLE (R553): Package power above 680 W halves the running wave's pattern clock. -/
  | bistPowerSample (power : Nat)
  /-- ONCHIP_MBIST_COMPLETE (R554): On-chip memory self-test ends, with spares applied or MEMORY hold. -/
  | onchipMbistComplete (bad : Option (Fin 6 × Fin 256))
  /-- HBM_SELF_TEST_COMPLETE (R555): HBM self-test with post-package repair ends for a stack. -/
  | hbmSelfTestComplete (stack : Fin 8) (found : List Nat) (spares : Nat)
  /-- ENGAGE_ASSERT (R568): ENGAGE_N low for 50 ms closes the input switch and charges hold-up. -/
  | engageAssert
  /-- ENGAGE_RELEASE (R569): ENGAGE_N high opens the input switch within 5 µs. -/
  | engageRelease
  /-- PERST_N_RELEASE (R559): A host port whose PERST_N is released trains its PCIe link and is ready for configuration within 100 ms, or stays down when its REFCLK is absent. -/
  | perstNRelease (port : Fin 4) (refclk : Bool) (rate width : Nat)
  /-- ANALOG_THERMAL_CUTOFF (R468): The analog comparator of a die removes the 1.8 V stage at 130 °C, independently of the sampled path. -/
  | analogThermalCutoff (_die : Fin 6)
  /-- LASER_FAULT_REPORT (R373): The LSM reports a laser fault; the laser becomes FAILED and off, raising SPARE_LOST, causing an immediate switchover or losing the wavelength. -/
  | laserFaultReport (laser : Fin 8)
deriving DecidableEq, Repr

end Sys2Proof
end

