-- ==== Sys2Proof/Decode.lean ====
section
/-! DEFINITION. Decode.lean: the command that a word spells by the table's bits. The table of operations and events
gives no row any bits: the module takes commands (writes of objects, packets, control symbols, clock moments), not
encoded instructions, so no word spells one. -/

namespace Sys2Proof

/-- The command a word spells: none, for every word. -/
def decodeTableWord (_nbits _w : Nat) : Option Instr := none

end Sys2Proof
end

