-- ==== Sys2Proof/Machine/Tab.lean ====
section
/-! DEFINITION. Tab.lean: reading and writing keyed tables, and the bit-field and byte-order helpers (R14 to R18). -/

namespace Sys2Proof

/-- The value a table holds at a key: the first entry with that key, or the default. -/
def Tab.get {β : Type} : Tab β → Nat → β → β
  | [], _, d => d
  | (k', v) :: t, k, d => if k = k' then v else Tab.get t k d

/-- Replace the entry at a key, keeping the keys in rising order. -/
def Tab.set {β : Type} : Tab β → Nat → β → Tab β
  | [], k, v => [(k, v)]
  | (k', v') :: t, k, v =>
    if k = k' then (k, v) :: t
    else if k < k' then (k, v) :: (k', v') :: t
    else (k', v') :: Tab.set t k v

/-- The entry at a key, when one is listed. -/
def Tab.find {β : Type} : Tab β → Nat → Option β
  | [], _ => none
  | (k', v) :: t, k => if k = k' then some v else Tab.find t k

/-- Remove every entry of a key. -/
def Tab.del {β : Type} (t : Tab β) (k : Nat) : Tab β := List.filter (fun e => e.1 ≠ k) t

/-- Remove every entry whose key satisfies a test. -/
def Tab.drop {β : Type} (t : Tab β) (f : Nat → Bool) : Tab β := List.filter (fun e => !f e.1) t

/-- The values of a table, in key order. -/
def Tab.vals {β : Type} (t : Tab β) : List β := List.map (·.2) t

/-- The listed keys of a table. -/
def Tab.keys {β : Type} (t : Tab β) : List Nat := List.map (·.1) t

end Sys2Proof

namespace Sys2Proof.Machine

/-- Bits hi down to lo of a word (R14). -/
def bits (w hi lo : Nat) : Nat := w / 2 ^ lo % 2 ^ (hi + 1 - lo)

/-- Bit i of a word. -/
def bit (w i : Nat) : Bool := w / 2 ^ i % 2 = 1

/-- One for a true condition. -/
def b2n (b : Bool) : Nat := if b then 1 else 0

/-- A word with bit i set or cleared. -/
def setBit (w i : Nat) (b : Bool) : Nat :=
  if b then (if bit w i then w else w + 2 ^ i) else (if bit w i then w - 2 ^ i else w)

/-- The number of set bits among the lowest n. -/
def popcount (w : Nat) : Nat → Nat
  | 0 => 0
  | n + 1 => popcount w n + b2n (bit w n)

/-- The positions of the set bits among the lowest n, lowest first. -/
def setBits (w n : Nat) : List Nat := (List.range n).filter (fun i => bit w i)

/-- Little-endian bytes of a number (R15). -/
def toLE : Nat → Nat → List Byte
  | 0, _ => []
  | n + 1, v => BitVec.ofNat 8 (v % 256) :: toLE n (v / 256)

/-- The number that little-endian bytes spell (R15). -/
def ofLE : List Byte → Nat
  | [] => 0
  | b :: bs => b.toNat + 256 * ofLE bs

/-- The number that big-endian bytes spell. -/
def ofBE (bs : List Byte) : Nat := bs.foldl (fun a b => a * 256 + b.toNat) 0

/-- Big-endian bytes of a number. -/
def toBE (n v : Nat) : List Byte := (toLE n v).reverse

/-- Place a field of a little-endian record at a byte offset. -/
def fld (off v : Nat) : Nat := v * 256 ^ off

/-- Read a field of n bytes at a byte offset of a little-endian record. -/
def recF (r off n : Nat) : Nat := r / 256 ^ off % 256 ^ n

/-- An unsigned word of n bits read as two's complement. -/
def toInt (n w : Nat) : Int := if w % 2 ^ n < 2 ^ (n - 1) then (w % 2 ^ n : Nat) else (w % 2 ^ n : Nat) - (2 ^ n : Nat)

/-- The n-bit two's complement word of an integer. -/
def ofInt (n : Nat) (i : Int) : Nat := (i % (2 ^ n : Nat)).toNat

/-- A 64-bit counter one or more higher; counters wrap to 0 (R522). -/
def wrap64 (n : Nat) : Nat := n % 2 ^ 64

/-- The smallest integer not below a quotient. -/
def cdiv (a b : Nat) : Nat := (a + b - 1) / b

end Sys2Proof.Machine
end

