-- ==== Sys2Proof/Machine/Num.lean ====
section
/-! DEFINITION. Num.lean: exact dyadic values, the Fjoene formats and their conversions, and the vector operations'
arithmetic, with their flags (chapters 3 and 5). -/

namespace Sys2Proof.Machine

/-- Flags of Table 5.4 as bits of the status word. -/
abbrev Fl.invalid : Nat := 1
/-- DIVZERO. -/
abbrev Fl.divzero : Nat := 2
/-- OVERFLOW. -/
abbrev Fl.overflow : Nat := 4
/-- UNDERFLOW. -/
abbrev Fl.underflow : Nat := 8
/-- INEXACT. -/
abbrev Fl.inexact : Nat := 16
/-- NONFINITE_IN. -/
abbrev Fl.nonfinite : Nat := 32
/-- SATURATE. -/
abbrev Fl.saturate : Nat := 64
/-- LONGSUM. -/
abbrev Fl.longsum : Nat := 128
/-- SUMSAT. -/
abbrev Fl.sumsat : Nat := 256
/-- VOTE_FAIL. -/
abbrev Fl.voteFail : Nat := 512

/-- Whether flags fail the vote (R145). -/
def Fl.fails (f : Nat) : Bool := f &&& 0x127 ≠ 0

/-- Flags with VOTE_FAIL formed (Table 5.4). -/
def Fl.close (f : Nat) : Nat := if Fl.fails f then f ||| 512 else f

/-- An exact value: a NaN, an infinity, or (-1)^neg · m · 2^e. A zero keeps its sign. -/
inductive Num where
  | nan
  | inf (neg : Bool)
  | fin (neg : Bool) (m : Nat) (e : Int)
deriving DecidableEq, Repr

/-- Positive zero. -/
abbrev Num.zero : Num := .fin false 0 0

/-- NaN or an infinity. -/
def Num.bad : Num → Bool
  | .fin .. => false
  | _ => true

/-- NaN. -/
def Num.isNan : Num → Bool
  | .nan => true
  | _ => false

/-- The sign bit. -/
def Num.sign : Num → Bool
  | .nan => false
  | .inf n => n
  | .fin n _ _ => n

/-- Zero of either sign. -/
def Num.isZero : Num → Bool
  | .fin _ 0 _ => true
  | _ => false

/-- NONFINITE_IN when an operand is not finite (R136). -/
def Num.nf (a : Num) : Nat := if a.bad then Fl.nonfinite else 0

/-- A value as an FP32-mode operation reads it: exact, and ±∞ at or beyond 2^128 (R150, R243). -/
def Num.in32 (a : Num) : Num :=
  match a with
  | .fin n m e => if 2 ^ 128 * 2 ^ (-e).toNat ≤ m * 2 ^ e.toNat then .inf n else a
  | _ => a

/-- The integer of a magnitude and a sign. -/
def sgn (neg : Bool) (m : Nat) : Int := if neg then -(m : Int) else m

/-- Number of bits of a natural number. -/
def bitLen (n : Nat) : Nat := if n = 0 then 0 else n.log2 + 1

/-- Exact sum of two finite values; an exact zero has the sign given. -/
def Num.addFin (n1 : Bool) (m1 : Nat) (e1 : Int) (n2 : Bool) (m2 : Nat) (e2 : Int) (zneg : Bool) : Num :=
  let e := min e1 e2
  let i := sgn n1 (m1 * 2 ^ (e1 - e).toNat) + sgn n2 (m2 * 2 ^ (e2 - e).toNat)
  if i = 0 then .fin zneg 0 0 else .fin (i < 0) i.natAbs e

/-- Exact sum with IEEE 754 zeros; the flag INVALID for infinities of opposite sign (R136). -/
def Num.add (a b : Num) : Num × Nat :=
  match a, b with
  | .nan, _ => (.nan, 0)
  | _, .nan => (.nan, 0)
  | .inf x, .inf y => if x = y then (.inf x, 0) else (.nan, Fl.invalid)
  | .inf x, _ => (.inf x, 0)
  | _, .inf y => (.inf y, 0)
  | .fin n1 m1 e1, .fin n2 m2 e2 => (Num.addFin n1 m1 e1 n2 m2 e2 (n1 && n2 && m1 = 0 && m2 = 0), 0)

/-- Negation. -/
def Num.neg : Num → Num
  | .nan => .nan
  | .inf n => .inf (!n)
  | .fin n m e => .fin (!n) m e

/-- Exact product; INVALID for zero times infinity (R136). -/
def Num.mul (a b : Num) : Num × Nat :=
  match a, b with
  | .nan, _ => (.nan, 0)
  | _, .nan => (.nan, 0)
  | .inf x, .inf y => (.inf (x != y), 0)
  | .inf x, .fin y m _ => if m = 0 then (.nan, Fl.invalid) else (.inf (x != y), 0)
  | .fin x m _, .inf y => if m = 0 then (.nan, Fl.invalid) else (.inf (x != y), 0)
  | .fin x m1 e1, .fin y m2 e2 => (.fin (x != y) (m1 * m2) (e1 + e2), 0)

/-- Exact scaling by a power of two. -/
def Num.scale (a : Num) (k : Int) : Num :=
  match a with
  | .fin n m e => .fin n m (e + k)
  | x => x

/-- Compare two magnitudes m1·2^e1 and m2·2^e2: less. -/
def magLt (m1 : Nat) (e1 : Int) (m2 : Nat) (e2 : Int) : Bool :=
  let e := min e1 e2
  m1 * 2 ^ (e1 - e).toNat < m2 * 2 ^ (e2 - e).toNat

/-- Order of two values that are not NaN; the zeros are equal (R142). -/
def Num.lt (a b : Num) : Bool :=
  match a, b with
  | .nan, _ => false
  | _, .nan => false
  | .inf x, .inf y => x && !y
  | .inf x, _ => x
  | _, .inf y => !y
  | .fin n1 m1 e1, .fin n2 m2 e2 =>
    let e := min e1 e2
    sgn n1 (m1 * 2 ^ (e1 - e).toNat) < sgn n2 (m2 * 2 ^ (e2 - e).toNat)

/-- Equality of values that are not NaN (R142). -/
def Num.eqv (a b : Num) : Bool := !a.isNan && !b.isNan && !a.lt b && !b.lt a

/-- A floating-point format: fraction bits, the exponent of its smallest subnormal, the pattern of its largest finite
magnitude, whether it saturates instead of giving infinities, and its width (Tables 3.1 to 3.4). -/
structure Fmt where
  f : Nat
  qmin : Int
  top : Nat
  sat : Bool
  width : Nat
deriving DecidableEq, Repr

/-- Fj4. -/
abbrev Fmt.fj4 : Fmt := ⟨1, -1, 7, true, 4⟩
/-- Fj8a. -/
abbrev Fmt.fj8a : Fmt := ⟨3, -9, 0x7F, true, 8⟩
/-- Fj8g. -/
abbrev Fmt.fj8g : Fmt := ⟨2, -16, 0x7F, true, 8⟩
/-- Fj16. -/
abbrev Fmt.fj16 : Fmt := ⟨7, -133, 0x7F7F, false, 16⟩
/-- FP32. -/
abbrev Fmt.fp32 : Fmt := ⟨23, -149, 0x7F7FFFFF, false, 32⟩
/-- W48. -/
abbrev Fmt.w48 : Fmt := ⟨39, -165, 0x7F7FFFFFFFFF, false, 48⟩

/-- The pattern the module writes for a NaN (Table 3.1); a block format has none of its own. -/
def Fmt.nan (F : Fmt) : Nat :=
  if F.width = 4 then 0 else if F.width = 8 then 0x80 else if F.width = 16 then 0x7FC0
  else if F.width = 32 then 0x7FC00000 else 0x7FC000000000

/-- The value of a magnitude pattern that is finite (Table 3.2). -/
def Fmt.mag (F : Fmt) (p : Nat) : Nat × Int :=
  let e := p / 2 ^ F.f
  let m := p % 2 ^ F.f
  if e = 0 then (m, F.qmin) else (2 ^ F.f + m, F.qmin + e - 1)

/-- The value of a pattern (Table 3.2), without a block scale. -/
def Fmt.dec (F : Fmt) (w : Nat) : Num :=
  let s := bit w (F.width - 1)
  let p := w % 2 ^ (F.width - 1)
  if F.sat then
    if F.width = 8 && w % 256 = 0x80 then .nan
    else
      let (m, e) := F.mag p
      .fin (s && m ≠ 0) m e
  else if p = F.top + 1 then .inf s
  else if F.top + 1 < p then .nan
  else
    let (m, e) := F.mag p
    .fin s m e

/-- Round a magnitude m·2^e to a format's precision, to nearest even, with its exponent range unbounded above (R85):
the magnitude pattern, unbounded, and whether it is inexact. -/
def Fmt.round (F : Fmt) (m : Nat) (e : Int) : Nat × Bool :=
  if m = 0 then (0, false)
  else
    let q := max (e + (bitLen m : Int) - (F.f + 1 : Nat)) F.qmin
    if q ≤ e then
      let m' := m * 2 ^ (e - q).toNat
      ((q - F.qmin).toNat * 2 ^ F.f + m', false)
    else
      let d := (q - e).toNat
      let lo := m / 2 ^ d
      let r := m % 2 ^ d
      let up := 2 ^ (d - 1) < r || (r = 2 ^ (d - 1) && lo % 2 = 1)
      ((q - F.qmin).toNat * 2 ^ F.f + lo + b2n up, r ≠ 0)

/-- Tininess before rounding: a non-zero magnitude below the smallest normal value (R90, R111). -/
def Fmt.tiny (F : Fmt) (m : Nat) (e : Int) : Bool := m ≠ 0 && magLt m e 1 (F.qmin + (F.f : Int))

/-- The sign bit of a pattern. -/
def Fmt.signed (F : Fmt) (neg : Bool) (p : Nat) : Nat :=
  if neg && !(F.sat && p = 0) then p + 2 ^ (F.width - 1) else p

/-- Round an exact value once, to nearest even, into a format: pattern and flags (R85, R90, R91, R135, R136). A NaN is
written in the module's form. -/
def Fmt.enc (F : Fmt) (a : Num) : Nat × Nat :=
  match a with
  | .nan => (F.nan, 0)
  | .inf n => (F.signed n (if F.sat then F.top else F.top + 1), 0)
  | .fin n m e =>
    let (p, inx) := F.round m e
    if F.top < p then
      if F.sat then (F.signed n F.top, Fl.saturate + Fl.inexact) else (F.signed n (F.top + 1), Fl.overflow + Fl.inexact)
    else
      (F.signed n p, (if inx then Fl.inexact else 0) + (if inx && F.tiny m e then Fl.underflow else 0))

/-- FP32 value of a pattern. -/
abbrev f32 (w : Nat) : Num := Fmt.fp32.dec w

/-- Round to FP32 with the flags of the operands read (R136). -/
def rnd (r : Num × Nat) (nf : Nat) : Nat × Nat :=
  let (w, f) := Fmt.fp32.enc r.1
  (w, f ||| r.2 ||| nf)

/-- ADD on FP32 patterns (R135, R136). -/
def V.add (a b : Nat) : Nat × Nat := rnd ((f32 a).add (f32 b)) ((f32 a).nf ||| (f32 b).nf)
/-- SUB. -/
def V.sub (a b : Nat) : Nat × Nat := rnd ((f32 a).add (f32 b).neg) ((f32 a).nf ||| (f32 b).nf)
/-- MUL. -/
def V.mul (a b : Nat) : Nat × Nat := rnd ((f32 a).mul (f32 b)) ((f32 a).nf ||| (f32 b).nf)

/-- a·b + c formed exactly (R135); a NaN operand sets no INVALID (R136). -/
def Num.fma (a b c : Num) : Num × Nat :=
  if c.isNan then (.nan, 0)
  else
    let p := a.mul b
    let r := p.1.add c
    (r.1, p.2 ||| r.2)

/-- FMA. -/
def V.fma (a b c : Nat) : Nat × Nat :=
  rnd ((f32 a).fma (f32 b) (f32 c)) ((f32 a).nf ||| (f32 b).nf ||| (f32 c).nf)
/-- SCALE2: times 2^k. -/
def V.scale2 (a : Nat) (k : Int) : Nat × Nat := rnd ((f32 a).scale k, 0) (f32 a).nf

/-- MIN and MAX of two values: NaN propagates, the zeros are ordered (R136). -/
def Num.minMax (mx : Bool) (a b : Num) : Num :=
  if a.isNan || b.isNan then .nan
  else if a.isZero && b.isZero then .fin (if mx then a.sign && b.sign else a.sign || b.sign) 0 0
  else if a.lt b then (if mx then b else a)
  else (if mx then a else b)

/-- MIN and MAX on FP32 patterns. -/
def V.minMax (mx : Bool) (a b : Nat) : Nat × Nat :=
  rnd ((f32 a).minMax mx (f32 b), 0) ((f32 a).nf ||| (f32 b).nf)

/-- The magnitude of a value. -/
def Num.abs : Num → Num
  | .nan => .nan
  | .inf _ => .inf false
  | .fin _ m e => .fin false m e

/-- ABS, NEG and COPY act on the sign only, with NaN in the module's form (R136). -/
def V.abs (a : Nat) : Nat × Nat := rnd ((f32 a).abs, 0) (f32 a).nf
/-- NEG. -/
def V.neg (a : Nat) : Nat × Nat := rnd ((f32 a).neg, 0) (f32 a).nf
/-- COPY. -/
def V.copy (a : Nat) : Nat × Nat := rnd (f32 a, 0) (f32 a).nf

/-- 1.0 as an FP32 pattern. -/
abbrev one32 : Nat := 0x3F800000
/-- The NaN the module writes. -/
abbrev nan32 : Nat := 0x7FC00000
/-- Positive infinity. -/
abbrev inf32 : Nat := 0x7F800000

/-- A quotient of magnitudes with enough bits for one rounding: floor and a sticky bit. -/
def quot (m1 : Nat) (e1 : Int) (m2 : Nat) (e2 : Int) : Nat × Int :=
  let k := 64 + bitLen m2
  let n := m1 * 2 ^ k
  let q := n / m2
  (2 * q + b2n (n % m2 ≠ 0), e1 - e2 - (k : Int) - 1)

/-- DIV (R137, Table 5.2). -/
def Num.div (a b : Num) : Num × Nat :=
  match a, b with
  | .nan, _ => (.nan, 0)
  | _, .nan => (.nan, 0)
  | .inf _, .inf _ => (.nan, Fl.invalid)
  | .inf x, .fin y _ _ => (.inf (x != y), 0)
  | .fin x _ _, .inf y => (.fin (x != y) 0 0, 0)
  | .fin x m1 e1, .fin y m2 e2 =>
    if m2 = 0 then (if m1 = 0 then (.nan, Fl.invalid) else (.inf (x != y), Fl.divzero))
    else
      let (q, e) := quot m1 e1 m2 e2
      (.fin (x != y) q e, 0)

/-- DIV on FP32 patterns. -/
def V.div (a b : Nat) : Nat × Nat := rnd ((f32 a).div (f32 b)) ((f32 a).nf ||| (f32 b).nf)
/-- RECIP. -/
def V.recip (a : Nat) : Nat × Nat := rnd ((f32 one32).div (f32 a)) (f32 a).nf

/-- Integer square root by Newton's method, `fuel` steps from above. -/
def isqrtN : Nat → Nat → Nat → Nat
  | 0, _, x => x
  | k + 1, n, x => let y := (x + n / x) / 2; if x ≤ y then x else isqrtN k n y

/-- The integer part of a square root. -/
def isqrt (n : Nat) : Nat := if n = 0 then 0 else isqrtN (bitLen n + 8) n (2 ^ (bitLen n / 2 + 1))

/-- Square root of a magnitude: floor with a sticky bit, at least 64 bits. -/
def sqrtMag (m : Nat) (e : Int) : Nat × Int :=
  let (m, e) := if e % 2 = 0 then (m, e) else (2 * m, e - 1)
  let n := m * 2 ^ 128
  let r := isqrt n
  (2 * r + b2n (r * r ≠ n), (e - 128) / 2 - 1)

/-- SQRT (R137, Table 5.2). -/
def Num.sqrt (a : Num) : Num × Nat :=
  match a with
  | .nan => (.nan, 0)
  | .inf n => if n then (.nan, Fl.invalid) else (.inf false, 0)
  | .fin n m e =>
    if m = 0 then (.fin n 0 0, 0)
    else if n then (.nan, Fl.invalid)
    else
      let (q, e) := sqrtMag m e
      (.fin false q e, 0)

/-- RSQRT (R137, Table 5.2). -/
def Num.rsqrt (a : Num) : Num × Nat :=
  match a with
  | .nan => (.nan, 0)
  | .inf n => if n then (.nan, Fl.invalid) else (.fin false 0 0, 0)
  | .fin n m e =>
    if m = 0 then (.inf n, Fl.divzero)
    else if n then (.nan, Fl.invalid)
    else
      let (m, e) := if e % 2 = 0 then (m, e) else (2 * m, e - 1)
      let k := 192 + bitLen m
      let n2 := 2 ^ (2 * k)
      let r := isqrt (n2 / m)
      (.fin false (2 * r + b2n (r * r * m ≠ n2)) (-(e / 2) - (k : Int) - 1), 0)

/-- SQRT on FP32 patterns. -/
def V.sqrt (a : Nat) : Nat × Nat := rnd (f32 a).sqrt (f32 a).nf
/-- RSQRT on FP32 patterns. -/
def V.rsqrt (a : Nat) : Nat × Nat := rnd (f32 a).rsqrt (f32 a).nf

end Sys2Proof.Machine
end

