-- ==== Sys2Proof/Machine/Crypto.lean ====
section
/-! DEFINITION. Crypto.lean: the named standards the spec calls for: SHA-256 and SHA-384 (FIPS 180-4; R428, R506, R531, R541), HMAC
(RFC 2104; R506), AES (FIPS 197; the grist generator of R118 and the key wrap of R534), AES key unwrap (RFC 3394), and
CRC-32C. -/

namespace Sys2Proof.Machine

namespace Sha

/-- What tells one member of the family from another (FIPS 180-4): the bits of a word, the rounds, the rotations of the two
functions of the working variables, and the two rotations and the shift of the two functions of the schedule. -/
structure Variant where
  bits : Nat
  rounds : Nat
  big0 : List Nat
  big1 : List Nat
  small0 : List Nat × Nat
  small1 : List Nat × Nat

/-- SHA-256. -/
def v256 : Variant := ⟨32, 64, [2, 13, 22], [6, 11, 25], ([7, 18], 3), ([17, 19], 10)⟩

/-- SHA-384. -/
def v384 : Variant := ⟨64, 80, [28, 34, 39], [14, 18, 41], ([1, 8], 7), ([19, 61], 6)⟩

/-- The exclusive or of a word rotated right by each of the listed counts. -/
def Variant.rots (v : Variant) (ns : List Nat) (x : Nat) : Nat :=
  ns.foldl (fun acc n => acc ^^^ (x / 2 ^ n + x * 2 ^ (v.bits - n) % 2 ^ v.bits)) 0

/-- The greatest r below 2^(number of bits) added to `r` whose e-th power is at most x, found bit by bit. -/
def root (e x : Nat) : Nat → Nat → Nat
  | 0, r => r
  | n + 1, r => root e x n (if (r + 2 ^ n) ^ e ≤ x then r + 2 ^ n else r)

/-- The first bits of the fractional part of the e-th root of a prime (FIPS 180-4, 4.2 and 5.3). -/
def Variant.fracRoot (v : Variant) (e p : Nat) : Nat := root e (p * 2 ^ (v.bits * e)) (v.bits + 5) 0 % 2 ^ v.bits

/-- The primes below n, for n up to 23². -/
def primesBelow (n : Nat) : List Nat :=
  (List.range n).filter (fun x => 2 ≤ x && (List.range 23).all (fun d => d < 2 || x ≤ d || x % d ≠ 0))

/-- The round constants: from the cube roots of the first primes. -/
def Variant.consts (v : Variant) : List Nat := (primesBelow 410).take v.rounds |>.map (v.fracRoot 3)

/-- The initial hash value: from the square roots of eight primes after the first `skip`. -/
def Variant.start (v : Variant) (skip : Nat) : List Nat := ((primesBelow 60).drop skip).take 8 |>.map (v.fracRoot 2)

/-- Extend the message words, held newest first, by n words of the schedule. -/
def Variant.schedule (v : Variant) : Nat → List Nat → List Nat
  | 0, w => w
  | n + 1, w =>
    let part := fun (p : List Nat × Nat) x => v.rots p.1 x ^^^ (x / 2 ^ p.2)
    v.schedule n ((w.getD 15 0 + part v.small0 (w.getD 14 0) + w.getD 6 0 + part v.small1 (w.getD 1 0)) % 2 ^ v.bits :: w)

/-- One round: the working variables a to h are the elements 0 to 7 of the list; a round shifts them by one place. -/
def Variant.round (v : Variant) (x : List Nat) (kw : Nat × Nat) : List Nat :=
  let at_ := fun i => x.getD i 0
  let choose := ((at_ 5 ^^^ at_ 6) &&& at_ 4) ^^^ at_ 6
  let major := (at_ 0 &&& at_ 1) ||| ((at_ 0 ||| at_ 1) &&& at_ 2)
  let t1 := at_ 7 + v.rots v.big1 (at_ 4) + choose + kw.1 + kw.2
  let moved := x.take 7
  ((t1 + v.rots v.big0 (at_ 0) + major) % 2 ^ v.bits) :: moved.set 3 ((at_ 3 + t1) % 2 ^ v.bits)

/-- Take one block of sixteen words into the hash value. -/
def Variant.block (v : Variant) (ks h w : List Nat) : List Nat :=
  let ws := (v.schedule (v.rounds - 16) w.reverse).reverse
  List.zipWith (fun a b => (a + b) % 2 ^ v.bits) h ((ks.zip ws).foldl v.round h)

/-- Take n blocks of bytes. -/
def Variant.blocks (v : Variant) (ks : List Nat) : Nat → List Nat → List Byte → List Nat
  | 0, h, _ => h
  | n + 1, h, m =>
    let size := v.bits / 8
    v.blocks ks n (v.block ks h ((List.range 16).map (fun i => ofBE ((m.drop (size * i)).take size)))) (m.drop (16 * size))

/-- The words of the hash of a byte string: the message, a one bit, zeros, and the message's length in bits. -/
def Variant.hash (v : Variant) (h : List Nat) (m : List Byte) : List Nat :=
  let size := 2 * v.bits
  let tail := v.bits / 4
  let n := (m.length + 1 + tail + size - 1) / size
  let zeros := n * size - (m.length + 1 + tail)
  v.blocks v.consts n h (m ++ 0x80#8 :: List.replicate zeros 0#8 ++ toBE tail (m.length * 8))

/-- SHA-256 of a byte string, 32 bytes. -/
def sha256 (m : List Byte) : List Byte := ((v256.hash (v256.start 0) m).map (toBE 4)).flatten

/-- The SHA-384 digest of a byte string as a number. -/
def sha384 (m : List Byte) : Nat := ((v384.hash (v384.start 8) m).take 6).foldl (fun a x => a * 2 ^ 64 + x) 0

/-- HMAC-SHA-256 under a key of at most 64 bytes. -/
def hmac (key m : List Byte) : List Byte :=
  let k := key ++ List.replicate (64 - key.length) 0#8
  sha256 (k.map (· ^^^ 0x5c#8) ++ sha256 (k.map (· ^^^ 0x36#8) ++ m))

end Sha

namespace Aes

/-- The substitution box, entry x in byte x. -/
def sboxTab : Nat := 0x16bb54b00f2d99416842e6bf0d89a18cdf2855cee9871e9b948ed9691198f8e19e1dc186b95735610ef6034866b53e708a8bbd4b1f74dde8c6b4a61c2e2578ba08ae7a65eaf4566ca94ed58d6d37c8e779e4959162acd3c25c2406490a3a32e0db0b5ede14b8ee4688902a22dc4f816073195d643d7ea7c41744975fec130ccdd2f3ff1021dab6bcf5389d928f40a351a89f3c507f02f94585334d43fbaaefd0cf584c4a39becb6a5bb1fc20ed00d153842fe329b3d63b52a05a6e1b1a2c830975b227ebe28012079a059618c323c7041531d871f1e5a534ccf73f362693fdb7c072a49cafa2d4adf04759fa7dc982ca76abd7fe2b670130c56f6bf27b777c63

/-- The inverse substitution box, entry x in byte x. -/
def isboxTab : Nat := 0x7d0c2155631469e126d677ba7e042b17619953833cbbebc8b0f52aae4d3be0a0ef9cc9939f7ae52d0d4ab519a97f51605fec8027591012b131c7078833a8dd1ff45acd78fec0db9a2079d2c64b3e56fc1bbe18aa0e62b76f89c5291d711af1476edf751ce837f9e28535ade72274ac9673e6b4f0cecff297eadc674f4111913a6b8a130103bdafc1020f3fca8f1e2cd00645b3b80558e4f70ad3bc8c00abd890849d8da75746155edab9edfd5048706c92b6655dcc5ca4d41698688664f6f87225d18b6d49a25b76b224d92866a12e084ec3fa420b954cee3d23c2a632947b54cbe9dec444438e3487ff2f9b8239e37cfbd7f3819ea340bf38a53630d56a0952

/-- Substitute one byte. -/
def sbox (x : Nat) : Nat := (sboxTab >>> (8 * x)) % 256

/-- Substitute one byte back. -/
def isbox (x : Nat) : Nat := (isboxTab >>> (8 * x)) % 256

/-- Multiply by x in GF(2^8). -/
def xt (a : Nat) : Nat := if a < 128 then 2 * a else (2 * a) ^^^ 0x11b

/-- Multiply by a small constant in GF(2^8). -/
def mul (c a : Nat) : Nat :=
  (if c % 2 = 1 then a else 0) ^^^ (if c / 2 % 2 = 1 then xt a else 0) ^^^ (if c / 4 % 2 = 1 then xt (xt a) else 0)
    ^^^ (if c / 8 % 2 = 1 then xt (xt (xt a)) else 0)

/-- One column through a circulant matrix. -/
def mixCol (m : List Nat) : List Nat → List Nat
  | [a, b, c, d] =>
    let f := fun p q r s => mul p a ^^^ mul q b ^^^ mul r c ^^^ mul s d
    [f (m.getD 0 0) (m.getD 1 0) (m.getD 2 0) (m.getD 3 0), f (m.getD 3 0) (m.getD 0 0) (m.getD 1 0) (m.getD 2 0),
     f (m.getD 2 0) (m.getD 3 0) (m.getD 0 0) (m.getD 1 0), f (m.getD 1 0) (m.getD 2 0) (m.getD 3 0) (m.getD 0 0)]
  | l => l

/-- The four columns of a state of sixteen bytes. -/
def cols (s : List Nat) : List (List Nat) := [s.take 4, (s.drop 4).take 4, (s.drop 8).take 4, s.drop 12]

/-- ShiftRows, and its inverse, on a state in column order. -/
def shiftRows (s : List Nat) : List Nat :=
  [0, 5, 10, 15, 4, 9, 14, 3, 8, 13, 2, 7, 12, 1, 6, 11].map (fun i => s.getD i 0)

/-- The inverse of ShiftRows. -/
def ishiftRows (s : List Nat) : List Nat :=
  [0, 13, 10, 7, 4, 1, 14, 11, 8, 5, 2, 15, 12, 9, 6, 3].map (fun i => s.getD i 0)

/-- Exclusive or of two byte lists. -/
def xorL (a b : List Nat) : List Nat := List.zipWith (· ^^^ ·) a b

/-- Key expansion: n more words, the words held newest first; `nk` words in the key, `i` the index of the next. -/
def expand (nk : Nat) : Nat → Nat → Nat → List (List Nat) → List (List Nat)
  | 0, _, _, w => w
  | n + 1, i, rc, w =>
    let t := w.headD []
    let (t', rc') :=
      if i % nk = 0 then
        (xorL ([1, 2, 3, 0].map (fun j => sbox (t.getD j 0))) [rc, 0, 0, 0], xt rc)
      else if nk > 6 ∧ i % nk = 4 then (t.map sbox, rc)
      else (t, rc)
    expand nk n (i + 1) rc' (xorL (w.getD (nk - 1) []) t' :: w)

/-- Cut a byte list into words of four. -/
def cut4 : List Nat → List (List Nat)
  | a :: b :: c :: d :: t => [a, b, c, d] :: cut4 t
  | _ => []

/-- Cut a list of words into round keys of sixteen bytes. -/
def cutKeys : List (List Nat) → List (List Nat)
  | a :: b :: c :: d :: t => (a ++ b ++ c ++ d) :: cutKeys t
  | _ => []

/-- The round keys of a key of 16 or 32 bytes. -/
def roundKeys (key : List Nat) : List (List Nat) :=
  let nk := key.length / 4
  cutKeys (expand nk (4 * (nk + 7) - nk) nk 1 (cut4 key).reverse).reverse

/-- The middle rounds of encryption and the last. -/
def encRounds : List (List Nat) → List Nat → List Nat
  | [], s => s
  | [k], s => xorL (shiftRows (s.map sbox)) k
  | k :: ks, s => encRounds ks (xorL ((cols (shiftRows (s.map sbox))).map (mixCol [2, 3, 1, 1])).flatten k)

/-- AES encryption of one block. -/
def enc (keys : List (List Nat)) (s : List Nat) : List Nat :=
  match keys with
  | [] => s
  | k :: ks => encRounds ks (xorL s k)

/-- The rounds of decryption, round keys last first. -/
def decRounds : List (List Nat) → List Nat → List Nat
  | [], s => s
  | [k], s => xorL ((ishiftRows s).map isbox) k
  | k :: ks, s => decRounds ks ((cols (xorL ((ishiftRows s).map isbox) k)).map (mixCol [14, 11, 13, 9])).flatten

/-- AES decryption of one block. -/
def dec (keys : List (List Nat)) (s : List Nat) : List Nat :=
  match keys.reverse with
  | [] => s
  | k :: ks => decRounds ks (xorL s k)

/-- One unwrapping pass of RFC 3394 step t on the register A and the semiblocks, block index i. -/
def unwrapStep (keys : List (List Nat)) (st : List Nat × List (List Nat)) (ti : Nat × Nat) : List Nat × List (List Nat) :=
  let (t, i) := ti
  let a := xorL st.1 ((toBE 8 t).map (·.toNat))
  let b := dec keys (a ++ st.2.getD i [])
  (b.take 8, st.2.set i (b.drop 8))

/-- Semiblocks of eight bytes. -/
def cut8 : Nat → List Nat → List (List Nat)
  | 0, _ => []
  | n + 1, l => l.take 8 :: cut8 n (l.drop 8)

/-- AES key unwrap (RFC 3394): the wrapped bytes under a key; none when the integrity check fails. -/
def unwrap (key wrapped : List Nat) : Option (List Nat) :=
  let n := wrapped.length / 8 - 1
  let keys := roundKeys key
  let steps := ((List.range (6 * n)).map (fun k => (6 * n - k, (6 * n - k - 1) % n)))
  let r := steps.foldl (unwrapStep keys) (wrapped.take 8, cut8 n (wrapped.drop 8))
  if r.1 = List.replicate 8 0xA6 then some r.2.flatten else none

end Aes

namespace Gcm

/-- Multiply in the GHASH field, over the n bits of x from bit n − 1 down (SP 800-38D). -/
def gmul : Nat → Nat → Nat → Nat → Nat
  | 0, _, _, z => z
  | n + 1, x, v, z =>
    gmul n x (if v % 2 = 1 then (v / 2) ^^^ (0xE1 * 2 ^ 120) else v / 2)
      (if x / 2 ^ n % 2 = 1 then z ^^^ v else z)

/-- Sixteen-byte blocks of a byte string, the last padded with zeros, as big-endian numbers. -/
def blocks : Nat → List Byte → List Nat
  | 0, _ => []
  | n + 1, l => ofBE (l.take 16 ++ List.replicate (16 - (l.take 16).length) 0#8) :: blocks n (l.drop 16)

/-- GHASH of additional data and ciphertext. -/
def ghash (h : Nat) (aad c : List Byte) : Nat :=
  (blocks ((aad.length + 15) / 16) aad ++ blocks ((c.length + 15) / 16) c ++ [aad.length * 8 * 2 ^ 64 + c.length * 8]).foldl
    (fun y x => gmul 128 (y ^^^ x) h 0) 0

/-- One AES block under round keys, as big-endian numbers. -/
def encN (keys : List (List Nat)) (x : Nat) : Nat :=
  (Aes.enc keys ((toBE 16 x).map (·.toNat))).foldl (fun a b => a * 256 + b) 0

/-- Exclusive or with the key stream from counter block j on. -/
def ctr (keys : List (List Nat)) : Nat → Nat → List Byte → List Byte
  | 0, _, _ => []
  | n + 1, j, l =>
    List.zipWith (· ^^^ ·) (l.take 16) (toBE 16 (encN keys j)) ++ ctr keys n (j + 1) (l.drop 16)

/-- AES-256-GCM encryption with a 96-bit IV (R321): ciphertext and 16-byte tag. -/
def encrypt (key : List Byte) (iv : List Byte) (aad pt : List Byte) : List Byte × List Byte :=
  let ks := Aes.roundKeys (key.map (·.toNat))
  let j0 := ofBE iv * 2 ^ 32 + 1
  let c := ctr ks ((pt.length + 15) / 16) (j0 + 1) pt
  (c, toBE 16 (ghash (encN ks 0) aad c ^^^ encN ks j0))

/-- AES-256-GCM decryption: none when the tag fails. -/
def decrypt (key : List Byte) (iv : List Byte) (aad c tag : List Byte) : Option (List Byte) :=
  let ks := Aes.roundKeys (key.map (·.toNat))
  let j0 := ofBE iv * 2 ^ 32 + 1
  if toBE 16 (ghash (encN ks 0) aad c ^^^ encN ks j0) = tag then
    some (ctr ks ((c.length + 15) / 16) (j0 + 1) c)
  else none

end Gcm

/-- One byte of CRC-32C (Castagnoli, reflected polynomial 0x82F63B78). -/
def crcByte (c : Nat) (b : Byte) : Nat :=
  (List.range 8).foldl (fun c _ => if c % 2 = 1 then (c / 2) ^^^ 0x82F63B78 else c / 2) (c ^^^ b.toNat)

/-- CRC-32C of a byte string. -/
def crc32c (m : List Byte) : Nat := (m.foldl crcByte 0xFFFFFFFF) ^^^ 0xFFFFFFFF

end Sys2Proof.Machine
end

