-- ==== Sys2Proof/Config.lean ====
section
/-! DEFINITION. Config.lean: what an implementation fixes and the spec leaves open. Every constant here is opaque:
no proof can see its value, so a statement about it holds whatever it is. -/

namespace Sys2Proof.Config

/-- The 128 bits drawn from the security controller's random generator at the n-th draw (R506, R536). -/
opaque freeNonce : Nat → Nat

/-- The fused audit key, 32 bytes, as a little-endian number (R533, Table 19.3). -/
opaque auditKey : Nat

/-- The fused, unique MAC address of the field network, 6 bytes (R493, object 0x1010:01). -/
opaque fieldMac : Nat

/-- The fused 16-character module serial, as sixteen bytes (R29, object 0x1000:03). -/
opaque moduleSerial : Nat

/-- The n-th choice the module makes where the spec allows two outcomes and names no rule (R573: a reset pulse
between 2 µs and 10 µs). -/
opaque freeChoice : Nat → Bool

/-- The n-th value where the spec gives an effect and states no number for it. -/
opaque freeNat : Nat → Nat

/-- The fused offset of a compute die's core rail, in steps of 1 mV above -20 mV; 0 to 40 count (R456). -/
opaque railOffset : Nat → Nat

/-- The core rail in mV at a clock that Table 16.3 does not list (R456, R462). -/
opaque railBetween : Nat → Nat

/-- Whether staged bytes are a whole firmware package (R532: the spec gives no layout of a package). -/
opaque fwComplete : List Byte → Bool

/-- Whether every image of a firmware package carries a signature that verifies against the vendor root key of its slot
(R530). -/
opaque fwSigned : List Byte → Bool

/-- The vendor root slot that signed a firmware package (R530, Table 19.2). -/
opaque fwKeySlot : List Byte → Nat

/-- Where a restore finds its partner's slot: the key, below the stack's first, of the slot of a boundary in the reserve of a member of the
job that runs an image (R439: the spec gives the reader no address for the reserve of another module). -/
opaque partnerSlot (digest member boundary : Nat) : Nat

/-- Which record of the bridle cores' working memory or of the checkpoint staging of a die a unit at an offset of the reserved region
holds (R283, R293: the spec gives these structures no layout). -/
opaque resvRecord (die off : Nat) : Nat

/-- The lowest SECURITY_VERSION among the images of a firmware package (R530). -/
opaque fwVersion : List Byte → Nat

end Sys2Proof.Config
end

