-- ==== Sys2Proof/Machine/DictTable.lean ====
section
/-! DEFINITION. DictTable.lean: the object dictionary as data: one row per line of the object tables of the spec's
chapters (Tables 1.9, 2.8, 3.8, ... 20.7), and the key of every object by its name. -/

namespace Sys2Proof.Machine

/-- Value types of dictionary objects (R501, Table 18.5). -/
inductive ObjTy where
  | bool | u8 | u16 | u32 | u64 | i32 | f32 | time | str | bytes
deriving DecidableEq, Repr

/-- Access codes (R503). -/
inductive ObjAcc where
  | ro | rw | wo | rwl | rwp | fuse
deriving DecidableEq, Repr

/-- One line of an object table. `len` is the object's byte length (the largest length for a string); a zero `hi` on
a BYTES or STRING row means that no range is named. Bytes are held as a little-endian number, a string as its bytes
followed by one byte of value 1 that marks its end. -/
structure ObjRow where
  idx : Nat
  span : Nat
  sub : Nat
  subs : Nat
  ty : ObjTy
  len : Nat
  acc : ObjAcc
  dflt : Nat
  lo : Nat
  hi : Nat
  part : Bool
  sel : Bool
  cmd1 : Bool
  kept : Bool
deriving DecidableEq, Repr

namespace Dict

/-- Rows of the object tables, piece 0. -/
def rows0 : List ObjRow :=
  [ ⟨0x1000, 1, 0x04, 1, .u8, 1, .ro, 70, 0, 255, false, false, false, false⟩
  , ⟨0x1000, 1, 0x01, 1, .str, 255, .ro, 1928560955247493571252237255450976589, 0, 0, false, false, false, false⟩
  , ⟨0x1000, 1, 0x02, 1, .str, 255, .ro, 6192974277581222399792130686940243, 0, 0, false, false, false, false⟩
  , ⟨0x1000, 1, 0x03, 1, .str, 16, .ro, 0, 0, 0, false, false, false, false⟩
  , ⟨0x1000, 1, 0x05, 1, .u16, 2, .ro, 384, 0, 65535, false, false, false, false⟩
  , ⟨0x1000, 1, 0x06, 1, .u64, 8, .ro, 412316860416, 0, 0xFFFFFFFFFFFFFFFF, false, false, false, false⟩
  , ⟨0x1000, 1, 0x07, 1, .u64, 8, .ro, 408021893120, 0, 0xFFFFFFFFFFFFFFFF, false, false, false, false⟩
  , ⟨0x1000, 1, 0x08, 1, .u64, 8, .ro, 4398046511104, 0, 0xFFFFFFFFFFFFFFFF, false, false, false, false⟩
  , ⟨0x1000, 1, 0x09, 1, .u8, 1, .ro, 24, 0, 255, false, false, false, false⟩
  , ⟨0x1000, 1, 0x0A, 1, .u32, 4, .ro, 1572864, 0, 4294967295, false, false, false, false⟩
  , ⟨0x4000, 1, 0x01, 1, .u32, 4, .rwp, 50000, 8000, 1000000, false, false, false, true⟩
  , ⟨0x4000, 1, 0x02, 1, .u8, 1, .ro, 0, 0, 255, false, false, false, false⟩
  , ⟨0x4000, 1, 0x03, 1, .u8, 1, .rwp, 0, 0, 1, false, false, false, true⟩
  , ⟨0x4000, 1, 0x04, 1, .u64, 8, .ro, 0, 0, 0xFFFFFFFFFFFFFFFF, false, false, false, false⟩
  , ⟨0x4000, 1, 0x05, 1, .u64, 8, .ro, 0, 0, 0xFFFFFFFFFFFFFFFF, false, false, false, false⟩
  , ⟨0x4000, 1, 0x06, 1, .u64, 8, .rw, 0, 0, 0xFFFFFFFFFFFFFFFF, false, false, false, false⟩
  , ⟨0x4000, 1, 0x07, 1, .u8, 1, .rw, 255, 0, 23, false, false, false, false⟩
  , ⟨0x4000, 1, 0x08, 1, .u8, 1, .rw, 255, 0, 23, false, false, false, false⟩
  , ⟨0x4000, 1, 0x09, 1, .u32, 4, .rw, 0, 0, 16777215, false, false, false, false⟩
  , ⟨0x4000, 1, 0x0A, 1, .u16, 2, .ro, 200, 0, 65535, false, false, false, false⟩
  , ⟨0x4000, 1, 0x0B, 1, .u8, 1, .rw, 31, 0, 31, false, false, false, false⟩
  , ⟨0x4000, 1, 0x0C, 1, .u16, 2, .rw, 250, 0, 2000, false, false, false, false⟩
  , ⟨0x4000, 1, 0x0D, 1, .u8, 1, .rw, 16, 0, 16, false, false, false, false⟩
  , ⟨0x4000, 1, 0x0E, 1, .u8, 1, .rw, 8, 1, 64, false, false, false, false⟩
  , ⟨0x4000, 1, 0x0F, 1, .bool, 1, .wo, 0, 0, 1, false, false, true, false⟩
  , ⟨0x4000, 1, 0x10, 1, .bool, 1, .ro, 0, 0, 1, false, false, false, false⟩
  , ⟨0x4000, 1, 0x11, 1, .u64, 8, .ro, 0, 0, 0xFFFFFFFFFFFFFFFF, false, false, false, false⟩
  , ⟨0x4000, 1, 0x12, 1, .u64, 8, .ro, 0, 0, 0xFFFFFFFFFFFFFFFF, false, false, false, false⟩
  , ⟨0x4000, 1, 0x13, 1, .u64, 8, .ro, 0, 0, 0xFFFFFFFFFFFFFFFF, false, false, false, false⟩
  , ⟨0x4000, 1, 0x14, 1, .u64, 8, .ro, 0, 0, 0xFFFFFFFFFFFFFFFF, false, false, false, false⟩
  , ⟨0x4000, 1, 0x15, 1, .u64, 8, .ro, 0, 0, 0xFFFFFFFFFFFFFFFF, false, false, false, false⟩
  , ⟨0x4000, 1, 0x16, 1, .u64, 8, .ro, 0, 0, 0xFFFFFFFFFFFFFFFF, false, false, false, false⟩
  , ⟨0x4000, 1, 0x17, 1, .u64, 8, .ro, 0, 0, 0xFFFFFFFFFFFFFFFF, false, false, false, false⟩
  , ⟨0x4000, 1, 0x18, 1, .u64, 8, .ro, 0, 0, 0xFFFFFFFFFFFFFFFF, false, false, false, false⟩
  , ⟨0x4000, 1, 0x19, 1, .u64, 8, .ro, 0, 0, 0xFFFFFFFFFFFFFFFF, false, false, false, false⟩
  , ⟨0x4000, 1, 0x1A, 1, .u64, 8, .ro, 0, 0, 0xFFFFFFFFFFFFFFFF, false, false, false, false⟩
  , ⟨0x4000, 1, 0x1B, 1, .u64, 8, .ro, 0, 0, 0xFFFFFFFFFFFFFFFF, false, false, false, false⟩
  , ⟨0x4000, 1, 0x1C, 1, .u64, 8, .ro, 0, 0, 0xFFFFFFFFFFFFFFFF, false, false, false, false⟩
  , ⟨0x4000, 1, 0x1D, 1, .u64, 8, .ro, 0, 0, 0xFFFFFFFFFFFFFFFF, false, false, false, false⟩
  , ⟨0x4000, 1, 0x1E, 1, .u16, 2, .rw, 16, 1, 1024, false, false, false, false⟩ ]

/-- Rows of the object tables, piece 1. -/
def rows1 : List ObjRow :=
  [ ⟨0x4000, 1, 0x1F, 1, .bool, 1, .wo, 0, 0, 1, false, false, true, false⟩
  , ⟨0x4001, 1, 0x01, 24, .u32, 4, .ro, 0, 0, 4294967295, false, false, false, false⟩
  , ⟨0x4002, 1, 0x01, 1, .u32, 4, .ro, 0, 0, 4294967295, false, false, false, false⟩
  , ⟨0x4002, 1, 0x02, 1, .u16, 2, .rw, 0, 0, 4095, false, true, false, false⟩
  , ⟨0x4002, 1, 0x03, 1, .bytes, 48, .ro, 0, 0, 0, false, false, false, false⟩
  , ⟨0x5100, 4, 0x01, 1, .i32, 4, .ro, 0, 0, 4294967295, true, false, false, false⟩
  , ⟨0x5100, 4, 0x02, 1, .i32, 4, .ro, 0, 0, 4294967295, true, false, false, false⟩
  , ⟨0x5100, 4, 0x03, 1, .i32, 4, .ro, 0, 0, 4294967295, true, false, false, false⟩
  , ⟨0x5100, 4, 0x04, 1, .u8, 1, .ro, 0, 0, 255, true, false, false, false⟩
  , ⟨0x5100, 4, 0x05, 1, .u32, 4, .ro, 0, 0, 4294967295, true, false, false, false⟩
  , ⟨0x5100, 4, 0x06, 1, .u32, 4, .ro, 0, 0, 4294967295, true, false, false, false⟩
  , ⟨0x5100, 4, 0x07, 1, .u32, 4, .ro, 0, 0, 4294967295, true, false, false, false⟩
  , ⟨0x5100, 4, 0x08, 1, .u64, 8, .ro, 0, 0, 0xFFFFFFFFFFFFFFFF, true, false, false, false⟩
  , ⟨0x5100, 4, 0x09, 1, .u64, 8, .ro, 0, 0, 0xFFFFFFFFFFFFFFFF, true, false, false, false⟩
  , ⟨0x5100, 4, 0x0A, 1, .u64, 8, .ro, 0, 0, 0xFFFFFFFFFFFFFFFF, true, false, false, false⟩
  , ⟨0x5100, 4, 0x0B, 1, .u64, 8, .ro, 0, 0, 0xFFFFFFFFFFFFFFFF, true, false, false, false⟩
  , ⟨0x5100, 4, 0x0C, 1, .u64, 8, .ro, 0, 0, 0xFFFFFFFFFFFFFFFF, true, false, false, false⟩
  , ⟨0x5100, 4, 0x0D, 1, .u64, 8, .ro, 0, 0, 0xFFFFFFFFFFFFFFFF, true, false, false, false⟩
  , ⟨0xF000, 1, 0x01, 1, .bool, 1, .rw, 0, 0, 1, false, false, false, false⟩
  , ⟨0xF000, 1, 0x02, 1, .u8, 1, .rw, 0, 0, 3, false, false, false, false⟩
  , ⟨0xF000, 1, 0x03, 1, .bool, 1, .rw, 0, 0, 1, false, false, false, false⟩
  , ⟨0xF000, 1, 0x04, 1, .bool, 1, .ro, 0, 0, 1, false, false, false, false⟩
  , ⟨0xF004, 1, 0x01, 1, .u16, 2, .rw, 0, 0, 383, false, true, false, false⟩
  , ⟨0xF004, 1, 0x02, 1, .u16, 2, .rw, 0, 0, 511, false, true, false, false⟩
  , ⟨0xF004, 1, 0x03, 1, .bytes, 256, .ro, 0, 0, 0, false, false, false, false⟩
  , ⟨0xF004, 1, 0x04, 1, .bytes, 16, .ro, 0, 0, 0, false, false, false, false⟩
  , ⟨0x5110, 4, 0x01, 1, .u64, 8, .ro, 0, 0, 0xFFFFFFFFFFFFFFFF, true, false, false, false⟩
  , ⟨0x5110, 4, 0x02, 1, .u64, 8, .ro, 0, 0, 0xFFFFFFFFFFFFFFFF, true, false, false, false⟩
  , ⟨0x5110, 4, 0x03, 1, .u64, 8, .ro, 0, 0, 0xFFFFFFFFFFFFFFFF, true, false, false, false⟩
  , ⟨0x5110, 4, 0x04, 1, .u64, 8, .ro, 0, 0, 0xFFFFFFFFFFFFFFFF, true, false, false, false⟩
  , ⟨0x5110, 4, 0x05, 1, .u64, 8, .ro, 0, 0, 0xFFFFFFFFFFFFFFFF, true, false, false, false⟩
  , ⟨0x5110, 4, 0x06, 1, .u64, 8, .ro, 0, 0, 0xFFFFFFFFFFFFFFFF, true, false, false, false⟩
  , ⟨0x5110, 4, 0x07, 1, .u64, 8, .ro, 0, 0, 0xFFFFFFFFFFFFFFFF, true, false, false, false⟩
  , ⟨0x5110, 4, 0x08, 1, .u64, 8, .ro, 0, 0, 0xFFFFFFFFFFFFFFFF, true, false, false, false⟩
  , ⟨0x5110, 4, 0x09, 1, .u32, 4, .ro, 0, 0, 4294967295, true, false, false, false⟩
  , ⟨0x5120, 4, 0x01, 1, .u64, 8, .ro, 0, 0, 0xFFFFFFFFFFFFFFFF, true, false, false, false⟩
  , ⟨0x5120, 4, 0x02, 1, .u64, 8, .ro, 0, 0, 0xFFFFFFFFFFFFFFFF, true, false, false, false⟩
  , ⟨0x5120, 4, 0x03, 1, .u64, 8, .ro, 0, 0, 0xFFFFFFFFFFFFFFFF, true, false, false, false⟩
  , ⟨0x5120, 4, 0x04, 1, .u64, 8, .ro, 0, 0, 0xFFFFFFFFFFFFFFFF, true, false, false, false⟩
  , ⟨0x5120, 4, 0x05, 1, .u16, 2, .ro, 0, 0, 65535, true, false, false, false⟩ ]

/-- Rows of the object tables, piece 2. -/
def rows2 : List ObjRow :=
  [ ⟨0x5120, 4, 0x06, 1, .u16, 2, .ro, 0, 0, 65535, true, false, false, false⟩
  , ⟨0x5120, 4, 0x07, 1, .bytes, 16, .ro, 0, 0, 0, true, false, false, false⟩
  , ⟨0x5120, 4, 0x08, 1, .bytes, 16, .ro, 0, 0, 0, true, false, false, false⟩
  , ⟨0x5120, 4, 0x09, 1, .u8, 1, .rw, 0, 0, 127, true, true, false, false⟩
  , ⟨0x5120, 4, 0x0A, 1, .u32, 4, .ro, 0, 0, 4294967295, true, false, false, false⟩
  , ⟨0x5120, 4, 0x0B, 1, .u64, 8, .ro, 0, 0, 0xFFFFFFFFFFFFFFFF, true, false, false, false⟩
  , ⟨0x5120, 4, 0x0C, 1, .u64, 8, .ro, 0, 0, 0xFFFFFFFFFFFFFFFF, true, false, false, false⟩
  , ⟨0x5120, 4, 0x0D, 1, .u64, 8, .ro, 0, 0, 0xFFFFFFFFFFFFFFFF, true, false, false, false⟩
  , ⟨0x5120, 4, 0x0E, 1, .u64, 8, .ro, 0, 0, 0xFFFFFFFFFFFFFFFF, true, false, false, false⟩
  , ⟨0x5120, 4, 0x0F, 1, .u64, 8, .ro, 0, 0, 0xFFFFFFFFFFFFFFFF, true, false, false, false⟩
  , ⟨0x5140, 1, 0x01, 1, .u16, 2, .rw, 0, 0, 4095, false, true, false, false⟩
  , ⟨0x5140, 1, 0x02, 1, .u8, 1, .rw, 0, 0, 1, false, true, false, false⟩
  , ⟨0x5140, 1, 0x03, 1, .bytes, 32, .ro, 0, 0, 0, false, false, false, false⟩
  , ⟨0x5140, 1, 0x04, 1, .u8, 1, .ro, 0, 0, 255, false, false, false, false⟩
  , ⟨0x5140, 1, 0x05, 1, .u8, 1, .rw, 0, 0, 15, false, true, false, false⟩
  , ⟨0x5140, 1, 0x06, 1, .bytes, 16, .ro, 0, 0, 0, false, false, false, false⟩
  , ⟨0x5130, 4, 0x01, 1, .u32, 4, .ro, 0, 0, 4294967295, true, false, false, false⟩
  , ⟨0x5130, 4, 0x02, 1, .u64, 8, .ro, 0, 0, 0xFFFFFFFFFFFFFFFF, true, false, false, false⟩
  , ⟨0x5130, 4, 0x03, 1, .u64, 8, .ro, 0, 0, 0xFFFFFFFFFFFFFFFF, true, false, false, false⟩
  , ⟨0x5130, 4, 0x04, 1, .u64, 8, .ro, 0, 0, 0xFFFFFFFFFFFFFFFF, true, false, false, false⟩
  , ⟨0x5130, 4, 0x05, 1, .u64, 8, .ro, 0, 0, 0xFFFFFFFFFFFFFFFF, true, false, false, false⟩
  , ⟨0x5130, 4, 0x06, 1, .u64, 8, .ro, 0, 0, 0xFFFFFFFFFFFFFFFF, true, false, false, false⟩
  , ⟨0x5130, 4, 0x07, 1, .u32, 4, .ro, 0, 0, 4294967295, true, false, false, false⟩
  , ⟨0x5130, 4, 0x08, 1, .u64, 8, .ro, 0, 0, 0xFFFFFFFFFFFFFFFF, true, false, false, false⟩
  , ⟨0x5130, 4, 0x09, 1, .u64, 8, .ro, 0, 0, 0xFFFFFFFFFFFFFFFF, true, false, false, false⟩
  , ⟨0x5130, 4, 0x0A, 1, .u64, 8, .ro, 0, 0, 0xFFFFFFFFFFFFFFFF, true, false, false, false⟩
  , ⟨0x5130, 4, 0x0B, 1, .u64, 8, .ro, 0, 0, 0xFFFFFFFFFFFFFFFF, true, false, false, false⟩
  , ⟨0x5130, 4, 0x0C, 1, .u64, 8, .ro, 0, 0, 0xFFFFFFFFFFFFFFFF, true, false, false, false⟩
  , ⟨0x5130, 4, 0x0D, 1, .u32, 4, .ro, 0, 0, 4294967295, true, false, false, false⟩
  , ⟨0x5130, 4, 0x0E, 1, .u16, 2, .ro, 0, 0, 65535, true, false, false, false⟩
  , ⟨0x5130, 4, 0x0F, 1, .u16, 2, .ro, 0, 0, 65535, true, false, false, false⟩
  , ⟨0x5130, 4, 0x10, 1, .u16, 2, .ro, 0, 0, 65535, true, false, false, false⟩
  , ⟨0x5130, 4, 0x11, 1, .u64, 8, .ro, 0, 0, 0xFFFFFFFFFFFFFFFF, true, false, false, false⟩
  , ⟨0x5130, 4, 0x12, 1, .u64, 8, .ro, 0, 0, 0xFFFFFFFFFFFFFFFF, true, false, false, false⟩
  , ⟨0x5150, 4, 0x01, 1, .u64, 8, .ro, 0, 0, 0xFFFFFFFFFFFFFFFF, true, false, false, false⟩
  , ⟨0x5150, 4, 0x02, 1, .u64, 8, .ro, 0, 0, 0xFFFFFFFFFFFFFFFF, true, false, false, false⟩
  , ⟨0x5150, 4, 0x03, 1, .u64, 8, .ro, 0, 0, 0xFFFFFFFFFFFFFFFF, true, false, false, false⟩
  , ⟨0x5150, 4, 0x04, 1, .u64, 8, .ro, 0, 0, 0xFFFFFFFFFFFFFFFF, true, false, false, false⟩
  , ⟨0x5150, 4, 0x05, 1, .u32, 4, .ro, 0, 0, 4294967295, true, false, false, false⟩
  , ⟨0x5150, 4, 0x06, 1, .u8, 1, .ro, 0, 0, 255, true, false, false, false⟩ ]

/-- Rows of the object tables, piece 3. -/
def rows3 : List ObjRow :=
  [ ⟨0x5150, 4, 0x07, 1, .f32, 4, .ro, 0, 0, 4294967295, true, false, false, false⟩
  , ⟨0x5150, 4, 0x08, 1, .f32, 4, .ro, 0, 0, 4294967295, true, false, false, false⟩
  , ⟨0x5150, 4, 0x09, 1, .u64, 8, .ro, 0, 0, 0xFFFFFFFFFFFFFFFF, true, false, false, false⟩
  , ⟨0x5150, 4, 0x0A, 1, .u64, 8, .ro, 0, 0, 0xFFFFFFFFFFFFFFFF, true, false, false, false⟩
  , ⟨0x5150, 4, 0x0B, 1, .u64, 8, .ro, 0, 0, 0xFFFFFFFFFFFFFFFF, true, false, false, false⟩
  , ⟨0x5150, 4, 0x0C, 1, .u32, 4, .ro, 0, 0, 4294967295, true, false, false, false⟩
  , ⟨0x5150, 4, 0x0D, 1, .u64, 8, .ro, 0, 0, 0xFFFFFFFFFFFFFFFF, true, false, false, false⟩
  , ⟨0x5150, 4, 0x0E, 1, .bytes, 16, .rw, 0, 0, 0, true, false, false, false⟩
  , ⟨0x5150, 4, 0x0F, 1, .u8, 1, .ro, 0, 0, 255, true, false, false, false⟩
  , ⟨0x5150, 4, 0x10, 1, .u8, 1, .rw, 0, 0, 63, true, true, false, false⟩
  , ⟨0x5150, 4, 0x11, 1, .bytes, 32, .ro, 0, 0, 0, true, false, false, false⟩
  , ⟨0x5150, 4, 0x12, 1, .u8, 1, .rw, 0, 0, 31, true, true, false, false⟩
  , ⟨0x5150, 4, 0x13, 1, .f32, 4, .ro, 0, 0, 4294967295, true, false, false, false⟩
  , ⟨0x4010, 4, 0x01, 1, .u8, 1, .ro, 0, 0, 255, true, false, false, false⟩
  , ⟨0x4010, 4, 0x02, 1, .bytes, 32, .ro, 0, 0, 0, true, false, false, false⟩
  , ⟨0x4010, 4, 0x03, 1, .bytes, 32, .ro, 0, 0, 0, true, false, false, false⟩
  , ⟨0x4010, 4, 0x04, 1, .u64, 8, .ro, 0, 0, 0xFFFFFFFFFFFFFFFF, true, false, false, false⟩
  , ⟨0x4010, 4, 0x05, 1, .u16, 2, .ro, 0, 0, 65535, true, false, false, false⟩
  , ⟨0x4010, 4, 0x06, 1, .u16, 2, .ro, 0, 0, 65535, true, false, false, false⟩
  , ⟨0x4010, 4, 0x07, 1, .u16, 2, .ro, 0, 0, 65535, true, false, false, false⟩
  , ⟨0x4010, 4, 0x08, 1, .u32, 4, .ro, 0, 0, 4294967295, true, false, false, false⟩
  , ⟨0x4010, 4, 0x09, 1, .u32, 4, .ro, 0, 0, 4294967295, true, false, false, false⟩
  , ⟨0x4010, 4, 0x0A, 1, .u32, 4, .ro, 0, 0, 4294967295, true, false, false, false⟩
  , ⟨0x4010, 4, 0x0B, 1, .u32, 4, .ro, 0, 0, 4294967295, true, false, false, false⟩
  , ⟨0x4010, 4, 0x0C, 1, .u64, 8, .rw, 0, 0, 0xFFFFFFFFFFFFFFFF, true, false, false, false⟩
  , ⟨0x4010, 4, 0x0D, 1, .u64, 8, .ro, 0, 0, 0xFFFFFFFFFFFFFFFF, true, false, false, false⟩
  , ⟨0x4010, 4, 0x0E, 1, .bool, 1, .wo, 0, 0, 1, true, false, true, false⟩
  , ⟨0x4010, 4, 0x0F, 1, .u64, 8, .ro, 0, 0, 0xFFFFFFFFFFFFFFFF, true, false, false, false⟩
  , ⟨0x4010, 4, 0x10, 1, .u64, 8, .ro, 0, 0, 0xFFFFFFFFFFFFFFFF, true, false, false, false⟩
  , ⟨0x4010, 4, 0x11, 1, .u64, 8, .ro, 0, 0, 0xFFFFFFFFFFFFFFFF, true, false, false, false⟩
  , ⟨0x4010, 4, 0x12, 1, .u64, 8, .ro, 0, 0, 0xFFFFFFFFFFFFFFFF, true, false, false, false⟩
  , ⟨0x4014, 1, 0x01, 1, .u8, 1, .ro, 1, 0, 255, false, false, false, false⟩
  , ⟨0x4014, 1, 0x02, 1, .u8, 1, .ro, 0, 0, 255, false, false, false, false⟩
  , ⟨0x4014, 1, 0x03, 1, .u32, 4, .ro, 67108864, 0, 4294967295, false, false, false, false⟩
  , ⟨0x4014, 1, 0x04, 1, .u8, 1, .ro, 0, 0, 255, false, false, false, false⟩
  , ⟨0x5160, 4, 0x01, 1, .u64, 8, .ro, 0, 0, 0xFFFFFFFFFFFFFFFF, true, false, false, false⟩
  , ⟨0x5160, 4, 0x02, 1, .u64, 8, .ro, 0, 0, 0xFFFFFFFFFFFFFFFF, true, false, false, false⟩
  , ⟨0x5160, 4, 0x03, 1, .u64, 8, .ro, 0, 0, 0xFFFFFFFFFFFFFFFF, true, false, false, false⟩
  , ⟨0x5160, 4, 0x04, 1, .u64, 8, .ro, 0, 0, 0xFFFFFFFFFFFFFFFF, true, false, false, false⟩
  , ⟨0x5160, 4, 0x05, 1, .u64, 8, .ro, 0, 0, 0xFFFFFFFFFFFFFFFF, true, false, false, false⟩ ]

/-- Rows of the object tables, piece 4. -/
def rows4 : List ObjRow :=
  [ ⟨0x5160, 4, 0x06, 1, .u64, 8, .ro, 0, 0, 0xFFFFFFFFFFFFFFFF, true, false, false, false⟩
  , ⟨0x5160, 4, 0x07, 1, .u64, 8, .ro, 0, 0, 0xFFFFFFFFFFFFFFFF, true, false, false, false⟩
  , ⟨0x5160, 4, 0x08, 1, .u64, 8, .ro, 0, 0, 0xFFFFFFFFFFFFFFFF, true, false, false, false⟩
  , ⟨0x5160, 4, 0x09, 1, .u64, 8, .ro, 0, 0, 0xFFFFFFFFFFFFFFFF, true, false, false, false⟩
  , ⟨0x5160, 4, 0x0A, 1, .u64, 8, .ro, 0, 0, 0xFFFFFFFFFFFFFFFF, true, false, false, false⟩
  , ⟨0x4020, 1, 0x01, 1, .u64, 8, .ro, 0, 0, 0xFFFFFFFFFFFFFFFF, false, false, false, false⟩
  , ⟨0x4020, 1, 0x02, 1, .u64, 8, .ro, 0, 0, 0xFFFFFFFFFFFFFFFF, false, false, false, false⟩
  , ⟨0x4020, 1, 0x03, 1, .u64, 8, .ro, 0, 0, 0xFFFFFFFFFFFFFFFF, false, false, false, false⟩
  , ⟨0x4020, 1, 0x04, 1, .u64, 8, .ro, 0, 0, 0xFFFFFFFFFFFFFFFF, false, false, false, false⟩
  , ⟨0x4020, 1, 0x05, 1, .u64, 8, .ro, 0, 0, 0xFFFFFFFFFFFFFFFF, false, false, false, false⟩
  , ⟨0x4020, 1, 0x06, 1, .u64, 8, .ro, 0, 0, 0xFFFFFFFFFFFFFFFF, false, false, false, false⟩
  , ⟨0x4020, 1, 0x07, 1, .u8, 1, .rwp, 24, 1, 168, false, false, false, true⟩
  , ⟨0x4020, 1, 0x08, 1, .u64, 8, .ro, 0, 0, 0xFFFFFFFFFFFFFFFF, false, false, false, false⟩
  , ⟨0x4020, 1, 0x09, 1, .bytes, 24, .ro, 0, 0, 0, false, false, false, false⟩
  , ⟨0x4020, 1, 0x0A, 1, .bytes, 16, .ro, 0, 0, 0, false, false, false, false⟩
  , ⟨0x4024, 4, 0x01, 1, .u8, 1, .ro, 0, 0, 255, true, false, false, false⟩
  , ⟨0x4024, 4, 0x02, 1, .u8, 1, .ro, 0, 0, 255, true, false, false, false⟩
  , ⟨0x4024, 4, 0x03, 1, .u64, 8, .ro, 0, 0, 0xFFFFFFFFFFFFFFFF, true, false, false, false⟩
  , ⟨0x4024, 4, 0x04, 1, .u64, 8, .ro, 0, 0, 0xFFFFFFFFFFFFFFFF, true, false, false, false⟩
  , ⟨0x4024, 4, 0x05, 1, .u64, 8, .ro, 0, 0, 0xFFFFFFFFFFFFFFFF, true, false, false, false⟩
  , ⟨0x4024, 4, 0x06, 1, .u64, 8, .ro, 0, 0, 0xFFFFFFFFFFFFFFFF, true, false, false, false⟩
  , ⟨0x4030, 8, 0x01, 1, .u64, 8, .ro, 0, 0, 0xFFFFFFFFFFFFFFFF, false, false, false, false⟩
  , ⟨0x4030, 8, 0x02, 1, .u64, 8, .ro, 0, 0, 0xFFFFFFFFFFFFFFFF, false, false, false, false⟩
  , ⟨0x4030, 8, 0x03, 1, .u64, 8, .ro, 0, 0, 0xFFFFFFFFFFFFFFFF, false, false, false, false⟩
  , ⟨0x4030, 8, 0x04, 1, .u64, 8, .ro, 0, 0, 0xFFFFFFFFFFFFFFFF, false, false, false, false⟩
  , ⟨0x4030, 8, 0x05, 1, .u64, 8, .ro, 0, 0, 0xFFFFFFFFFFFFFFFF, false, false, false, false⟩
  , ⟨0x4030, 8, 0x06, 1, .u8, 1, .ro, 255, 0, 255, false, false, false, false⟩
  , ⟨0x4030, 8, 0x07, 1, .u16, 2, .ro, 0, 0, 65535, false, false, false, true⟩
  , ⟨0x6080, 1, 0x01, 1, .u64, 8, .ro, 0, 0, 0xFFFFFFFFFFFFFFFF, false, false, false, true⟩
  , ⟨0x6080, 1, 0x02, 1, .u64, 8, .ro, 20000000000000000, 0, 0xFFFFFFFFFFFFFFFF, false, false, false, false⟩
  , ⟨0x6080, 1, 0x03, 1, .u8, 1, .ro, 0, 0, 255, false, false, false, true⟩
  , ⟨0x6080, 1, 0x04, 1, .bool, 1, .ro, 1, 0, 1, false, false, false, true⟩
  , ⟨0x6080, 1, 0x05, 1, .u64, 8, .ro, 0, 0, 0xFFFFFFFFFFFFFFFF, false, false, false, true⟩
  , ⟨0x3000, 1, 0x01, 1, .u32, 4, .ro, 0, 0, 4294967295, false, false, false, false⟩
  , ⟨0x3000, 1, 0x02, 1, .u32, 4, .rw, 20000, 1000, 100000, false, false, false, false⟩
  , ⟨0x3000, 1, 0x03, 1, .u16, 2, .rw, 16, 1, 1024, false, false, false, false⟩
  , ⟨0x3000, 1, 0x04, 1, .u32, 4, .rw, 20000, 1, 4250000, false, false, false, false⟩
  , ⟨0x3000, 1, 0x05, 1, .u8, 1, .rw, 8, 1, 255, false, false, false, false⟩
  , ⟨0x3001, 24, 0x01, 1, .bool, 1, .rwp, 1, 0, 1, false, false, false, true⟩
  , ⟨0x3001, 24, 0x02, 1, .u8, 1, .ro, 0, 0, 255, false, false, false, false⟩ ]

/-- Rows of the object tables, piece 5. -/
def rows5 : List ObjRow :=
  [ ⟨0x3001, 24, 0x03, 1, .u8, 1, .ro, 0, 0, 255, false, false, false, false⟩
  , ⟨0x3001, 24, 0x04, 1, .u8, 1, .ro, 0, 0, 255, false, false, false, false⟩
  , ⟨0x3001, 24, 0x05, 1, .bool, 1, .rwp, 0, 0, 1, false, false, false, true⟩
  , ⟨0x3001, 24, 0x06, 1, .bool, 1, .ro, 0, 0, 1, false, false, false, false⟩
  , ⟨0x3001, 24, 0x07, 1, .u64, 8, .ro, 0, 0, 0xFFFFFFFFFFFFFFFF, false, false, false, false⟩
  , ⟨0x3001, 24, 0x08, 1, .u64, 8, .ro, 0, 0, 0xFFFFFFFFFFFFFFFF, false, false, false, false⟩
  , ⟨0x3001, 24, 0x09, 1, .u64, 8, .ro, 0, 0, 0xFFFFFFFFFFFFFFFF, false, false, false, false⟩
  , ⟨0x3001, 24, 0x0A, 1, .u64, 8, .ro, 0, 0, 0xFFFFFFFFFFFFFFFF, false, false, false, false⟩
  , ⟨0x3001, 24, 0x0B, 1, .u64, 8, .ro, 0, 0, 0xFFFFFFFFFFFFFFFF, false, false, false, false⟩
  , ⟨0x3001, 24, 0x0C, 1, .u64, 8, .ro, 0, 0, 0xFFFFFFFFFFFFFFFF, false, false, false, false⟩
  , ⟨0x3001, 24, 0x0D, 1, .u64, 8, .ro, 0, 0, 0xFFFFFFFFFFFFFFFF, false, false, false, false⟩
  , ⟨0x3001, 24, 0x0E, 1, .u64, 8, .ro, 0, 0, 0xFFFFFFFFFFFFFFFF, false, false, false, false⟩
  , ⟨0x3001, 24, 0x0F, 1, .u64, 8, .ro, 0, 0, 0xFFFFFFFFFFFFFFFF, false, false, false, false⟩
  , ⟨0x3001, 24, 0x10, 1, .u64, 8, .ro, 0, 0, 0xFFFFFFFFFFFFFFFF, false, false, false, false⟩
  , ⟨0x3001, 24, 0x11, 1, .u64, 8, .ro, 0, 0, 0xFFFFFFFFFFFFFFFF, false, false, false, false⟩
  , ⟨0x3001, 24, 0x12, 1, .u64, 8, .ro, 0, 0, 0xFFFFFFFFFFFFFFFF, false, false, false, false⟩
  , ⟨0x3001, 24, 0x13, 1, .u64, 8, .ro, 0, 0, 0xFFFFFFFFFFFFFFFF, false, false, false, false⟩
  , ⟨0x3001, 24, 0x14, 1, .u32, 4, .ro, 0, 0, 4294967295, false, false, false, false⟩
  , ⟨0x3001, 24, 0x15, 4, .u64, 8, .ro, 0, 0, 0xFFFFFFFFFFFFFFFF, false, false, false, false⟩
  , ⟨0x3001, 24, 0x19, 1, .u64, 8, .ro, 0, 0, 0xFFFFFFFFFFFFFFFF, false, false, false, false⟩
  , ⟨0x3001, 24, 0x1A, 1, .u64, 8, .ro, 0, 0, 0xFFFFFFFFFFFFFFFF, false, false, false, false⟩
  , ⟨0x3100, 1, 0x01, 1, .u8, 1, .rw, 32, 1, 64, false, false, false, false⟩
  , ⟨0x3100, 1, 0x02, 1, .u32, 4, .rw, 200000, 10000, 10000000, false, false, false, false⟩
  , ⟨0x3100, 1, 0x03, 1, .u32, 4, .rw, 1048576, 65536, 16777216, false, false, false, false⟩
  , ⟨0x3100, 1, 0x04, 1, .u32, 4, .rw, 1000000, 10000, 100000000, false, false, false, false⟩
  , ⟨0x3100, 1, 0x05, 1, .u16, 2, .ro, 0, 0, 65535, false, false, false, false⟩
  , ⟨0x3100, 1, 0x06, 1, .u16, 2, .ro, 0, 0, 65535, false, false, false, false⟩
  , ⟨0x3100, 1, 0x07, 1, .u64, 8, .ro, 0, 0, 0xFFFFFFFFFFFFFFFF, false, false, false, false⟩
  , ⟨0x3100, 1, 0x08, 1, .u64, 8, .ro, 0, 0, 0xFFFFFFFFFFFFFFFF, false, false, false, false⟩
  , ⟨0x3100, 1, 0x09, 1, .u64, 8, .ro, 0, 0, 0xFFFFFFFFFFFFFFFF, false, false, false, false⟩
  , ⟨0x3100, 1, 0x0A, 1, .u64, 8, .ro, 0, 0, 0xFFFFFFFFFFFFFFFF, false, false, false, false⟩
  , ⟨0x3100, 1, 0x0B, 1, .u64, 8, .ro, 0, 0, 0xFFFFFFFFFFFFFFFF, false, false, false, false⟩
  , ⟨0x3100, 1, 0x0C, 1, .u64, 8, .ro, 0, 0, 0xFFFFFFFFFFFFFFFF, false, false, false, false⟩
  , ⟨0x3100, 1, 0x0D, 1, .u64, 8, .ro, 0, 0, 0xFFFFFFFFFFFFFFFF, false, false, false, false⟩
  , ⟨0x3100, 1, 0x0E, 1, .u64, 8, .ro, 0, 0, 0xFFFFFFFFFFFFFFFF, false, false, false, false⟩
  , ⟨0x3100, 1, 0x0F, 1, .u64, 8, .ro, 0, 0, 0xFFFFFFFFFFFFFFFF, false, false, false, false⟩
  , ⟨0x3100, 1, 0x10, 1, .u64, 8, .ro, 0, 0, 0xFFFFFFFFFFFFFFFF, false, false, false, false⟩
  , ⟨0x3100, 1, 0x11, 1, .u64, 8, .ro, 0, 0, 0xFFFFFFFFFFFFFFFF, false, false, false, false⟩
  , ⟨0x3100, 1, 0x12, 1, .u64, 8, .ro, 0, 0, 0xFFFFFFFFFFFFFFFF, false, false, false, false⟩
  , ⟨0x3100, 1, 0x13, 1, .u64, 8, .ro, 0, 0, 0xFFFFFFFFFFFFFFFF, false, false, false, false⟩ ]

/-- Rows of the object tables, piece 6. -/
def rows6 : List ObjRow :=
  [ ⟨0x3100, 1, 0x14, 1, .u64, 8, .ro, 0, 0, 0xFFFFFFFFFFFFFFFF, false, false, false, false⟩
  , ⟨0x3100, 1, 0x15, 1, .u64, 8, .ro, 0, 0, 0xFFFFFFFFFFFFFFFF, false, false, false, false⟩
  , ⟨0x3110, 4, 0x01, 1, .u16, 2, .ro, 0, 0, 65535, true, false, false, false⟩
  , ⟨0x3110, 4, 0x02, 1, .u16, 2, .ro, 0, 0, 65535, true, false, false, false⟩
  , ⟨0x3110, 4, 0x03, 1, .u16, 2, .ro, 0, 0, 65535, true, false, false, false⟩
  , ⟨0x3110, 4, 0x04, 1, .u16, 2, .ro, 0, 0, 65535, true, false, false, false⟩
  , ⟨0x3110, 4, 0x05, 1, .u64, 8, .ro, 0, 0, 0xFFFFFFFFFFFFFFFF, true, false, false, false⟩
  , ⟨0x3110, 4, 0x06, 1, .u64, 8, .ro, 0, 0, 0xFFFFFFFFFFFFFFFF, true, false, false, false⟩
  , ⟨0x3110, 4, 0x07, 1, .u64, 8, .ro, 0, 0, 0xFFFFFFFFFFFFFFFF, true, false, false, false⟩
  , ⟨0x3110, 4, 0x08, 1, .u64, 8, .ro, 0, 0, 0xFFFFFFFFFFFFFFFF, true, false, false, false⟩
  , ⟨0x3110, 4, 0x09, 1, .u64, 8, .ro, 0, 0, 0xFFFFFFFFFFFFFFFF, true, false, false, false⟩
  , ⟨0x3110, 4, 0x0A, 1, .u64, 8, .ro, 0, 0, 0xFFFFFFFFFFFFFFFF, true, false, false, false⟩
  , ⟨0x3110, 4, 0x0B, 1, .u64, 8, .ro, 0, 0, 0xFFFFFFFFFFFFFFFF, true, false, false, false⟩
  , ⟨0x3110, 4, 0x0C, 1, .u64, 8, .ro, 0, 0, 0xFFFFFFFFFFFFFFFF, true, false, false, false⟩
  , ⟨0x3110, 4, 0x0D, 1, .u64, 8, .ro, 0, 0, 0xFFFFFFFFFFFFFFFF, true, false, false, false⟩
  , ⟨0x3110, 4, 0x0E, 1, .u64, 8, .ro, 0, 0, 0xFFFFFFFFFFFFFFFF, true, false, false, false⟩
  , ⟨0x3110, 4, 0x0F, 1, .u64, 8, .ro, 0, 0, 0xFFFFFFFFFFFFFFFF, true, false, false, false⟩
  , ⟨0x3110, 4, 0x10, 1, .u64, 8, .ro, 0, 0, 0xFFFFFFFFFFFFFFFF, true, false, false, false⟩
  , ⟨0x3110, 4, 0x11, 1, .u64, 8, .ro, 0, 0, 0xFFFFFFFFFFFFFFFF, true, false, false, false⟩
  , ⟨0x3110, 4, 0x12, 1, .u16, 2, .ro, 0, 0, 65535, true, false, false, false⟩
  , ⟨0x3110, 4, 0x13, 1, .u16, 2, .ro, 0, 0, 65535, true, false, false, false⟩
  , ⟨0x3120, 1, 0x01, 1, .u16, 2, .rw, 0, 0, 16382, false, true, false, false⟩
  , ⟨0x3120, 1, 0x02, 1, .u64, 8, .rw, 18446744069414584320, 0, 0xFFFFFFFFFFFFFFFF, false, false, false, false⟩
  , ⟨0x3120, 1, 0x03, 1, .u16, 2, .rw, 0, 0, 16382, false, true, false, false⟩
  , ⟨0x3120, 1, 0x04, 1, .u16, 2, .rw, 0, 0, 65535, false, false, false, false⟩
  , ⟨0x3120, 1, 0x05, 1, .u16, 2, .rw, 0, 0, 9999, false, true, false, false⟩
  , ⟨0x3120, 1, 0x06, 1, .bytes, 32, .ro, 0, 0, 0, false, false, false, false⟩
  , ⟨0x3120, 1, 0x07, 1, .u16, 2, .rw, 0, 0, 8191, false, true, false, false⟩
  , ⟨0x3120, 1, 0x08, 1, .bytes, 48, .ro, 0, 0, 0, false, false, false, false⟩
  , ⟨0x3200, 1, 0x01, 1, .u16, 2, .rw, 32, 1, 250, false, false, false, false⟩
  , ⟨0x3200, 1, 0x02, 1, .u32, 4, .rw, 100000, 4, 16777216, false, false, false, false⟩
  , ⟨0x3200, 1, 0x03, 1, .u16, 2, .rw, 540, 60, 590, false, false, false, false⟩
  , ⟨0x3200, 1, 0x04, 1, .u8, 1, .rw, 4, 1, 20, false, false, false, false⟩
  , ⟨0x3200, 1, 0x05, 1, .u8, 1, .rw, 10, 1, 40, false, false, false, false⟩
  , ⟨0x3200, 1, 0x06, 1, .u64, 8, .ro, 0, 0, 0xFFFFFFFFFFFFFFFF, false, false, false, false⟩
  , ⟨0x3200, 1, 0x07, 1, .u64, 8, .ro, 0, 0, 0xFFFFFFFFFFFFFFFF, false, false, false, false⟩
  , ⟨0x3200, 1, 0x08, 1, .u64, 8, .ro, 0, 0, 0xFFFFFFFFFFFFFFFF, false, false, false, false⟩
  , ⟨0x3200, 1, 0x09, 1, .u64, 8, .ro, 0, 0, 0xFFFFFFFFFFFFFFFF, false, false, false, false⟩
  , ⟨0x3200, 1, 0x0A, 1, .u8, 1, .ro, 0, 0, 255, false, false, false, false⟩
  , ⟨0x3200, 1, 0x0B, 1, .u64, 8, .ro, 0, 0, 0xFFFFFFFFFFFFFFFF, false, false, false, false⟩ ]

/-- Rows of the object tables, piece 7. -/
def rows7 : List ObjRow :=
  [ ⟨0x3200, 1, 0x0C, 1, .u64, 8, .ro, 0, 0, 0xFFFFFFFFFFFFFFFF, false, false, false, false⟩
  , ⟨0x3200, 1, 0x0D, 1, .bool, 1, .wo, 0, 0, 1, false, false, true, false⟩
  , ⟨0x3200, 1, 0x0E, 1, .u8, 1, .ro, 2, 0, 255, false, false, false, true⟩
  , ⟨0x3201, 1, 0x01, 16, .u32, 4, .rw, 0, 0, 4294967295, false, false, false, false⟩
  , ⟨0x3202, 1, 0x01, 4, .f32, 4, .ro, 0, 0, 4294967295, false, false, false, false⟩
  , ⟨0x3203, 1, 0x01, 1, .u8, 1, .rw, 0, 0, 63, false, true, false, false⟩
  , ⟨0x3203, 1, 0x02, 1, .bytes, 32, .ro, 0, 0, 0, false, false, false, false⟩
  , ⟨0x3210, 1, 0x01, 1, .bool, 1, .ro, 0, 0, 1, false, false, false, false⟩
  , ⟨0x3210, 1, 0x02, 1, .str, 255, .ro, 1, 0, 0, false, false, false, false⟩
  , ⟨0x3210, 1, 0x03, 1, .f32, 4, .ro, 0, 0, 4294967295, false, false, false, false⟩
  , ⟨0x3210, 1, 0x04, 1, .u8, 1, .ro, 0, 0, 255, false, false, false, false⟩
  , ⟨0x3211, 1, 0x01, 8, .u8, 1, .ro, 0, 0, 255, false, false, false, false⟩
  , ⟨0x3212, 1, 0x01, 8, .f32, 4, .ro, 0, 0, 4294967295, false, false, false, false⟩
  , ⟨0x3213, 1, 0x01, 8, .f32, 4, .ro, 0, 0, 4294967295, false, false, false, false⟩
  , ⟨0x3214, 1, 0x01, 8, .u32, 4, .ro, 0, 0, 4294967295, false, false, false, false⟩
  , ⟨0x3215, 1, 0x01, 4, .f32, 4, .ro, 0, 0, 4294967295, false, false, false, false⟩
  , ⟨0x3220, 1, 0x01, 1, .bytes, 16, .ro, 340282366920938463463374607431768211455, 0, 0, false, false, false, true⟩
  , ⟨0x3220, 1, 0x02, 1, .bytes, 16, .rw, 340282366920938463463374607431768211455, 0, 0, false, false, false, false⟩
  , ⟨0x3220, 1, 0x03, 1, .bool, 1, .wo, 0, 0, 1, false, false, true, false⟩
  , ⟨0x3220, 1, 0x04, 1, .u8, 1, .ro, 0, 0, 255, false, false, false, false⟩
  , ⟨0x3220, 1, 0x05, 1, .u8, 1, .ro, 0, 0, 255, false, false, false, false⟩
  , ⟨0x3220, 1, 0x06, 1, .u64, 8, .ro, 0, 0, 0xFFFFFFFFFFFFFFFF, false, false, false, false⟩
  , ⟨0x3220, 1, 0x07, 1, .u8, 1, .rw, 8, 8, 23, false, true, false, false⟩
  , ⟨0x3220, 1, 0x08, 1, .bytes, 8, .ro, 0, 0, 0, false, false, false, false⟩
  , ⟨0x3300, 1, 0x01, 1, .u8, 1, .ro, 0, 0, 255, false, false, false, false⟩
  , ⟨0x3300, 1, 0x02, 1, .u16, 2, .ro, 16383, 0, 65535, false, false, false, false⟩
  , ⟨0x3300, 1, 0x03, 1, .u16, 2, .ro, 0, 0, 65535, false, false, false, false⟩
  , ⟨0x3300, 1, 0x04, 1, .bytes, 4, .wo, 0, 0, 0, false, false, false, false⟩
  , ⟨0x3300, 1, 0x05, 1, .u8, 1, .ro, 0, 0, 255, false, false, false, false⟩
  , ⟨0x3300, 1, 0x06, 1, .bool, 1, .wo, 0, 0, 1, false, false, true, false⟩
  , ⟨0x3300, 1, 0x07, 1, .bytes, 32, .ro, 1073741568, 0, 0, false, false, false, false⟩
  , ⟨0x3300, 1, 0x08, 1, .u32, 4, .rwp, 1000, 100, 60000, false, false, false, true⟩
  , ⟨0x3300, 1, 0x09, 1, .u32, 4, .ro, 0, 0, 4294967295, false, false, false, false⟩
  , ⟨0x3300, 1, 0x0A, 1, .u64, 8, .ro, 0, 0, 0xFFFFFFFFFFFFFFFF, false, false, false, false⟩
  , ⟨0x3300, 1, 0x0B, 1, .u64, 8, .ro, 0, 0, 0xFFFFFFFFFFFFFFFF, false, false, false, false⟩
  , ⟨0x3300, 1, 0x0C, 1, .u64, 8, .ro, 0, 0, 0xFFFFFFFFFFFFFFFF, false, false, false, false⟩
  , ⟨0x3300, 1, 0x0D, 1, .u64, 8, .ro, 0, 0, 0xFFFFFFFFFFFFFFFF, false, false, false, false⟩
  , ⟨0x3300, 1, 0x0E, 1, .u64, 8, .ro, 0, 0, 0xFFFFFFFFFFFFFFFF, false, false, false, false⟩
  , ⟨0x3310, 1, 0x01, 1, .u8, 1, .rw, 0, 0, 23, false, true, false, false⟩
  , ⟨0x3310, 1, 0x02, 1, .u64, 8, .rwp, 72057576858058752, 0, 0xFFFFFFFFFFFFFFFF, false, false, false, true⟩ ]

/-- Rows of the object tables, piece 8. -/
def rows8 : List ObjRow :=
  [ ⟨0x3310, 1, 0x03, 1, .u8, 1, .ro, 0, 0, 255, false, false, false, false⟩
  , ⟨0x3310, 1, 0x04, 1, .bytes, 32, .ro, 372682923094226261407674479263118363566921406742528, 0, 0, false, false, false, false⟩
  , ⟨0x6010, 4, 0x01, 1, .u64, 8, .ro, 0, 0, 0xFFFFFFFFFFFFFFFF, true, false, false, false⟩
  , ⟨0x6010, 4, 0x02, 1, .u64, 8, .ro, 0, 0, 0xFFFFFFFFFFFFFFFF, true, false, false, false⟩
  , ⟨0x6010, 4, 0x03, 1, .u64, 8, .ro, 0, 0, 0xFFFFFFFFFFFFFFFF, true, false, false, false⟩
  , ⟨0x6010, 4, 0x04, 1, .u64, 8, .ro, 0, 0, 0xFFFFFFFFFFFFFFFF, true, false, false, false⟩
  , ⟨0x6010, 4, 0x05, 1, .u64, 8, .ro, 0, 0, 0xFFFFFFFFFFFFFFFF, true, false, false, false⟩
  , ⟨0x6010, 4, 0x06, 1, .u64, 8, .ro, 0, 0, 0xFFFFFFFFFFFFFFFF, true, false, false, false⟩
  , ⟨0x6010, 4, 0x07, 1, .u64, 8, .ro, 0, 0, 0xFFFFFFFFFFFFFFFF, true, false, false, false⟩
  , ⟨0x6010, 4, 0x08, 1, .u64, 8, .ro, 0, 0, 0xFFFFFFFFFFFFFFFF, true, false, false, false⟩
  , ⟨0x6010, 4, 0x09, 1, .u64, 8, .ro, 0, 0, 0xFFFFFFFFFFFFFFFF, true, false, false, false⟩
  , ⟨0x6010, 4, 0x0A, 1, .bytes, 144, .rw, 0, 0, 0, true, false, false, false⟩
  , ⟨0x6010, 4, 0x0B, 1, .u8, 1, .rw, 1, 1, 3, true, true, false, false⟩
  , ⟨0x6010, 4, 0x0C, 1, .u8, 1, .rw, 0, 0, 7, true, true, false, false⟩
  , ⟨0x6010, 4, 0x0D, 1, .bytes, 64, .ro, 0, 0, 0, true, false, false, false⟩
  , ⟨0x6010, 4, 0x0E, 1, .bytes, 48, .rwp, 0, 0, 0, true, false, false, true⟩
  , ⟨0x6010, 4, 0x0F, 1, .str, 223, .rwp, 1, 0, 0, true, false, false, true⟩
  , ⟨0x6010, 4, 0x10, 1, .u8, 1, .ro, 0, 0, 255, true, false, false, false⟩
  , ⟨0x6010, 4, 0x11, 1, .u64, 8, .wo, 0, 0, 0xFFFFFFFFFFFFFFFF, true, false, false, false⟩
  , ⟨0x6010, 4, 0x12, 1, .u8, 1, .ro, 0, 0, 255, true, false, false, false⟩
  , ⟨0x6010, 4, 0x13, 1, .bytes, 32, .ro, 0, 0, 0, true, false, false, false⟩
  , ⟨0x6010, 4, 0x14, 1, .u64, 8, .ro, 0, 0, 0xFFFFFFFFFFFFFFFF, true, false, false, false⟩
  , ⟨0x6010, 4, 0x15, 1, .bytes, 144, .ro, 0, 0, 0, true, false, false, false⟩
  , ⟨0x6010, 4, 0x16, 1, .u16, 2, .rw, 0, 0, 4095, true, true, false, false⟩
  , ⟨0x6010, 4, 0x17, 1, .bytes, 48, .ro, 0, 0, 0, true, false, false, false⟩
  , ⟨0x6020, 4, 0x01, 1, .u8, 1, .rw, 0, 0, 3, true, true, false, false⟩
  , ⟨0x6020, 4, 0x02, 1, .u64, 8, .ro, 0, 0, 0xFFFFFFFFFFFFFFFF, true, false, false, false⟩
  , ⟨0x6020, 4, 0x03, 1, .u16, 2, .ro, 0, 0, 65535, true, false, false, false⟩
  , ⟨0x6020, 4, 0x04, 1, .u16, 2, .rw, 0, 0, 65535, true, true, false, false⟩
  , ⟨0x6020, 4, 0x05, 1, .bytes, 64, .ro, 0, 0, 0, true, false, false, false⟩
  , ⟨0x2000, 1, 0x01, 1, .f32, 4, .ro, 0, 0, 4294967295, false, false, false, false⟩
  , ⟨0x2000, 1, 0x02, 1, .f32, 4, .ro, 0, 0, 4294967295, false, false, false, false⟩
  , ⟨0x2000, 1, 0x03, 1, .f32, 4, .ro, 0, 0, 4294967295, false, false, false, false⟩
  , ⟨0x2000, 1, 0x04, 1, .u16, 2, .rwp, 1700, 1000, 2000, false, false, false, true⟩
  , ⟨0x2000, 1, 0x05, 1, .u8, 1, .rwp, 10, 1, 60, false, false, false, true⟩
  , ⟨0x2000, 1, 0x06, 1, .u16, 2, .ro, 2000, 0, 65535, false, false, false, false⟩
  , ⟨0x2000, 1, 0x07, 1, .u16, 2, .rwp, 1200, 900, 2000, false, false, false, true⟩
  , ⟨0x2000, 1, 0x08, 1, .u8, 1, .ro, 0, 0, 255, false, false, false, false⟩
  , ⟨0x2000, 1, 0x09, 1, .u32, 4, .ro, 0, 0, 4294967295, false, false, false, false⟩
  , ⟨0x2000, 1, 0x0A, 1, .f32, 4, .ro, 0, 0, 4294967295, false, false, false, false⟩ ]

/-- Rows of the object tables, piece 9. -/
def rows9 : List ObjRow :=
  [ ⟨0x2000, 1, 0x0B, 1, .f32, 4, .ro, 0, 0, 4294967295, false, false, false, false⟩
  , ⟨0x2000, 1, 0x0C, 1, .u8, 1, .ro, 64, 0, 255, false, false, false, false⟩
  , ⟨0x2000, 1, 0x0D, 1, .u64, 8, .ro, 0, 0, 0xFFFFFFFFFFFFFFFF, false, false, false, false⟩
  , ⟨0x2000, 1, 0x0E, 1, .u64, 8, .ro, 0, 0, 0xFFFFFFFFFFFFFFFF, false, false, false, false⟩
  , ⟨0x2000, 1, 0x0F, 1, .u64, 8, .ro, 0, 0, 0xFFFFFFFFFFFFFFFF, false, false, false, false⟩
  , ⟨0x2000, 1, 0x10, 1, .u64, 8, .ro, 0, 0, 0xFFFFFFFFFFFFFFFF, false, false, false, false⟩
  , ⟨0x2000, 1, 0x11, 1, .u64, 8, .ro, 0, 0, 0xFFFFFFFFFFFFFFFF, false, false, false, false⟩
  , ⟨0x2000, 1, 0x12, 1, .bytes, 32, .ro, 16776960, 0, 0, false, false, false, true⟩
  , ⟨0x2001, 1, 0x01, 1, .u8, 1, .rwp, 1, 0, 255, false, false, false, true⟩
  , ⟨0x2001, 1, 0x02, 1, .u8, 1, .ro, 0, 0, 255, false, false, false, false⟩
  , ⟨0x2001, 1, 0x03, 1, .u16, 2, .ro, 0, 0, 65535, false, false, false, false⟩
  , ⟨0x2001, 1, 0x04, 1, .u16, 2, .rwp, 2200, 2000, 2200, false, false, false, true⟩
  , ⟨0x2001, 1, 0x05, 1, .u64, 8, .ro, 0, 0, 0xFFFFFFFFFFFFFFFF, false, false, false, false⟩
  , ⟨0x2001, 1, 0x06, 1, .u8, 1, .rwp, 20, 10, 60, false, false, false, true⟩
  , ⟨0x2010, 4, 0x01, 1, .f32, 4, .ro, 0, 0, 4294967295, false, false, false, false⟩
  , ⟨0x2010, 4, 0x02, 1, .u8, 1, .ro, 0, 0, 255, false, false, false, false⟩
  , ⟨0x2010, 4, 0x03, 1, .u8, 1, .ro, 0, 0, 255, false, false, false, false⟩
  , ⟨0x2010, 4, 0x04, 1, .u8, 1, .ro, 64, 0, 255, false, false, false, false⟩
  , ⟨0x2010, 4, 0x05, 1, .u8, 1, .ro, 64, 0, 255, false, false, false, false⟩
  , ⟨0x2010, 4, 0x06, 1, .u16, 2, .ro, 0, 0, 65535, false, false, false, false⟩
  , ⟨0x2010, 4, 0x07, 1, .f32, 4, .ro, 0, 0, 4294967295, false, false, false, false⟩
  , ⟨0x2010, 4, 0x08, 1, .u64, 8, .ro, 0, 0, 0xFFFFFFFFFFFFFFFF, false, false, false, false⟩
  , ⟨0x2010, 4, 0x09, 1, .u64, 8, .ro, 0, 0, 0xFFFFFFFFFFFFFFFF, false, false, false, false⟩
  , ⟨0x2010, 4, 0x0A, 1, .u64, 8, .ro, 0, 0, 0xFFFFFFFFFFFFFFFF, false, false, false, false⟩
  , ⟨0x2010, 4, 0x0B, 1, .u8, 1, .ro, 0, 0, 255, false, false, false, false⟩
  , ⟨0x2010, 4, 0x0C, 1, .u64, 8, .ro, 0, 0, 0xFFFFFFFFFFFFFFFF, false, false, false, false⟩
  , ⟨0x2014, 2, 0x01, 1, .f32, 4, .ro, 0, 0, 4294967295, false, false, false, false⟩
  , ⟨0x2014, 2, 0x02, 1, .u8, 1, .ro, 0, 0, 255, false, false, false, false⟩
  , ⟨0x2014, 2, 0x03, 1, .u8, 1, .ro, 0, 0, 255, false, false, false, false⟩
  , ⟨0x2014, 2, 0x04, 1, .u8, 1, .ro, 0, 0, 255, false, false, false, false⟩
  , ⟨0x2020, 1, 0x01, 1, .u8, 1, .rw, 0, 0, 5, false, true, false, false⟩
  , ⟨0x2020, 1, 0x02, 1, .u8, 1, .rw, 0, 0, 23, false, true, false, false⟩
  , ⟨0x2020, 1, 0x03, 1, .f32, 4, .ro, 0, 0, 4294967295, false, false, false, false⟩
  , ⟨0x2020, 1, 0x04, 1, .bool, 1, .ro, 0, 0, 1, false, false, false, false⟩
  , ⟨0x2030, 1, 0x01, 1, .u8, 1, .ro, 0, 0, 255, false, false, false, false⟩
  , ⟨0x2030, 1, 0x02, 1, .u64, 8, .ro, 0, 0, 0xFFFFFFFFFFFFFFFF, false, false, false, false⟩
  , ⟨0x4040, 1, 0x01, 1, .u16, 2, .rwp, 0, 0, 65535, false, false, false, true⟩
  , ⟨0x4040, 1, 0x02, 1, .u16, 2, .rwp, 65520, 0, 65535, false, false, false, true⟩
  , ⟨0x4040, 1, 0x03, 4, .u32, 4, .rwp, 16777215, 0, 16777215, false, false, false, true⟩
  , ⟨0x4040, 1, 0x07, 1, .bool, 1, .wo, 0, 0, 1, false, false, true, false⟩ ]

/-- Rows of the object tables, piece 10. -/
def rows10 : List ObjRow :=
  [ ⟨0x4040, 1, 0x08, 1, .u8, 1, .ro, 0, 0, 255, false, false, false, false⟩
  , ⟨0x4040, 1, 0x09, 1, .u64, 8, .ro, 0, 0, 0xFFFFFFFFFFFFFFFF, false, false, false, false⟩
  , ⟨0x4041, 4, 0x01, 1, .u16, 2, .ro, 0, 0, 65535, false, false, false, false⟩
  , ⟨0x4041, 4, 0x02, 1, .u8, 1, .ro, 0, 0, 255, false, false, false, false⟩
  , ⟨0x4041, 4, 0x03, 1, .u8, 1, .ro, 0, 0, 255, false, false, false, false⟩
  , ⟨0x4041, 4, 0x04, 1, .u64, 8, .ro, 0, 0, 0xFFFFFFFFFFFFFFFF, false, false, false, false⟩
  , ⟨0x4041, 4, 0x05, 1, .u64, 8, .ro, 0, 0, 0xFFFFFFFFFFFFFFFF, false, false, false, false⟩
  , ⟨0x4041, 4, 0x06, 1, .u64, 8, .ro, 0, 0, 0xFFFFFFFFFFFFFFFF, false, false, false, false⟩
  , ⟨0x4041, 4, 0x07, 1, .u64, 8, .ro, 0, 0, 0xFFFFFFFFFFFFFFFF, false, false, false, false⟩
  , ⟨0x4041, 4, 0x08, 1, .u64, 8, .ro, 0, 0, 0xFFFFFFFFFFFFFFFF, false, false, false, false⟩
  , ⟨0x4041, 4, 0x09, 1, .u64, 8, .ro, 0, 0, 0xFFFFFFFFFFFFFFFF, false, false, false, false⟩
  , ⟨0x4041, 4, 0x0A, 1, .u64, 8, .ro, 0, 0, 0xFFFFFFFFFFFFFFFF, false, false, false, false⟩
  , ⟨0x4041, 4, 0x0B, 1, .u64, 8, .ro, 0, 0, 0xFFFFFFFFFFFFFFFF, false, false, false, false⟩
  , ⟨0x1010, 1, 0x01, 1, .bytes, 6, .ro, 0, 0, 0, false, false, false, false⟩
  , ⟨0x1010, 1, 0x02, 1, .u8, 1, .ro, 0, 0, 255, false, false, false, false⟩
  , ⟨0x1010, 1, 0x03, 1, .u8, 1, .ro, 255, 0, 255, false, false, false, false⟩
  , ⟨0x1010, 1, 0x04, 1, .u8, 1, .ro, 0, 0, 255, false, false, false, false⟩
  , ⟨0x1010, 1, 0x05, 1, .u8, 1, .ro, 0, 0, 255, false, false, false, false⟩
  , ⟨0x1010, 1, 0x06, 1, .u64, 8, .ro, 0, 0, 0xFFFFFFFFFFFFFFFF, false, false, false, false⟩
  , ⟨0x1010, 1, 0x07, 1, .u64, 8, .ro, 0, 0, 0xFFFFFFFFFFFFFFFF, false, false, false, false⟩
  , ⟨0x1010, 1, 0x08, 1, .u64, 8, .ro, 0, 0, 0xFFFFFFFFFFFFFFFF, false, false, false, false⟩
  , ⟨0x1010, 1, 0x09, 1, .u8, 1, .rwp, 3, 0, 3, false, false, false, true⟩
  , ⟨0x1010, 1, 0x0A, 1, .bytes, 16, .rwp, 0, 0, 0, false, false, false, true⟩
  , ⟨0x1010, 1, 0x0B, 1, .u8, 1, .rwp, 64, 1, 128, false, false, false, true⟩
  , ⟨0x1010, 1, 0x0C, 1, .u16, 2, .ro, 5021, 0, 65535, false, false, false, false⟩
  , ⟨0x1010, 1, 0x0D, 1, .bool, 1, .wo, 0, 0, 1, false, false, true, false⟩
  , ⟨0x1011, 1, 0x01, 4, .u64, 8, .ro, 0, 0, 0xFFFFFFFFFFFFFFFF, false, false, false, false⟩
  , ⟨0x8000, 1, 0x01, 1, .u64, 8, .ro, 0, 0, 0xFFFFFFFFFFFFFFFF, false, false, false, false⟩
  , ⟨0x8000, 1, 0x02, 1, .u64, 8, .ro, 0, 0, 0xFFFFFFFFFFFFFFFF, false, false, false, false⟩
  , ⟨0x8000, 1, 0x03, 1, .u64, 8, .rw, 0, 0, 0xFFFFFFFFFFFFFFFF, false, true, false, false⟩
  , ⟨0x8000, 1, 0x04, 1, .bytes, 128, .ro, 0, 0, 0, false, false, false, false⟩
  , ⟨0x8000, 1, 0x05, 1, .u64, 8, .ro, 0, 0, 0xFFFFFFFFFFFFFFFF, false, false, false, false⟩
  , ⟨0x8000, 1, 0x06, 1, .u64, 8, .ro, 0, 0, 0xFFFFFFFFFFFFFFFF, false, false, false, false⟩
  , ⟨0x8001, 1, 0x01, 1, .u64, 8, .ro, 0, 0, 0xFFFFFFFFFFFFFFFF, false, false, false, false⟩
  , ⟨0x8001, 1, 0x02, 1, .u64, 8, .ro, 0, 0, 0xFFFFFFFFFFFFFFFF, false, false, false, false⟩
  , ⟨0x8001, 1, 0x03, 1, .u8, 1, .ro, 0, 0, 255, false, false, false, false⟩
  , ⟨0x8001, 1, 0x04, 1, .u8, 1, .ro, 0, 0, 255, false, false, false, false⟩
  , ⟨0x8001, 1, 0x05, 4, .u64, 8, .ro, 0, 0, 0xFFFFFFFFFFFFFFFF, false, false, false, false⟩
  , ⟨0x8001, 1, 0x09, 4, .u64, 8, .ro, 0, 0, 0xFFFFFFFFFFFFFFFF, false, false, false, false⟩
  , ⟨0x8001, 1, 0x0D, 1, .u8, 1, .ro, 0, 0, 255, false, false, false, false⟩ ]

/-- Rows of the object tables, piece 11. -/
def rows11 : List ObjRow :=
  [ ⟨0x8001, 1, 0x0E, 1, .u16, 2, .ro, 0, 0, 65535, false, false, false, false⟩
  , ⟨0x8001, 1, 0x0F, 1, .u8, 1, .ro, 0, 0, 255, false, false, false, false⟩
  , ⟨0x8001, 1, 0x10, 1, .u64, 8, .ro, 0, 0, 0xFFFFFFFFFFFFFFFF, false, false, false, false⟩
  , ⟨0x8001, 1, 0x11, 1, .u64, 8, .ro, 0, 0, 0xFFFFFFFFFFFFFFFF, false, false, false, false⟩
  , ⟨0x8001, 1, 0x12, 1, .u64, 8, .ro, 0, 0, 0xFFFFFFFFFFFFFFFF, false, false, false, false⟩
  , ⟨0x8001, 1, 0x13, 1, .u64, 8, .ro, 0, 0, 0xFFFFFFFFFFFFFFFF, false, false, false, false⟩
  , ⟨0x7000, 1, 0x01, 1, .time, 8, .ro, 0, 0, 0xFFFFFFFFFFFFFFFF, false, false, false, false⟩
  , ⟨0x7000, 1, 0x02, 1, .bool, 1, .ro, 0, 0, 1, false, false, false, true⟩
  , ⟨0x7000, 1, 0x03, 1, .time, 8, .wo, 0, 0, 0xFFFFFFFFFFFFFFFF, false, false, false, false⟩
  , ⟨0x7000, 1, 0x04, 1, .i32, 4, .rwp, 37, 0, 4294967295, false, false, false, true⟩
  , ⟨0x7000, 1, 0x05, 1, .u8, 1, .ro, 0, 0, 255, false, false, false, false⟩
  , ⟨0x7000, 1, 0x06, 1, .u8, 1, .ro, 0, 0, 255, false, false, false, false⟩
  , ⟨0x7000, 1, 0x07, 1, .f32, 4, .ro, 0, 0, 4294967295, false, false, false, false⟩
  , ⟨0x7000, 1, 0x08, 1, .f32, 4, .ro, 0, 0, 4294967295, false, false, false, false⟩
  , ⟨0x7000, 1, 0x09, 1, .u64, 8, .ro, 0, 0, 0xFFFFFFFFFFFFFFFF, false, false, false, false⟩
  , ⟨0x7010, 1, 0x01, 1, .u8, 1, .rwp, 3, 0, 3, false, false, false, true⟩
  , ⟨0x7010, 1, 0x02, 1, .u8, 1, .rwp, 0, 0, 127, false, false, false, true⟩
  , ⟨0x7010, 1, 0x03, 1, .u8, 1, .rwp, 0, 0, 1, false, false, false, true⟩
  , ⟨0x7010, 1, 0x04, 1, .u8, 1, .ro, 0, 0, 255, false, false, false, false⟩
  , ⟨0x7010, 1, 0x05, 1, .u8, 1, .ro, 255, 0, 255, false, false, false, false⟩
  , ⟨0x7010, 1, 0x06, 1, .i32, 4, .ro, 0, 0, 4294967295, false, false, false, false⟩
  , ⟨0x7010, 1, 0x07, 1, .u32, 4, .ro, 0, 0, 4294967295, false, false, false, false⟩
  , ⟨0x7010, 1, 0x08, 1, .bytes, 8, .ro, 0, 0, 0, false, false, false, false⟩
  , ⟨0x7010, 1, 0x09, 1, .u64, 8, .ro, 0, 0, 0xFFFFFFFFFFFFFFFF, false, false, false, false⟩
  , ⟨0x7020, 1, 0x01, 1, .u8, 1, .ro, 0, 0, 255, false, false, false, false⟩
  , ⟨0x7020, 1, 0x02, 1, .u8, 1, .ro, 0, 0, 255, false, false, false, true⟩
  , ⟨0x7020, 1, 0x03, 1, .u32, 4, .ro, 0, 0, 4294967295, false, false, false, true⟩
  , ⟨0x7020, 1, 0x04, 1, .u8, 1, .ro, 0, 0, 255, false, false, false, true⟩
  , ⟨0x7020, 1, 0x05, 1, .bytes, 32, .wo, 0, 0, 0, false, false, false, false⟩
  , ⟨0x7020, 1, 0x06, 1, .bytes, 40, .wo, 0, 0, 0, false, false, false, false⟩
  , ⟨0x7020, 1, 0x07, 1, .u8, 1, .rw, 0, 0, 7, false, true, false, false⟩
  , ⟨0x7020, 1, 0x08, 1, .bytes, 97, .rwp, 0, 0, 0, false, false, false, true⟩
  , ⟨0x7020, 1, 0x09, 1, .u8, 1, .rw, 0, 0, 127, false, true, false, false⟩
  , ⟨0x7020, 1, 0x0A, 1, .bytes, 48, .wo, 0, 0, 0, false, false, false, false⟩
  , ⟨0x7020, 1, 0x0B, 1, .u8, 1, .fuse, 0, 0, 15, false, false, false, true⟩
  , ⟨0x7030, 1, 0x01, 1, .u32, 4, .rw, 0, 0, 4294967295, false, false, false, false⟩
  , ⟨0x7030, 1, 0x02, 1, .bytes, 1024, .wo, 0, 0, 0, false, false, false, false⟩
  , ⟨0x7030, 1, 0x03, 1, .bool, 1, .wo, 0, 0, 1, false, false, true, false⟩
  , ⟨0x7030, 1, 0x04, 1, .u8, 1, .ro, 0, 0, 255, false, false, false, false⟩
  , ⟨0x7100, 1, 0x01, 1, .u16, 2, .rwl, 2000, 1000, 2000, false, false, false, true⟩ ]

/-- Rows of the object tables, piece 12. -/
def rows12 : List ObjRow :=
  [ ⟨0x7100, 1, 0x02, 1, .bool, 1, .rwl, 0, 0, 1, false, false, false, true⟩
  , ⟨0x7100, 1, 0x03, 1, .u32, 4, .rwl, 0, 0, 4294967295, false, false, false, true⟩
  , ⟨0x7100, 1, 0x04, 1, .bool, 1, .rwl, 0, 0, 1, false, false, false, true⟩
  , ⟨0x7100, 1, 0x05, 4, .u8, 1, .ro, 16, 0, 255, false, false, false, true⟩
  , ⟨0x7200, 1, 0x01, 1, .u64, 8, .ro, 0, 0, 0xFFFFFFFFFFFFFFFF, false, false, false, false⟩
  , ⟨0x7200, 1, 0x02, 1, .u64, 8, .ro, 0, 0, 0xFFFFFFFFFFFFFFFF, false, false, false, false⟩
  , ⟨0x7200, 1, 0x03, 1, .u16, 2, .ro, 0, 0, 65535, false, false, false, false⟩
  , ⟨0x7200, 1, 0x04, 1, .u64, 8, .rw, 0, 0, 0xFFFFFFFFFFFFFFFF, false, true, false, false⟩
  , ⟨0x7200, 1, 0x05, 1, .bytes, 128, .ro, 0, 0, 0, false, false, false, false⟩
  , ⟨0x7200, 1, 0x06, 1, .bool, 1, .ro, 0, 0, 1, false, false, false, false⟩
  , ⟨0x1020, 1, 0x01, 1, .u8, 1, .ro, 0, 0, 255, false, false, false, false⟩
  , ⟨0x1020, 1, 0x02, 1, .u8, 1, .ro, 1, 0, 255, false, false, false, true⟩
  , ⟨0x1020, 1, 0x03, 1, .u8, 1, .ro, 0, 0, 255, false, false, false, false⟩
  , ⟨0x1020, 1, 0x04, 1, .bytes, 32, .ro, 1208907372871654976716800, 0, 0, false, false, false, false⟩
  , ⟨0x1020, 1, 0x05, 1, .bool, 1, .wo, 0, 0, 1, false, false, true, false⟩
  , ⟨0x1020, 1, 0x06, 1, .u64, 8, .ro, 0, 0, 0xFFFFFFFFFFFFFFFF, false, false, false, true⟩
  , ⟨0x1020, 1, 0x07, 1, .u32, 4, .ro, 0, 0, 4294967295, false, false, false, false⟩
  , ⟨0x1020, 1, 0x08, 1, .u64, 8, .ro, 0, 0, 0xFFFFFFFFFFFFFFFF, false, false, false, true⟩
  , ⟨0x1020, 1, 0x09, 1, .u64, 8, .ro, 0, 0, 0xFFFFFFFFFFFFFFFF, false, false, false, true⟩
  , ⟨0x1020, 1, 0x0A, 1, .bool, 1, .ro, 0, 0, 1, false, false, false, false⟩
  , ⟨0x1021, 1, 0x01, 9, .u32, 4, .ro, 0, 0, 4294967295, false, false, false, false⟩ ]

/-- Every object row of the spec (R520). -/
def rows : List ObjRow :=
  rows0 ++ rows1 ++ rows2 ++ rows3 ++ rows4 ++ rows5 ++ rows6 ++ rows7 ++ rows8 ++ rows9 ++ rows10 ++ rows11 ++ rows12

/-- Non-zero defaults, piece 0. -/
def nonzero0 : Tab Nat :=
  [ (0x100001, 1928560955247493571252237255450976589), (0x100002, 6192974277581222399792130686940243), (0x100004, 70), (0x100005, 384), (0x100006, 412316860416), (0x100007, 408021893120), (0x100008, 4398046511104), (0x100009, 24), (0x10000A, 1572864), (0x101003, 255), (0x101009, 3), (0x10100B, 64), (0x10100C, 5021), (0x102002, 1), (0x102004, 1208907372871654976716800), (0x200004, 1700), (0x200005, 10), (0x200006, 2000), (0x200007, 1200), (0x20000C, 64), (0x200012, 16776960), (0x200101, 1), (0x200104, 2200), (0x200106, 20), (0x201004, 64), (0x201005, 64), (0x201104, 64), (0x201105, 64), (0x201204, 64), (0x201205, 64), (0x201304, 64), (0x201305, 64), (0x300002, 20000), (0x300003, 16), (0x300004, 20000), (0x300005, 8), (0x300101, 1), (0x300201, 1), (0x300301, 1), (0x300401, 1), (0x300501, 1), (0x300504, 1), (0x300601, 1), (0x300604, 1), (0x300701, 1), (0x300704, 1), (0x300801, 1), (0x300804, 1), (0x300901, 1), (0x300904, 2), (0x300A01, 1), (0x300A04, 2), (0x300B01, 1), (0x300B04, 2), (0x300C01, 1), (0x300C04, 2), (0x300D01, 1), (0x300D04, 2), (0x300E01, 1), (0x300E04, 2) ]

/-- Non-zero defaults, piece 1. -/
def nonzero1 : Tab Nat :=
  [ (0x300F01, 1), (0x300F04, 2), (0x301001, 1), (0x301004, 2), (0x301101, 1), (0x301104, 2), (0x301201, 1), (0x301204, 2), (0x301301, 1), (0x301304, 2), (0x301401, 1), (0x301404, 2), (0x301501, 1), (0x301504, 2), (0x301601, 1), (0x301604, 2), (0x301701, 1), (0x301704, 2), (0x301801, 1), (0x301804, 2), (0x310001, 32), (0x310002, 200000), (0x310003, 1048576), (0x310004, 1000000), (0x312002, 18446744069414584320), (0x320001, 32), (0x320002, 100000), (0x320003, 540), (0x320004, 4), (0x320005, 10), (0x32000E, 2), (0x320102, 6250), (0x320103, 12500), (0x320104, 18750), (0x320105, 25000), (0x320106, 31250), (0x320107, 37500), (0x320108, 43750), (0x320109, 50000), (0x32010A, 56250), (0x32010B, 62500), (0x32010C, 68750), (0x32010D, 75000), (0x32010E, 81250), (0x32010F, 87500), (0x320110, 93750), (0x321002, 1), (0x322001, 340282366920938463463374607431768211455), (0x322002, 340282366920938463463374607431768211455), (0x322007, 8), (0x330002, 16383), (0x330007, 1073741568), (0x330008, 1000), (0x331002, 72057576858058752), (0x331004, 372682923094226261407674479263118363566921406742528), (0x400001, 50000), (0x400007, 255), (0x400008, 255), (0x40000A, 200), (0x40000B, 31) ]

/-- Non-zero defaults, piece 2. -/
def nonzero2 : Tab Nat :=
  [ (0x40000C, 250), (0x40000D, 16), (0x40000E, 8), (0x40001E, 16), (0x401401, 1), (0x401403, 67108864), (0x402007, 24), (0x403006, 255), (0x403106, 255), (0x403206, 255), (0x403306, 255), (0x403406, 255), (0x403506, 255), (0x403606, 255), (0x403706, 255), (0x404002, 65520), (0x404003, 16777215), (0x60100B, 1), (0x60100F, 1), (0x60110B, 1), (0x60110F, 1), (0x60120B, 1), (0x60120F, 1), (0x60130B, 1), (0x60130F, 1), (0x608002, 20000000000000000), (0x608004, 1), (0x700004, 37), (0x701001, 3), (0x701005, 255), (0x710001, 2000), (0x710005, 16), (0x710006, 32), (0x710007, 64), (0x710008, 1) ]

/-- The objects whose default is not zero, by key. The fused serial and address are `Config` constants (R29, R493). -/
def nonzero : Tab Nat := nonzero0 ++ nonzero1 ++ nonzero2

end Dict

namespace O

/-- CONFIGURATION (R5). -/
abbrev CONFIGURATION : Nat := 0x100004
/-- VENDOR_NAME (R29). -/
abbrev VENDOR_NAME : Nat := 0x100001
/-- PRODUCT_NAME (R29). -/
abbrev PRODUCT_NAME : Nat := 0x100002
/-- MODULE_SERIAL (R29). -/
abbrev MODULE_SERIAL : Nat := 0x100003
/-- TILE_COUNT (R29). -/
abbrev TILE_COUNT : Nat := 0x100005
/-- HBM_BYTES (R29). -/
abbrev HBM_BYTES : Nat := 0x100006
/-- HBM_IMAGE_BYTES (R29). -/
abbrev HBM_IMAGE_BYTES : Nat := 0x100007
/-- FLASH_BYTES (R29). -/
abbrev FLASH_BYTES : Nat := 0x100008
/-- TENSOR_LINK_COUNT (R29). -/
abbrev TENSOR_LINK_COUNT : Nat := 0x100009
/-- PEAK_MAC_PER_CYCLE_8BIT (R29). -/
abbrev PEAK_MAC_PER_CYCLE_8BIT : Nat := 0x10000A
/-- BEAT_PERIOD_NS (R73). -/
abbrev BEAT_PERIOD_NS : Nat := 0x400001
/-- BEAT_STATE (R73). -/
abbrev BEAT_STATE : Nat := 0x400002
/-- BEAT_ROLE (R73). -/
abbrev BEAT_ROLE : Nat := 0x400003
/-- BEAT_COUNT (R73). -/
abbrev BEAT_COUNT : Nat := 0x400004
/-- SCHEDULE_BEAT (R73). -/
abbrev SCHEDULE_BEAT : Nat := 0x400005
/-- BEAT_START_COUNT (R73). -/
abbrev BEAT_START_COUNT : Nat := 0x400006
/-- UPSTREAM_PRIMARY (R73). -/
abbrev UPSTREAM_PRIMARY : Nat := 0x400007
/-- UPSTREAM_SECONDARY (R73). -/
abbrev UPSTREAM_SECONDARY : Nat := 0x400008
/-- DOWNSTREAM_MASK (R73). -/
abbrev DOWNSTREAM_MASK : Nat := 0x400009
/-- SWITCH_SUBSLOT_NS (R73). -/
abbrev SWITCH_SUBSLOT_NS : Nat := 0x40000A
/-- SLACK_CAUSE_ENABLE (R73). -/
abbrev SLACK_CAUSE_ENABLE : Nat := 0x40000B
/-- SLACK_GUARD_NS (R73). -/
abbrev SLACK_GUARD_NS : Nat := 0x40000C
/-- SLACK_MAX_N (R73). -/
abbrev SLACK_MAX_N : Nat := 0x40000D
/-- CONSEC_SLIP_LIMIT (R73). -/
abbrev CONSEC_SLIP_LIMIT : Nat := 0x40000E
/-- HOLD_RELEASE (R73). -/
abbrev HOLD_RELEASE : Nat := 0x40000F
/-- MACHINE_HOLD (R73). -/
abbrev MACHINE_HOLD : Nat := 0x400010
/-- SLACK_REQ_SENT (R73). -/
abbrev SLACK_REQ_SENT : Nat := 0x400011
/-- SLACK_GRANTED_BEATS (R73). -/
abbrev SLACK_GRANTED_BEATS : Nat := 0x400012
/-- SLACK_TOTAL_NS (R73). -/
abbrev SLACK_TOTAL_NS : Nat := 0x400013
/-- SLIP_REQ_SENT (R73). -/
abbrev SLIP_REQ_SENT : Nat := 0x400014
/-- SLIP_BEATS (R73). -/
abbrev SLIP_BEATS : Nat := 0x400015
/-- HOLD_BEATS (R73). -/
abbrev HOLD_BEATS : Nat := 0x400016
/-- NEAR_MISS_EDGE (R73). -/
abbrev NEAR_MISS_EDGE : Nat := 0x400017
/-- NEAR_MISS_NS (R73). -/
abbrev NEAR_MISS_NS : Nat := 0x400018
/-- LATE_REQ_DROPPED (R73). -/
abbrev LATE_REQ_DROPPED : Nat := 0x400019
/-- STALE_REQ_DROPPED (R73). -/
abbrev STALE_REQ_DROPPED : Nat := 0x40001A
/-- EDGE_PATH_MISMATCH (R73). -/
abbrev EDGE_PATH_MISMATCH : Nat := 0x40001B
/-- UNPLANNED_OVERRUN (R73). -/
abbrev UNPLANNED_OVERRUN : Nat := 0x40001C
/-- REF_NS (R73). -/
abbrev REF_NS : Nat := 0x40001D
/-- SLACK_EVENT_THRESHOLD (R73). -/
abbrev SLACK_EVENT_THRESHOLD : Nat := 0x40001E
/-- BEAT_RELEASE (R73). -/
abbrev BEAT_RELEASE : Nat := 0x40001F
/-- EDGE_DELAY_TL0 (R73). -/
abbrev EDGE_DELAY_TL0 : Nat := 0x400101
/-- MAP_RECORD_COUNT (R73). -/
abbrev MAP_RECORD_COUNT : Nat := 0x400201
/-- MAP_RECORD_SELECT (R73). -/
abbrev MAP_RECORD_SELECT : Nat := 0x400202
/-- MAP_RECORD (R73). -/
abbrev MAP_RECORD : Nat := 0x400203
/-- GRAD_SHIFT (R98). -/
abbrev GRAD_SHIFT : Nat := 0x510001
/-- GRAD_SHIFT_MIN (R98). -/
abbrev GRAD_SHIFT_MIN : Nat := 0x510002
/-- GRAD_SHIFT_MAX (R98). -/
abbrev GRAD_SHIFT_MAX : Nat := 0x510003
/-- SHIFT_DOWN_AFTER (R98). -/
abbrev SHIFT_DOWN_AFTER : Nat := 0x510004
/-- SHIFT_UP_AFTER (R98). -/
abbrev SHIFT_UP_AFTER : Nat := 0x510005
/-- SKIP_RUN (R98). -/
abbrev SKIP_RUN : Nat := 0x510006
/-- CLEAN_RUN (R98). -/
abbrev CLEAN_RUN : Nat := 0x510007
/-- SHIFT_UP_COUNT (R98). -/
abbrev SHIFT_UP_COUNT : Nat := 0x510008
/-- SHIFT_DOWN_COUNT (R98). -/
abbrev SHIFT_DOWN_COUNT : Nat := 0x510009
/-- SHIFT_FLOOR_COUNT (R98). -/
abbrev SHIFT_FLOOR_COUNT : Nat := 0x51000A
/-- NAN_BLOCKS_WRITTEN (R98). -/
abbrev NAN_BLOCKS_WRITTEN : Nat := 0x51000B
/-- SATURATED_ELEMENTS (R98). -/
abbrev SATURATED_ELEMENTS : Nat := 0x51000C
/-- REBASED_RUNS_INEXACT (R98). -/
abbrev REBASED_RUNS_INEXACT : Nat := 0x51000D
/-- DEBUG_ENABLE (R128). -/
abbrev DEBUG_ENABLE : Nat := 0xF00001
/-- DEBUG_PARTITION (R128). -/
abbrev DEBUG_PARTITION : Nat := 0xF00002
/-- DEBUG_HALT (R128). -/
abbrev DEBUG_HALT : Nat := 0xF00003
/-- DEBUG_HALTED (R128). -/
abbrev DEBUG_HALTED : Nat := 0xF00004
/-- COLLECTOR_TILE (R128). -/
abbrev COLLECTOR_TILE : Nat := 0xF00401
/-- COLLECTOR_ROW (R128). -/
abbrev COLLECTOR_ROW : Nat := 0xF00402
/-- COLLECTOR_ROW_DATA (R128). -/
abbrev COLLECTOR_ROW_DATA : Nat := 0xF00403
/-- COLLECTOR_ROW_STATE (R128). -/
abbrev COLLECTOR_ROW_STATE : Nat := 0xF00404
/-- ROW_PASSES (R129). -/
abbrev ROW_PASSES : Nat := 0x511001
/-- ROW_PASSES_SR (R129). -/
abbrev ROW_PASSES_SR : Nat := 0x511002
/-- GRIST_BLOCKS (R129). -/
abbrev GRIST_BLOCKS : Nat := 0x511003
/-- LONGSUM_ROWS (R129). -/
abbrev LONGSUM_ROWS : Nat := 0x511004
/-- SUMSAT_ROWS (R129). -/
abbrev SUMSAT_ROWS : Nat := 0x511005
/-- STATIONARY_STALL_CYCLES (R129). -/
abbrev STATIONARY_STALL_CYCLES : Nat := 0x511006
/-- EPILOGUE_ROWS (R129). -/
abbrev EPILOGUE_ROWS : Nat := 0x511007
/-- SQUASHED_ROWS (R129). -/
abbrev SQUASHED_ROWS : Nat := 0x511008
/-- LONGEST_SUM_BLOCKS (R129). -/
abbrev LONGEST_SUM_BLOCKS : Nat := 0x511009
/-- VECTOR_LANE_OPS (R159). -/
abbrev VECTOR_LANE_OPS : Nat := 0x512001
/-- DRAIN_COUPLED_ROWS (R159). -/
abbrev DRAIN_COUPLED_ROWS : Nat := 0x512002
/-- VECTOR_STALL_CYCLES (R159). -/
abbrev VECTOR_STALL_CYCLES : Nat := 0x512003
/-- TRIM_SLOTS_USED (R159). -/
abbrev TRIM_SLOTS_USED : Nat := 0x512004
/-- STATUS_BANK0 (R159). -/
abbrev STATUS_BANK0 : Nat := 0x512005
/-- STATUS_BANK1 (R159). -/
abbrev STATUS_BANK1 : Nat := 0x512006
/-- FIRST_NONFINITE_BANK0 (R159). -/
abbrev FIRST_NONFINITE_BANK0 : Nat := 0x512007
/-- FIRST_NONFINITE_BANK1 (R159). -/
abbrev FIRST_NONFINITE_BANK1 : Nat := 0x512008
/-- SHEAF_SELECT (R159). -/
abbrev SHEAF_SELECT : Nat := 0x512009
/-- SHEAF_STATUS (R159). -/
abbrev SHEAF_STATUS : Nat := 0x51200A
/-- VOTE_FAIL_STEPS (R159). -/
abbrev VOTE_FAIL_STEPS : Nat := 0x51200B
/-- RATIO_LOW_COUNT (R159). -/
abbrev RATIO_LOW_COUNT : Nat := 0x51200C
/-- RATIO_HIGH_COUNT (R159). -/
abbrev RATIO_HIGH_COUNT : Nat := 0x51200D
/-- RATIO_VETO_COUNT (R159). -/
abbrev RATIO_VETO_COUNT : Nat := 0x51200E
/-- RATIO_SKIPPED (R159). -/
abbrev RATIO_SKIPPED : Nat := 0x51200F
/-- NORM_SLOT_SELECT (R160). -/
abbrev NORM_SLOT_SELECT : Nat := 0x514001
/-- NORM_SLOT_BANK (R160). -/
abbrev NORM_SLOT_BANK : Nat := 0x514002
/-- NORM_SLOT_DATA (R160). -/
abbrev NORM_SLOT_DATA : Nat := 0x514003
/-- NORM_HISTORY_COUNT (R160). -/
abbrev NORM_HISTORY_COUNT : Nat := 0x514004
/-- NORM_HISTORY_SELECT (R160). -/
abbrev NORM_HISTORY_SELECT : Nat := 0x514005
/-- NORM_HISTORY_ENTRY (R160). -/
abbrev NORM_HISTORY_ENTRY : Nat := 0x514006
/-- LAST_STEP (R186). -/
abbrev LAST_STEP : Nat := 0x513001
/-- STEP_SPILL_BYTES (R186). -/
abbrev STEP_SPILL_BYTES : Nat := 0x513002
/-- STEP_SPILL_WAIT_CYCLES (R186). -/
abbrev STEP_SPILL_WAIT_CYCLES : Nat := 0x513003
/-- STEP_RECOMPUTE_ROW_PASSES (R186). -/
abbrev STEP_RECOMPUTE_ROW_PASSES : Nat := 0x513004
/-- STEP_ACC_RELEASE_WAIT_CYCLES (R186). -/
abbrev STEP_ACC_RELEASE_WAIT_CYCLES : Nat := 0x513005
/-- STEP_FOLD_ROWS (R186). -/
abbrev STEP_FOLD_ROWS : Nat := 0x513006
/-- STEP_LAYER_READY (R186). -/
abbrev STEP_LAYER_READY : Nat := 0x513007
/-- SPILL_BYTES_TOTAL (R186). -/
abbrev SPILL_BYTES_TOTAL : Nat := 0x513008
/-- SPILL_WAIT_CYCLES_TOTAL (R186). -/
abbrev SPILL_WAIT_CYCLES_TOTAL : Nat := 0x513009
/-- RECOMPUTE_ROW_PASSES_TOTAL (R186). -/
abbrev RECOMPUTE_ROW_PASSES_TOTAL : Nat := 0x51300A
/-- ACC_RELEASE_WAIT_CYCLES_TOTAL (R186). -/
abbrev ACC_RELEASE_WAIT_CYCLES_TOTAL : Nat := 0x51300B
/-- LAYER_READY_DISCARDED (R186). -/
abbrev LAYER_READY_DISCARDED : Nat := 0x51300C
/-- GRAIN_ROWS (R186). -/
abbrev GRAIN_ROWS : Nat := 0x51300D
/-- MAX_GRAINS (R186). -/
abbrev MAX_GRAINS : Nat := 0x51300E
/-- MICROBATCHES_PER_STEP (R186). -/
abbrev MICROBATCHES_PER_STEP : Nat := 0x51300F
/-- KEEP_LAYERS (R186). -/
abbrev KEEP_LAYERS : Nat := 0x513010
/-- ACT_STORE_PLAN_BYTES (R186). -/
abbrev ACT_STORE_PLAN_BYTES : Nat := 0x513011
/-- SPILL_REGION_BYTES (R186). -/
abbrev SPILL_REGION_BYTES : Nat := 0x513012
/-- STEP_NUMBER (R213). -/
abbrev STEP_NUMBER : Nat := 0x515001
/-- OPT_T (R213). -/
abbrev OPT_T : Nat := 0x515002
/-- COMMITTED_STEPS (R213). -/
abbrev COMMITTED_STEPS : Nat := 0x515003
/-- SKIPPED_STEPS (R213). -/
abbrev SKIPPED_STEPS : Nat := 0x515004
/-- CONSEC_SKIPS (R213). -/
abbrev CONSEC_SKIPS : Nat := 0x515005
/-- VOTE_STATE (R213). -/
abbrev VOTE_STATE : Nat := 0x515006
/-- LAST_GLOBAL_NORM (R213). -/
abbrev LAST_GLOBAL_NORM : Nat := 0x515007
/-- LAST_CLIP (R213). -/
abbrev LAST_CLIP : Nat := 0x515008
/-- SPEC_OPS_SQUASHED (R213). -/
abbrev SPEC_OPS_SQUASHED : Nat := 0x515009
/-- SPEC_DROPPED (R213). -/
abbrev SPEC_DROPPED : Nat := 0x51500A
/-- VOTE_LATE_DROPPED (R213). -/
abbrev VOTE_LATE_DROPPED : Nat := 0x51500B
/-- LAST_VOTE_LATENCY_NS (R213). -/
abbrev LAST_VOTE_LATENCY_NS : Nat := 0x51500C
/-- PARAM_REUSED (R213). -/
abbrev PARAM_REUSED : Nat := 0x51500D
/-- STEP_PARAM (R213). -/
abbrev STEP_PARAM : Nat := 0x51500E
/-- STEP_RECORD_COUNT (R213). -/
abbrev STEP_RECORD_COUNT : Nat := 0x51500F
/-- STEP_RECORD_SELECT (R213). -/
abbrev STEP_RECORD_SELECT : Nat := 0x515010
/-- STEP_RECORD (R213). -/
abbrev STEP_RECORD : Nat := 0x515011
/-- LAYER_NORM_SELECT (R213). -/
abbrev LAYER_NORM_SELECT : Nat := 0x515012
/-- LAYER_NORM (R213). -/
abbrev LAYER_NORM : Nat := 0x515013
/-- IMAGE_STATE (R240). -/
abbrev IMAGE_STATE : Nat := 0x401001
/-- LOAD_STATUS (R240). -/
abbrev LOAD_STATUS : Nat := 0x401002
/-- IMAGE_DIGEST (R240). -/
abbrev IMAGE_DIGEST : Nat := 0x401003
/-- JOB_ID (R240). -/
abbrev JOB_ID : Nat := 0x401004
/-- CONTRACT_LEVEL (R240). -/
abbrev CONTRACT_LEVEL : Nat := 0x401005
/-- STAGE_INDEX (R240). -/
abbrev STAGE_INDEX : Nat := 0x401006
/-- MEMBER_INDEX (R240). -/
abbrev MEMBER_INDEX : Nat := 0x401007
/-- MIN_PERIOD_NOMINAL_NS (R240). -/
abbrev MIN_PERIOD_NOMINAL_NS : Nat := 0x401008
/-- MIN_PERIOD_FIXED_NS (R240). -/
abbrev MIN_PERIOD_FIXED_NS : Nat := 0x401009
/-- STEP_BEATS (R240). -/
abbrev STEP_BEATS : Nat := 0x40100A
/-- STEP_STRIDE (R240). -/
abbrev STEP_STRIDE : Nat := 0x40100B
/-- START_BEAT (R240). -/
abbrev START_BEAT : Nat := 0x40100C
/-- PROGRAM_BASE (R240). -/
abbrev PROGRAM_BASE : Nat := 0x40100D
/-- UNLOAD (R240). -/
abbrev UNLOAD : Nat := 0x40100E
/-- LOADS (R240). -/
abbrev LOADS : Nat := 0x40100F
/-- REFUSALS (R240). -/
abbrev REFUSALS : Nat := 0x401010
/-- MB_REJECTED (R240). -/
abbrev MB_REJECTED : Nat := 0x401011
/-- EMPTY_ENTRIES (R240). -/
abbrev EMPTY_ENTRIES : Nat := 0x401012
/-- CONTRACT_MAJOR (R240). -/
abbrev CONTRACT_MAJOR : Nat := 0x401401
/-- CONTRACT_MINOR_MAX (R240). -/
abbrev CONTRACT_MINOR_MAX : Nat := 0x401402
/-- IMAGE_LEN_MAX (R240). -/
abbrev IMAGE_LEN_MAX : Nat := 0x401403
/-- SHEAVES_LOADED (R240). -/
abbrev SHEAVES_LOADED : Nat := 0x401404
/-- OPS_ISSUED (R268). -/
abbrev OPS_ISSUED : Nat := 0x516001
/-- NULL_COMPLETIONS (R268). -/
abbrev NULL_COMPLETIONS : Nat := 0x516002
/-- INDEX_RANGE_ROWS (R268). -/
abbrev INDEX_RANGE_ROWS : Nat := 0x516003
/-- EMBED_PASSES_ISSUED (R268). -/
abbrev EMBED_PASSES_ISSUED : Nat := 0x516004
/-- EMBED_PASSES_SKIPPED (R268). -/
abbrev EMBED_PASSES_SKIPPED : Nat := 0x516005
/-- COLLECTIVE_START_WAIT_CYCLES (R268). -/
abbrev COLLECTIVE_START_WAIT_CYCLES : Nat := 0x516006
/-- TRANSFER_BYTES (R268). -/
abbrev TRANSFER_BYTES : Nat := 0x516007
/-- OFFLOAD_BYTES (R268). -/
abbrev OFFLOAD_BYTES : Nat := 0x516008
/-- OFFLOAD_FAULTS (R268). -/
abbrev OFFLOAD_FAULTS : Nat := 0x516009
/-- DIGESTS_COMPLETED (R268). -/
abbrev DIGESTS_COMPLETED : Nat := 0x51600A
/-- HBM_CE_TOTAL (R298). -/
abbrev HBM_CE_TOTAL : Nat := 0x402001
/-- HBM_UE_TOTAL (R298). -/
abbrev HBM_UE_TOTAL : Nat := 0x402002
/-- SRAM_CE_TOTAL (R298). -/
abbrev SRAM_CE_TOTAL : Nat := 0x402003
/-- SRAM_UE_TOTAL (R298). -/
abbrev SRAM_UE_TOTAL : Nat := 0x402004
/-- POISON_READS (R298). -/
abbrev POISON_READS : Nat := 0x402005
/-- SCRUB_PASSES (R298). -/
abbrev SCRUB_PASSES : Nat := 0x402006
/-- SCRUB_PERIOD_H (R298). -/
abbrev SCRUB_PERIOD_H : Nat := 0x402007
/-- ACCESS_REFUSED (R298). -/
abbrev ACCESS_REFUSED : Nat := 0x402008
/-- LAST_REFUSAL (R298). -/
abbrev LAST_REFUSAL : Nat := 0x402009
/-- LAST_UE (R298). -/
abbrev LAST_UE : Nat := 0x40200A
/-- DIE_MASK (R298). -/
abbrev DIE_MASK : Nat := 0x402401
/-- STACK_MASK (R298). -/
abbrev STACK_MASK : Nat := 0x402402
/-- HBM_BYTES_OWNED (R298). -/
abbrev HBM_BYTES_OWNED : Nat := 0x402403
/-- NOT_OWNER_COUNT (R298). -/
abbrev NOT_OWNER_COUNT : Nat := 0x402404
/-- REMOTE_REFUSED (R298). -/
abbrev REMOTE_REFUSED : Nat := 0x402405
/-- STORE_BUSY_COUNT (R298). -/
abbrev STORE_BUSY_COUNT : Nat := 0x402406
/-- CE_COUNT (R298). -/
abbrev CE_COUNT : Nat := 0x403001
/-- UE_COUNT (R298). -/
abbrev UE_COUNT : Nat := 0x403002
/-- POISONED_UNITS (R298). -/
abbrev POISONED_UNITS : Nat := 0x403003
/-- BYTES_READ (R298). -/
abbrev BYTES_READ : Nat := 0x403004
/-- BYTES_WRITTEN (R298). -/
abbrev BYTES_WRITTEN : Nat := 0x403005
/-- OWNER_PARTITION (R298). -/
abbrev OWNER_PARTITION : Nat := 0x403006
/-- REPAIRS_PENDING (R298). -/
abbrev REPAIRS_PENDING : Nat := 0x403007
/-- FLASH_BYTES_WRITTEN (R298). -/
abbrev FLASH_BYTES_WRITTEN : Nat := 0x608001
/-- FLASH_ENDURANCE_BYTES (R298). -/
abbrev FLASH_ENDURANCE_BYTES : Nat := 0x608002
/-- FLASH_LIFE_USED (R298). -/
abbrev FLASH_LIFE_USED : Nat := 0x608003
/-- FLASH_WRITE_ENABLED (R298). -/
abbrev FLASH_WRITE_ENABLED : Nat := 0x608004
/-- FLASH_UNREADABLE_UNITS (R298). -/
abbrev FLASH_UNREADABLE_UNITS : Nat := 0x608005
/-- LINKS_UP (R327). -/
abbrev LINKS_UP : Nat := 0x300001
/-- REPLAY_TIMEOUT_NS (R327). -/
abbrev REPLAY_TIMEOUT_NS : Nat := 0x300002
/-- RETRY_BURST_LIMIT (R327). -/
abbrev RETRY_BURST_LIMIT : Nat := 0x300003
/-- LANE_SER_LIMIT (R327). -/
abbrev LANE_SER_LIMIT : Nat := 0x300004
/-- TRAIN_ATTEMPTS (R327). -/
abbrev TRAIN_ATTEMPTS : Nat := 0x300005
/-- LINK_ENABLE (R327). -/
abbrev LINK_ENABLE : Nat := 0x300101
/-- LINK_STATE (R327). -/
abbrev LINK_STATE : Nat := 0x300102
/-- ACTIVE_LANES (R327). -/
abbrev ACTIVE_LANES : Nat := 0x300103
/-- REACH_CLASS (R327). -/
abbrev REACH_CLASS : Nat := 0x300104
/-- ENCRYPT_ENABLE (R327). -/
abbrev ENCRYPT_ENABLE : Nat := 0x300105
/-- ENCRYPT_ACTIVE (R327). -/
abbrev ENCRYPT_ACTIVE : Nat := 0x300106
/-- DATA_FLITS_TX (R327). -/
abbrev DATA_FLITS_TX : Nat := 0x300107
/-- DATA_FLITS_RX (R327). -/
abbrev DATA_FLITS_RX : Nat := 0x300108
/-- FEC_CORRECTED (R327). -/
abbrev FEC_CORRECTED : Nat := 0x300109
/-- FEC_UNCORRECTABLE (R327). -/
abbrev FEC_UNCORRECTABLE : Nat := 0x30010A
/-- CRC_FAIL (R327). -/
abbrev CRC_FAIL : Nat := 0x30010B
/-- AUTH_FAIL (R327). -/
abbrev AUTH_FAIL : Nat := 0x30010C
/-- REPLAYS (R327). -/
abbrev REPLAYS : Nat := 0x30010D
/-- REPLAYED_FLITS (R327). -/
abbrev REPLAYED_FLITS : Nat := 0x30010E
/-- LANE_DROPS_PLANNED (R327). -/
abbrev LANE_DROPS_PLANNED : Nat := 0x30010F
/-- LANE_DROPS_UNPLANNED (R327). -/
abbrev LANE_DROPS_UNPLANNED : Nat := 0x300110
/-- DEGRADED_NS (R327). -/
abbrev DEGRADED_NS : Nat := 0x300111
/-- RETRAINS (R327). -/
abbrev RETRAINS : Nat := 0x300112
/-- MALFORMED_CTRL (R327). -/
abbrev MALFORMED_CTRL : Nat := 0x300113
/-- LAST_TRAIN_MS (R327). -/
abbrev LAST_TRAIN_MS : Nat := 0x300114
/-- LANE0_CORRECTED (R327). -/
abbrev LANE0_CORRECTED : Nat := 0x300115
/-- FRAMING_LOSS (R327). -/
abbrev FRAMING_LOSS : Nat := 0x300119
/-- TRAIN_ATTEMPTS_FAILED (R327). -/
abbrev TRAIN_ATTEMPTS_FAILED : Nat := 0x30011A
/-- HOP_LIMIT (R365). -/
abbrev HOP_LIMIT : Nat := 0x310001
/-- REQ_TIMEOUT_NS (R365). -/
abbrev REQ_TIMEOUT_NS : Nat := 0x310002
/-- FLOW_WINDOW_BYTES (R365). -/
abbrev FLOW_WINDOW_BYTES : Nat := 0x310003
/-- CONTEXT_IDLE_NS (R365). -/
abbrev CONTEXT_IDLE_NS : Nat := 0x310004
/-- CONTEXTS_OPEN (R365). -/
abbrev CONTEXTS_OPEN : Nat := 0x310005
/-- TAGS_IN_USE (R365). -/
abbrev TAGS_IN_USE : Nat := 0x310006
/-- PACKETS_FORWARDED (R365). -/
abbrev PACKETS_FORWARDED : Nat := 0x310007
/-- BYTES_FORWARDED (R365). -/
abbrev BYTES_FORWARDED : Nat := 0x310008
/-- MALFORMED_PKT (R365). -/
abbrev MALFORMED_PKT : Nat := 0x310009
/-- END_CRC_FAIL (R365). -/
abbrev END_CRC_FAIL : Nat := 0x31000A
/-- ABORTED_RX (R365). -/
abbrev ABORTED_RX : Nat := 0x31000B
/-- ABORTS_SENT (R365). -/
abbrev ABORTS_SENT : Nat := 0x31000C
/-- STALE_EPOCH_DROPPED (R365). -/
abbrev STALE_EPOCH_DROPPED : Nat := 0x31000D
/-- EPOCH_AHEAD_DROPPED (R365). -/
abbrev EPOCH_AHEAD_DROPPED : Nat := 0x31000E
/-- STALE_DEST_DROPPED (R365). -/
abbrev STALE_DEST_DROPPED : Nat := 0x31000F
/-- FENCED_NOTICES_SENT (R365). -/
abbrev FENCED_NOTICES_SENT : Nat := 0x310010
/-- FENCED_IGNORED (R365). -/
abbrev FENCED_IGNORED : Nat := 0x310011
/-- NO_ROUTE_DROPPED (R365). -/
abbrev NO_ROUTE_DROPPED : Nat := 0x310012
/-- HOP_EXPIRED_DROPS (R365). -/
abbrev HOP_EXPIRED_DROPS : Nat := 0x310013
/-- LATE_RESPONSES (R365). -/
abbrev LATE_RESPONSES : Nat := 0x310014
/-- REQ_TIMEOUTS (R365). -/
abbrev REQ_TIMEOUTS : Nat := 0x310015
/-- CONTEXT_SHARE (R366). -/
abbrev CONTEXT_SHARE : Nat := 0x311001
/-- TAG_SHARE (R366). -/
abbrev TAG_SHARE : Nat := 0x311002
/-- SYNC_SHARE (R366). -/
abbrev SYNC_SHARE : Nat := 0x311003
/-- SYNC_SHARE_BASE (R366). -/
abbrev SYNC_SHARE_BASE : Nat := 0x311004
/-- NO_CONTEXT_COUNT (R366). -/
abbrev NO_CONTEXT_COUNT : Nat := 0x311005
/-- TAG_WAIT_CYCLES (R366). -/
abbrev TAG_WAIT_CYCLES : Nat := 0x311006
/-- WINDOW_WAIT_CYCLES (R366). -/
abbrev WINDOW_WAIT_CYCLES : Nat := 0x311007
/-- NO_ROUTE_WAIT_CYCLES (R366). -/
abbrev NO_ROUTE_WAIT_CYCLES : Nat := 0x311008
/-- SYNC_COMPLETIONS (R366). -/
abbrev SYNC_COMPLETIONS : Nat := 0x311009
/-- SYNC_TIMEOUTS (R366). -/
abbrev SYNC_TIMEOUTS : Nat := 0x31100A
/-- LATE_ARRIVALS (R366). -/
abbrev LATE_ARRIVALS : Nat := 0x31100B
/-- OVERCOUNT_ARRIVALS (R366). -/
abbrev OVERCOUNT_ARRIVALS : Nat := 0x31100C
/-- STEP_MISMATCH (R366). -/
abbrev STEP_MISMATCH : Nat := 0x31100D
/-- EARLY_ARRIVALS (R366). -/
abbrev EARLY_ARRIVALS : Nat := 0x31100E
/-- SPEC_ROLLBACKS (R366). -/
abbrev SPEC_ROLLBACKS : Nat := 0x31100F
/-- COLL_ENTRIES_COMPLETED (R366). -/
abbrev COLL_ENTRIES_COMPLETED : Nat := 0x311010
/-- COLL_BYTES_SENT (R366). -/
abbrev COLL_BYTES_SENT : Nat := 0x311011
/-- COLL_STATUS_BANK0 (R366). -/
abbrev COLL_STATUS_BANK0 : Nat := 0x311012
/-- COLL_STATUS_BANK1 (R366). -/
abbrev COLL_STATUS_BANK1 : Nat := 0x311013
/-- ROUTE_SELECT (R367). -/
abbrev ROUTE_SELECT : Nat := 0x312001
/-- ROUTE_ENTRY (R367). -/
abbrev ROUTE_ENTRY : Nat := 0x312002
/-- EPOCH_SELECT (R367). -/
abbrev EPOCH_SELECT : Nat := 0x312003
/-- EPOCH_VALUE (R367). -/
abbrev EPOCH_VALUE : Nat := 0x312004
/-- CONTEXT_SELECT (R367). -/
abbrev CONTEXT_SELECT : Nat := 0x312005
/-- CONTEXT (R367). -/
abbrev CONTEXT : Nat := 0x312006
/-- SYNC_SELECT (R367). -/
abbrev SYNC_SELECT : Nat := 0x312007
/-- SYNC_OBJECT (R367). -/
abbrev SYNC_OBJECT : Nat := 0x312008
/-- CAL_WINDOW_BEATS (R397). -/
abbrev CAL_WINDOW_BEATS : Nat := 0x320001
/-- CAL_STRIDE_BEATS (R397). -/
abbrev CAL_STRIDE_BEATS : Nat := 0x320002
/-- CAL_FORCE_AGE_S (R397). -/
abbrev CAL_FORCE_AGE_S : Nat := 0x320003
/-- CAL_TEMP_DELTA_C (R397). -/
abbrev CAL_TEMP_DELTA_C : Nat := 0x320004
/-- CAL_TEMP_FORCE_C (R397). -/
abbrev CAL_TEMP_FORCE_C : Nat := 0x320005
/-- CAL_COMPLETED (R397). -/
abbrev CAL_COMPLETED : Nat := 0x320006
/-- CAL_ABANDONED (R397). -/
abbrev CAL_ABANDONED : Nat := 0x320007
/-- CAL_FORCED (R397). -/
abbrev CAL_FORCED : Nat := 0x320008
/-- WINDOWS_SKIPPED (R397). -/
abbrev WINDOWS_SKIPPED : Nat := 0x320009
/-- CHANNELS_OVERDUE (R397). -/
abbrev CHANNELS_OVERDUE : Nat := 0x32000A
/-- LOCK_LOSSES (R397). -/
abbrev LOCK_LOSSES : Nat := 0x32000B
/-- SWITCHOVERS (R397). -/
abbrev SWITCHOVERS : Nat := 0x32000C
/-- COMMISSION (R397). -/
abbrev COMMISSION : Nat := 0x32000D
/-- REFERENCE_SOURCE (R397). -/
abbrev REFERENCE_SOURCE : Nat := 0x32000E
/-- CAL_OFFSET_TL8 (R397). -/
abbrev CAL_OFFSET_TL8 : Nat := 0x320101
/-- ENGINE_TEMP_OE0 (R397). -/
abbrev ENGINE_TEMP_OE0 : Nat := 0x320201
/-- CHANNEL_SELECT (R397). -/
abbrev CHANNEL_SELECT : Nat := 0x320301
/-- CHANNEL_RECORD (R397). -/
abbrev CHANNEL_RECORD : Nat := 0x320302
/-- LSM_PRESENT (R398). -/
abbrev LSM_PRESENT : Nat := 0x321001
/-- LSM_SERIAL (R398). -/
abbrev LSM_SERIAL : Nat := 0x321002
/-- LSM_POWER_W (R398). -/
abbrev LSM_POWER_W : Nat := 0x321003
/-- ACTIVE_SELECT (R398). -/
abbrev ACTIVE_SELECT : Nat := 0x321004
/-- LASER_STATE_0 (R398). -/
abbrev LASER_STATE_0 : Nat := 0x321101
/-- LASER_POWER_DBM_0 (R398). -/
abbrev LASER_POWER_DBM_0 : Nat := 0x321201
/-- LASER_REF_DBM_0 (R398). -/
abbrev LASER_REF_DBM_0 : Nat := 0x321301
/-- LASER_HOURS_0 (R398). -/
abbrev LASER_HOURS_0 : Nat := 0x321401
/-- FEED_POWER_DB_λ0 (R398). -/
abbrev FEED_POWER_DB_L0 : Nat := 0x321501
/-- EXPRESS_ACTIVE (R399). -/
abbrev EXPRESS_ACTIVE : Nat := 0x322001
/-- EXPRESS_PENDING (R399). -/
abbrev EXPRESS_PENDING : Nat := 0x322002
/-- RESHAPE_ARM (R399). -/
abbrev RESHAPE_ARM : Nat := 0x322003
/-- RESHAPE_STATE (R399). -/
abbrev RESHAPE_STATE : Nat := 0x322004
/-- RESHAPE_RESULT (R399). -/
abbrev RESHAPE_RESULT : Nat := 0x322005
/-- EXPRESS_CHANGES (R399). -/
abbrev EXPRESS_CHANGES : Nat := 0x322006
/-- EXPRESS_SELECT (R399). -/
abbrev EXPRESS_SELECT : Nat := 0x322007
/-- EXPRESS_POWER (R399). -/
abbrev EXPRESS_POWER : Nat := 0x322008
/-- CHIP_STATE (R419). -/
abbrev CHIP_STATE : Nat := 0x330001
/-- CHIP_NUMBER (R419). -/
abbrev CHIP_NUMBER : Nat := 0x330002
/-- CHIP_EPOCH (R419). -/
abbrev CHIP_EPOCH : Nat := 0x330003
/-- ADOPT (R419). -/
abbrev ADOPT : Nat := 0x330004
/-- ADOPT_RESULT (R419). -/
abbrev ADOPT_RESULT : Nat := 0x330005
/-- RELEASE (R419). -/
abbrev RELEASE : Nat := 0x330006
/-- FENCE_RECORD (R419). -/
abbrev FENCE_RECORD : Nat := 0x330007
/-- MISSING_GRACE_MS (R419). -/
abbrev MISSING_GRACE_MS : Nat := 0x330008
/-- CRITICAL_NOT_MATCH (R419). -/
abbrev CRITICAL_NOT_MATCH : Nat := 0x330009
/-- QUARANTINE_DROPPED (R419). -/
abbrev QUARANTINE_DROPPED : Nat := 0x33000A
/-- ADOPTIONS (R419). -/
abbrev ADOPTIONS : Nat := 0x33000B
/-- OUTCOME_CHANGES (R419). -/
abbrev OUTCOME_CHANGES : Nat := 0x33000C
/-- STALE_NEIGHBOURS_SEEN (R419). -/
abbrev STALE_NEIGHBOURS_SEEN : Nat := 0x33000D
/-- SERIAL_CHANGES (R419). -/
abbrev SERIAL_CHANGES : Nat := 0x33000E
/-- DISC_SELECT (R419). -/
abbrev DISC_SELECT : Nat := 0x331001
/-- WIRING_ENTRY (R419). -/
abbrev WIRING_ENTRY : Nat := 0x331002
/-- OUTCOME (R419). -/
abbrev OUTCOME : Nat := 0x331003
/-- NEIGHBOUR (R419). -/
abbrev NEIGHBOUR : Nat := 0x331004
/-- LAST_BOUNDARY_PARTNER (R445). -/
abbrev LAST_BOUNDARY_PARTNER : Nat := 0x601001
/-- LAST_BOUNDARY_FLASH (R445). -/
abbrev LAST_BOUNDARY_FLASH : Nat := 0x601002
/-- LAST_BOUNDARY_STORE (R445). -/
abbrev LAST_BOUNDARY_STORE : Nat := 0x601003
/-- CKPT_HOLD_WAIT_CYCLES (R445). -/
abbrev CKPT_HOLD_WAIT_CYCLES : Nat := 0x601004
/-- CKPT_SKIPPED (R445). -/
abbrev CKPT_SKIPPED : Nat := 0x601005
/-- CKPT_FAILED (R445). -/
abbrev CKPT_FAILED : Nat := 0x601006
/-- PARTNER_BYTES_SENT (R445). -/
abbrev PARTNER_BYTES_SENT : Nat := 0x601007
/-- FLASH_CKPT_BYTES (R445). -/
abbrev FLASH_CKPT_BYTES : Nat := 0x601008
/-- STORE_BYTES (R445). -/
abbrev STORE_BYTES : Nat := 0x601009
/-- DATA_CURSORS (R445). -/
abbrev DATA_CURSORS : Nat := 0x60100A
/-- SLOT_LAYER (R445). -/
abbrev SLOT_LAYER : Nat := 0x60100B
/-- SLOT_SELECT (R445). -/
abbrev SLOT_SELECT : Nat := 0x60100C
/-- SLOT_HEADER (R445). -/
abbrev SLOT_HEADER : Nat := 0x60100D
/-- STORE_TARGET (R445). -/
abbrev STORE_TARGET : Nat := 0x60100E
/-- STORE_NQN (R445). -/
abbrev STORE_NQN : Nat := 0x60100F
/-- STORE_STATUS (R445). -/
abbrev STORE_STATUS : Nat := 0x601010
/-- RESTORE_REQUEST (R445). -/
abbrev RESTORE_REQUEST : Nat := 0x601011
/-- RESTORE_STATE (R445). -/
abbrev RESTORE_STATE : Nat := 0x601012
/-- RESTORE_RECORD (R445). -/
abbrev RESTORE_RECORD : Nat := 0x601013
/-- RESTORE_BYTES (R445). -/
abbrev RESTORE_BYTES : Nat := 0x601014
/-- RESTORED_CURSORS (R445). -/
abbrev RESTORED_CURSORS : Nat := 0x601015
/-- RESTORED_MAP_SELECT (R445). -/
abbrev RESTORED_MAP_SELECT : Nat := 0x601016
/-- RESTORED_MAP (R445). -/
abbrev RESTORED_MAP : Nat := 0x601017
/-- DIGEST_BOUNDARY_SELECT (R446). -/
abbrev DIGEST_BOUNDARY_SELECT : Nat := 0x602001
/-- DIGEST_BOUNDARY (R446). -/
abbrev DIGEST_BOUNDARY : Nat := 0x602002
/-- DIGEST_COUNT (R446). -/
abbrev DIGEST_COUNT : Nat := 0x602003
/-- DIGEST_SELECT (R446). -/
abbrev DIGEST_SELECT : Nat := 0x602004
/-- DIGEST_ENTRY (R446). -/
abbrev DIGEST_ENTRY : Nat := 0x602005
/-- VIN_V (R470). -/
abbrev VIN_V : Nat := 0x200001
/-- INPUT_POWER_W (R470). -/
abbrev INPUT_POWER_W : Nat := 0x200002
/-- WINDOW_POWER_W (R470). -/
abbrev WINDOW_POWER_W : Nat := 0x200003
/-- AVG_LIMIT_W (R470). -/
abbrev AVG_LIMIT_W : Nat := 0x200004
/-- AVG_WINDOW_S (R470). -/
abbrev AVG_WINDOW_S : Nat := 0x200005
/-- POWER_CEILING_W (R470). -/
abbrev POWER_CEILING_W : Nat := 0x200006
/-- HOLDUP_BUDGET_W (R470). -/
abbrev HOLDUP_BUDGET_W : Nat := 0x200007
/-- SUPPLY_STATE (R470). -/
abbrev SUPPLY_STATE : Nat := 0x200008
/-- HOLDUP_CAP_UF (R470). -/
abbrev HOLDUP_CAP_UF : Nat := 0x200009
/-- RAIL_1V8_V (R470). -/
abbrev RAIL_1V8_V : Nat := 0x20000A
/-- RAIL_1V8_A (R470). -/
abbrev RAIL_1V8_A : Nat := 0x20000B
/-- TRIM_POWER (R470). -/
abbrev TRIM_POWER : Nat := 0x20000C
/-- ENERGY_J (R470). -/
abbrev ENERGY_J : Nat := 0x20000D
/-- POWER_ALERTS (R470). -/
abbrev POWER_ALERTS : Nat := 0x20000E
/-- ALERT_RIDE_THROUGHS (R470). -/
abbrev ALERT_RIDE_THROUGHS : Nat := 0x20000F
/-- OVERVOLTAGE_EVENTS (R470). -/
abbrev OVERVOLTAGE_EVENTS : Nat := 0x200010
/-- LIMITED_MS (R470). -/
abbrev LIMITED_MS : Nat := 0x200011
/-- STOP_RECORD (R470). -/
abbrev STOP_RECORD : Nat := 0x200012
/-- CLOCK_MODE (R470). -/
abbrev CLOCK_MODE : Nat := 0x200101
/-- CLOCK_MODE_RESULT (R470). -/
abbrev CLOCK_MODE_RESULT : Nat := 0x200102
/-- CLOCK_MHZ (R470). -/
abbrev CLOCK_MHZ : Nat := 0x200103
/-- BOOST_MAX_MHZ (R470). -/
abbrev BOOST_MAX_MHZ : Nat := 0x200104
/-- BOOST_MS (R470). -/
abbrev BOOST_MS : Nat := 0x200105
/-- DROOP_THRESHOLD_MV (R470). -/
abbrev DROOP_THRESHOLD_MV : Nat := 0x200106
/-- HOTTEST_C (R470). -/
abbrev HOTTEST_C : Nat := 0x201001
/-- HOTTEST_SENSOR (R470). -/
abbrev HOTTEST_SENSOR : Nat := 0x201002
/-- VALID_SENSORS (R470). -/
abbrev VALID_SENSORS : Nat := 0x201003
/-- TRIM_THERMAL_CAP (R470). -/
abbrev TRIM_THERMAL_CAP : Nat := 0x201004
/-- TRIM_APPLIED (R470). -/
abbrev TRIM_APPLIED : Nat := 0x201005
/-- CORE_RAIL_MV (R470). -/
abbrev CORE_RAIL_MV : Nat := 0x201006
/-- DIE_POWER_W (R470). -/
abbrev DIE_POWER_W : Nat := 0x201007
/-- BALLAST_SLOTS (R470). -/
abbrev BALLAST_SLOTS : Nat := 0x201008
/-- BALLAST_ENGAGES (R470). -/
abbrev BALLAST_ENGAGES : Nat := 0x201009
/-- TRIM_WITHHELD_SLOTS (R470). -/
abbrev TRIM_WITHHELD_SLOTS : Nat := 0x20100A
/-- THERMAL_STATE (R470). -/
abbrev THERMAL_STATE : Nat := 0x20100B
/-- HOLD_EDGES (R470). -/
abbrev HOLD_EDGES : Nat := 0x20100C
/-- HOTTEST_C (R470). -/
abbrev HOTTEST_C_IO : Nat := 0x201401
/-- HOTTEST_SENSOR (R470). -/
abbrev HOTTEST_SENSOR_IO : Nat := 0x201402
/-- VALID_SENSORS (R470). -/
abbrev VALID_SENSORS_IO : Nat := 0x201403
/-- THERMAL_STATE (R470). -/
abbrev THERMAL_STATE_IO : Nat := 0x201404
/-- SENSOR_DIE (R470). -/
abbrev SENSOR_DIE : Nat := 0x202001
/-- SENSOR_INDEX (R470). -/
abbrev SENSOR_INDEX : Nat := 0x202002
/-- SENSOR_C (R470). -/
abbrev SENSOR_C : Nat := 0x202003
/-- SENSOR_VALID (R470). -/
abbrev SENSOR_VALID : Nat := 0x202004
/-- MODULE_THERMAL_STATE (R470). -/
abbrev MODULE_THERMAL_STATE : Nat := 0x203001
/-- THERMAL_HOLDS (R470). -/
abbrev THERMAL_HOLDS : Nat := 0x203002
/-- DIE_OWNER (R491). -/
abbrev DIE_OWNER : Nat := 0x404001
/-- PORT_PARTITION (R491). -/
abbrev PORT_PARTITION : Nat := 0x404002
/-- LINK_SET_P0 (R491). -/
abbrev LINK_SET_P0 : Nat := 0x404003
/-- LAYOUT_APPLY (R491). -/
abbrev LAYOUT_APPLY : Nat := 0x404007
/-- LAYOUT_RESULT (R491). -/
abbrev LAYOUT_RESULT : Nat := 0x404008
/-- LAYOUT_CHANGES (R491). -/
abbrev LAYOUT_CHANGES : Nat := 0x404009
/-- PCIE_RATE (R491). -/
abbrev PCIE_RATE : Nat := 0x404101
/-- PCIE_WIDTH (R491). -/
abbrev PCIE_WIDTH : Nat := 0x404102
/-- QUEUES_ENABLED (R491). -/
abbrev QUEUES_ENABLED : Nat := 0x404103
/-- DESCRIPTORS_COMPLETED (R491). -/
abbrev DESCRIPTORS_COMPLETED : Nat := 0x404104
/-- DESCRIPTORS_MALFORMED (R491). -/
abbrev DESCRIPTORS_MALFORMED : Nat := 0x404105
/-- QUEUE_ERRORS (R491). -/
abbrev QUEUE_ERRORS : Nat := 0x404106
/-- CQ_FULL_WAITS (R491). -/
abbrev CQ_FULL_WAITS : Nat := 0x404107
/-- SYNC_RECORDS_DROPPED (R491). -/
abbrev SYNC_RECORDS_DROPPED : Nat := 0x404108
/-- PORT_RESETS (R491). -/
abbrev PORT_RESETS : Nat := 0x404109
/-- HOST_BYTES_READ (R491). -/
abbrev HOST_BYTES_READ : Nat := 0x40410A
/-- HOST_BYTES_WRITTEN (R491). -/
abbrev HOST_BYTES_WRITTEN : Nat := 0x40410B
/-- FIELD_MAC (R521). -/
abbrev FIELD_MAC : Nat := 0x101001
/-- CHAIN_ADDRESS (R521). -/
abbrev CHAIN_ADDRESS : Nat := 0x101002
/-- PLCA_NODE_ID (R521). -/
abbrev PLCA_NODE_ID : Nat := 0x101003
/-- ENUM_STATE (R521). -/
abbrev ENUM_STATE : Nat := 0x101004
/-- FIELD_LINK_STATE (R521). -/
abbrev FIELD_LINK_STATE : Nat := 0x101005
/-- PLCA_FALLBACKS (R521). -/
abbrev PLCA_FALLBACKS : Nat := 0x101006
/-- FIELD_FRAMES_RX (R521). -/
abbrev FIELD_FRAMES_RX : Nat := 0x101007
/-- FIELD_FRAMES_TX (R521). -/
abbrev FIELD_FRAMES_TX : Nat := 0x101008
/-- EP_DICT_ENABLE (R521). -/
abbrev EP_DICT_ENABLE : Nat := 0x101009
/-- EP_MGMT_ADDR (R521). -/
abbrev EP_MGMT_ADDR : Nat := 0x10100A
/-- EP_MGMT_PREFIX_LEN (R521). -/
abbrev EP_MGMT_PREFIX_LEN : Nat := 0x10100B
/-- DICT_UDP_PORT (R521). -/
abbrev DICT_UDP_PORT : Nat := 0x10100C
/-- FACTORY_INIT (R521). -/
abbrev FACTORY_INIT : Nat := 0x10100D
/-- MBX_DISCARDS_HP0 (R521). -/
abbrev MBX_DISCARDS_HP0 : Nat := 0x101101
/-- EVENT_SEQ_NEWEST (R522). -/
abbrev EVENT_SEQ_NEWEST : Nat := 0x800001
/-- EVENT_SEQ_OLDEST (R522). -/
abbrev EVENT_SEQ_OLDEST : Nat := 0x800002
/-- EVENT_SELECT (R522). -/
abbrev EVENT_SELECT : Nat := 0x800003
/-- EVENT_ENTRY (R522). -/
abbrev EVENT_ENTRY : Nat := 0x800004
/-- EVENTS_LOGGED (R522). -/
abbrev EVENTS_LOGGED : Nat := 0x800005
/-- EVENTS_LOST (R522). -/
abbrev EVENTS_LOST : Nat := 0x800006
/-- MP_UPTIME_MS (R522). -/
abbrev MP_UPTIME_MS : Nat := 0x800101
/-- MP_RESTARTS (R522). -/
abbrev MP_RESTARTS : Nat := 0x800102
/-- QUEUE_DEPTH (R522). -/
abbrev QUEUE_DEPTH : Nat := 0x800103
/-- QUEUE_HIGH_WATER (R522). -/
abbrev QUEUE_HIGH_WATER : Nat := 0x800104
/-- REQUESTS_CLASS0 (R522). -/
abbrev REQUESTS_CLASS0 : Nat := 0x800105
/-- BUSY_CLASS0 (R522). -/
abbrev BUSY_CLASS0 : Nat := 0x800109
/-- SESSIONS_OPEN (R522). -/
abbrev SESSIONS_OPEN : Nat := 0x80010D
/-- SUBSCRIPTIONS (R522). -/
abbrev SUBSCRIPTIONS : Nat := 0x80010E
/-- TELEMETRY_LEVEL (R522). -/
abbrev TELEMETRY_LEVEL : Nat := 0x80010F
/-- PUBLISHES_DROPPED (R522). -/
abbrev PUBLISHES_DROPPED : Nat := 0x800110
/-- AUTH_FAILURES (R522). -/
abbrev AUTH_FAILURES : Nat := 0x800111
/-- PERSIST_WRITES (R522). -/
abbrev PERSIST_WRITES : Nat := 0x800112
/-- PERSIST_LOST_COUNT (R522). -/
abbrev PERSIST_LOST_COUNT : Nat := 0x800113
/-- CALENDAR_TIME (R543). -/
abbrev CALENDAR_TIME : Nat := 0x700001
/-- CALENDAR_VALID (R543). -/
abbrev CALENDAR_VALID : Nat := 0x700002
/-- CALENDAR_SET (R543). -/
abbrev CALENDAR_SET : Nat := 0x700003
/-- UTC_OFFSET_S (R543). -/
abbrev UTC_OFFSET_S : Nat := 0x700004
/-- LEAP_PENDING (R543). -/
abbrev LEAP_PENDING : Nat := 0x700005
/-- BACKUP_SOURCE (R543). -/
abbrev BACKUP_SOURCE : Nat := 0x700006
/-- SUPERCAP_V (R543). -/
abbrev SUPERCAP_V : Nat := 0x700007
/-- COIN_CELL_V (R543). -/
abbrev COIN_CELL_V : Nat := 0x700008
/-- CALENDAR_STEPS (R543). -/
abbrev CALENDAR_STEPS : Nat := 0x700009
/-- PTP_ENABLE (R543). -/
abbrev PTP_ENABLE : Nat := 0x701001
/-- PTP_DOMAIN (R543). -/
abbrev PTP_DOMAIN : Nat := 0x701002
/-- PTP_TRANSPORT (R543). -/
abbrev PTP_TRANSPORT : Nat := 0x701003
/-- PTP_STATE (R543). -/
abbrev PTP_STATE : Nat := 0x701004
/-- PTP_PORT (R543). -/
abbrev PTP_PORT : Nat := 0x701005
/-- PTP_OFFSET_NS (R543). -/
abbrev PTP_OFFSET_NS : Nat := 0x701006
/-- PTP_MEAN_PATH_NS (R543). -/
abbrev PTP_MEAN_PATH_NS : Nat := 0x701007
/-- GRANDMASTER_ID (R543). -/
abbrev GRANDMASTER_ID : Nat := 0x701008
/-- PTP_LOCK_LOSSES (R543). -/
abbrev PTP_LOCK_LOSSES : Nat := 0x701009
/-- SC_STATE (R543). -/
abbrev SC_STATE : Nat := 0x702001
/-- FW_ACTIVE_SLOT (R543). -/
abbrev FW_ACTIVE_SLOT : Nat := 0x702002
/-- FW_SECURITY_VERSION (R543). -/
abbrev FW_SECURITY_VERSION : Nat := 0x702003
/-- OWNER_KEY_STATE (R543). -/
abbrev OWNER_KEY_STATE : Nat := 0x702004
/-- OWNER_KEY_INIT (R543). -/
abbrev OWNER_KEY_INIT : Nat := 0x702005
/-- OWNER_KEY_NEXT (R543). -/
abbrev OWNER_KEY_NEXT : Nat := 0x702006
/-- IMAGE_KEY_SELECT (R543). -/
abbrev IMAGE_KEY_SELECT : Nat := 0x702007
/-- IMAGE_KEY (R543). -/
abbrev IMAGE_KEY : Nat := 0x702008
/-- LINK_KEY_SELECT (R543). -/
abbrev LINK_KEY_SELECT : Nat := 0x702009
/-- LINK_KEY (R543). -/
abbrev LINK_KEY : Nat := 0x70200A
/-- VENDOR_KEY_REVOKED (R543). -/
abbrev VENDOR_KEY_REVOKED : Nat := 0x70200B
/-- FW_UPDATE_OFFSET (R543). -/
abbrev FW_UPDATE_OFFSET : Nat := 0x703001
/-- FW_UPDATE_CHUNK (R543). -/
abbrev FW_UPDATE_CHUNK : Nat := 0x703002
/-- FW_UPDATE_COMMIT (R543). -/
abbrev FW_UPDATE_COMMIT : Nat := 0x703003
/-- FW_UPDATE_RESULT (R543). -/
abbrev FW_UPDATE_RESULT : Nat := 0x703004
/-- POWER_CEILING_SET_W (R543). -/
abbrev POWER_CEILING_SET_W : Nat := 0x710001
/-- PARTITION_LAYOUT_LOCK (R543). -/
abbrev PARTITION_LAYOUT_LOCK : Nat := 0x710002
/-- SECURITY_VERSION_FLOOR (R543). -/
abbrev SECURITY_VERSION_FLOOR : Nat := 0x710003
/-- RTV_MODE (R543). -/
abbrev RTV_MODE : Nat := 0x710004
/-- CEILING_CHANGES_LEFT (R543). -/
abbrev CEILING_CHANGES_LEFT : Nat := 0x710005
/-- AUDIT_SEQ_NEWEST (R543). -/
abbrev AUDIT_SEQ_NEWEST : Nat := 0x720001
/-- AUDIT_SEQ_OLDEST_RING (R543). -/
abbrev AUDIT_SEQ_OLDEST_RING : Nat := 0x720002
/-- AUDIT_PERMANENT_COUNT (R543). -/
abbrev AUDIT_PERMANENT_COUNT : Nat := 0x720003
/-- AUDIT_SELECT (R543). -/
abbrev AUDIT_SELECT : Nat := 0x720004
/-- AUDIT_ENTRY (R543). -/
abbrev AUDIT_ENTRY : Nat := 0x720005
/-- AUDIT_ENTRY_OK (R543). -/
abbrev AUDIT_ENTRY_OK : Nat := 0x720006
/-- BRINGUP_STAGE (R562). -/
abbrev BRINGUP_STAGE : Nat := 0x102001
/-- RESET_CAUSE (R562). -/
abbrev RESET_CAUSE : Nat := 0x102002
/-- RESET_HOLD_CAUSE (R562). -/
abbrev RESET_HOLD_CAUSE : Nat := 0x102003
/-- BIST_RECORD (R562). -/
abbrev BIST_RECORD : Nat := 0x102004
/-- MODULE_RESET (R562). -/
abbrev MODULE_RESET : Nat := 0x102005
/-- RESET_COUNT (R562). -/
abbrev RESET_COUNT : Nat := 0x102006
/-- LAST_BRINGUP_MS (R562). -/
abbrev LAST_BRINGUP_MS : Nat := 0x102007
/-- HBM_ROWS_REPAIRED (R562). -/
abbrev HBM_ROWS_REPAIRED : Nat := 0x102008
/-- BIST_SLOWED_COUNT (R562). -/
abbrev BIST_SLOWED_COUNT : Nat := 0x102009
/-- MODULE_READY (R562). -/
abbrev MODULE_READY : Nat := 0x10200A
/-- STAGE_MS_S0 (R562). -/
abbrev STAGE_MS_S0 : Nat := 0x102101

end O

end Sys2Proof.Machine
end

