-- ==== Sys2Proof/Machine/Parts/Beat.lean ====
section
/-! DEFINITION. Parts/Beat.lean: the state of the beat that is not itself a dictionary object (chapter 2). Times are in
units of 0.125 ns of reference time. -/

namespace Sys2Proof.Machine

/-- A local edge that an EDGE symbol has placed: its time, the symbol's word, and whether it came from the secondary
upstream link (R37, R50). -/
structure Placed where
  time : Nat
  word : Nat
  fromSecondary : Bool
deriving DecidableEq, Repr

/-- A second EDGE copy still to be sent 64 ns after the first: link, word and time (R39). -/
structure SecondCopy where
  link : Nat
  word : Nat
  due : Nat
deriving DecidableEq, Repr

/-- The beat machinery (R30 to R71). `placed` is the next local edge, `prev` the one before it, `compared` the beat whose two
copies have been compared; `acqCount`, `acqRun` and `acqEdge` are the expected count, the consistent EDGEs so far and
the last edge while ACQUIRING; `firstEdge` and `nextCount` tell of an edge that is still the first. `reqMax`, `decided`,
`slipPending`, `holdReleased`, `consec` and `rootHold` serve a root (R56, R60, R61); `holdOn` tells that the present beat is a
hold beat. `sentLow` and `sentN` are the slack request that went upstream for the next edge, `slipPassed` the beats whose slip request
went upstream, as full counts; `ownN` is this module's own request for the next edge. `early` is an edge after the placed one, whose
EDGE is here already. The
staged links and mask wait for the next edge (R50). `cond` tells that a condition of Table 2.5 was present in this beat. -/
structure Beat where
  placed : Option Placed := none
  early : Option Placed := none
  prev : Option Placed := none
  compared : Option Nat := none
  lastEdge : Nat := 0
  acqCount : Option Nat := none
  acqRun : Nat := 0
  acqEdge : Nat := 0
  firstEdge : Bool := false
  nextCount : Nat := 0
  reqMax : Nat := 0
  decided : Bool := false
  slipPending : Bool := false
  holdReleased : Bool := false
  consec : Nat := 0
  rootHold : Bool := false
  holdOn : Bool := false
  numSent : Option Nat := none
  sentLow : Option Nat := none
  sentN : Nat := 0
  ownN : Nat := 0
  slipPassed : List Nat := []
  stagedP : Option Nat := none
  stagedS : Option Nat := none
  stagedMask : Option Nat := none
  releasePending : Bool := false
  slackWin : List Bool := []
  slackLatched : Bool := false
  ring : List Nat := []
  slackSince : Nat := 0
  slipTotal : Nat := 0
  periodRec : Nat := 0
  beatnumDue : Nat := 0
  second : List SecondCopy := []
  scheduleOn : Bool := false
  cond : Bool := false
deriving DecidableEq, Repr

end Sys2Proof.Machine
end

