-- ==== Sys2Proof/Machine/Parts/Host.lean ====
section
/-! DEFINITION. Parts/Host.lean: the state of the host ports: queue pairs, descriptors under way, MSI-X and held records
(chapter 17), and accesses that wait (R279, R282). -/

namespace Sys2Proof.Machine

/-- A fetched descriptor (R481): its number within its queue pair, its 64 bytes, and the bytes that the port read from
host memory for it. -/
structure Desc where
  seq : Nat
  raw : Nat
  data : List Byte
deriving DecidableEq, Repr

/-- A descriptor whose work has ended, with its status and INFO (Table 17.6). -/
structure Done where
  seq : Nat
  cid : Nat
  status : Nat
  info : Nat
deriving DecidableEq, Repr

/-- A queue pair (Table 17.5, R480 to R482): its configuration, its heads and tails, the expected phase, and its
descriptors: fetched and waiting to start, started, ended, and those whose record waits for room. -/
structure QPair where
  sqBase : Nat := 0
  cqBase : Nat := 0
  sqSize : Nat := 0
  cqSize : Nat := 0
  vec : Nat := 0
  enable : Bool := false
  resv : Nat := 0
  state : Nat := 0
  sqHead : Nat := 0
  sqTail : Nat := 0
  cqHead : Nat := 0
  cqTail : Nat := 0
  phase : Bool := true
  seqNext : Nat := 0
  waiting : List Desc := []
  running : List (Nat × Nat × Nat) := []
  done : List Done := []
  held : List Nat := []
deriving DecidableEq, Repr

/-- A sync record held until the vote it depends on applies (R488): the partition, the step of the object, the record and
the vector. -/
structure HeldSync where
  part : Nat
  step : Nat
  rec_ : Nat
  vec : Nat
deriving DecidableEq, Repr

/-- A host port (R472 to R490). An MSI-X table entry is 16 bytes; bit 96 masks it, and an entry not listed is masked. `aerUr` is the
Unsupported Request status of AER (R474). -/
structure Port where
  qs : Tab QPair := []
  msix : Tab Nat := []
  pending : List Nat := []
  heldSync : List HeldSync := []
  aerUr : Bool := false
deriving DecidableEq, Repr

/-- A host access that waits (R279, R282): port, BAR, offset, and the bytes of a write or the length of a read. -/
structure HeldAccess where
  port : Nat
  bar : Nat
  off : Nat
  len : Nat
  write : Option (List Byte)
deriving DecidableEq, Repr

/-- An offload handle (R487). -/
structure Offload where
  handle : Nat
  start : Nat
  count : Nat
  releasing : Option (Nat × Nat × Nat)
deriving DecidableEq, Repr

/-- The host ports. `offload` is keyed by partition. -/
structure HostSt where
  ports : Tab Port := []
  heldAcc : List HeldAccess := []
  offload : Tab (List Offload) := []
  zeroing : Nat := 0
deriving DecidableEq, Repr

end Sys2Proof.Machine
end

