-- ==== Sys2Proof/Machine/Parts/Ckpt.lean ====
section
/-! DEFINITION. Parts/Ckpt.lean: the state of the checkpoint engine: checkpoints under way, digest directories, slots, and a
running restore (chapter 15). -/

namespace Sys2Proof.Machine

/-- A checkpoint of one layer under way (R421, R424): layer 1 partner, 2 flash, 3 store; its boundary; the manifest up to
its directory as it stood at the boundary; the LIVE banks of the boundary; the tensors still to be read; the bytes read,
by tensor; the digests of working weights that no operation digests; its slot, and whether a slot header is FILLING. -/
structure CkRun where
  layer : Nat
  boundary : Nat
  head : List Byte
  live : Tab Nat
  left : List Nat
  data : Tab (List Byte) := []
  rebuilt : Tab Nat := []
  slot : Option Nat := none
  handed : Bool := false
deriving DecidableEq, Repr

/-- The digest directory of a boundary (R446): the LIVE banks, and by DIGEST_INDEX the tensor and its digest. -/
structure CkDir where
  boundary : Nat
  live : Tab Nat
  ents : Tab (Nat × Nat) := []
deriving DecidableEq, Repr

/-- A checkpoint operation whose reads hold writes (R424): list, operation, tensor and bank. -/
structure CkHold where
  list : Nat
  op : Nat
  tensor : Nat
  bank : Nat
deriving DecidableEq, Repr

/-- What has come in of the partner copy in a slot of the reserve (R431): its boundary and the stretches. -/
structure CkRx where
  boundary : Nat
  got : List (Nat × Nat)
deriving DecidableEq, Repr

/-- A slot of a layer (Table 15.4): its header as a number, its copy, the flash offset at which it begins (Table 10.9), and the
CRC-32C of each of its 64 KiB units, the header unit first (R296). -/
structure CkSlot where
  header : Nat
  copy : List Byte := []
  start : Nat := 0
  crcs : List Nat := []
deriving DecidableEq, Repr

/-- A restore under way (R438 to R442): its block, when it was accepted (0.125 ns), the descriptor that waits for it, the
source being tried (1 LIVE to 4 STORE), TRIED, FAILED_INDEX, bytes written, the tables of the block, whether the
partition's own memory stood whole at its boundary when the request came, and for the partner's slot how its READ_REQs stand (0 none,
1 under way, 2 all answered with OK, 3 ended with another status) and the bytes answered, by offset from the slot's start. -/
structure Restore where
  boundary : Nat
  mask : Nat
  since : Nat
  who : Option (Nat × Nat × Nat)
  source : Nat
  tried : Nat := 0
  failed : Nat := 0xFFFF
  bytes : Nat := 0
  keys : Tab Nat := []
  refs : Tab Nat := []
  liveOk : Bool := false
  rd : Nat := 0
  buf : Tab (List Byte) := []
deriving DecidableEq, Repr

/-- The checkpoint engine of a partition. `tainted` tells that R204 has struck since the last vote; `held` are WRITE and READ_RSP packets from
other modules that wait for a checkpoint's reads (R424); `rx` is what has come in of a partner copy, by slot of the reserve; `map` is the beat mapping ring of the last restored manifest. -/
structure CkptSt where
  runs : List CkRun := []
  dirs : List CkDir := []
  hold : List CkHold := []
  held : List Packet := []
  rx : Tab CkRx := []
  cursors : List Nat := []
  tainted : Bool := false
  restore : Option Restore := none
  map : List Nat := []
deriving DecidableEq, Repr

end Sys2Proof.Machine
end

