-- ==== Sys2Proof/Machine/Parts/Image.lean ====
section
/-! DEFINITION. Parts/Image.lean: a beat program image as the module holds it once loaded (chapter 8). -/

namespace Sys2Proof.Machine

/-- STAGE entry (Table 8.4). -/
structure Stage where
  index : Nat := 0
  count : Nat := 0
  layerFirst : Nat := 0
  layerLast : Nat := 0
  grainRows : Nat := 512
  maxGrains : Nat := 0
  mbs : Nat := 0
  keepLayers : Nat := 0
  runahead : Nat := 0
  minNominal : Nat := 0
  minFixed : Nat := 0
  stepBeats : Nat := 0
  stride : Nat := 0
  finalWeight : Nat := 0xFFFF
deriving DecidableEq, Repr

/-- A rectangle of tiles (Table 8.5). -/
structure Rect where
  die : Nat
  row0 : Nat
  col0 : Nat
  rows : Nat
  cols : Nat
deriving DecidableEq, Repr

/-- One piece of a tensor (Table 8.6). -/
structure Piece where
  logical : Nat
  piece : Nat
  fmt : Nat
  recipe : Nat
  rank : Nat
  blockAxis : Nat
  flags : Nat
  layer : Nat
  lifetime : Nat
  origin : List Nat
  dims : List Nat
  store : Nat
  storeId : Nat
  elem : Nat
  aux : Nat
  delta : Nat
deriving DecidableEq, Repr

/-- One operation (Table 8.9); its attribute bytes as a little-endian number. -/
structure Op where
  opcode : Nat
  attrLen : Nat
  layer : Nat
  stream : Nat
  in0 : Nat
  in1 : Nat
  in2 : Nat
  out : Nat
  wait : Nat
  post : Nat
  flags : Nat
  attr : Nat
deriving DecidableEq, Repr

/-- One operation list (Table 8.7). -/
structure OpList where
  sheaf : Nat
  phase : Nat
  trigger : Nat
  pair : Nat
  ops : List Op
deriving DecidableEq, Repr

/-- SCHEDULE entry (Table 8.10). -/
structure Sched where
  beat : Nat
  oplist : Nat
  mb : Nat
  grain : Nat
deriving DecidableEq, Repr

/-- RETENTION entry (Table 8.14). -/
structure Retention where
  layer : Nat
  tensor : Nat
  cls : Nat
  overflow : Nat
  keep : Nat
  src : Nat
  slots : Nat
  die : Nat
deriving DecidableEq, Repr

/-- COLLECTIVES entry (Table 8.13). -/
structure Coll where
  kind : Nat
  flags : Nat
  src : Nat
  dst : Nat
  slot : Nat
  mask : Nat
  trigger : Nat
  post : Nat
  channel : Nat
  members : List Nat
deriving DecidableEq, Repr

/-- SYNC_PLAN entry (Table 8.12). -/
structure Pair where
  pair : Nat
  role : Nat
  kind : Nat
  target : Nat
  action : Nat
  subject : Nat
  timeout : Nat
deriving DecidableEq, Repr

/-- NORM_SLOTS entry. -/
structure NormSlot where
  slot : Nat
  layer : Nat
  kind : Nat
  flags : Nat
  ident : Nat
deriving DecidableEq, Repr

/-- RATIO_WATCH entry. -/
structure Ratio where
  layer : Nat
  wslot : Nat
  uslot : Nat
  action : Nat
  low : Nat
  high : Nat
  list : Nat
  op : Nat
deriving DecidableEq, Repr

/-- COMMIT_PLAN entry. -/
structure CommitPlan where
  stepStart : Nat := 0
  maxNorm : Nat := 0x3F800000
  clipEps : Nat := 0x358637BD
  members : Nat := 0
  maxSkips : Nat := 64
  timeoutBeats : Nat := 256
  commitRound : Nat := 1
  trailers : Nat := 0
  gInit : Int := 12
  gMin : Int := 0
  gMax : Int := 24
  upAfter : Nat := 2000
  downAfter : Nat := 2
deriving DecidableEq, Repr

/-- OPTIMIZER entry. -/
structure OptEntry where
  kind : Nat
  nesterov : Nat
  wd : Nat
  b1 : Nat
  omb1 : Nat
  b2 : Nat
  omb2 : Nat
  eps : Nat
  grad : Nat
  master : Nat
  m1 : Nat
  m2 : Nat
  working : Nat
  layer : Nat
deriving DecidableEq, Repr

/-- CHECKPOINT_PLAN entry. -/
structure CkptPlan where
  partnerEvery : Nat := 0
  flashEvery : Nat := 0
  storeEvery : Nat := 0
  partner : Nat := 0
  digest : Nat := 0
  reserve : Nat := 0xFFFF
  first : Nat := 0
  count : Nat := 0
deriving DecidableEq, Repr

/-- A whole image. `grist` maps a stream to its key as a number of 16 bytes; `folds` lists each fold entry's weight
and accumulators. -/
structure Image where
  level : Nat := 0
  jobId : Nat := 0
  buildId : Nat := 0
  dieMask : Nat := 0
  stage : Stage := {}
  sheaves : List (List Rect) := []
  pieces : List Piece := []
  lists : List OpList := []
  sched : List Sched := []
  retain : List Retention := []
  folds : List (Nat × List Nat) := []
  colls : List Coll := []
  pairs : List Pair := []
  slots : List NormSlot := []
  ratios : List Ratio := []
  grist : Tab Nat := []
  commit : CommitPlan := {}
  opts : List OptEntry := []
  ckpt : Option CkptPlan := none
deriving DecidableEq, Repr

end Sys2Proof.Machine
end

