-- ==== Sys2Proof/Machine/Parts/Job.lean ====
section
/-! DEFINITION. Parts/Job.lean: the state of a partition: its loaded image, member table and running job (chapters 3 to
9 and 12). -/

namespace Sys2Proof.Machine

/-- A load request on its way (R233): its parameter block, the image and member-table bytes that the module copied, the
descriptor that waits for it (port, queue, sequence number), and whether it met R236 or R413, with the critical link at
fault (0xFFFF none). -/
structure LoadReq where
  params : Nat
  img : Nat
  table : Nat
  who : Nat × Nat × Nat
  wrong : Option Nat
deriving DecidableEq, Repr

/-- Norm slot accumulators (Table 5.6): SUM_ACC in units of 2^-149, SUMSQ_ACC in units of 2^-298, MAXABS as an FP32
magnitude. -/
structure NormAcc where
  sum : Int := 0
  sumsq : Nat := 0
  maxabs : Nat := 0
  elems : Nat := 0
  nonfin : Nat := 0
deriving DecidableEq, Repr

/-- One part of a status bank (R147): flags by tile and by sheaf, the first non-finite record, the norm slots, and the
ratio-watch flags of a slot's history entry. -/
structure BankPart where
  tiles : Tab Nat := []
  sheaf : Tab Nat := []
  nf : Option Nat := none
  slots : Tab NormAcc := []
  ratio : Tab Nat := []
deriving DecidableEq, Repr

/-- A status bank (R147): the step it serves, its own part, its speculative part, COLL_STATUS, and the G in force. -/
structure Bank where
  step : Option Nat := none
  main : BankPart := {}
  spec : BankPart := {}
  coll : Nat := 0
  shift : Int := 0
  committed : Bool := false
deriving DecidableEq, Repr

/-- The program of a step (R225): the schedule beat at which it begins, and the time of that edge. -/
structure Prog where
  step : Nat
  base : Nat
  ns : Nat
deriving DecidableEq, Repr

/-- A released operation list (R226): what it is bound to, the schedule beat that released it, whether the schedule
released it, whether a tagged completion did, its next operation, and the first of its operations that issued tagged. -/
structure Rel where
  id : Nat
  list : Nat
  step : Nat
  mb : Nat
  grain : Nat
  beat : Nat
  planned : Bool
  tagged : Bool
  next : Nat
  tagAt : Option Nat
deriving DecidableEq, Repr

/-- An operation's work on one tile that is not yet complete (R246): what it writes, raises and taps. -/
structure Share where
  rel : Nat
  tile : Nat
  sheaf : Nat
  list : Nat
  op : Nat
  step : Nat
  mb : Nat
  grain : Nat
  layer : Nat
  tagged : Bool
  posts : Bool
  flags : Nat
  lane : Nat
  record : Bool
  taps : Tab NormAcc
  writes : List (Nat × Nat)
  outs : List (Nat × Nat)
  lens : Option (Nat × Nat × Nat × Bool)
  poison : List Nat
  data : List Byte
  nan : Nat := 0
  sat : Nat := 0
deriving DecidableEq, Repr

/-- A vote contribution (Table 7.1). -/
structure Contrib where
  sumsq : Nat := 0
  nonfinite : Nat := 0
  step : Nat := 0
  contributors : Nat := 1
  failChip : Nat := 0x3FFF
  flags : Nat := 0
  round : Nat := 1
  lr : Nat := 0
  wd : Nat := 0
  commitRound : Nat := 0
  layers : List Nat := []
deriving DecidableEq, Repr

/-- What a position of the vote tree holds for one round and step (R191, R362). -/
structure Hop where
  round : Nat
  step : Nat
  got : List Nat := []
  own : Bool := false
  acc : Option Contrib := none
  sent : Bool := false
  result : Bool := false
deriving DecidableEq, Repr

/-- A final vote waiting for its edge (R203, R207): OUTCOME bits, FAIL_CHIP. -/
structure Final where
  outcome : Nat
  failChip : Nat
deriving DecidableEq, Repr

/-- The norm round of a step: its totals and result, and the scalars that the step's optimizer uses (R195, R196, R201):
the step's LR and WD, p1 and p2, and G. -/
structure Norm where
  step : Nat := 0
  gnorm : Nat := 0
  clip : Nat := 0
  nonfinite : Nat := 0
  layers : List Nat := []
  failChip : Nat := 0x3FFF
  passed : Bool := false
  accepted : Bool := false
  lr : Nat := 0
  wd : Nat := 0
  p1 : Nat := 0
  p2 : Nat := 0
  shift : Int := 0
deriving DecidableEq, Repr

/-- A step parameter block (R197). -/
structure Param where
  step : Nat
  lr : Nat
  wd : Nat
deriving DecidableEq, Repr

/-- A running start of a collective entry (R355): what it is bound to, the slices and banks of SRC and DST, what has come
in (by phase, plane and offset), whether it started tagged, and what tagged packets brought. -/
structure CRun where
  entry : Nat
  step : Nat
  mb : Nat
  grain : Nat
  tagged : Bool
  srcPre : Option Nat
  dstPre : Option Nat
  srcBank : Nat
  dstBank : Nat
  got : List Nat := []
  own : Bool := false
  gotTag : List Nat := []
deriving DecidableEq, Repr

/-- A start that waits for the entry's previous start (R355), since when, or a layer ready held for the vote (R184). -/
structure CWait where
  entry : Nat
  step : Nat
  mb : Nat
  grain : Nat
  tagged : Bool
  held : Bool
  srcPre : Option Nat
  dstPre : Option Nat
  since : Option Nat := none
deriving DecidableEq, Repr

/-- A collector row (R108, R109, Table 4.7). -/
structure CRow where
  entries : List Nat := []
  blocks : Nat := 0
  pass : Nat := 0
  kop : Nat := 0
  flags : Nat := 0
  stream : Nat := 0
deriving DecidableEq, Repr

/-- A sum-length record with its value before the run-ahead began (R109, R126). -/
structure SumLen where
  blocks : Nat := 0
  pass : Nat := 0
  sat : Bool := false
  saved : Option (Nat × Nat × Bool) := none
deriving DecidableEq, Repr

/-- The state of a partition. `late` tells that it is behind the schedule, and `relBeat` is the last schedule beat it has
begun. `beatLost` tells that its job stopped when the module entered LOST (R49). `collTagged` are the starts whose completion is
tagged by their packets alone (R354). `freedAt` and `backAt` are when an accumulator was released and when a copy into a slice
was complete (R172, R177), and `masks` are PM0 to PM7 of the tiles, by the key 8 * tile + mask (R141); `mbLate` holds the steps that
MICROBATCH_LATE was raised for. `progFrom` is the schedule beat before which no program begins after a skip (R225), `finalStep` the
step for which the FINAL weight's entry was started last (R194), and `voteOwed` the steps whose VOTE entry has its result and has
packets still to hand over (R355). -/
structure Job where
  load : List LoadReq := []
  image : Option Image := none
  members : List (Nat × Nat) := []
  memberIx : Nat := 0
  unload : Bool := false
  unloadWho : List (Nat × Nat × Nat) := []
  armed : Bool := false
  startAt : Nat := 0
  live : Tab Nat := []
  b1pow : Nat := 0x3F800000
  b2pow : Nat := 0x3F800000
  params : List Param := []
  lastParam : Option Param := none
  banks : Tab Bank := []
  rings : Tab (List Nat) := []
  records : List Nat := []
  progs : List Prog := []
  rels : List Rel := []
  relNext : Nat := 0
  shares : List Share := []
  stood : List (Nat × Nat × Nat × Nat × Nat) := []
  mbs : Tab (Nat × Nat) := []
  mbLate : List Nat := []
  bufTags : List (Nat × Nat) := []
  colls : List CRun := []
  collWait : List CWait := []
  collHeld : List Packet := []
  collTagged : List CRun := []
  rows : Tab CRow := []
  sums : Tab SumLen := []
  accOpen : List Nat := []
  freedAt : Tab Nat := []
  backAt : Tab Nat := []
  masks : Tab (BitVec 256) := []
  hops : List Hop := []
  norms : Tab Norm := []
  final : Option Final := none
  lastNorm : List Nat := []
  sampled : List (Nat × Nat) := []
  frozen : List (Nat × Option Param) := []
  sentRound : Nat := 0
  sentNs : Nat := 0
  voteDeadline : Option Nat := none
  vetoes : List Nat := []
  fired : List (Nat × Nat × Bool) := []
  lastVote : Tab Nat := []
  formed : Option Contrib := none
  tagOps : Nat := 0
  refire : List (Nat × Nat) := []
  ckpt : CkptSt := {}
  once : List (Nat × Nat) := []
  stepCtrs : Tab Nat := []
  late : Bool := false
  beatLost : Bool := false
  relBeat : Nat := 0
  progFrom : Nat := 0
  finalStep : Option Nat := none
  voteOwed : List Nat := []
deriving DecidableEq, Repr

end Sys2Proof.Machine
end

