-- ==== Sys2Proof/Machine/Parts/Mgmt.lean ====
section
/-! DEFINITION. Parts/Mgmt.lean: the state of the management processor, the event log, the field network, calendar
time, security and bring-up that is not itself a dictionary object (chapters 18 to 21). -/

namespace Sys2Proof.Machine

/-- One subscription of a session (R514): the object, its period, and when the next publication is due (ns). -/
structure Sub where
  key : Nat
  period : Nat
  next : Nat
deriving DecidableEq, Repr

/-- A dictionary session (R506, R507, R514, R519): `nonce` is what its next AUTH is proved against, `sel` its own copy of every
selector. -/
structure Session where
  addr : Nat := 0
  port : Nat := 0
  path : Path := .field
  nonce : Option Nat := none
  authed : Bool := false
  lastSeq : Nat := 0
  failed : Nat := 0
  sel : Tab Nat := []
  subs : List Sub := []
  classMask : Nat := 0
  srcMask : Nat := 0
  lastReq : Nat := 0
deriving DecidableEq, Repr

/-- One entry of the event log (Table 18.8). -/
structure Event where
  seq : Nat
  code : Nat
  part : Nat
  payLen : Nat
  kind : Nat
  subj : Nat
  refNs : Nat
  cal : Nat
  beat : Nat
  supp : Nat
  payload : Nat
deriving DecidableEq, Repr

/-- What waits in the MP's queue (R511): a publication of a session's subscription, or an event notification. -/
inductive QItem where
  | publish (session key : Nat)
  | notify (session : Nat) (e : Event)
deriving DecidableEq, Repr

/-- One entry of the MP queue with its class (Table 18.6). -/
structure QEntry where
  cls : Nat
  item : QItem
deriving DecidableEq, Repr

/-- A persistent write on its way to flash (R504), and the request whose answer waits for it. -/
structure PersistJob where
  key : Nat
  inst : Nat
  val : Nat
  req : Nat
deriving DecidableEq, Repr

/-- An answer held until the persistent writes of its request are stored (R502), and the MBX_REQ_CTRL word when the request
came through a mailbox's request area (R508). -/
structure HeldAnswer where
  req : Nat
  who : Who
  op : Nat
  msg : Msg
  ctrl : Option Nat
deriving DecidableEq, Repr

/-- The management processor and event log (R493 to R519). `mbxWords` holds the 8-byte words of the mailbox areas, by
1,024 * port + word; `mbxSeq` the MBX_SEQ last taken; `mbxOut` the MBX_REQ_CTRL of a request without its answer yet. `defer` is the
request whose persistent writes are being gathered, `tempSel` the selectors of a sessionless message. `log` and `auditRing`
hold the newest entry first. -/
structure Mgmt where
  sessions : Tab Session := []
  mbx : Tab Session := []
  mbxWords : Tab Nat := []
  mbxSeq : Tab Nat := []
  mbxOut : Tab Nat := []
  queue : List QEntry := []
  lossInWindow : Bool := false
  lastLoss : Nat := 0
  persistQ : List PersistJob := []
  held : List HeldAnswer := []
  reqNo : Nat := 0
  defer : Option Nat := none
  tempSel : Tab Nat := []
  startAt : Nat := 0
  stored : Tab Nat := []
  buffer : List Event := []
  log : List Event := []
  seqNext : Nat := 1
  supp : Tab Nat := []
  lastRaise : Tab Nat := []
  enumCand : Nat := 0
  enumLate : Bool := false
  enumRx : Nat := 0
deriving DecidableEq, Repr

/-- A PTP master the module hears (R526): the port it is heard on, its source identity, its grandmaster, the comparison
vector of the standard's best master clock algorithm with the better master the smaller, and whether it is usable. -/
structure PtpMaster where
  port : Nat
  source : Nat
  gm : Nat
  vec : Nat
  usable : Bool
deriving DecidableEq, Repr

/-- The calendar counter in units of 0.125 ns, the part of a slew not yet made, and the IEEE 1588 servo (R524 to R529). The last
Sync's origin and receipt times and the last Delay_Req's sending time are calendar times in ns; `lastSync` and `holdSince` are
reference times. `calLost` tells that calendar time was lost while unpowered. -/
structure TimeSt where
  cal8 : Nat := 0
  slew : Int := 0
  masters : List PtpMaster := []
  syncSeq : Nat := 0
  syncRx : Nat := 0
  syncPending : Bool := false
  lastOrigin : Nat := 0
  lastRx : Nat := 0
  haveSync : Bool := false
  reqSeq : Nat := 0
  reqTx : Nat := 0
  reqPending : Bool := false
  goodRun : Nat := 0
  badRun : Nat := 0
  lastSync : Nat := 0
  holdSince : Nat := 0
  calLost : Bool := false
deriving DecidableEq, Repr

/-- One firmware slot (R530): the SECURITY_VERSION of its images, the vendor root slot that signed them, and whether
they verify. -/
structure FwSlot where
  version : Nat := 0
  keySlot : Nat := 0
  valid : Bool := true
deriving DecidableEq, Repr

/-- One audit entry (Table 19.5) without its MAC, which is computed from the rest on each read (R542). -/
structure Audit where
  seq : Nat
  cal : Nat
  refNs : Nat
  kind : Nat
  path : Nat
  session : Nat
  key : Nat
  remaining : Nat
  addr : Nat
  port : Nat
  old : Nat
  new : Nat
deriving DecidableEq, Repr

/-- A limited-setting write between its intent entry and its done entry (R539): the object, the new value, and who writes. -/
structure LimitIntent where
  key : Nat
  val : Nat
  who : Who
deriving DecidableEq, Repr

/-- The security controller (R530 to R542). `stage` holds the staged firmware chunks by number. Link keys are held by the value of LINK_KEY_SELECT: link, direction,
phase; each is the 32-byte key and 4-byte salt as one number. -/
structure Sec where
  ownerKey : Nat := 0
  imageKeys : Tab Nat := []
  linkKeys : Tab Nat := []
  slotA : FwSlot := {}
  slotB : FwSlot := {}
  stage : Tab Nat := []
  auditPerm : List Audit := []
  auditRing : List Audit := []
  auditNext : Nat := 1
  ringPass : Nat := 0
  intents : List LimitIntent := []
  keyNeeded : List Nat := []
deriving DecidableEq, Repr

/-- The partition layout in force, kept apart from the staged objects (R475): owner of each die and partition of each
port, four bits each, and the link set of each partition. -/
structure Layout where
  dieOwner : Nat := 0
  portPart : Nat := 0xFFF0
  links : List Nat := [0xFFFFFF, 0, 0, 0]
deriving DecidableEq, Repr

/-- Debug mode (R127): entry accepted and waiting for its edge, debug mode on, and the window reads of the session. -/
structure Debug where
  entering : Bool := false
  on : Bool := false
  reads : Nat := 0
deriving DecidableEq, Repr

/-- Reset and bring-up (R545 to R561, R568, R569, R573). `before` is the time from the start of S0 or reset entry to the
start of S1, `stageStart` when the present stage began and `paused` since when a power alert held up its end; `resetAt` is when a
MODULE_RESET acts and `tripEnd` when the 60 s after a thermal trip are over. `mpUp` tells that the MP's firmware runs and `ifUp` that the host and EP ports are up. `wave` counts the
self-test waves that have passed, `hbmDone` has a bit per stack, and `perst` one per host port whose PERST_N is released.
`repairs` lists rows as stack * 2^32 + row. -/
structure Boot where
  alwaysOn : Bool := true
  before : Nat := 0
  stageStart : Nat := 0
  paused : Option Nat := none
  resetAt : Option Nat := none
  tripEnd : Option Nat := none
  stopCause : Option Nat := none
  scanLatch : Bool := false
  wave : Nat := 0
  waveHalved : Bool := false
  onchipDone : Bool := false
  hbmDone : Nat := 0
  capDone : Bool := false
  switchClosed : Bool := true
  engageLow : Bool := true
  perst : Nat := 15
  repairs : List Nat := []
  mpUp : Bool := true
  ifUp : Bool := true
deriving DecidableEq, Repr

end Sys2Proof.Machine
end

