-- ==== Sys2Proof/Machine/Parts/Net.lean ====
section
/-! DEFINITION. Parts/Net.lean: the state of the tensor links (chapter 11), the transport with its tables, contexts,
tags and sync objects (chapter 12), and discovery (chapter 14). Times are in units of 0.125 ns unless a name ends in
Ns. -/

namespace Sys2Proof.Machine

/-- A data flit in the replay buffer (R310): its SEQ, type, key phase and body as sent, and how often it was replayed. -/
structure Replay where
  seq : Nat
  typ : Nat
  phase : Nat
  body : List Byte
  count : Nat
deriving DecidableEq, Repr

/-- A packet at an output (R335): the link it came from (none: an engine of this module), its class, the bytes of it that
are here, whether its last byte is, how many bytes have left, the partition whose work it is, its rank among requesters of
one cycle (the number of its input link, 24 for an engine) and when it came. -/
structure OutPkt where
  src : Option Nat
  cls : Nat
  bytes : List Byte
  done : Bool
  sent : Nat
  part : Nat
  rank : Nat := 24
  at_ : Nat := 0
deriving DecidableEq, Repr

/-- What a link's receiver does with the packet whose bytes are arriving (R323, R336). -/
inductive RxMode where
  | idle
  | eject
  | forward (out : Nat)
  | drop
deriving DecidableEq, Repr

/-- One tensor link (R300 to R322). `outMap` is the lane map of the outbound direction; the inbound one is the object
ACTIVE_LANES, and `lostIn` are its lanes that have lost lock and wait for LANE_SET. `downAt` is when the link last entered
DOWN; `failRaised` tells that TRAIN_FAILED was raised for the present run of failures; `encAgree` that both ends ask for
encryption; `txRetired` that the transmit key of the other phase is retired; `replayDue` that a replay waits for the end of
the switchover sub-slot. -/
structure LinkSt where
  attemptAt : Nat := 0
  attempts : Nat := 0
  fails : Nat := 0
  isRetrain : Bool := false
  outMap : Nat := 0
  partner : Option Nat := none
  selfLanes : Nat := 15
  encMismatch : Bool := false
  encAgree : Bool := false
  downAt : Nat := 0
  failRaised : Bool := false
  lostIn : Nat := 0
  replay : List Replay := []
  txNext : Nat := 0
  rxNext : Nat := 0
  nak : Bool := false
  gapNext : Option (Nat × Nat) := none
  framed : Bool := false
  tagFails : List Nat := []
  authStop : Bool := false
  replayTimes : List Nat := []
  replayDue : Bool := false
  loopOn : Bool := false
  loopId : Nat := 0
  loopCount : Nat := 0
  loopSum : Int := 0
  loopOut : Tab Nat := []
  loopAdd : Nat := 0
  switchOut : Option (Nat × Nat) := none
  switchIn : Option (Nat × Nat) := none
  switchThen : Option Nat := none
  switchCal : Bool := false
  gapPlan : Nat × Nat := (0, 0)
  fill : Int := 0
  ctlWait : List Nat := []
  outMark : Nat := 0
  txPhase : Nat := 0
  txCtr : Nat := 0
  txRetired : Bool := false
  rxPhase : Nat := 0
  rxCtr : Nat := 0
  keyStop : Bool := false
  rxBuf : List Byte := []
  rxMode : RxMode := .idle
  rxLeft : Nat := 0
  rxTotal : Nat := 0
  discarding : Bool := false
  queue : List OutPkt := []
  cur : Option OutPkt := none
  credTx : Tab Nat := []
  credOwed : Tab Nat := []
  lastAckAt : Nat := 0
  leftUp : Nat := 0
  graceStart : Nat := 0
  degradedAt : Option Nat := none
  identSets : Nat := 0
  identAt : Nat := 0
  haveIdent : Bool := false
  exch : Bool := false
  prevId : Option (Nat × Nat × Nat) := none
  ident : Nat := 0
  serial0 : Nat := 0
  serial1 : Nat := 0
  newIdent : Option Nat := none
  newS0 : Option Nat := none
  newS1 : Option Nat := none
  heard : Bool := false
  judged : Bool := false
  outcome : Nat := 0
  reason : Nat := 0
  sinceNs : Nat := 0
  noticed : Option Nat := none
  critRaised : Bool := false
  express : Bool := false
deriving DecidableEq, Repr

/-- A flow context (Table 12.8), and when its last outstanding tag ended (R344). -/
structure Ctx where
  chip : Nat := 0x3FFF
  epoch : Nat := 0
  cls : Nat := 0
  state : Nat := 0
  owner : Nat := 0xFF
  tagsOut : Nat := 0
  bytesOut : Nat := 0
  packetsTx : Nat := 0
  lastUseNs : Nat := 0
  freeNs : Nat := 0
deriving DecidableEq, Repr

/-- A request of the transfer engine: the descriptor that waits for it and its POST_OBJECT, its sides, how many bytes it has and how many it has issued, how many
of its tags are outstanding, the offset and status of its lowest-offset packet whose status is not OK (R346), the bytes
moved, since when it waits for a tag (true) or for its flow's window (R345), and whether it is the checkpoint engine's, which reads a
partner's slot for a restore (R439). -/
structure Req where
  owner : Nat × Nat × Nat
  post : Nat
  part : Nat
  chip : Nat
  cls : Nat
  isRead : Bool
  loc : Nat
  rem : Nat
  total : Nat
  next : Nat := 0
  left : Nat := 0
  badOff : Nat := 0
  badStatus : Nat := 0
  bytes : Nat := 0
  waitSince : Option (Nat × Bool) := none
  ckpt : Bool := false
deriving DecidableEq, Repr

/-- A request tag in use (R345). A read's `dst` is the local global address its data goes to. -/
structure Tag where
  gen : Nat
  owner : Nat
  ctx : Nat
  chip : Nat
  req : Nat
  off : Nat
  len : Nat
  isRead : Bool
  dst : Nat
  deadlineNs : Nat
deriving DecidableEq, Repr

/-- A sync object (Table 12.9); `taken` tells that its timeout has fallen due for its step (R353). -/
structure SyncObj where
  count : Nat := 0
  target : Nat := 0
  action : Nat := 0
  state : Nat := 0
  timeoutKind : Nat := 0
  timeout : Nat := 0
  taggedDone : Bool := false
  deadlineSet : Bool := false
  owner : Nat := 0xFF
  role : Nat := 0
  pair : Nat := 0xFFFF
  step : Nat := 0
  spec : Nat := 0
  early : Nat := 0
  earlySpec : Nat := 0
  deadline : Nat := 0
  completeNs : Nat := 0
  eventStep : Option Nat := none
  taken : Bool := false
  lastArrival : Option Nat := none
deriving DecidableEq, Repr

/-- A packet that waits at injection for a usable candidate (R343), with the LINK_MASK of its entry. -/
structure Waiting where
  pkt : Packet
  part : Nat
  mask : Nat
deriving DecidableEq, Repr

/-- The transport (R329 to R354). `zeroHeld` are the packets that wait while the memory they name is zeroed (R279). -/
structure Net where
  links : Tab LinkSt := []
  epoch : Tab Nat := []
  route : Tab Nat := []
  ctxs : Tab Ctx := []
  tags : Tab Tag := []
  gens : Tab Nat := []
  reqs : Tab Req := []
  reqNext : Nat := 0
  sync : Tab SyncObj := []
  waiting : List Waiting := []
  localQ : List (Packet × Nat) := []
  noticeAt : Tab Nat := []
  wiring : Tab Nat := []
  fenceZeroing : Bool := false
  zeroHeld : List (Nat × Packet × Bool) := []
  fencedAt : Option Nat := none
deriving DecidableEq, Repr

end Sys2Proof.Machine
end

