-- ==== Sys2Proof/Machine/Parts/Optics.lean ====
section
/-! DEFINITION. Parts/Optics.lean: the state of the optical engines, the light source and the express switch that is not
itself a dictionary object (chapter 13). Powers and temperatures are F32 patterns; times are in units of 0.125 ns. -/

namespace Sys2Proof.Machine

/-- A channel (R369, Table 13.9). `flags` are those of the channel record; `modAt` and `dropAt` are when each ring was last
calibrated; `lostMod` and `lostDrop` when a ring lost lock. `overdue` and `low` tell that their event was raised; `asked` that
a calibration request for the drop filter is out (R381); `tried` that its forced window was skipped (R386). -/
structure Channel where
  txPower : Nat := 0
  txRef : Nat := 0
  rxPower : Nat := 0
  modHeater : Nat := 0
  dropHeater : Nat := 0
  spareHeater : Nat := 0
  flags : Nat := 0
  modAt : Option Nat := none
  dropAt : Option Nat := none
  calTemp : Nat := 0
  lostMod : Option Nat := none
  lostDrop : Option Nat := none
  overdue : Bool := false
  low : Bool := false
  asked : Bool := false
  tried : Bool := false
deriving DecidableEq, Repr

/-- A calibration of an outbound channel (R378, R382 to R387): its kind, a window that is 0 plan, 1 forced, 2 idle, or 3 no window
because the lane was already out; when it opened and the schedule beat that closes it; its phase in Table 13.5 (0 before the
lane leaves) and the time of t = 0; the operating point before it; whether the spare sweep runs; whether it is abandoned. -/
structure CalWin where
  kind : Nat
  openedAt : Nat
  closeBeat : Nat
  phase : Nat := 0
  t0 : Nat := 0
  prev : Nat := 0
  sweeping : Bool := false
  abandoned : Bool := false
deriving DecidableEq, Repr

/-- A receiver's part of a calibration (R380). -/
structure CalRx where
  t0 : Nat
  phase : Nat := 1
deriving DecidableEq, Repr

/-- The optics. `wins` and `rxs` are the calibrations of outbound and inbound channels, by channel number. `hist` holds the power
samples of the last millisecond with their times, newest first: of laser l at l, of the transmit bus of channel c at 8 + c.
`nominal` are the LSM's reported powers of its lasers; `idleAt` is the last slot of a link's idle windows that came (R385); `pending` and `crossed` map a wavelength to the time its
switchover became pending or crossed; `lost` has a bit per lost wavelength; `dropAsked` names inbound lanes, as
4 · link + lane, whose removal this module has asked for. -/
structure Optics where
  chans : Tab Channel := []
  wins : Tab CalWin := []
  rxs : Tab CalRx := []
  supplied : Bool := false
  nominal : List Nat := []
  serial : Nat := 1
  retired : Nat := 0
  readySince : Option Nat := none
  pending : Tab Nat := []
  crossed : Tab Nat := []
  lost : Nat := 0
  hist : Tab (List (Nat × Nat)) := []
  idleAt : Tab Nat := []
  idleDue : List Nat := []
  dropAsked : List Nat := []
  express : Tab Nat := []
  armed : Option Nat := none
  slipAsk : Bool := false
  slipAsked : Bool := false
deriving DecidableEq, Repr

end Sys2Proof.Machine
end

