-- ==== Sys2Proof/Machine/Parts/Power.lean ====
section
/-! DEFINITION. Parts/Power.lean: the state of supply, power and thermal control that is not itself a dictionary object
(chapter 16). Times are in units of 0.125 ns, energies in units of 2^-149 W times 0.125 ns, temperatures in units of 0.125 °C. -/

namespace Sys2Proof.Machine

/-- A temperature sensor (R464): its last reading and whether it is valid, the reading it last moved from, when, its
die's power then, whether that power has since moved by 20 W, and whether SENSOR_FAULT was raised. -/
structure Sensor where
  value : Int
  valid : Bool
  ref : Int
  since : Nat
  power : Nat
  moved : Bool
  faulted : Bool
deriving DecidableEq, Repr

/-- A droop detector's domain (R457): the ballast level, the level its last sample computed, and since when that has stayed
below the present level. -/
structure Ballast where
  level : Nat := 0
  computed : Nat := 0
  below : Nat := 0
deriving DecidableEq, Repr

/-- Supply, power and thermal control. `alert`, `stopPending` and `ovOpen` are the supply states of R448 to R454; the
`...Since` fields hold when a condition began that must last. `buckets` are completed 10 ms energies, newest first.
`tickE` and `tickT` are the energy and time since the last governor tick. `holdOn` tells that a thermal hold is applied
(R467), `holders` by which dies (0 to 5); `catchUp` that the module catches up after one. `mode` is the clock mode in force; `slots`
measures, by cause of Table 2.5, the slots withheld in the current beat (R460). -/
structure Power where
  alert : Bool := false
  stopPending : Bool := false
  ovOpen : Bool := false
  okSince : Option Nat := none
  lowSince : Option Nat := none
  goodSince : Option Nat := none
  highSince : Option Nat := none
  busOkSince : Option Nat := none
  railBadSince : Option Nat := none
  bus : Nat := 0
  lowestVin : Option Nat := none
  sampleAt : Option Nat := none
  recent : List (Nat × Nat) := []
  buckets : List Nat := []
  bucketIdx : Nat := 0
  eNow : Nat := 0
  eFrac : Nat := 0
  tickE : Nat := 0
  tickT : Nat := 0
  pAllow : Nat := 0x44FA0000
  sinceRaise : Nat := 0
  limitedSince : Option Nat := none
  limitedDone : Bool := false
  limitedFrac : Nat := 0
  boostFrac : Nat := 0
  trimFrac : Tab Nat := []
  acctAt : Nat := 0
  marginAt : Nat := 0
  lastRise : Option Nat := none
  target : Nat := 2000
  moving : Bool := false
  pendingMode : Bool := false
  ballast : Tab Ballast := []
  ballastFrac : Tab Nat := []
  sensors : Tab Sensor := []
  temps : List Int := []
  above110 : List Nat := []
  hotSince : Tab Nat := []
  hotDone : List Nat := []
  holdPending : Bool := false
  holdOn : Bool := false
  holders : List Nat := []
  releasePending : Bool := false
  catchUp : Bool := false
  mode : Nat := 0
  slots : Tab Nat := []
deriving DecidableEq, Repr

end Sys2Proof.Machine
end

