-- ==== Sys2Proof/Machine/State.lean ====
section
/-! DEFINITION. State.lean: the state of the module as plain data, its state after reset, and the reasons a step may
stop. -/

namespace Sys2Proof.Machine

/-- The module. `dict` holds the working value of every dictionary object that is not a view of another field, keyed
by 256 * index + subindex. `now` is reference time in units of 0.125 ns since the counter started (R68). `out` is what the
module has sent, newest first. `fresh` counts the free values drawn. `flashCk` holds the checkpoint slots in
flash, by 8 * partition + slot, and `storeCk` the headers of the shared store's slots. `pending` is the queue of commands. -/
structure State where
  dict : Tab Nat := []
  now : Nat := 0
  fresh : Nat := 0
  out : List Out := []
  fullConfig : Bool := true
  layout : Layout := {}
  mgmt : Mgmt := {}
  time : TimeSt := {}
  sec : Sec := {}
  boot : Boot := {}
  dbg : Debug := {}
  beat : Beat := {}
  net : Net := {}
  jobs : Tab Job := []
  host : HostSt := {}
  power : Power := {}
  optics : Optics := {}
  flashCk : Tab CkSlot := []
  storeCk : Tab CkSlot := []
  mem : List Host.Cell := []
  poison : List Nat := []
  pending : List Instr := []
deriving DecidableEq, Repr

/-- Why a step may stop with a fault. The spec gives every input of the module an answer (R8), so no meaning of this
model stops: the type has no constructor. -/
inductive Fault where
deriving DecidableEq, Repr

/-- Why a command may be refused. -/
inductive Refusal where
  /-- A command that has no meaning yet, by its mnemonic. Raised by exec's arms only. Safe: nothing is claimed of it. -/
  | notModelled (mnemonic : String)
deriving DecidableEq, Repr

/-- The outcome type of a step. -/
abbrev Outcome := Host.Outcome State Fault Refusal

/-- The module right after reset. -/
def State.reset : State := {}

end Sys2Proof.Machine
end

