-- ==== Sys2Proof/Machine/Ops.lean ====
section
/-! DEFINITION. Ops.lean: the named operations every chapter uses: reading and writing dictionary objects, counting,
the reference clock, what the module sends, free values, and raising events. -/

namespace Sys2Proof.Machine

/-- The default of an object in the configuration at hand (R4, R10 and the object tables). -/
def Dict.dflt (full : Bool) (k : Nat) : Nat :=
  if k = O.MODULE_SERIAL then Config.moduleSerial + 256 ^ 16
  else if k = O.FIELD_MAC then Config.fieldMac
  else if full then Dict.nonzero.get k 0
  else if k = O.CONFIGURATION then 0x45
  else if k = O.TENSOR_LINK_COUNT then 8
  else if k = O.SWITCH_SUBSLOT_NS then 0
  else if k = O.LINK_SET_P0 then 0xFF
  else Dict.nonzero.get k 0

/-- The working value of an object (R509). -/
def State.obj (s : State) (k : Nat) : Nat := s.dict.get k (Dict.dflt s.fullConfig k)

/-- Give an object a value. -/
def State.put (s : State) (k v : Nat) : State := { s with dict := s.dict.set k v }

/-- Add to a 64-bit counter; counters wrap to 0 (R73, R98, R129, R159, R213, R522, R543). -/
def State.add (s : State) (k n : Nat) : State := s.put k ((s.obj k + n) % 2 ^ 64)

/-- Count one. -/
def State.inc (s : State) (k : Nat) : State := s.add k 1

/-- Count one in each of several counters. -/
def State.incAll (s : State) (ks : List Nat) : State := ks.foldl State.inc s

/-- The module sends something. -/
def State.send (s : State) (o : Out) : State := { s with out := o :: s.out }

/-- Send several things, the first of the list first. -/
def State.sendAll (s : State) (os : List Out) : State := os.foldl State.send s

/-- REF_NS: reference time in whole nanoseconds (R68). -/
def State.refNs (s : State) : Nat := s.now / 8 % 2 ^ 64

/-- How far the calendar counter moves, in units of 0.125 ns, when reference time moves by `d`: the same amount plus
the part of a pending slew that 200 ppm allows (R524, R527, log entry 12). -/
def slewPart (d : Nat) (slew : Int) : Int :=
  if slew < 0 then max slew (-((d * 200 / 1000000 : Nat) : Int)) else min slew ((d * 200 / 1000000 : Nat) : Int)

/-- Reference time reaches `t`, or stays when it is already past it. Calendar time moves with it. -/
def State.upTo (s : State) (t : Nat) : State :=
  if t ≤ s.now then s
  else
    let p := slewPart (t - s.now) s.time.slew
    { s with now := t,
             time.cal8 := ((s.time.cal8 + (t - s.now) : Nat) + p).toNat,
             time.slew := s.time.slew - p }

/-- Calendar time in nanoseconds as records and events carry it: 0 while it is not valid (R525). -/
def State.calNs (s : State) : Nat := if s.obj O.CALENDAR_VALID = 1 then s.time.cal8 / 8 % 2 ^ 64 else 0

/-- Beat states (Table 2.6). -/
abbrev BeatState.unlocked : Nat := 0
/-- ACQUIRING (Table 2.6). -/
abbrev BeatState.acquiring : Nat := 1
/-- LOCKED (Table 2.6). -/
abbrev BeatState.locked : Nat := 2
/-- ROOT (Table 2.6). -/
abbrev BeatState.root : Nat := 3
/-- LOST (Table 2.6). -/
abbrev BeatState.lost : Nat := 4

/-- Whether the module places edges: LOCKED or ROOT. -/
def State.onBeat (s : State) : Bool := s.obj O.BEAT_STATE = 2 ∨ s.obj O.BEAT_STATE = 3

/-- A condition of Table 2.5 is present in this beat (R58). -/
def State.markCond (s : State) : State := { s with beat.cond := true }

/-- What an event names beside its code (Table 18.8): partition, subject kind and number, payload bytes and length. -/
structure EvArgs where
  part : Nat := 0xFF
  kind : Nat := 0
  subj : Nat := 0
  pay : Nat := 0
  len : Nat := 0
deriving DecidableEq, Repr

/-- The event buffer's capacity (R517). -/
abbrev eventBufferSize : Nat := 1024

/-- Raise an event: it goes into the event buffer with its REF_NS, or, when the buffer is full, is only counted as
lost and suppressed (R517). SEQ is given when the entry is logged. -/
def State.raise (s : State) (code : Nat) (a : EvArgs := {}) : State :=
  if s.mgmt.buffer.length < eventBufferSize then
    let e : Event :=
      { seq := 0, code := code, part := a.part, payLen := a.len, kind := a.kind, subj := a.subj,
        refNs := s.refNs, cal := s.calNs, beat := if s.onBeat then s.obj O.BEAT_COUNT else 0,
        supp := s.mgmt.supp.get code 0, payload := a.pay }
    { s with mgmt.buffer := s.mgmt.buffer ++ [e], mgmt.supp := s.mgmt.supp.set code 0 }
  else
    { s.inc O.EVENTS_LOST with mgmt.supp := s.mgmt.supp.set code (s.mgmt.supp.get code 0 + 1) }

/-- Raise an event at most once per interval for each value of `who` (R517): within the interval it is only counted
as suppressed. -/
def State.raiseEvery (s : State) (code who intervalNs : Nat) (a : EvArgs := {}) : State :=
  let k := code + 0x10000 * who
  match s.mgmt.lastRaise.find k with
  | some t =>
    if s.refNs < t + intervalNs then
      { s with mgmt.supp := s.mgmt.supp.set code (s.mgmt.supp.get code 0 + 1) }
    else ({ s with mgmt.lastRaise := s.mgmt.lastRaise.set k s.refNs }).raise code a
  | none => ({ s with mgmt.lastRaise := s.mgmt.lastRaise.set k s.refNs }).raise code a

/-- One second in nanoseconds. -/
abbrev sec1 : Nat := 1000000000

/-- Draw the next 128 bits of the random generator (R536). -/
def State.drawNonce (s : State) : Nat × State :=
  (Config.freeNonce s.fresh % 2 ^ 128, { s with fresh := s.fresh + 1 })

/-- Draw a free choice. -/
def State.drawChoice (s : State) : Bool × State :=
  (Config.freeChoice s.fresh, { s with fresh := s.fresh + 1 })

/-- Draw a free value of n bits. -/
def State.drawNat (s : State) (n : Nat) : Nat × State :=
  (Config.freeNat s.fresh % 2 ^ n, { s with fresh := s.fresh + 1 })

/-- Keys of partition p, and of link n, and of one of several subindices. -/
abbrev O.at (k p : Nat) : Nat := k + 256 * p

/-- The next state with nothing refused: every input has an answer (R8). -/
abbrev ok (s : State) : Outcome := .next s

end Sys2Proof.Machine
end

