-- ==== Sys2Proof/Machine/DictOps.lean ====
section
/-! DEFINITION. DictOps.lean: who may read and write which object, in the order of R502: presence, access, type, then
the range; and the command form of a single dictionary write. -/

namespace Sys2Proof.Machine

/-- Item statuses (Table 18.4). -/
abbrev St.ok : Nat := 0
/-- NOT_PRESENT. -/
abbrev St.notPresent : Nat := 1
/-- OUT_OF_RANGE. -/
abbrev St.outOfRange : Nat := 2
/-- ACCESS. -/
abbrev St.access : Nat := 3
/-- REFUSED. -/
abbrev St.refused : Nat := 4
/-- TYPE. -/
abbrev St.type : Nat := 5
/-- BUSY. -/
abbrev St.busy : Nat := 6
/-- MALFORMED. -/
abbrev St.malformed : Nat := 7
/-- NOT_RUN. -/
abbrev St.notRun : Nat := 8
/-- LIMIT_SPENT. -/
abbrev St.limitSpent : Nat := 9
/-- SESSION. -/
abbrev St.session : Nat := 10
/-- VERSION. -/
abbrev St.version : Nat := 11

/-- The table row of a key (R520): every index and subindex not listed is not present. -/
def Dict.row (k : Nat) : Option ObjRow :=
  Dict.rows.find? (fun r =>
    r.idx ≤ k / 256 && k / 256 < r.idx + r.span && r.sub ≤ k % 256 && k % 256 < r.sub + r.subs)

/-- Objects of units absent from SV1-E (R4, R73, R327, R397): links TL8 to TL23 and the optics. -/
def Dict.absentE (k : Nat) : Bool :=
  (0x3009 ≤ k / 256 && k / 256 ≤ 0x3018) || (0x3200 ≤ k / 256 && k / 256 ≤ 0x32FF) ||
  (k / 256 = 0x4001 && 9 ≤ k % 256)

/-- Objects present in reset-hold (R561); the others answer ACCESS. -/
def Dict.inHold (k : Nat) : Bool :=
  let i := k / 256
  i = 0x1000 || i = 0x1010 || i = 0x1011 || i = 0x1020 || i = 0x1021 || k = 0x200001 || k = 0x200008 || k = 0x200009
    || k = 0x200012 || i = 0x6080 || (0x7000 ≤ i && i ≤ 0x7FFF) || i = 0x8000 || i = 0x8001

/-- Bring-up stage 10 is reset-hold (Table 20.7). -/
def State.inResetHold (s : State) : Bool := s.obj O.BRINGUP_STAGE = 10

/-- The host ports and EP ports are up (R452, R559, R561). -/
def State.portsUp (s : State) : Bool := s.boot.ifUp && !s.inResetHold && s.boot.stopCause.isNone

/-- In reset-hold with cause FIRMWARE the SC's ROM answers in the MP's place (R561). -/
def State.romServes (s : State) : Bool := s.boot.alwaysOn && !s.boot.mpUp && s.inResetHold

/-- A path is served (R493, R497, R508, R559, R561). -/
def State.served (s : State) (who : Who) : Bool :=
  s.boot.alwaysOn &&
  match who.path with
  | .field => s.boot.mpUp || s.inResetHold
  | .internal => true
  | .ep n => s.boot.mpUp && s.portsUp && bit (s.obj O.EP_DICT_ENABLE) n.val
  | .mailbox _ => s.boot.mpUp && s.portsUp

/-- Access is denied by reset-hold (R561): objects outside its list, and with the ROM serving all but its own. -/
def State.holdDenies (s : State) (k : Nat) (write : Bool) : Bool :=
  let i := k / 256
  s.inResetHold &&
  if s.boot.mpUp then !Dict.inHold k
  else if write then !(k = O.MODULE_RESET || i = 0x7030)
  else !(i = 0x1000 || i = 0x1020 || i = 0x8000)

/-- Privileges (R505). -/
inductive Priv where
  | read
  | host (part : Nat)
  | owner
deriving DecidableEq, Repr

/-- The partition a host port belongs to, when it belongs to one by the layout in force (R475). -/
def State.portPart (s : State) (n : Nat) : Option Nat :=
  let p := bits s.layout.portPart (4 * n + 3) (4 * n)
  if p < 4 then some p else none

/-- The session a request belongs to (R506): a mailbox's own session, or an open UDP session by its number. -/
def State.sess (s : State) (who : Who) : Option Session :=
  match who.path with
  | .mailbox n => if who.session = 0 then some (s.mgmt.mbx.get n.val {}) else none
  | .internal => none
  | _ =>
    if who.session = 0 then none
    else
      match s.mgmt.sessions.find who.session with
      | some ss => if ss.addr = who.addr ∧ ss.port = who.port ∧ ss.path = who.path then some ss else none
      | none => none

/-- Replace a session. -/
def State.setSess (s : State) (who : Who) (ss : Session) : State :=
  match who.path with
  | .mailbox n => { s with mgmt.mbx := s.mgmt.mbx.set n.val ss }
  | .internal => s
  | _ => { s with mgmt.sessions := s.mgmt.sessions.set who.session ss }

/-- The privilege of a request (R505); in return-to-vendor mode every path has read privilege only (R540). -/
def State.priv (s : State) (who : Who) : Priv :=
  if s.obj O.RTV_MODE = 1 then .read
  else match who.path with
    | .internal => .owner
    | .mailbox n =>
      if ((s.sess who).map (·.authed)).getD false then .owner
      else match s.portPart n.val with
        | some p => .host p
        | none => .read
    | _ => if ((s.sess who).map (·.authed)).getD false then .owner else .read

/-- The partition of a partition-indexed object. -/
def ObjRow.partOf (r : ObjRow) (k : Nat) : Option Nat := if r.part then some (k / 256 - r.idx) else none

/-- Whether a privilege may read an object (R505). -/
def Priv.canRead (p : Priv) (r : ObjRow) (k : Nat) : Bool :=
  r.acc ≠ .wo &&
  match p with
  | .owner => true
  | .host q => r.partOf k = none || r.partOf k = some q
  | .read => r.partOf k = none

/-- Whether a privilege may write an object (R503, R505, R507): read-only objects never; selectors with the privilege
to read what they serve; otherwise the owner, or a host for the objects of its partition. STORE_TARGET and STORE_NQN, the
only persistent objects of a partition, need the owner (R445). -/
def Priv.canWrite (p : Priv) (r : ObjRow) (k : Nat) : Bool :=
  r.acc ≠ .ro &&
  match p with
  | .owner => true
  | .host q =>
    if r.sel then r.partOf k = none || r.partOf k = some q
    else r.partOf k = some q && (r.acc = .rw || r.acc = .wo)
  | .read => r.sel && r.partOf k = none

/-- OWNER_KEY_INIT is written through any host mailbox while OWNER_KEY_STATE is 0 (R505, R534). -/
def State.keyInitOpen (s : State) (who : Who) (k : Nat) : Bool :=
  k = O.OWNER_KEY_INIT &&
  match who.path with
  | .mailbox _ => s.obj O.OWNER_KEY_STATE = 0 && s.obj O.RTV_MODE = 0
  | _ => false

/-- The value range that an object's row names (R501, R503, R583): command objects take 1 only, booleans 0 or 1. -/
def ObjRow.inRange (r : ObjRow) (v : Nat) : Bool :=
  if r.cmd1 then v = 1
  else if r.ty = .bool then v ≤ 1
  else if r.hi = 0 then true
  else (r.lo ≤ v && v ≤ r.hi) || (v = 0xFF && (r.idx = 0x4000) && (r.sub = 7 || r.sub = 8))

/-- Presence and access of a write (R502): the status of the first check that fails. -/
def State.writeAccess (s : State) (who : Who) (k : Nat) : Option Nat :=
  match Dict.row k with
  | none => some St.notPresent
  | some r =>
    if !s.fullConfig && Dict.absentE k then some St.notPresent
    else if s.holdDenies k true then some St.access
    else if s.keyInitOpen who k then none
    else if !(s.priv who).canWrite r k then some St.access
    else none

/-- One byte of a UTF-8 text: how many continuation bytes are due, and the range of the next; none after an error. -/
def utf8Step (st : Option (Nat × Nat × Nat)) (x : Byte) : Option (Nat × Nat × Nat) :=
  let b := x.toNat
  match st with
  | none => none
  | some (0, _, _) =>
    if b < 0x80 then some (0, 0, 0)
    else if 0xC2 ≤ b && b ≤ 0xDF then some (1, 0x80, 0xBF)
    else if b = 0xE0 then some (2, 0xA0, 0xBF)
    else if b = 0xED then some (2, 0x80, 0x9F)
    else if 0xE1 ≤ b && b ≤ 0xEF then some (2, 0x80, 0xBF)
    else if b = 0xF0 then some (3, 0x90, 0xBF)
    else if 0xF1 ≤ b && b ≤ 0xF3 then some (3, 0x80, 0xBF)
    else if b = 0xF4 then some (3, 0x80, 0x8F)
    else none
  | some (n + 1, lo, hi) => if lo ≤ b && b ≤ hi then some (n, 0x80, 0xBF) else none

/-- Valid UTF-8 (R501). -/
def utf8 (bs : List Byte) : Bool :=
  match bs.foldl utf8Step (some (0, 0, 0)) with
  | some (0, _, _) => true
  | _ => false

/-- The bytes of a STRING's value, which ends in a byte 1 above them. -/
def strBytes (v : Nat) : List Byte := toLE (Nat.log2 v / 8) v

/-- A STRING's value is well formed, no longer than its object and valid UTF-8 (R501). -/
def strOk (len v : Nat) : Bool := v / 256 ^ (Nat.log2 v / 8) = 1 && Nat.log2 v / 8 ≤ len && utf8 (strBytes v)

/-- The checks of a write up to the owning chapter's own rules (R501, R502): the status of the first that fails. The written
value is a number below 256 to the object's length, or a STRING's. -/
def State.gate (s : State) (who : Who) (k v : Nat) : Option Nat :=
  match s.writeAccess who k, Dict.row k with
  | some st, _ => some st
  | none, none => some St.notPresent
  | none, some r =>
    if r.ty ≠ .str && 256 ^ r.len ≤ v then some St.type
    else if (r.ty = .str && !strOk r.len v) || !r.inRange v then some St.refused
    else none

/-- A single dictionary write as a command: the checks of R502, then the owning chapter's rule; the item's status is
sent to the requester. A path that is not served gets no answer. -/
def rowWrite (s : State) (who : Who) (k v : Nat) (act : State → State × Nat) : Outcome :=
  if !s.served who then ok s
  else
  match s.gate who k v with
  | some st => ok (s.send (.status who k st))
  | none => ok ((act s).1.send (.status who k (act s).2))

/-- The value of a selector in the requester's session (R507); a sessionless message starts with the defaults. -/
def State.selOf (s : State) (who : Who) (k : Nat) : Nat :=
  match s.sess who with
  | some ss => ss.sel.get k (Dict.dflt s.fullConfig k)
  | none => s.mgmt.tempSel.get k (Dict.dflt s.fullConfig k)

/-- The key under which flash keeps an instance of a windowed object. -/
def instKey (k inst : Nat) : Nat := k + inst * 2 ^ 24

/-- A persistent write goes to flash (R504): at once, or, within a dictionary message, at its turn in the flash stage. `inst` is
the instance of a windowed object. -/
def State.storeInst (s : State) (k inst v : Nat) : State :=
  match s.mgmt.defer with
  | some r => { s with mgmt.persistQ := s.mgmt.persistQ ++ [{ key := k, inst := inst, val := v, req := r }] }
  | none => { s with mgmt.stored := s.mgmt.stored.set (instKey k inst) v }.inc O.PERSIST_WRITES

/-- A persistent object takes and stores a value (R504); a repeated value needs no flash write. -/
def State.store (s : State) (k v : Nat) : State :=
  if s.mgmt.stored.get k (Dict.dflt s.fullConfig k) = v && !s.mgmt.persistQ.any (·.key = k) then s.put k v
  else (s.put k v).storeInst k 0 v

/-- Every partition is EMPTY. -/
def State.allEmpty (s : State) : Bool :=
  [0, 1, 2, 3].all (fun p => s.obj (O.at O.IMAGE_STATE p) = 0)

/-- No restore is in progress (R438). -/
def State.noRestore (s : State) : Bool :=
  [0, 1, 2, 3].all (fun p => s.obj (O.at O.RESTORE_STATE p) ≠ 1)

end Sys2Proof.Machine
end

