-- ==== Sys2Proof/Machine/Audit.lean ====
section
/-! DEFINITION. Audit.lean: the audit log (R541, R542). -/

namespace Sys2Proof.Machine

/-- PATH of an audit entry (Table 19.5). -/
def Who.pathCode (w : Who) : Nat :=
  match w.path with
  | .field => 0
  | .ep n => 1 + n.val
  | .mailbox n => 3 + n.val
  | .internal => 7

/-- Entries of KIND 1 to 3 and 13 go to the permanent region (R542). -/
def Audit.permanent (kind : Nat) : Bool := kind ≤ 3 || kind = 13

/-- The permanent region takes one more entry of a kind (R541, R542); an abandoned entry always finds the ring. -/
def State.auditRoom (s : State) (kind : Nat) : Bool := !Audit.permanent kind || kind = 3 || s.sec.auditPerm.length < 512

/-- Write an audit entry (R541, R542). Lists hold the newest entry first. -/
def State.audit (s : State) (who : Who) (kind key remaining old new : Nat) : State :=
  let e : Audit :=
    { seq := s.sec.auditNext, cal := s.calNs, refNs := s.refNs, kind := kind, path := Who.pathCode who, session := who.session,
      key := key, remaining := remaining, addr := who.addr, port := who.port, old := old % 256 ^ 16, new := new % 256 ^ 16 }
  let s := { s with sec.auditNext := e.seq + 1 }
  if Audit.permanent kind && s.sec.auditPerm.length < 512 then { s with sec.auditPerm := e :: s.sec.auditPerm }
  else
    let wrap := 262144 ≤ s.sec.auditRing.length
    let pass := (s.sec.ringPass + 1) % 262144
    let s := { s with sec.auditRing := e :: s.sec.auditRing.take 262143, sec.ringPass := pass }
    if wrap && pass = 1 then s.raise 0x208D else s

/-- Bytes 0 to 111 of an audit entry (Table 19.5). -/
def Audit.body (e : Audit) : Nat :=
  fld 0 e.seq + fld 8 e.cal + fld 16 e.refNs + fld 24 e.kind + fld 25 e.path + fld 26 e.session + fld 28 (e.key / 256) +
    fld 30 (e.key % 256) + fld 31 e.remaining + fld 32 e.addr + fld 48 e.port + fld 64 e.old + fld 80 e.new

/-- An audit entry as it is read: its ENTRY_MAC is HMAC-SHA-256 under the audit key (R542). -/
def Audit.bytes (e : Audit) : Nat :=
  e.body + fld 112 (ofLE ((Sha.hmac (toLE 32 Config.auditKey) (toLE 112 e.body)).take 16))

end Sys2Proof.Machine
end

