-- ==== Sys2Proof/Machine/ImageParse.lean ====
section
/-! DEFINITION. ImageParse.lean: reading a beat program image from its bytes (Tables 8.1 to 8.14). The bytes are held as
one little-endian number. -/

namespace Sys2Proof.Machine.Img

/-- Section types of fixed entry bytes (Table 8.3); 0 where the entries vary or the type is not listed. -/
def entryBytes (t : Nat) : Nat :=
  match t with
  | 1 => 64
  | 2 => 32
  | 3 => 80
  | 5 => 16
  | 6 => 16
  | 7 => 40
  | 9 => 16
  | 10 => 12
  | 11 => 20
  | 12 => 20
  | 13 => 64
  | 14 => 48
  | 15 => 32
  | _ => 0

/-- Lowest and highest entry counts of a section (Table 8.3). -/
def countRange (t : Nat) : Nat × Nat :=
  match t with
  | 1 => (1, 1)
  | 2 => (1, 128)
  | 3 => (1, 65535)
  | 4 => (1, 16384)
  | 5 => (1, 1048576)
  | 6 => (0, 65535)
  | 7 => (0, 1024)
  | 8 => (1, 16384)
  | 9 => (1, 4096)
  | 10 => (0, 4096)
  | 11 => (0, 65535)
  | 12 => (0, 1024)
  | 13 => (1, 1)
  | 14 => (0, 65535)
  | _ => (0, 1)

/-- Required section types (Table 8.3). -/
def required : List Nat := [1, 2, 3, 4, 5, 8, 9, 13]

/-- A directory entry: type, count, offset and length (Table 8.2). -/
structure Dir where
  typ : Nat
  count : Nat
  off : Nat
  len : Nat
deriving DecidableEq, Repr

/-- The directory of an image. -/
def dirs (r : Nat) : List Dir :=
  (List.range (min 32 (recF r 6 2))).map (fun i =>
    let o := 64 + 16 * i
    { typ := recF r o 1, count := recF r (o + 4) 4, off := recF r (o + 8) 4, len := recF r (o + 12) 4 })

/-- The section of a type. -/
def dir (ds : List Dir) (t : Nat) : Dir := (ds.find? (fun d => d.typ = t)).getD { typ := t, count := 0, off := 0, len := 0 }

/-- The offsets of the entries of a fixed section. -/
def offs (d : Dir) : List Nat := (List.range d.count).map (fun i => d.off + i * entryBytes d.typ)

/-- STAGE. -/
def stage (r o : Nat) : Stage :=
  { index := recF r o 2, count := recF r (o + 2) 2, layerFirst := recF r (o + 4) 2, layerLast := recF r (o + 6) 2,
    grainRows := recF r (o + 8) 4, maxGrains := recF r (o + 12) 2, mbs := recF r (o + 14) 2,
    keepLayers := recF r (o + 16) 2, runahead := recF r (o + 18) 2, minNominal := recF r (o + 20) 4,
    minFixed := recF r (o + 24) 4, stepBeats := recF r (o + 28) 4, stride := recF r (o + 32) 4,
    finalWeight := recF r (o + 36) 2 }

/-- The four rectangles of a SHEAF_MAP entry. -/
def rects (r o : Nat) : List Rect :=
  (List.range 4).map (fun i =>
    let q := o + 4 + 6 * i
    { die := recF r q 1, row0 := recF r (q + 1) 1, col0 := recF r (q + 2) 1, rows := recF r (q + 3) 1, cols := recF r (q + 4) 1 })

/-- TENSOR_TABLE. -/
def piece (r o : Nat) : Piece :=
  { logical := recF r o 2, piece := recF r (o + 2) 2, fmt := recF r (o + 4) 1, recipe := recF r (o + 5) 1,
    rank := recF r (o + 6) 1, blockAxis := recF r (o + 7) 1, flags := recF r (o + 8) 2, layer := recF r (o + 10) 2,
    lifetime := recF r (o + 12) 1, origin := (List.range 4).map (fun i => recF r (o + 16 + 4 * i) 4),
    dims := (List.range 4).map (fun i => recF r (o + 32 + 4 * i) 4), store := recF r (o + 48) 1,
    storeId := recF r (o + 50) 2, elem := recF r (o + 56) 8, aux := recF r (o + 64) 8, delta := recF r (o + 72) 8 }

/-- Operations from an offset on; none when they do not end exactly at `stop`. -/
def ops (r : Nat) : Nat → Nat → Nat → Option (List Op)
  | 0, o, stop => if o = stop then some [] else none
  | n + 1, o, stop =>
    let al := recF r (o + 2) 2
    if stop < o + 24 + al then none
    else
      match ops r n (o + 24 + al) stop with
      | none => none
      | some t =>
        some ({ opcode := recF r o 2, attrLen := al, layer := recF r (o + 4) 2, stream := recF r (o + 6) 2,
                in0 := recF r (o + 8) 2, in1 := recF r (o + 10) 2, in2 := recF r (o + 12) 2, out := recF r (o + 14) 2,
                wait := recF r (o + 16) 2, post := recF r (o + 18) 2, flags := recF r (o + 20) 2,
                attr := recF r (o + 24) al } :: t)

/-- Operation lists with their offsets; none when one does not end within the section. -/
def lists (r : Nat) : Nat → Nat → Nat → Option (List (Nat × OpList))
  | 0, _, _ => some []
  | n + 1, o, stop =>
    let e := o + 16 + recF r (o + 12) 4
    if stop < o + 16 || stop < e then none
    else
      match ops r (recF r (o + 4) 2) (o + 16) e, lists r n e stop with
      | some l, some t =>
        some ((o, { sheaf := recF r (o + 2) 1, phase := recF r (o + 3) 1, trigger := recF r (o + 6) 1,
                    pair := recF r (o + 8) 2, ops := l }) :: t)
      | _, _ => none

/-- SCHEDULE. -/
def sched (r o : Nat) : Sched :=
  { beat := recF r o 4, oplist := recF r (o + 4) 2, mb := recF r (o + 6) 2, grain := recF r (o + 8) 2 }

/-- RETENTION. -/
def retain (r o : Nat) : Retention :=
  { layer := recF r o 2, tensor := recF r (o + 2) 2, cls := recF r (o + 4) 1, overflow := recF r (o + 5) 1,
    keep := recF r (o + 6) 2, src := recF r (o + 8) 2, slots := recF r (o + 10) 1, die := recF r (o + 11) 1 }

/-- FOLD: weight and the accumulators of its uses. -/
def fold (r o : Nat) : Nat × List Nat :=
  (recF r (o + 2) 2, (List.range (min 16 (recF r o 1))).map (fun i => recF r (o + 4 + 2 * i) 2))

/-- COLLECTIVES: entry i of the section that begins at b. -/
def coll (r b i : Nat) : Coll :=
  let o := b + 32 * i
  { kind := recF r (o + 2) 1, flags := recF r (o + 3) 1, src := recF r (o + 4) 2, dst := recF r (o + 6) 2,
    slot := recF r (o + 8) 2, mask := recF r (o + 12) 4, trigger := recF r (o + 16) 2, post := recF r (o + 18) 2,
    channel := recF r (o + 20) 1,
    members := (List.range (recF r (o + 10) 2)).map (fun k => recF r (b + recF r (o + 24) 4 + 2 * k) 2) }

/-- SYNC_PLAN. -/
def pair (r o : Nat) : Pair :=
  { pair := recF r o 2, role := recF r (o + 2) 1, kind := recF r (o + 3) 1, target := recF r (o + 4) 4,
    action := recF r (o + 8) 2, subject := recF r (o + 10) 2, timeout := recF r (o + 12) 4 }

/-- NORM_SLOTS. -/
def slot (r o : Nat) : NormSlot :=
  { slot := recF r o 2, layer := recF r (o + 2) 2, kind := recF r (o + 4) 1, flags := recF r (o + 5) 1,
    ident := recF r (o + 8) 4 }

/-- RATIO_WATCH. -/
def ratio (r o : Nat) : Ratio :=
  { layer := recF r o 2, wslot := recF r (o + 2) 2, uslot := recF r (o + 4) 2, action := recF r (o + 6) 1,
    low := recF r (o + 8) 4, high := recF r (o + 12) 4, list := recF r (o + 16) 2, op := recF r (o + 18) 2 }

/-- COMMIT_PLAN. -/
def commit (r o : Nat) : CommitPlan :=
  { stepStart := recF r o 8, maxNorm := recF r (o + 8) 4, clipEps := recF r (o + 12) 4, members := recF r (o + 16) 2,
    maxSkips := recF r (o + 18) 2, timeoutBeats := recF r (o + 20) 2, commitRound := recF r (o + 22) 1,
    trailers := recF r (o + 23) 1, gInit := toInt 32 (recF r (o + 24) 4), gMin := toInt 32 (recF r (o + 28) 4),
    gMax := toInt 32 (recF r (o + 32) 4), upAfter := recF r (o + 36) 4, downAfter := recF r (o + 40) 1 }

/-- OPTIMIZER. -/
def opt (r o : Nat) : OptEntry :=
  { kind := recF r o 1, nesterov := recF r (o + 1) 1, wd := recF r (o + 2) 1, b1 := recF r (o + 4) 4,
    omb1 := recF r (o + 8) 4, b2 := recF r (o + 12) 4, omb2 := recF r (o + 16) 4, eps := recF r (o + 20) 4,
    grad := recF r (o + 24) 2, master := recF r (o + 26) 2, m1 := recF r (o + 28) 2, m2 := recF r (o + 30) 2,
    working := recF r (o + 32) 2, layer := recF r (o + 34) 2 }

/-- CHECKPOINT_PLAN. -/
def ckpt (r o : Nat) : CkptPlan :=
  { partnerEvery := recF r o 4, flashEvery := recF r (o + 4) 4, storeEvery := recF r (o + 8) 4,
    partner := recF r (o + 12) 2, digest := recF r (o + 14) 2, reserve := recF r (o + 16) 2, first := recF r (o + 18) 2,
    count := recF r (o + 20) 2 }

/-- Whether two sections share a byte. -/
def clash (a b : Dir) : Bool := a.off < b.off + b.len && b.off < a.off + a.len && 0 < a.len && 0 < b.len

/-- A rising list of types. -/
def rising : List Nat → Bool
  | a :: b :: t => a < b && rising (b :: t)
  | _ => true

/-- No two sections overlap. -/
def apart : List Dir → Bool
  | [] => true
  | d :: t => t.all (fun x => !clash d x) && apart t

/-- A collective entry's member list lies within its section (R218). -/
def membersOk (r : Nat) (d : Dir) (i : Nat) : Bool :=
  let o := d.off + 32 * i
  recF r (o + 24) 4 + 2 * recF r (o + 10) 2 ≤ d.len

/-- The container is well formed (R218): `len` bytes are given. -/
def wellFormed (r len : Nat) : Bool :=
  let ds := dirs r
  let sig := recF r 20 4
  let il := recF r 8 4
  64 ≤ len && recF r 0 4 = 0x50425653 && recF r 4 2 = 64 && il = len && len % 64 = 0 && len ≤ 67108864 &&
  1 ≤ recF r 6 2 && recF r 6 2 ≤ 32 && 64 + 16 * recF r 6 2 + sig ≤ len &&
  rising (ds.map (·.typ)) && ds.all (fun d => 1 ≤ d.typ && d.typ ≤ 15) &&
  required.all (fun t => ds.any (fun d => d.typ = t)) &&
  ds.all (fun d => d.off % 64 = 0 && 64 + 16 * recF r 6 2 ≤ d.off && d.off + d.len + sig ≤ len) && apart ds &&
  ds.all (fun d => (countRange d.typ).1 ≤ d.count && d.count ≤ (countRange d.typ).2) &&
  ds.all (fun d => entryBytes d.typ = 0 || d.len = d.count * entryBytes d.typ) &&
  (let d := dir ds 4
   (lists r d.count d.off (d.off + d.len)).isSome) &&
  (let d := dir ds 8
   32 * d.count ≤ d.len && (List.range d.count).all (membersOk r d))

/-- The image of well-formed bytes. -/
def parse (r : Nat) : Image :=
  let ds := dirs r
  let ol := (lists r (dir ds 4).count (dir ds 4).off ((dir ds 4).off + (dir ds 4).len)).getD []
  { level := recF r 12 2, jobId := recF r 24 8, buildId := recF r 32 8, dieMask := recF r 40 1,
    stage := stage r (dir ds 1).off,
    sheaves := (offs (dir ds 2)).map (fun o => (rects r o).take (recF r (o + 1) 1)),
    pieces := (offs (dir ds 3)).map (piece r), lists := ol.map (·.2), sched := (offs (dir ds 5)).map (sched r),
    retain := (offs (dir ds 6)).map (retain r), folds := (offs (dir ds 7)).map (fold r),
    colls := (List.range (dir ds 8).count).map (coll r (dir ds 8).off), pairs := (offs (dir ds 9)).map (pair r),
    slots := (offs (dir ds 10)).map (slot r), ratios := (offs (dir ds 11)).map (ratio r),
    grist := (offs (dir ds 12)).foldl (fun t o => Tab.set t (recF r o 2) (recF r (o + 4) 16)) [],
    commit := commit r (dir ds 13).off, opts := (offs (dir ds 14)).map (opt r),
    ckpt := ((offs (dir ds 15)).head?).map (ckpt r) }

/-- All of these byte ranges, given as offset and length, are zero. -/
def zeros (r o : Nat) (l : List (Nat × Nat)) : Bool := l.all (fun p => recF r (o + p.1) p.2 = 0)

/-- Reserved fields of an entry of a fixed section (R9). -/
def resv (r t o : Nat) : Bool :=
  match t with
  | 1 => zeros r o [(38, 26)]
  | 2 => zeros r o [(2, 2), (9, 1), (15, 1), (21, 1), (27, 1), (28, 4)]
  | 3 => zeros r o [(13, 3), (49, 1), (52, 4)] && recF r (o + 8) 2 < 32
  | 5 => zeros r o [(10, 6)]
  | 6 => zeros r o [(12, 4)]
  | 7 => zeros r o [(1, 1), (36, 4)]
  | 10 => zeros r o [(6, 2)] && !bit (recF r (o + 5) 1) 5
  | 11 => zeros r o [(7, 1)]
  | 12 => zeros r o [(2, 2)]
  | 13 => zeros r o [(41, 23)]
  | 14 => zeros r o [(3, 1), (36, 12)]
  | 15 => zeros r o [(22, 10)]
  | _ => true

/-- Reserved ranges of an operation's attributes, by opcode (Tables 9.2 to 9.6 and 9.11). -/
def resvAttr (op : Op) : Bool :=
  let z := fun l => zeros op.attr 0 l
  let common := z [(11, 1), (21, 1), (25, 1), (29, 1)]
  recF op.attr 4 1 < 16 &&
  match op.opcode with
  | 0x0101 => z [(23, 1)] && recF op.attr 22 1 < 2
  | 0x0102 => z [(18, 6)]
  | 0x0201 => common && z [(34, 6)] && (List.range (recF op.attr 32 1)).all (fun i => recF op.attr (72 + 8 * i + 7) 1 = 0)
  | 0x0301 => common && z [(33, 7)]
  | 0x0311 => common && z [(38, 2)]
  | 0x0312 => common && z [(38, 2)]
  | 0x0313 => common && z [(38, 2)]
  | 0x0314 => common && z [(38, 2)]
  | 0x0321 => common && z [(36, 4)]
  | 0x0323 => common && z [(38, 2)]
  | 0x0502 => common && z [(34, 6)]
  | 0x0302 => common
  | 0x0322 => common
  | 0x0401 => common
  | 0x0501 => common
  | 0x0503 => common
  | 0x0901 => z [(9, 3)]
  | 0x0A01 => z [(9, 7)]
  | _ => z [(10, 6)]

/-- The first reserved field of an image that is not zero: section type, entry, operation (R9, R237). -/
def reservedAt (r : Nat) : Option (Nat × Nat × Option Nat) :=
  let ds := dirs r
  let ol := (lists r (dir ds 4).count (dir ds 4).off ((dir ds 4).off + (dir ds 4).len)).getD []
  if recF r 41 23 ≠ 0 || recF r 40 1 ≥ 16 then some (0, 0xFFFFFFFF, none)
  else
    match (List.range ds.length).find? (fun i => recF r (64 + 16 * i + 1) 3 ≠ 0) with
    | some i => some (0, i, none)
    | none =>
      ds.findSome? (fun d =>
        if d.typ = 4 then
          (ol.zipIdx).findSome? (fun p =>
            if recF r (p.1.1 + 7) 1 ≠ 0 || recF r (p.1.1 + 10) 2 ≠ 0 then some (4, p.2, none)
            else
              let rec go (o : Nat) (k : Nat) : List Op → Option (Nat × Nat × Option Nat)
                | [] => none
                | x :: t =>
                  if recF r (o + 22) 2 ≠ 0 || 16 ≤ x.flags || !resvAttr x then some (4, p.2, some k)
                  else go (o + 24 + x.attrLen) (k + 1) t
              go (p.1.1 + 16) 0 p.1.2.ops)
        else if d.typ = 8 then
          ((List.range d.count).find? (fun i =>
            !(zeros r (d.off + 32 * i) [(21, 3), (28, 4)] && recF r (d.off + 32 * i + 3) 1 < 8
              && recF r (d.off + 32 * i + 12) 4 < 2 ^ 24))).map (fun i => (8, i, none))
        else ((offs d).findIdx? (fun o => !resv r d.typ o)).map (fun i => (d.typ, i, none)))

end Sys2Proof.Machine.Img
end

