-- ==== Sys2Proof/Machine/Fjoene.lean ====
section
/-! DEFINITION. Fjoene.lean: format codes, stored values, block scales, rebasing and conversions between formats
(chapter 3). -/

namespace Sys2Proof.Machine

/-- The floating-point format of a code of Table 3.1; U32 (0x11) has none. -/
def fmtOf (code : Nat) : Option Fmt :=
  match code with
  | 1 => some .fj4
  | 2 => some .fj8a
  | 3 => some .fj8g
  | 4 => some .fj16
  | 5 => some .fp32
  | 6 => some .w48
  | _ => none

/-- Whether a format code is listed (R74). -/
def fmtListed (code : Nat) : Bool := (1 ≤ code && code ≤ 6) || code = 0x11

/-- Fj4, Fj8a and Fj8g carry a block scale. -/
def isBlock (code : Nat) : Bool := 1 ≤ code && code ≤ 3

/-- Bits of one element in its element plane (R77, R78). -/
def elemBits (code : Nat) : Nat :=
  if code = 1 then 4 else if code = 2 || code = 3 then 8 else if code = 4 then 16 else 32

/-- The stored value of an element: its element value times its block's scale (R82). -/
def stored (code pat scale : Nat) : Num :=
  match fmtOf code with
  | none => .fin false pat 0
  | some F =>
    if isBlock code then (if scale = 0xFF then .nan else (F.dec pat).scale ((scale : Int) - 127))
    else F.dec pat

/-- The format of a recipe (Table 3.6); 0 where the recipe is not listed. -/
def recipeFmt (r : Nat) : Nat :=
  match r with
  | 0x00 => 5
  | 0x01 => 2
  | 0x02 => 1
  | 0x03 => 4
  | 0x11 => 2
  | 0x12 => 1
  | 0x13 => 4
  | 0x21 => 3
  | 0x22 => 5
  | 0x23 => 4
  | 0x31 => 5
  | 0x41 => 5
  | 0x51 => 6
  | 0x71 => 0x11
  | _ => 0

/-- A tensor whose recipe carries 2^G (Table 3.6). -/
def carriesShift (r : Nat) : Bool := r = 0x21 || r = 0x22 || r = 0x23 || r = 0x31

/-- The larger of two finite magnitudes. -/
def magMax (a b : Nat × Int) : Nat × Int := if magLt a.1 a.2 b.1 b.2 then b else a

/-- The largest magnitude among finite values. -/
def amax (vs : List Num) : Nat × Int :=
  vs.foldl (fun a v => match v with | .fin _ m e => magMax a (m, e) | _ => a) (0, 0)

/-- The BX8 byte that R86 chooses for a block. -/
def chooseBx8 (F : Fmt) (vs : List Num) : Nat :=
  let (m, e) := amax vs
  if m = 0 then 0
  else
    let (tm, te) := F.mag F.top
    let ef : Int := te + F.f
    let s : Int := e + (bitLen m : Int) - 1 - ef
    let s := if magLt tm (te + s) m e then s + 1 else s
    let s := if 127 < s then 127 else if s < -127 then -127 else s
    (s + 127).toNat

/-- Write one block (R86 to R88): its byte, and each element's code and flags. A non-finite source makes it a NaN
block. -/
def writeBlock (F : Fmt) (given : Option Nat) (vs : List Num) : Nat × List (Nat × Nat) :=
  if vs.any Num.bad then (0xFF, vs.map (fun v => (F.nan, v.nf)))
  else
    let b := given.getD (chooseBx8 F vs)
    (b, vs.map (fun v => F.enc (v.scale (127 - (b : Int)))))

/-- Convert one value into an unscaled format (Table 3.5). -/
def convScalar (F : Fmt) (v : Num) : Nat × Nat :=
  let (p, f) := F.enc v
  (p, f ||| v.nf)

/-- A run of 64 elements along a reduction axis as it enters the array (R82, R83): its scale, its codes, whether it is
a NaN run, and the flags of rebasing. -/
structure Run where
  scale : Nat
  codes : List Nat
  nan : Bool
  flags : Nat
deriving DecidableEq, Repr

/-- Rebase a run of (code, scale) pairs (R83). Equal scales leave every code as it is. -/
def rebase (code : Nat) (es : List (Nat × Nat)) : Run :=
  match fmtOf code with
  | none => { scale := 0, codes := [], nan := false, flags := 0 }
  | some F =>
    if es.any (fun p => p.2 = 0xFF || (F.dec p.1).bad) then { scale := 0xFF, codes := [], nan := true, flags := Fl.nonfinite }
    else
      let top := es.foldl (fun a p => max a p.2) 0
      let cs := es.map (fun p => if p.2 = top then (p.1, 0) else F.enc ((F.dec p.1).scale ((p.2 : Int) - top)))
      { scale := top, codes := cs.map (·.1), nan := false, flags := cs.foldl (fun a p => a ||| p.2) 0 }

/-- Poisoned forms of an element that an operation reads (R291). -/
def poisonElem (code : Nat) : Nat :=
  match code with
  | 1 => 0
  | 2 => 0x80
  | 3 => 0x80
  | 4 => 0x7FC0
  | 5 => 0x7FC00000
  | 6 => 0x7FC000000000
  | _ => 0xFFFFFFFF

end Sys2Proof.Machine
end

