-- ==== Sys2Proof/Machine/Mem.lean ====
section
/-! DEFINITION. Mem.lean: the stores behind the global address, ownership, the access check and poison (chapter 10).
A cell's key is bits [49:0] of its global address: SPACE and OFFSET. -/

namespace Sys2Proof.Machine

/-- The canonical form of memory: rising addresses, and no listed byte equal to what an unlisted address reads as,
which is zero (log entry 4). -/
def Memory.wf : List Host.Cell → Bool
  | [] => true
  | [c] => c.2 ≠ 0
  | c :: d :: t => c.2 ≠ 0 && c.1 < d.1 && Memory.wf (d :: t)

/-- Read one byte. -/
def Memory.read : List Host.Cell → Nat → Byte
  | [], _ => 0
  | c :: t, a => if c.1 = a then c.2 else if a < c.1 then 0 else Memory.read t a

/-- Put a byte in front of cells of higher addresses, or leave it out when it is zero. -/
def Memory.cons (a : Nat) (b : Byte) (t : List Host.Cell) : List Host.Cell := if b = 0 then t else (a, b) :: t

/-- Write one byte. -/
def Memory.write : List Host.Cell → Nat → Byte → List Host.Cell
  | [], a, b => Memory.cons a b []
  | c :: t, a, b =>
    if a < c.1 then Memory.cons a b (c :: t)
    else if a = c.1 then Memory.cons a b t
    else c :: Memory.write t a b

/-- Zero every byte of a range. -/
def Memory.clear (m : List Host.Cell) (lo hi : Nat) : List Host.Cell := m.filter (fun c => c.1 < lo || hi ≤ c.1)

/-- Start of SPACE 0b01. -/
abbrev space1 : Nat := 2 ^ 48
/-- 512 MiB, the reserved region of a stack, and where it begins (R22, Table 10.3). -/
abbrev resvBase : Nat := 0xBE0000000
/-- Size of a stack. -/
abbrev stackSize : Nat := 0xC00000000

/-- Byte b of stack s. -/
def hbmAddr (s b : Nat) : Nat := s * 2 ^ 36 + b
/-- Byte b of tile t's local store (Table 10.4). -/
def tileAddr (t b : Nat) : Nat := space1 + t * 0x200000 + b
/-- Byte b of the activation store of CDd (Table 10.4). -/
def actAddr (d b : Nat) : Nat := space1 + 0x40000000 + d * 0x8000000 + b

/-- Byte b of a store by its number: 0 to 7 stacks, 8 to 11 activation stores, 12 and up tiles. -/
def storeAddr (k b : Nat) : Nat := if k < 8 then hbmAddr k b else if k < 12 then actAddr (k - 8) b else tileAddr (k - 12) b
/-- Bytes of a store by its number. -/
def storeSize (k : Nat) : Nat := if k < 8 then stackSize else if k < 12 then 0x8000000 else 0x200000

/-- Where a local byte lies: the number of its store (0 to 7 stacks, 8 to 11 activation stores, 12 and up tiles), or
none where the offset is unmapped (Tables 10.3 and 10.4). -/
def storeOf (a : Nat) : Option Nat :=
  let o := a % 2 ^ 48
  if a < 2 ^ 48 then
    if o / 2 ^ 39 ≠ 0 || stackSize ≤ o % 2 ^ 36 then none else some (o / 2 ^ 36)
  else if a < 2 ^ 49 then
    if o < 0x30000000 then some (12 + o / 0x200000)
    else if 0x40000000 ≤ o && o < 0x60000000 then some (8 + (o - 0x40000000) / 0x8000000)
    else none
  else none

/-- The compute die of a store. -/
def dieOfStore (st : Nat) : Nat := if st < 8 then st / 2 else if st < 12 then st - 8 else (st - 12) / 96

/-- The partition a die belongs to, by the layout in force (R475). -/
def State.dieOwner (s : State) (d : Nat) : Option Nat :=
  let o := bits s.layout.dieOwner (4 * d + 3) (4 * d)
  if o < 4 then some o else none

/-- The dies of a partition, lowest first. -/
def State.diesOf (s : State) (p : Nat) : List Nat := (List.range 4).filter (fun d => s.dieOwner d = some p)

/-- The bytes from an address on. -/
def State.readMem (s : State) (a n : Nat) : List Byte := (List.range n).map (fun i => Memory.read s.mem (a + i))

/-- The little-endian number at an address. -/
def State.readLE (s : State) (a n : Nat) : Nat := ofLE (s.readMem a n)

/-- Whether any of n bytes from an address lies in a poisoned unit (R290). -/
def State.poisoned (s : State) (a n : Nat) : Bool := s.poison.any (fun u => u < a + n && a < u + 64)

/-- Write bytes from an address on: a poisoned unit that the write covers whole is poisoned no more (R290). -/
def State.writeMem (s : State) (a : Nat) (bs : List Byte) : State :=
  let m := (bs.foldl (fun (x : List Host.Cell × Nat) b => (Memory.write x.1 x.2 b, x.2 + 1)) (s.mem, a)).1
  let s := { s with mem := m, poison := s.poison.filter (fun u => u < a || a + bs.length < u + 64) }
  match storeOf a with
  | some st => if st < 8 then s.add (O.at O.BYTES_WRITTEN st) bs.length else s
  | none => s

/-- Bytes read from a stack are counted (Table 10.13). -/
def State.countRead (s : State) (a n : Nat) : State :=
  match storeOf a with
  | some st => if st < 8 then s.add (O.at O.BYTES_READ st) n else s
  | none => s

/-- Zero a range, poisoned units in it included. -/
def State.zeroMem (s : State) (lo n : Nat) : State :=
  { s with mem := Memory.clear s.mem lo (lo + n), poison := s.poison.filter (fun u => u < lo || lo + n ≤ u) }

/-- Mark the unit of an address as poisoned. -/
def State.poisonUnit (s : State) (a : Nat) : State :=
  let u := a / 64 * 64
  if s.poison.contains u then s else { s with poison := u :: s.poison }

/-- What the log entry of a poisoned unit names (R291): its stack, die or tile, and the unit's address. -/
def poisonArgs (p u : Nat) : EvArgs :=
  let st := (storeOf u).getD 0
  { part := p, kind := if st < 8 then 10 else if st < 12 then 3 else 11, subj := if st < 8 then st else if st < 12 then st - 8 else st - 12,
    pay := fld 0 st + fld 8 u, len := 16 }

/-- Zero the memory a die brings with it (R279): tiles, activation store, both stacks below the reserved region and the
die's checkpoint staging. -/
def State.zeroDie (s : State) (d : Nat) : State :=
  let s := s.zeroMem (tileAddr (96 * d) 0) (96 * 0x200000)
  let s := s.zeroMem (actAddr d 0) 0x8000000
  [2 * d, 2 * d + 1].foldl (fun s h =>
    (s.zeroMem (hbmAddr h 0) resvBase).zeroMem (hbmAddr h (resvBase + 0x8000000)) 0x18000000) s

/-- Access status codes (Table 10.5). -/
abbrev Acc.ok : Nat := 0
/-- SPACE_RESERVED. -/
abbrev Acc.space : Nat := 1
/-- CHIP_INVALID. -/
abbrev Acc.chip : Nat := 2
/-- UNMAPPED. -/
abbrev Acc.unmapped : Nat := 3
/-- RESERVED_REGION. -/
abbrev Acc.reserved : Nat := 4
/-- NOT_OWNER. -/
abbrev Acc.notOwner : Nat := 5
/-- NOT_MEMBER. -/
abbrev Acc.notMember : Nat := 6
/-- STORE_BUSY. -/
abbrev Acc.busy : Nat := 7
/-- MISALIGNED. -/
abbrev Acc.misaligned : Nat := 8
/-- POISONED. -/
abbrev Acc.poisoned : Nat := 9

/-- Requesters (Table 10.10). -/
inductive Requester where
  | transfer (part : Nat)
  | collective (part : Nat)
  | host (port part : Nat)
  | remote (link chip part : Nat)
  | ckpt (part : Nat)
deriving DecidableEq, Repr

/-- The partition a local access carries (Table 10.6). -/
def Requester.part : Requester → Nat
  | .transfer p => p
  | .collective p => p
  | .host _ p => p
  | .remote .. => 0xFF
  | .ckpt p => p

/-- REQUESTER code of the refusal record. -/
def Requester.code : Requester → Nat
  | .transfer _ => 1
  | .collective _ => 2
  | .host .. => 3
  | .remote .. => 4
  | .ckpt _ => 6

/-- Whether an address is local (R271). -/
def State.isLocal (s : State) (a : Nat) : Bool :=
  let c := a / 2 ^ 50
  c = 0x3FFF || (s.obj O.CHIP_STATE = 1 && c = s.obj O.CHIP_NUMBER)

/-- The partition that owns the byte at a key. -/
def State.ownerOf (s : State) (a : Nat) : Option Nat := (storeOf a).bind (fun st => s.dieOwner (dieOfStore st))

/-- The job of a partition. -/
def State.job (s : State) (p : Nat) : Job := s.jobs.get p {}

/-- Replace the job of a partition. -/
def State.setJob (s : State) (p : Nat) (j : Job) : State := { s with jobs := s.jobs.set p j }

/-- IMAGE_STATE of a partition (Table 8.18). -/
def State.imageState (s : State) (p : Nat) : Nat := s.obj (O.at O.IMAGE_STATE p)

/-- The key where a piece's element plane (0) or second plane (1) begins, in bank b. -/
def Piece.base (x : Piece) (plane bank : Nat) : Nat :=
  let o := (if plane = 0 then x.elem else x.aux) + bank * x.delta
  if x.store = 0 then hbmAddr x.storeId o else if x.store = 1 then actAddr x.storeId o else tileAddr x.storeId o

/-- Elements of a piece. -/
def Piece.count (x : Piece) : Nat := (x.dims.take x.rank).foldl (· * ·) 1

/-- Bytes of n elements in the element plane (R77). -/
def elemBytes (fmt n : Nat) : Nat := (n * elemBits fmt + 7) / 8

/-- Bytes of a piece's plane. -/
def Piece.planeBytes (x : Piece) (plane : Nat) : Nat :=
  if plane = 0 then elemBytes x.fmt x.count
  else if isBlock x.fmt then x.count / 64
  else if x.fmt = 6 then 2 * x.count
  else 0

/-- Banks of a piece: two when BANKED. -/
def Piece.banks (x : Piece) : List Nat := if bit x.flags 2 then [0, 1] else [0]

/-- The byte ranges a piece takes, banks and planes included. -/
def Piece.ranges (x : Piece) : List (Nat × Nat) :=
  (x.banks.map (fun b => ([0, 1].map (fun pl => (x.base pl b, x.planeBytes pl))).filter (fun r => 0 < r.2))).flatten

/-- Whether n bytes from a key lie in the pieces that satisfy a test, together. -/
def inPieces (ps : List Piece) (f : Piece → Bool) (a n : Nat) : Bool :=
  let rs := ((ps.filter f).map Piece.ranges).flatten
  (List.range n).all (fun i => rs.any (fun r => r.1 ≤ a + i && a + i < r.1 + r.2))

/-- Whether any of n bytes from a key lies in a piece that satisfies a test. -/
def touchesPieces (ps : List Piece) (f : Piece → Bool) (a n : Nat) : Bool :=
  ((ps.filter f).map Piece.ranges).flatten.any (fun r => r.1 < a + n && a < r.1 + r.2)

/-- The logical RESERVE_TENSOR of an image (R281). -/
def Image.reserve (im : Image) : Option Nat :=
  match im.ckpt with
  | some c => if c.reserve = 0xFFFF then none else some c.reserve
  | none => none

/-- Whether an access touches the partner-copy reserve of a partition. -/
def State.touchesReserve (s : State) (p a n : Nat) : Bool :=
  match (s.job p).image with
  | some im => (match im.reserve with | some r => touchesPieces im.pieces (·.logical = r) a n | none => false)
  | none => false

/-- Something is listed at an offset of a control sub-window (Table 17.3). -/
def ctlListed (o : Nat) : Bool :=
  o < 8 || (0x1000 ≤ o && o < 0x1800) || (0x10000 ≤ o && o < 0x10400) || (0x20000 ≤ o && o < 0x22000) || (0x30000 ≤ o && o < 0x38100)

/-- The check of an engine's access to the control window (R274, R276, R278): what it may reach there is never of its length. -/
def windowCheck (p o n : Nat) : Nat :=
  let e := o + (n - 1)
  if n = 0 || 0x10000000 ≤ o || o / 0x4000000 ≠ e / 0x4000000 || !ctlListed (o % 0x4000000) || !ctlListed (e % 0x4000000) then Acc.unmapped
  else if o / 0x4000000 ≠ p then Acc.notOwner
  else Acc.misaligned

/-- The access check (R275): the first failing test of Table 10.5 in its order. `widen` tells whether a restore admits
the remote source (R280, R446). A host's access through its control window is checked at its BAR (R479). -/
def State.access (s : State) (r : Requester) (addr n : Nat) (write widen : Bool) : Nat :=
  let a := addr % 2 ^ 50
  let isHost := match r with | .host .. => true | _ => false
  let isRemote := match r with | .remote .. => true | _ => false
  let stEnd := storeOf (a + (n - 1))
  let owner := s.ownerOf a
  let stores := 2 ^ 48 ≤ a
  if a / 2 ^ 48 = 3 then Acc.space
  else if !s.isLocal addr || (isRemote && a / 2 ^ 48 = 2) then Acc.chip
  else if a / 2 ^ 48 = 2 then windowCheck r.part (a % 2 ^ 48) n
  else if storeOf a = none || stEnd ≠ storeOf a || n = 0 then Acc.unmapped
  else if a < 2 ^ 48 && resvBase < a % 2 ^ 36 + n then Acc.reserved
  else if (if isRemote then owner = none else owner ≠ some r.part) then Acc.notOwner
  else if isHost && write && s.touchesReserve r.part a n then Acc.notOwner
  else
    let p := owner.getD 4
    let j := s.job p
    let memberOk := match r with
      | .remote _ c q => widen || ((s.imageState p = 2 || s.imageState p = 3) && j.members.contains (c, q))
      | _ => true
    let reserveBad := match r with
      | .remote .. => write && s.touchesReserve p a n && !widen
      | _ => false
    if !memberOk || reserveBad then Acc.notMember
    else if isHost && stores && s.imageState p = 3
        && (write || !(match j.image with | some im => inPieces im.pieces (fun x => bit x.flags 4) a n | none => false)) then Acc.busy
    else if !isHost && (a % 64 ≠ 0 || n % 64 ≠ 0) then Acc.misaligned
    else if isHost && (if write then s.poison.any (fun u => u < a + n && a < u + 64 && (u < a || a + n < u + 64)) else s.poisoned a n)
      then Acc.poisoned
    else Acc.ok

/-- Whether a host access to on-chip stores is held (R282), or any access to memory being zeroed (R279). -/
def State.accessHeld (s : State) (p a : Nat) : Bool :=
  2 ^ 48 ≤ a && a < 2 ^ 49 && (s.imageState p = 1 || s.imageState p = 4)

/-- Count and record a refused access to what partition p owns (4 none) (R277, R298): its record and event 0x2C01. -/
def State.refuseAt (s : State) (r : Requester) (p addr status : Nat) : State :=
  let port := match r with | .host n _ => n | .remote l _ _ => l | _ => 0xFF
  let chip := match r with | .remote _ c _ => c | _ => 0x3FFF
  let rec_ := fld 0 status + fld 1 r.code + fld 2 r.part + fld 3 port + fld 4 chip + fld 8 addr + fld 16 s.refNs
  let s := (s.inc O.ACCESS_REFUSED).put O.LAST_REFUSAL rec_
  let s := if status = Acc.notOwner && p < 4 then s.inc (O.at O.NOT_OWNER_COUNT p) else s
  let s := if status = Acc.notMember && p < 4 then s.inc (O.at O.REMOTE_REFUSED p) else s
  let s := if status = Acc.busy && p < 4 then s.inc (O.at O.STORE_BUSY_COUNT p) else s
  s.raiseEvery 0x2C01 0 1000000 { part := if p < 4 then p else 0xFF, pay := rec_, len := 24 }

/-- Count and record a refused access to memory. -/
def State.refuse (s : State) (r : Requester) (addr status : Nat) : State :=
  s.refuseAt r (match r with | .remote .. => (s.ownerOf (addr % 2 ^ 50)).getD 4 | _ => r.part) addr status

/-- Any of n bytes from a key lies in memory that is being zeroed (R279). -/
def State.beingZeroed (s : State) (a n : Nat) : Bool :=
  [a, a + (n - 1)].any (fun x => match storeOf x with | some t => bit s.host.zeroing (dieOfStore t) | none => false)

end Sys2Proof.Machine
end

