-- ==== Sys2Proof/Machine/Tensor.lean ====
section
/-! DEFINITION. Tensor.lean: tensors as operations see them: shapes, grain slices, the bytes of an element, and the
reading and writing of elements (R77 to R82, R222, R245, R290, R291). -/

namespace Sys2Proof.Machine

/-- Product of a list. -/
def prod (l : List Nat) : Nat := l.foldl (· * ·) 1

/-- The first piece of a logical tensor. -/
def Image.pc (im : Image) (t : Nat) : Option Piece := im.pieces.find? (·.logical = t)

/-- Every piece of a logical tensor, in increasing PIECE order. -/
def Image.piecesOf (im : Image) (t : Nat) : List Piece :=
  let ps := im.pieces.filter (·.logical = t)
  (List.range ps.length).filterMap (fun i => ps.find? (·.piece = i))

/-- The logical shape: the largest ORIGIN + DIMS on each axis (R222). -/
def Image.shape (im : Image) (t : Nat) : List Nat :=
  let ps := im.pieces.filter (·.logical = t)
  match ps.head? with
  | none => []
  | some h => (List.range h.rank).map (fun a => ps.foldl (fun m x => max m (x.origin.getD a 0 + x.dims.getD a 0)) 0)

/-- Format of a tensor; 0 when it is not in the table. -/
def Image.fmt (im : Image) (t : Nat) : Nat := ((im.pc t).map (·.fmt)).getD 0
/-- Recipe of a tensor. -/
def Image.recipe (im : Image) (t : Nat) : Nat := ((im.pc t).map (·.recipe)).getD 0xFF
/-- Block axis of a tensor; 0xFF none. -/
def Image.axis (im : Image) (t : Nat) : Nat := ((im.pc t).map (·.blockAxis)).getD 0xFF
/-- FLAGS of a tensor. -/
def Image.tflags (im : Image) (t : Nat) : Nat := ((im.pc t).map (·.flags)).getD 0
/-- Owning layer of a tensor. -/
def Image.tlayer (im : Image) (t : Nat) : Nat := ((im.pc t).map (·.layer)).getD 0xFFFF
/-- Elements of a tensor. -/
def Image.elems (im : Image) (t : Nat) : Nat := prod (im.shape t)
/-- A tensor is in the table. -/
def Image.has (im : Image) (t : Nat) : Bool := im.pieces.any (·.logical = t)

/-- A layer lies inside the run-ahead window (R24, Table 8.4). -/
def Image.inWindow (im : Image) (layer : Nat) : Bool :=
  im.stage.layerFirst ≤ layer && layer < im.stage.layerFirst + im.stage.runahead

/-- Tiles of a rectangle. -/
def Rect.tiles (r : Rect) : List Nat :=
  ((List.range r.rows).map (fun i => (List.range r.cols).map (fun j => r.die * 96 + (r.row0 + i) * 8 + r.col0 + j))).flatten

/-- Keep the least of each value of a list, in rising order. -/
def insertSorted (x : Nat) : List Nat → List Nat
  | [] => [x]
  | y :: t => if x < y then x :: y :: t else if x = y then y :: t else y :: insertSorted x t

/-- A list in rising order without repeats. -/
def sortNat (l : List Nat) : List Nat := l.foldl (fun a x => insertSorted x a) []

/-- The tiles of a sheaf in increasing global tile number (R244). -/
def Image.tiles (im : Image) (sheaf : Nat) : List Nat := sortNat ((im.sheaves.getD sheaf []).map Rect.tiles).flatten

/-- Rows of the tile grid (Table 9.2). -/
def Op.splitRows (o : Op) : Nat := recF o.attr 0 2
/-- Columns of the tile grid. -/
def Op.splitCols (o : Op) : Nat := recF o.attr 2 2
/-- GRAIN_OPERANDS. -/
def Op.grainBits (o : Op) : Nat := recF o.attr 4 1
/-- SLOTS. -/
def Op.slots (o : Op) : Nat := recF o.attr 5 1
/-- GRAIN_BASE. -/
def Op.grainBase (o : Op) : Nat := recF o.attr 6 2
/-- Header operand k: IN0, IN1, IN2, OUT. -/
def Op.operand (o : Op) (k : Nat) : Nat := if k = 0 then o.in0 else if k = 1 then o.in1 else if k = 2 then o.in2 else o.out
/-- Operand k is grain-indexed (R245). -/
def Op.grained (o : Op) (k : Nat) : Bool := bit o.grainBits k

/-- E of a grain-indexed operand: its axis 0 over SLOTS (R245). -/
def Image.grainsOf (im : Image) (o : Op) (t : Nat) : Nat := (im.shape t).getD 0 0 / o.slots

/-- The shape that an operation sees of tensor t as operand k (R245). -/
def Image.seen (im : Image) (o : Op) (k t : Nat) : List Nat :=
  if o.grained k then (im.shape t).drop 1 else im.shape t

/-- A tensor, or the grain slice of it, as an operation reads or writes it. `pre` is the index on axis 0. -/
structure View where
  t : Nat
  fmt : Nat
  recipe : Nat
  axis : Option Nat
  shape : List Nat
  pre : Option Nat
  bank : Nat
deriving DecidableEq, Repr

/-- The whole tensor in a bank. -/
def Image.view (im : Image) (t bank : Nat) : View :=
  { t := t, fmt := im.fmt t, recipe := im.recipe t, axis := if im.axis t < 4 then some (im.axis t) else none,
    shape := im.shape t, pre := none, bank := bank }

/-- The operand of an operation released for a micro-batch and grain (R245). -/
def Image.operand (im : Image) (o : Op) (k t mb g bank : Nat) : View :=
  let v := im.view t bank
  if o.grained k then
    { v with axis := (match v.axis with | some (a + 1) => some a | _ => none), shape := v.shape.drop 1,
             pre := some (mb % o.slots * im.grainsOf o t + (g - o.grainBase)) }
  else v

/-- Logical coordinates of an index of a view. -/
def View.coord (v : View) (ix : List Nat) : List Nat := match v.pre with | some g => g :: ix | none => ix

/-- Linear index of coordinates in a shape, axis 0 first (R77). -/
def linIx (shape ix : List Nat) : Nat := (shape.zip ix).foldl (fun a p => a * p.1 + p.2) 0

/-- Coordinates of a linear index in a shape. -/
def ixOf (shape : List Nat) (n : Nat) : List Nat :=
  (shape.foldr (fun d (a : List Nat × Nat) => ((if d = 0 then 0 else a.2 % d) :: a.1, if d = 0 then 0 else a.2 / d)) ([], n)).1

/-- A piece holds coordinates. -/
def Piece.holds (x : Piece) (c : List Nat) : Bool :=
  (c.zipIdx).all (fun p => x.origin.getD p.2 0 ≤ p.1 && p.1 < x.origin.getD p.2 0 + x.dims.getD p.2 0)

/-- Local index of coordinates in a piece. -/
def Piece.loc (x : Piece) (c : List Nat) : List Nat := (c.zipIdx).map (fun p => p.1 - x.origin.getD p.2 0)

/-- Where an element lies (R77, R78, R81): the byte that holds its first bits, whether it takes the upper half of that
byte, and the byte of its scale or extension. -/
structure Loc where
  byte : Nat
  hi : Bool
  aux : Option Nat
deriving DecidableEq, Repr

/-- The place of the element of a tensor at coordinates c. -/
def Image.loc (im : Image) (t bank : Nat) (c : List Nat) : Option Loc :=
  (im.pieces.find? (fun x => x.logical = t && x.holds c)).map (fun x =>
    let dims := x.dims.take x.rank
    let l := x.loc c
    let n := linIx dims l
    { byte := x.base 0 bank + n * elemBits x.fmt / 8, hi := x.fmt = 1 && n % 2 = 1,
      aux := if isBlock x.fmt then
               some (x.base 1 bank + linIx (dims.zipIdx.map (fun p => if p.2 = x.blockAxis then p.1 / 64 else p.1))
                 (l.zipIdx.map (fun p => if p.2 = x.blockAxis then p.1 / 64 else p.1)))
             else if x.fmt = 6 then some (x.base 1 bank + 2 * n)
             else none })

/-- The place of an element of a view. -/
def Image.vloc (im : Image) (v : View) (ix : List Nat) : Option Loc := im.loc v.t v.bank (v.coord ix)

/-- A byte lies in a poisoned unit. -/
def State.bad (s : State) (a : Nat) : Bool := s.poison.any (fun u => u ≤ a && a < u + 64)

/-- Indices of the 64 elements of the block of an index. -/
def blockIx (axis : Nat) (ix : List Nat) : List (List Nat) :=
  (List.range 64).map (fun j => ix.zipIdx.map (fun p => if p.2 = axis then p.1 / 64 * 64 + j else p.1))

/-- An element of a view as an operation reads it: its code and its block's scale byte, poison forms included (R291).
An index that no piece holds reads as 0. -/
def State.elem (s : State) (im : Image) (v : View) (ix : List Nat) : Nat × Nat :=
  match im.vloc v ix with
  | none => (0, 0)
  | some l =>
    let raw := s.readLE l.byte (if v.fmt = 1 then 1 else elemBits v.fmt / 8)
    let code := if v.fmt = 1 then (if l.hi then raw / 16 else raw % 16) else raw
    if s.poison.isEmpty then
      if isBlock v.fmt then (code, s.readLE (l.aux.getD 0) 1)
      else if v.fmt = 6 then (code * 65536 + s.readLE (l.aux.getD 0) 2, 0)
      else (code, 0)
    else
      let badE := s.bad l.byte
      let badA := match l.aux with | some a => s.bad a | none => false
      if v.fmt = 1 then
        let c := v.coord ix
        let blk := blockIx (im.axis v.t) c
        if badA || blk.any (fun i => match im.loc v.t v.bank i with | some q => s.bad q.byte | none => false) then (0, 0xFF)
        else (code, s.readLE (l.aux.getD 0) 1)
      else if isBlock v.fmt then
        (if badE then poisonElem v.fmt else code, if badA then 0xFF else s.readLE (l.aux.getD 0) 1)
      else if v.fmt = 6 then
        (if badE || badA then poisonElem 6 else code * 65536 + s.readLE (l.aux.getD 0) 2, 0)
      else (if badE then poisonElem v.fmt else code, 0)

/-- The exact stored value of an element of a view (R82, R107, R243). -/
def State.val (s : State) (im : Image) (v : View) (ix : List Nat) : Num :=
  let e := s.elem im v ix
  stored v.fmt e.1 e.2

/-- An element that enters an FP32-mode operation at its exact stored value, which is ±∞ beyond FP32's range (R150, R243). -/
def State.val32 (s : State) (im : Image) (v : View) (ix : List Nat) : Num := (s.val im v ix).in32

/-- One byte that an operation will write: its address, and its bits with the mask of those it writes in bits [15:8]. -/
abbrev ByteW := Nat × Nat

/-- The bytes of an element's code. -/
def Image.putElem (im : Image) (v : View) (ix : List Nat) (code : Nat) : List ByteW :=
  match im.vloc v ix with
  | none => []
  | some l =>
    if v.fmt = 1 then [(l.byte, if l.hi then code % 16 * 16 + 0xF000 else code % 16 + 0x0F00)]
    else if v.fmt = 6 then
      ((List.range 4).map (fun i => (l.byte + i, code / 65536 / 256 ^ i % 256 + 0xFF00))) ++
        (List.range 2).map (fun i => (l.aux.getD 0 + i, code / 256 ^ i % 256 + 0xFF00))
    else (List.range (elemBits v.fmt / 8)).map (fun i => (l.byte + i, code / 256 ^ i % 256 + 0xFF00))

/-- The scale byte of the block of an index. -/
def Image.putScale (im : Image) (v : View) (ix : List Nat) (b : Nat) : List ByteW :=
  match im.vloc v ix with
  | some { aux := some a, .. } => [(a, b % 256 + 0xFF00)]
  | _ => []

/-- Apply byte writes in order (R285): a poisoned unit that they cover whole is poisoned no more, and bytes written to a
stack are counted. -/
def State.applyWrites (s : State) (ws : List ByteW) : State :=
  let mem := ws.foldl (fun m w =>
    let mask := w.2 / 256
    let old := (Memory.read m w.1).toNat
    Memory.write m w.1 (BitVec.ofNat 8 ((old &&& (255 - mask)) ||| (w.2 % 256 &&& mask)))) s.mem
  let covered := fun u => (List.range 64).all (fun i =>
    (ws.filter (fun w => w.1 = u + i)).foldl (fun a w => a ||| w.2 / 256) 0 = 255)
  let s := { s with mem := mem, poison := s.poison.filter (fun u => !covered u) }
  (List.range 8).foldl (fun s st =>
    let n := (sortNat ((ws.filter (fun w => w.1 / 2 ^ 36 = st)).map (·.1))).length
    if n = 0 then s else s.add (O.at O.BYTES_WRITTEN st) n) s

/-- A poisoned unit is read (R291): POISON_READS counts, with event 0x2C02 at most once per unit and step. -/
def State.poisonRead (s : State) (p step u : Nat) : State :=
  let j := s.job p
  let s := s.inc O.POISON_READS
  if j.once.contains (0x10000 + u, step) then s
  else (s.setJob p { j with once := (0x10000 + u, step) :: j.once }).raise 0x2C02 (poisonArgs p u)

/-- Count what an operation reads: bytes read from a stack, once for each element, and poisoned units, each with event
0x2C02 at most once per unit and step (R291, Table 10.13). -/
def State.noteReads (s : State) (im : Image) (p step : Nat) (acc : List (View × List Nat)) : State :=
  let locs := acc.filterMap (fun a => (im.vloc a.1 a.2).map (fun l => (l, elemBits a.1.fmt)))
  let s := (List.range 8).foldl (fun s st =>
    let n := (locs.filter (fun l => l.1.byte / 2 ^ 36 = st)).foldl (fun (n : Nat) l => n + l.2) 0
    if n = 0 then s else s.add (O.at O.BYTES_READ st) (n / 8)) s
  if s.poison.isEmpty then s
  else
    let us := sortNat ((locs.map (fun l => l.1.byte / 64 * 64 :: (match l.1.aux with | some a => [a / 64 * 64] | none => []))).flatten)
    (us.filter (fun u => s.poison.contains u)).foldl (fun s u => s.poisonRead p step u) s

/-- A requester of partition p reads n bytes from a key (R291, R298): bytes read of a stack and units of poison are counted.
The transfer, collective, checkpoint and digest engines and the answer to a READ_REQ read so. -/
def State.engineRead (s : State) (p a n : Nat) : State :=
  (s.poison.filter (fun u => u < a + n && a < u + 64)).foldl (fun s u => s.poisonRead p (s.obj (O.at O.STEP_NUMBER p)) u)
    (s.countRead a n)

/-- It reads several ranges. -/
def State.engineReads (s : State) (p : Nat) (rs : List (Nat × Nat)) : State :=
  rs.foldl (fun s r => s.engineRead p r.1 r.2) s

end Sys2Proof.Machine
end

