-- ==== Sys2Proof/Machine/Bank.lean ====
section
/-! DEFINITION. Bank.lean: the status banks of a partition: tile and sheaf status words, the first non-finite record,
norm slots, retirement and the ratio watch (chapter 5). -/

namespace Sys2Proof.Machine

/-- Transport shares that the dies of a partition bring (R477). -/
def State.dieCount (s : State) (p : Nat) : Nat := (s.diesOf p).length
/-- Dies of the partitions below p. -/
def State.diesBelow (s : State) (p : Nat) : Nat := ((List.range p).map s.dieCount).foldl (· + ·) 0
/-- CONTEXT_SHARE. -/
def State.ctxShare (s : State) (p : Nat) : Nat := 2500 * s.dieCount p
/-- TAG_SHARE. -/
def State.tagShare (s : State) (p : Nat) : Nat := 2048 * s.dieCount p
/-- SYNC_SHARE. -/
def State.syncShare (s : State) (p : Nat) : Nat := 2048 * s.dieCount p
/-- The first flow context of a partition's range (R477). -/
def State.ctxBase (s : State) (p : Nat) : Nat := 2500 * s.diesBelow p
/-- The first request tag of a partition's range (R477). -/
def State.tagBase (s : State) (p : Nat) : Nat := 2048 * s.diesBelow p
/-- SYNC_SHARE_BASE. -/
def State.syncBase (s : State) (p : Nat) : Nat := 2048 * s.diesBelow p

/-- The status bank of a step (R147). -/
def Job.bank (j : Job) (step : Nat) : Bank := j.banks.get (step % 2) {}

/-- Replace the status bank of a step. -/
def Job.setBank (j : Job) (step : Nat) (b : Bank) : Job := { j with banks := j.banks.set (step % 2) b }

/-- The part of a bank that work writes: the speculative part when it is tagged (R147). -/
def Bank.part (b : Bank) (tagged : Bool) : BankPart := if tagged then b.spec else b.main

/-- Replace a part of a bank. -/
def Bank.setPart (b : Bank) (tagged : Bool) (x : BankPart) : Bank :=
  if tagged then { b with spec := x } else { b with main := x }

/-- OR a word into an entry of a table. -/
def orTab (t : Tab Nat) (k f : Nat) : Tab Nat := if f = 0 then t else t.set k (t.get k 0 ||| f)

/-- OR flags into the status word of a sheaf of the bank of a step (R144, R352). -/
def State.orSheaf (s : State) (p step sheaf f : Nat) (tagged : Bool) : State :=
  let j := s.job p
  let b := j.bank step
  let x := b.part tagged
  s.setJob p (j.setBank step (b.setPart tagged { x with sheaf := orTab x.sheaf sheaf (Fl.close f) }))

/-- OR flags into the status word of a tile and of its sheaf (R144). -/
def State.orTile (s : State) (p step sheaf tile f : Nat) (tagged : Bool) : State :=
  let j := s.job p
  let b := j.bank step
  let x := b.part tagged
  (s.setJob p (j.setBank step (b.setPart tagged { x with tiles := orTab x.tiles tile (Fl.close f) }))).orSheaf p step sheaf f tagged

/-- The lowest-numbered sheaf of a partition, where faults without an operation are recorded (R352). -/
abbrev lowSheaf : Nat := 0

/-- First non-finite record (Table 5.5). -/
def nfRecord (step tile sheaf flags layer op lane : Nat) : Nat :=
  fld 0 (step % 2 ^ 32) + fld 4 tile + fld 6 sheaf + fld 7 1 + fld 8 flags + fld 10 layer + fld 12 op + fld 14 lane

/-- An operation's completion that sets VOTE_FAIL writes the first non-finite record of the part it writes, when it holds
none, and raises event 0x2704 where it is the step's first (R148). Commands come one after another, so the share whose
completion comes first is the first (DESIGN CHOICE, log entry 152). -/
def State.firstNf (s : State) (p step : Nat) (tagged : Bool) (rec_ : Nat) : State :=
  let j := s.job p
  let b := j.bank step
  let x := b.part tagged
  if x.nf.isSome || (tagged && b.main.nf.isSome) then s
  else
    let s := s.setJob p (j.setBank step (b.setPart tagged { x with nf := some rec_ }))
    if b.spec.nf.isSome then s else s.raise 0x2704 { part := p, kind := 11, subj := recF rec_ 4 2, pay := rec_, len := 16 }

/-- The larger FP32 magnitude. -/
def maxMag (a b : Nat) : Nat := max a b

/-- Sum of two norm-slot accumulators (R151). -/
def NormAcc.plus (a b : NormAcc) : NormAcc :=
  { sum := a.sum + b.sum, sumsq := a.sumsq + b.sumsq, maxabs := maxMag a.maxabs b.maxabs, elems := a.elems + b.elems,
    nonfin := a.nonfin + b.nonfin }

/-- A norm-slot accumulator of one element, given as an FP32 pattern (R149 to R151). -/
def NormAcc.one (w : Nat) : NormAcc :=
  if (f32 w).bad then { nonfin := 1 }
  else
    let g := w % 2 ^ 31
    let (m, e) := Fmt.fp32.mag g
    let u := m * 2 ^ (e + 149).toNat
    { sum := if w / 2 ^ 31 = 1 then -(u : Int) else u, sumsq := u * u, maxabs := g, elems := 1 }

/-- Add taps to the slots of a bank (R151). -/
def State.addTaps (s : State) (p step : Nat) (tagged : Bool) (taps : Tab NormAcc) : State :=
  let j := s.job p
  let b := j.bank step
  let x := b.part tagged
  s.setJob p (j.setBank step (b.setPart tagged
    { x with slots := taps.foldl (fun t e => t.set e.1 ((t.get e.1 {}).plus e.2)) x.slots }))

/-- SUM of a slot (Table 5.7). -/
def NormAcc.sumF (a : NormAcc) : Nat := (Fmt.fp32.enc (.fin (a.sum < 0) a.sum.natAbs (-149))).1
/-- SUMSQ of a slot. -/
def NormAcc.sumsqF (a : NormAcc) : Nat := (Fmt.fp32.enc (.fin false a.sumsq (-298))).1
/-- NORM of a slot (R154). -/
def NormAcc.normF (a : NormAcc) : Nat := (rnd (Num.fin false a.sumsq (-298)).sqrt 0).1

/-- Readout of a norm slot (Table 5.7). -/
def NormAcc.readout (a : NormAcc) (slot : Option NormSlot) : Nat :=
  let big := a.normF = inf32 || a.sumsqF = inf32
  fld 0 a.sumF + fld 4 a.sumsqF + fld 8 a.normF + fld 12 a.maxabs + fld 16 a.elems + fld 24 (min a.nonfin 0xFFFFFFFF) +
  match slot with
  | some x => fld 28 x.layer + fld 30 x.kind + fld 31 (2 + b2n big)
  | none => fld 31 (b2n big)

/-- OR over the sheaf status words of a bank part. -/
def BankPart.allFlags (x : BankPart) : Nat := x.sheaf.foldl (fun a e => a ||| e.2) 0

/-- A bank has VOTE_FAIL set (R146). -/
def Bank.fails (b : Bank) : Bool := bit b.main.allFlags 9

/-- Norm-slot history entry (Table 5.8). -/
def histEntry (b : Bank) (step slot : Nat) (a : NormAcc) : Nat :=
  fld 0 (step % 2 ^ 32) + fld 4 a.normF + fld 8 a.maxabs + fld 12 (min a.nonfin 0xFFFF) + fld 14 (ofInt 8 b.shift) +
  fld 15 (b.main.ratio.get slot 0 + b2n b.committed)

/-- Step counters of the backward pass, by the key 16 * parity + index (Table 6.4): 0 spill bytes, 1 spill wait cycles,
2 recompute row passes, 3 accumulator release wait cycles, 4 fold rows, 5 layer ready. -/
def State.stepAdd (s : State) (p step ix n : Nat) : State :=
  let j := s.job p
  let k := 16 * (step % 2) + ix
  let total := match ix with
    | 0 => some O.SPILL_BYTES_TOTAL
    | 1 => some O.SPILL_WAIT_CYCLES_TOTAL
    | 2 => some O.RECOMPUTE_ROW_PASSES_TOTAL
    | 3 => some O.ACC_RELEASE_WAIT_CYCLES_TOTAL
    | _ => none
  let s := s.setJob p { j with stepCtrs := j.stepCtrs.set k (wrap64 (j.stepCtrs.get k 0 + n)) }
  match total with
  | some o => s.add (O.at o p) n
  | none => s

/-- Retire the bank of step n: history entries, the objects of Table 6.4, then clear it (R147, R155, R186). -/
def State.retireBank (s : State) (p n : Nat) : State :=
  let j := s.job p
  let b := j.bank n
  if b.step ≠ some n then s
  else
    let rings := b.main.slots.foldl (fun (t : Tab (List Nat)) e =>
      t.set e.1 ((histEntry b n e.1 e.2 :: t.get e.1 []).take 16)) j.rings
    let c := fun i => j.stepCtrs.get (16 * (n % 2) + i) 0
    let s := if b.fails then s.inc (O.at O.VOTE_FAIL_STEPS p) else s
    let s := (((((((s.put (O.at O.LAST_STEP p) (n % 2 ^ 32)).put (O.at O.STEP_SPILL_BYTES p) (c 0)).put
      (O.at O.STEP_SPILL_WAIT_CYCLES p) (c 1)).put (O.at O.STEP_RECOMPUTE_ROW_PASSES p) (c 2)).put
      (O.at O.STEP_ACC_RELEASE_WAIT_CYCLES p) (c 3)).put (O.at O.STEP_FOLD_ROWS p) (c 4)).put
      (O.at O.STEP_LAYER_READY p) (c 5 % 2 ^ 32))
    s.setJob p { j with rings := rings, banks := j.banks.set (n % 2) {},
                        stepCtrs := j.stepCtrs.drop (fun k => k / 16 = n % 2) }

/-- The status banks are cleared at a restore and an unload; each with VOTE_FAIL set is counted (R147, R159, R442). -/
def State.clearBanks (s : State) (p : Nat) : State :=
  let j := s.job p
  let n := (j.banks.vals.filter Bank.fails).length
  (if n = 0 then s else s.add (O.at O.VOTE_FAIL_STEPS p) n).setJob p { j with banks := [] }

/-- Merge the speculative part of a bank at a commit (R147). -/
def Bank.merge (b : Bank) : Bank :=
  { b with
    main := { tiles := b.spec.tiles.foldl (fun t e => orTab t e.1 e.2) b.main.tiles,
              sheaf := b.spec.sheaf.foldl (fun t e => orTab t e.1 e.2) b.main.sheaf,
              nf := b.main.nf <|> b.spec.nf,
              slots := b.spec.slots.foldl (fun t e => t.set e.1 ((t.get e.1 {}).plus e.2)) b.main.slots,
              ratio := b.spec.ratio.foldl (fun t e => orTab t e.1 e.2) b.main.ratio },
    spec := {} }

/-- The ratio watch at the completion of a layer's RATIO_CHECK operation (R157, R158). Its events carry the layer as subject, and
the layer with the ratio as payload (DESIGN CHOICE, log entry 133: the spec gives them none). -/
def State.ratioCheck (s : State) (p step layer : Nat) : State :=
  let j := s.job p
  match j.image.bind (fun im => im.ratios.find? (·.layer = layer)) with
  | none => s
  | some x =>
    let b := j.bank step
    let norm := fun k => (b.main.slots.get k {}).normF
    let w := norm x.wslot
    let u := norm x.uslot
    let mark := fun (s : State) (f : Nat) =>
      let j := s.job p
      let b := j.bank step
      let r := orTab (orTab b.main.ratio x.wslot f) x.uslot f
      s.setJob p (j.setBank step { b with main := { b.main with ratio := r } })
    if w = inf32 || u = inf32 || (w = 0 && u = 0) then (mark s 8).inc (O.at O.RATIO_SKIPPED p)
    else
      let r := if w = 0 then inf32 else (V.div u w).1
      let low := (f32 0).lt (f32 x.low) && (f32 r).lt (f32 x.low)
      let high := (f32 x.high).lt (f32 r)
      if x.action = 0 || (!low && !high) then s
      else
        let a : EvArgs := { part := p, kind := 0, subj := layer, pay := fld 0 layer + fld 4 r, len := 8 }
        let s := if low then ((mark s 2).inc (O.at O.RATIO_LOW_COUNT p)).raise 0x1701 a
                 else ((mark s 4).inc (O.at O.RATIO_HIGH_COUNT p)).raise 0x1702 a
        if x.action = 2 then
          let s := (s.inc (O.at O.RATIO_VETO_COUNT p)).raise 0x2703 a
          s.setJob p { s.job p with vetoes := step :: (s.job p).vetoes }
        else s

end Sys2Proof.Machine
end

