-- ==== Sys2Proof/Machine/Ecdsa.lean ====
section
/-! DEFINITION. Ecdsa.lean: the verification of ECDSA signatures over curve P-384 (FIPS 186-5), which R531 names. -/

namespace Sys2Proof.Machine.P384

/-- The field prime. -/
abbrev p : Nat := 2 ^ 384 - 2 ^ 128 - 2 ^ 96 + 2 ^ 32 - 1
/-- The order of the base point. -/
abbrev n : Nat := 0xffffffffffffffffffffffffffffffffffffffffffffffffc7634d81f4372ddf581a0db248b0a77aecec196accc52973
/-- The coefficient b; a is -3. -/
abbrev b : Nat := 0xb3312fa7e23ee7e4988e056be3f82d19181d9c6efe8141120314088f5013875ac656398d8a2ed19d2a85c8edd3ec2aef
/-- Base point, x. -/
abbrev gx : Nat := 0xaa87ca22be8b05378eb1c71ef320ad746e1d3b628ba79b9859f741e082542a385502f25dbf55296c3a545e3872760ab7
/-- Base point, y. -/
abbrev gy : Nat := 0x3617de4a96262c6f5d9e98bf9292dc29f8f41dbd289a147ce9da3113b5f0b8c00a60b1ce1d7e819d7a431d7c90ea0e5f

/-- A power modulo m, by the low k bits of the exponent. -/
def pow (m : Nat) : Nat → Nat → Nat → Nat
  | 0, _, _ => 1
  | k + 1, x, e => (if e % 2 = 1 then x else 1) * pow m k (x * x % m) (e / 2) % m

/-- Inverse modulo a prime. -/
def inv (m x : Nat) : Nat := pow m 384 (x % m) (m - 2)

/-- Difference modulo p. -/
def sub (x y : Nat) : Nat := (x + p - y % p) % p

/-- A point in Jacobian coordinates; z = 0 is the point at infinity. -/
structure Pt where
  x : Nat
  y : Nat
  z : Nat
deriving DecidableEq, Repr

/-- Twice a point. -/
def dbl (q : Pt) : Pt :=
  if q.z = 0 || q.y = 0 then { x := 1, y := 1, z := 0 }
  else
    let yy := q.y * q.y % p
    let s := 4 * q.x * yy % p
    let zz := q.z * q.z % p
    let m := 3 * sub q.x zz * (q.x + zz) % p
    let x := sub (m * m) (2 * s)
    { x := x, y := sub (m * sub s x) (8 * yy * yy), z := 2 * q.y * q.z % p }

/-- Sum of two points. -/
def add (q r : Pt) : Pt :=
  if q.z = 0 then r
  else if r.z = 0 then q
  else
    let z1 := q.z * q.z % p
    let z2 := r.z * r.z % p
    let u1 := q.x * z2 % p
    let u2 := r.x * z1 % p
    let s1 := q.y * z2 * r.z % p
    let s2 := r.y * z1 * q.z % p
    if u1 = u2 then (if s1 = s2 then dbl q else { x := 1, y := 1, z := 0 })
    else
      let h := sub u2 u1
      let w := sub s2 s1
      let hh := h * h % p
      let hhh := h * hh % p
      let v := u1 * hh % p
      let x := sub (w * w) (hhh + 2 * v)
      { x := x, y := sub (w * sub v x) (s1 * hhh), z := q.z * r.z * h % p }

/-- A multiple of a point, by the low k bits. -/
def mul : Nat → Nat → Pt → Pt
  | 0, _, _ => { x := 1, y := 1, z := 0 }
  | k + 1, e, q => let t := mul k (e / 2) (dbl q); if e % 2 = 1 then add q t else t

/-- Whether a signature (r, s) of a message verifies under an uncompressed public key of 97 bytes (R531). -/
def verify (key msg : List Byte) (r s : Nat) : Bool :=
  let x := ofBE ((key.drop 1).take 48)
  let y := ofBE ((key.drop 49).take 48)
  key.length = 97 && key.head? = some 4 && x < p && y < p && y * y % p = (x * x * x + (p - 3) * x + b) % p &&
  0 < r && r < n && 0 < s && s < n &&
  (let w := inv n s
   let q := add (mul 384 (Sha.sha384 msg * w % n) { x := gx, y := gy, z := 1 }) (mul 384 (r * w % n) { x := x, y := y, z := 1 })
   q.z ≠ 0 && (let zi := inv p q.z; q.x * zi % p * zi % p % n = r))

end Sys2Proof.Machine.P384
end

