-- ==== Sys2Proof/Machine/Check.lean ====
section
/-! DEFINITION. Check.lean: load checks of an image, stages 1, 2 and 5: container, load context and beat (R215 to R219,
R233, R236 to R238). -/

namespace Sys2Proof.Machine

/-- What a load refusal records (Table 8.17). -/
structure Fail where
  code : Nat
  sec : Nat := 0
  entry : Nat := 0xFFFFFFFF
  sub : Nat := 0xFFFFFFFF
  ukind : Nat := 0
  unit : Nat := 0xFFFF
  found : Nat := 0
  limit : Nat := 0
deriving DecidableEq, Repr

/-- The load status record of a refusal (Table 8.17). -/
def Fail.record (f : Fail) : Nat :=
  fld 0 f.code + fld 2 f.sec + fld 3 f.ukind + fld 4 f.entry + fld 8 f.unit + fld 12 f.sub + fld 16 f.found + fld 24 f.limit

/-- The load status record of a load without refusal (Table 8.17). -/
def loadedRecord : Nat := fld 4 0xFFFFFFFF + fld 8 0xFFFF + fld 12 0xFFFFFFFF

namespace Chk

/-- The first failure over a list with its indices. -/
def first {α : Type} (l : List α) (f : α → Nat → Option Fail) : Option Fail := l.zipIdx.findSome? (fun p => f p.1 p.2)

/-- The first entry of a section that breaks a test. -/
def bad {α : Type} (code sec : Nat) (l : List α) (f : α → Nat → Bool) : Option Fail :=
  first l (fun x i => if f x i then some { code := code, sec := sec, entry := i } else none)

/-- A failure of a section as a whole. -/
def whole (code sec : Nat) (b : Bool) : Option Fail := if b then some { code := code, sec := sec } else none

/-- The first failure of a list of checks. -/
def run (l : List (Option Fail)) : Option Fail := l.findSome? id

/-- No value of a list stands twice. -/
def distinct : List Nat → Bool
  | [] => true
  | x :: t => !t.contains x && distinct t

/-- A value stands earlier in a list than position i. -/
def repeated (l : List Nat) (i : Nat) : Bool := (l.take i).contains (l.getD i 0)

end Chk

/-- Bytes of a loaded image as the module holds them. -/
def imgBytes (r len : Nat) : List Byte := toLE len r

/-- The signature block and its verification against the image key slot (R219, R531, Table 19.2). -/
def State.signed (s : State) (r len : Nat) : Bool :=
  let b := len - 128
  recF r 20 4 = 128 && recF r b 4 = 0x47535653 && recF r (b + 4) 1 = 1 && recF r (b + 5) 1 = 1 && recF r (b + 6) 1 < 8
    && recF r (b + 7) 1 = 0 && recF r (b + 8) 4 = len - 128 && recF r (b + 12) 4 = 0 && recF r (b + 112) 16 = 0 &&
  match s.sec.imageKeys.find (recF r (b + 6) 1) with
  | none => false
  | some k => P384.verify (toLE 97 k) (toLE b r) (ofBE (toLE 48 (recF r (b + 16) 48))) (ofBE (toLE 48 (recF r (b + 64) 48)))

/-- Stage 1: the container (R215 to R219). `len` is the length that the load request gives. -/
def State.checkContainer (s : State) (r len : Nat) : Option Fail :=
  let major := s.obj O.CONTRACT_MAJOR
  let minor := s.obj O.CONTRACT_MINOR_MAX
  let lv := recF r 12 2
  if !Img.wellFormed r len then some { code := 0x0101 }
  else if !s.signed r len then some { code := 0x0102 }
  else if recF r 16 4 < s.obj O.SECURITY_VERSION_FLOOR then some { code := 0x0103 }
  else if lv / 256 ≠ major || minor < lv % 256 then some { code := 0x0104, found := lv, limit := minor + major * 256 }
  else if recF r 14 2 ≠ 1 then some { code := 0x0105 }
  else none

/-- Positions that position i of a collective entry sends to, with the class of what it sends (Table 12.11, R356 to
R362). -/
def Coll.dests (c : Coll) (i : Nat) : List (Nat × Nat) :=
  let p := c.members.length
  let chain := if i + 1 < p then [(i + 1, c.channel)] else []
  let finals := if i + 1 = p then (List.range (p - 1)).map (fun k => (k, c.channel)) else []
  let ring := if 1 < p then [((i + 1) % p, c.channel)] else []
  match c.kind with
  | 0 => chain ++ finals
  | 1 => ring
  | 2 => chain ++ finals ++ ring
  | 3 => chain ++ (if i + 1 = p && 1 < p then [(0, c.channel)] else [])
  | 4 => if i = 0 then [(1, c.channel), (1, 0)] else []
  | 6 => (if 0 < i then [((i - 1) / 4, 0)] else []) ++ ((List.range 4).map (fun k => (4 * i + 1 + k, 0))).filter (fun d => d.1 < p)
  | 7 => if i = 0 then [(1, c.channel)] else []
  | _ => []

/-- Position of the loading member in an entry's member list. -/
def Coll.pos (c : Coll) (member : Nat) : Nat := (c.members.findIdx? (· = member)).getD c.members.length

/-- The remote chips and classes that a partition's collective plan sends to (R344); the module's own chip needs no
context (DEDUCED). -/
def flows (colls : List Coll) (members : List (Nat × Nat)) (me own : Nat) : List (Nat × Nat) :=
  ((colls.map (fun c => (c.dests (c.pos me)).map (fun d =>
    ((members.getD (c.members.getD d.1 0) (0x3FFF, 0)).1, d.2)))).flatten.filter (fun f => f.1 ≠ own && f.1 ≠ 0x3FFF)).eraseDups

/-- Stage 2: the load context (R4, R221, R230, R231, R233, R236, R344, R345). `wrong` tells that the
request met R236 or R413, with the critical link at fault;
`mt` is the member table's bytes as a number. -/
def State.checkContext (s : State) (p : Nat) (wrong : Option Nat) (params mt : Nat) (im : Image) (hasCkpt : Bool) : Option Fail :=
  let mine := (List.range 4).filter (fun d => s.dieOwner d = some p)
  let cnt := recF params 14 2
  let me := recF params 12 2
  let entries := (List.range cnt).map (fun i => (recF mt (4 * i) 2, recF mt (4 * i + 2) 1))
  let own := s.obj O.CHIP_NUMBER
  let links := s.layout.links.getD p 0
  if let some u := wrong then some { code := 0x0201, ukind := if u = 0xFFFF then 0 else 4, unit := u }
  else if (setBits im.dieMask 4).any (fun d => !mine.contains d) then some { code := 0x0202 }
  else
    Chk.run [
      Chk.first im.colls (fun c i =>
        match (if s.fullConfig then none else ((List.range 24).find? (fun n => bit c.mask n && 7 < n))) with
        | some n => some { code := 0x0204, sec := 8, entry := i, ukind := 4, unit := n }
        | none =>
          ((List.range 24).find? (fun n => bit c.mask n && !bit links n)).map (fun n =>
            { code := 0x0202, sec := 8, entry := i, ukind := 4, unit := n })),
      (if cnt ≠ im.commit.members || entries.any (fun e => 16382 < e.1 || 3 < e.2)
          || !Chk.distinct (entries.map (fun e => e.1 * 256 + e.2)) || entries[me]? ≠ some (own, p)
        then some { code := 0x0203 } else none),
      Chk.whole 0x0205 2 (128 < s.obj O.SHEAVES_LOADED + im.sheaves.length),
      Chk.whole 0x0205 8 (s.ctxShare p < (flows im.colls entries me own).length),
      Chk.first im.pairs (fun x i =>
        if s.syncShare p / 2 ≤ x.pair then some { code := 0x0205, sec := 9, entry := i, ukind := 6, unit := x.pair } else none),
      Chk.whole 0x0205 15 (hasCkpt && s.tagShare p < 256)]

/-- Clock mode FIXED of CLOCK_MODE. -/
abbrev clockFixed : Nat := 2

/-- Stage 5: the beat (R34, R238). -/
def State.checkBeat (s : State) (im : Image) : Option Fail :=
  let need := if s.obj O.CLOCK_MODE = clockFixed then im.stage.minFixed else im.stage.minNominal
  if s.obj O.BEAT_PERIOD_NS < need then
    some { code := 0x0501, sec := 1, entry := 0, found := need, limit := s.obj O.BEAT_PERIOD_NS }
  else none

end Sys2Proof.Machine
end

