-- ==== Sys2Proof/Machine/CheckSec.lean ====
section
/-! DEFINITION. CheckSec.lean: load checks of stage 3 over the sections other than the operation lists' own operations,
and stage 4 (R220 to R223, R230 to R232, R26, R27, R173, R174, R176, R179, R182, R185, R198, R363, R422). -/

namespace Sys2Proof.Machine.Chk

/-- Stage fields (Table 8.4, R163, R168). -/
def stage (t : Stage) : Bool :=
  let n := t.layerLast + 1 - t.layerFirst
  1 ≤ t.count && t.count ≤ 4096 && t.index < t.count && t.layerFirst ≤ t.layerLast && t.layerLast ≤ 65534 &&
  t.grainRows % 64 = 0 && 64 ≤ t.grainRows && t.grainRows ≤ 65536 && 1 ≤ t.maxGrains && t.maxGrains ≤ 4096 &&
  1 ≤ t.mbs && t.mbs ≤ 4096 && t.keepLayers ≤ n && t.runahead ≤ n &&
  8000 ≤ t.minNominal && t.minNominal ≤ 1000000 && t.minNominal ≤ t.minFixed && t.minFixed ≤ 1000000 &&
  1 ≤ t.stepBeats && t.stepBeats ≤ 1048576 && 1 ≤ t.stride && t.stride ≤ t.stepBeats

/-- A sheaf map entry breaks its ranges (R221). -/
def sheafBad (r o i mask : Nat) : Bool :=
  let n := recF r (o + 1) 1
  recF r o 1 ≠ i || n = 0 || 4 < n ||
  ((Img.rects r o).take n).any (fun x =>
    3 < x.die || !bit mask x.die || 11 < x.row0 || 7 < x.col0 || x.rows = 0 || 12 < x.row0 + x.rows || x.cols = 0
      || 8 < x.col0 + x.cols) ||
  recF r (o + 4 + 6 * n) (6 * (4 - n)) ≠ 0

/-- The tiles of earlier rectangles that a sheaf uses again, or uses twice (R221). -/
def sheafClash (im : Image) (i : Nat) : Option Nat :=
  let before := ((im.sheaves.take i).flatten.map Rect.tiles).flatten
  let mine := ((im.sheaves.getD i []).map Rect.tiles).flatten
  (mine.zipIdx.find? (fun p => before.contains p.1 || (mine.take p.2).contains p.1)).map (·.1)

/-- Format or recipe of a piece is not listed, or they do not agree (R74, R92). -/
def formatBad (x : Piece) : Bool := !fmtListed x.fmt || recipeFmt x.recipe = 0 || recipeFmt x.recipe ≠ x.fmt

/-- Boxes of two pieces share an element. -/
def boxClash (x y : Piece) : Bool :=
  (List.range x.rank).all (fun a =>
    x.origin.getD a 0 < y.origin.getD a 0 + y.dims.getD a 0 && y.origin.getD a 0 < x.origin.getD a 0 + x.dims.getD a 0)

/-- A tensor of the optimizer's recipes of a layer inside the window (R199, R222). -/
def shouldBank (im : Image) (x : Piece) : Bool :=
  (x.recipe = 0x51 || x.recipe = 0x41 || (1 ≤ x.recipe && x.recipe ≤ 3)) && im.inWindow x.layer && !bit x.flags 1

/-- The shape rules of a piece (R81, R222). -/
def shapeBad (im : Image) (i : Nat) (x : Piece) : Bool :=
  let same := im.pieces.filter (·.logical = x.logical)
  x.logical = 0xFFFF || x.rank = 0 || 4 < x.rank || 1 < x.lifetime ||
  (List.range 4).any (fun a => if a < x.rank then x.dims.getD a 0 = 0 else x.dims.getD a 0 ≠ 1 || x.origin.getD a 0 ≠ 0) ||
  (if isBlock x.fmt then
     x.rank ≤ x.blockAxis || x.origin.getD x.blockAxis 0 % 64 ≠ 0 || x.dims.getD x.blockAxis 0 % 64 ≠ 0
   else x.blockAxis ≠ 0xFF) ||
  same.any (fun y => y.fmt ≠ x.fmt || y.recipe ≠ x.recipe || y.rank ≠ x.rank || y.blockAxis ≠ x.blockAxis
    || y.flags ≠ x.flags || y.layer ≠ x.layer || y.lifetime ≠ x.lifetime) ||
  same.length ≤ x.piece || ((im.pieces.take i).any (fun y => y.logical = x.logical && (y.piece = x.piece || boxClash x y))) ||
  (same.foldl (fun n y => n + y.count) 0) ≠ im.elems x.logical ||
  (bit x.flags 2 != shouldBank im x)

/-- Bytes of a store that an image may use (R223). -/
def storeLimit (kind : Nat) : Nat := if kind = 0 then resvBase else if kind = 1 then 0x8000000 else 0x200000

/-- Die of a piece's store. -/
def pieceDie (x : Piece) : Nat := if x.store = 0 then x.storeId / 2 else if x.store = 1 then x.storeId else x.storeId / 96

/-- The placement rules of a piece (R78, R79, R223), overlaps apart. -/
def placeBad (mine : List Nat) (x : Piece) : Bool :=
  let last := if x.store = 0 then 8 else if x.store = 1 then 4 else 384
  2 < x.store || last ≤ x.storeId || !mine.contains (pieceDie x) || (x.fmt = 6 && x.store ≠ 0) ||
  x.elem % 64 ≠ 0 || x.aux % 64 ≠ 0 || x.delta % 64 ≠ 0 || (!bit x.flags 2 && x.delta ≠ 0) ||
  (!(isBlock x.fmt || x.fmt = 6) && x.aux ≠ 0) ||
  x.banks.any (fun b => [0, 1].any (fun pl =>
    0 < x.planeBytes pl && storeLimit x.store < (if pl = 0 then x.elem else x.aux) + b * x.delta + x.planeBytes pl))

/-- Two ranges share a byte. -/
def meets (a b : Nat × Nat) : Bool := a.1 < b.1 + b.2 && b.1 < a.1 + a.2

/-- A piece shares bytes with an earlier piece or with itself. -/
def placeClash (im : Image) (i : Nat) (x : Piece) : Bool :=
  let before := ((im.pieces.take i).map Piece.ranges).flatten
  x.ranges.zipIdx.any (fun r => before.any (meets r.1) || (x.ranges.take r.2).any (meets r.1))

/-- Schedule entries (Table 8.10); entries rise in BEAT, and within a beat OPLIST does not fall (DEDUCED). -/
def schedBad (im : Image) (i : Nat) (e : Sched) : Bool :=
  im.stage.stepBeats ≤ e.beat ||
  (match im.lists[e.oplist]? with | some l => l.trigger ≠ 0 | none => true) ||
  !(e.mb < im.stage.mbs || e.mb = 0xFFFF) || !(e.grain < im.stage.maxGrains || e.grain = 0xFFFF) ||
  (match i with
   | 0 => false
   | j + 1 => match im.sched[j]? with
     | some q => e.beat < q.beat || (e.beat = q.beat && e.oplist < q.oplist)
     | none => false)

/-- Retention (R173, Table 6.3). -/
def retainBad (im : Image) (mine : List Nat) (x : Retention) : Bool :=
  let st := im.stage
  let inLast := st.layerLast < x.layer + st.keepLayers && x.layer ≤ st.layerLast
  let usesSrc := x.cls = 2 || (x.cls = 0 && x.overflow = 1)
  x.layer < st.layerFirst || st.layerLast < x.layer || !im.has x.tensor || 2 < x.cls ||
  (if x.cls = 0 then 1 < x.overflow || x.keep = 0 || st.maxGrains < x.keep else x.overflow ≠ 0 || x.keep ≠ 0) ||
  x.slots = 0 || 64 < x.slots || !mine.contains x.die || ((x.cls = 0) != inLast) ||
  (if usesSrc then x.src ≠ 0xFFFF && !(x.src < x.layer && im.retain.any (fun y => y.layer = x.src && y.cls = 1))
   else x.src ≠ 0xFFFF)

/-- Fold entries (R179). -/
def foldBad (im : Image) (r : Nat) (i o : Nat) (f : Nat × List Nat) : Bool :=
  let n := recF r o 1
  n < 2 || 16 < n || recF r (o + 4 + 2 * n) (2 * (16 - n)) ≠ 256 ^ (2 * (16 - n)) - 1 ||
  f.2.any (fun a => im.recipe a ≠ 0x31 || im.shape a ≠ im.shape f.1 || bit (im.tflags a) 1) ||
  !distinct f.2 || f.2.any (fun a => (im.folds.take i).any (fun g => g.2.contains a)) ||
  !im.has f.1 || bit (im.tflags f.1) 1

/-- Pairs of the sync plan. -/
def listed (im : Image) (p : Nat) : Bool := im.pairs.any (·.pair = p)

/-- Norm slot of a number. -/
def slotOf (im : Image) (n : Nat) : Option NormSlot := im.slots.find? (·.slot = n)

/-- The shard length h of a reducing entry (R357). -/
def shardLen (e p : Nat) : Nat := 16 * cdiv e (16 * p)

/-- An entry of the collective plan breaks Table 8.13, Table 12.11, R231, R281, R361 or R363. -/
def collBad (im : Image) (me : Nat) (r b i : Nat) (c : Coll) : Bool :=
  let o := b + 32 * i
  let n := c.members.length
  let pos := c.pos me
  let f := im.fmt
  let tap := bit c.flags 0
  let shadow := bit c.flags 2
  let noT := fun (t : Nat) => t = 0xFFFF
  recF r o 2 ≠ i || 7 < c.kind || n = 0 || 16383 < n || recF r (o + 24) 4 % 8 ≠ 0 ||
  recF r (o + 24) 4 < 32 * im.colls.length ||
  !distinct c.members || !c.members.contains me || c.members.any (fun m => im.commit.members ≤ m) ||
  (c.trigger ≠ 0xFFFF && !listed im c.trigger) || (c.post ≠ 0xFFFF && !listed im c.post) ||
  (!noT c.src && !im.has c.src) || (!noT c.dst && !im.has c.dst) ||
  (if tap then !(c.kind = 0 || c.kind = 2) || (match slotOf im c.slot with | some s => s.kind ≠ 1 | none => true)
   else c.slot ≠ 0xFFFF) ||
  (shadow && c.kind ≠ 1) ||
  (match im.ckpt with
   | some k => c.kind ≠ 7 && k.reserve ≠ 0xFFFF && (c.dst = k.reserve || (c.kind = 3 && c.src = k.reserve))
   | none => false) ||
  match c.kind with
  | 0 => f c.src ≠ 5 || f c.dst ≠ 5 || im.shape c.dst ≠ [shardLen (im.elems c.src) n] || c.channel ≠ 2
  | 1 =>
    let a := im.shape c.src
    !im.has c.src || f c.src ≠ f c.dst || im.shape c.dst ≠ (match a with | x :: t => x * n :: t | [] => []) ||
    (isBlock (f c.src) && (im.axis c.src + 1 ≠ a.length || im.axis c.dst + 1 ≠ a.length)) ||
    !(c.channel = 3 || c.channel = 4) || (shadow && !bit (im.tflags c.dst) 2)
  | 2 => f c.src ≠ 5 || f c.dst ≠ 5 || im.shape c.dst ≠ im.shape c.src || c.channel ≠ 2
  | 3 => im.recipe c.src ≠ 0x31 || c.dst ≠ (if pos = 0 then c.src else 0xFFFF) || n < 2 || 16 < n || c.channel ≠ 2
  | 4 => noT c.src || !noT c.dst || n ≠ 2 || c.channel ≠ 3 || pos ≠ 0
  | 5 => !noT c.src || noT c.dst || n ≠ 2 || c.channel ≠ 3 || pos ≠ 1
  | 6 => !noT c.src || !noT c.dst || n ≠ im.commit.members || c.channel ≠ 0
  | _ =>
    noT c.src || ((im.pc c.src).map (·.lifetime)) ≠ some 0 || !noT c.dst || n ≠ 2 || c.channel ≠ 6 ||
    (match im.ckpt with | some k => c.members.getD 1 0xFFFF ≠ k.partner | none => true)

/-- Accumulators: WGRAD_ACC tensors that no reduction, gather or receive writes (R170; DEDUCED). -/
def accs (im : Image) : List Nat :=
  ((im.pieces.filter (fun x => x.recipe = 0x31)).map (·.logical)).eraseDups.filter (fun t =>
    !im.colls.any (fun c => c.dst = t && (c.kind = 0 || c.kind = 1 || c.kind = 2 || c.kind = 5)))

/-- The weight of an accumulator: its fold entry's, else the non-frozen weight of its layer and shape (DEDUCED). -/
def weightOf (im : Image) (a : Nat) : Option Nat :=
  match im.folds.find? (fun f => f.2.contains a) with
  | some f => some f.1
  | none => (im.pieces.find? (fun x => 1 ≤ x.recipe && x.recipe ≤ 3 && x.layer = im.tlayer a && !bit x.flags 1
      && im.shape x.logical = im.shape a)).map (·.logical)

/-- How often the schedule releases a list in a step: by its entries, or once by its trigger (R224, R226). -/
def releases (im : Image) (l : Nat) : Nat :=
  match im.lists[l]? with
  | some x => if x.trigger = 0 then (im.sched.filter (fun e => e.oplist = l)).length else 1
  | none => 0

/-- Releases of a list in a step that run for the last valid grain of the step's last micro-batch, where its micro-batch has all its
grains: those for which POST_FINAL_ONLY posts (R226). -/
def finals (im : Image) (li : Nat) : Nat :=
  (im.sched.filter (fun e => e.oplist = li && e.mb + 1 = im.stage.mbs && e.grain + 1 = im.stage.maxGrains)).length

/-- Completions that reach a pair in a step from the operations that satisfy a test: with POST_FINAL_ONLY for the final grain, else
once for each release; one for each tile, or one for an operation that runs once per release (R226, R246). -/
def posts (im : Image) (pair : Nat) (f : Op → Bool) (tiles : Bool) : Nat :=
  (im.lists.zipIdx.map (fun l => (l.1.ops.filter (fun o => o.post = pair && f o)).foldl (fun n o =>
    let once := 0x0801 ≤ o.opcode
    n + (if bit o.flags 3 then finals im l.2 else releases im l.2) * (if once || !tiles then 1 else (im.tiles l.1.sheaf).length)) 0)).foldl (· + ·) 0

/-- Matmul-family operations. -/
def isMat (o : Op) : Bool := o.opcode = 0x0101 || o.opcode = 0x0102

/-- Tiles of the step's final dW operation into the accumulators of a weight (R182): the last that the schedule, and then a pair,
releases. -/
def finalTiles (im : Image) (w : Nat) : Nat :=
  let accs := (accs im).filter (fun a => weightOf im a = some w)
  let of := fun (i : Nat) => match im.lists[i]? with
    | some l => (l.ops.filter (fun o => isMat o && accs.contains o.out)).map (fun _ => (im.tiles l.sheaf).length)
    | none => []
  (((im.sched.map (fun e => of e.oplist)).flatten ++
    ((List.range im.lists.length).filter (fun i => ((im.lists[i]?).map (·.trigger)) = some 1)).flatMap of).getLast?).getD 0

/-- A pair of the sync plan breaks R182, R230 or R349. -/
def pairBad (im : Image) (i : Nat) (x : Pair) : Bool :=
  let dest := bits x.action 15 14
  let kd := bits x.action 13 12
  let vec := bits x.action 11 0
  (im.pairs.take i).any (·.pair = x.pair) || 4 < x.role || 2 < x.kind || x.target = 0 || dest = 3 || 1 < kd ||
  (if kd = 0 then vec ≠ 0 else 2048 ≤ vec) || (x.role ≠ 0 && dest = 1) ||
  match x.role with
  | 1 => x.subject ≠ 0xFFFF || (im.pairs.take i).any (·.role = 1)
  | 2 => x.subject ≠ 0xFFFF || im.commit.commitRound ≠ 1 || (im.pairs.take i).any (·.role = 2)
  | 3 =>
    let mats := posts im x.pair isMat true
    let folds := posts im x.pair (fun o => o.opcode = 0x0701) true
    let foldOnce := posts im x.pair (fun o => o.opcode = 0x0701) false
    let cf := (im.colls.filter (fun c => c.kind = 3 && c.post = x.pair)).length
    let wr := im.recipe x.subject
    !(1 ≤ wr && wr ≤ 3) || bit (im.tflags x.subject) 1 || (im.pairs.take i).any (fun y => y.role = 3 && y.subject = x.subject) ||
    !(accs im).any (fun a => weightOf im a = some x.subject) ||
    mats ≠ finalTiles im x.subject || !(x.target = mats + folds + cf || x.target = mats + foldOnce + cf)
  | 4 => !(accs im).contains x.subject || (im.pairs.take i).any (fun y => y.role = 4 && y.subject = x.subject)
  | _ => x.subject ≠ 0xFFFF

/-- Pairs that the sync plan must hold are missing (R230). -/
def pairsMissing (im : Image) : Bool :=
  !im.pairs.any (·.role = 1) || (im.commit.commitRound = 1 && !im.pairs.any (·.role = 2)) ||
  (accs im).any (fun a => !im.pairs.any (fun x => x.role = 4 && x.subject = a)) ||
  (accs im).any (fun a => match weightOf im a with
    | some w => !bit (im.tflags w) 1 && !im.pairs.any (fun x => x.role = 3 && x.subject = w)
    | none => true)

/-- A norm slot breaks R153 or R232. -/
def slotBad (im : Image) (mine : List Nat) (i : Nat) (x : NormSlot) : Bool :=
  let g := bit x.flags 7
  let t := bit x.flags 6
  4095 < x.slot || !mine.contains (x.slot / 1024) || x.layer = 0xFFFF || 2 < x.kind ||
  (im.slots.take i).any (fun y => y.slot = x.slot || y.ident = x.ident) || ((g || t) && x.kind ≠ 1) ||
  (t && (im.commit.trailers ≤ x.flags % 32 || (im.slots.take i).any (fun y => bit y.flags 6 && y.flags % 32 = x.flags % 32)))

/-- A trailer index has no slot (R232). -/
def trailerMissing (im : Image) : Bool :=
  (List.range im.commit.trailers).any (fun k => !im.slots.any (fun x => bit x.flags 6 && x.flags % 32 = k))

/-- An FP32 pattern is a positive finite number. -/
def posFinite (w : Nat) : Bool := 0 < w && w < 0x7F800000

/-- A ratio watch entry breaks R156. -/
def ratioBad (im : Image) (i : Nat) (x : Ratio) : Bool :=
  let kindIs := fun n k => match slotOf im n with | some s => s.kind = k && s.layer = x.layer | none => false
  let checks := ((im.lists.zipIdx.map (fun l => l.1.ops.zipIdx.map (fun o => (l.2, o.2, o.1)))).flatten).filter (fun q =>
    q.2.2.opcode = 0x0601 && bit q.2.2.flags 2 &&
      (match im.opts[recF q.2.2.attr 8 2]? with | some e => e.layer = x.layer | none => false))
  let lo := f32 x.low
  let hi := f32 x.high
  !kindIs x.wslot 0 || !kindIs x.uslot 2 || 2 < x.action || (im.ratios.take i).any (·.layer = x.layer) ||
  lo.isNan || hi.isNan || (lo.sign && !lo.isZero) || !lo.lt hi ||
  checks.map (fun q => (q.1, q.2.1)) ≠ [(x.list, x.op)]

/-- Operations of every list with their places. -/
def allOps (im : Image) : List (Nat × Nat × OpList × Op) :=
  (im.lists.zipIdx.map (fun l => l.1.ops.zipIdx.map (fun o => (l.2, o.2, l.1, o.1)))).flatten

/-- The commit plan breaks R94 or R198. -/
def commitBad (im : Image) : Bool :=
  let c := im.commit
  let inR := fun (x : Int) => -64 ≤ x && x ≤ 63
  !(posFinite c.maxNorm || c.maxNorm = inf32) || !posFinite c.clipEps || one32 < c.clipEps ||
  c.members = 0 || 16383 < c.members || 4096 < c.maxSkips || c.timeoutBeats = 0 || 1 < c.commitRound || 32 < c.trailers ||
  !inR c.gInit || !inR c.gMin || !inR c.gMax || c.gMax < c.gMin || c.gInit < c.gMin || c.gMax < c.gInit ||
  c.upAfter = 0 || 1048576 < c.upAfter || c.downAfter = 0 || (0 < im.stage.runahead && c.commitRound = 0) ||
  im.ratios.any (fun x => x.action = 2 && !im.inWindow x.layer)

/-- An optimizer entry breaks R198. -/
def optBad (im : Image) (i : Nat) (x : OptEntry) : Bool :=
  let unit := fun w => w < one32
  let part := fun w => 0 < w && w ≤ one32
  let is := fun t rc => im.has t && im.recipe t = rc
  2 < x.kind || 1 < x.nesterov || 1 < x.wd || x.layer = 0xFFFF ||
  (x.kind ≠ 0 && !unit x.b1) || (x.kind = 2 && !(part x.omb1 && unit x.b2 && part x.omb2 && posFinite x.eps)) ||
  !(im.has x.grad && carriesShift (im.recipe x.grad)) || !is x.master 0x51 ||
  !(if x.kind = 0 then x.m1 = 0xFFFF else is x.m1 0x41) || !(if x.kind = 2 then is x.m2 0x41 else x.m2 = 0xFFFF) ||
  !(im.has x.working && 1 ≤ im.recipe x.working && im.recipe x.working ≤ 3) ||
  (im.opts.take i).any (·.grad = x.grad)

/-- A shard with a reduced gradient has no optimizer entry (R198). -/
def optMissing (im : Image) : Bool :=
  im.colls.any (fun c => c.kind = 0 && carriesShift (im.recipe c.dst) && !im.opts.any (·.grad = c.dst))

/-- The entry that reduces a weight: the REDUCE_SCATTER that its layer-ready pair starts (R183). -/
def reduceOf (im : Image) (w : Nat) (c : Coll) : Bool :=
  c.kind = 0 && im.pairs.any (fun x => x.role = 3 && x.subject = w && x.pair = c.trigger)

/-- FINAL breaks R185 or R231 at an entry. -/
def finalBad (im : Image) (c : Coll) : Bool :=
  bit c.flags 1 != (im.stage.finalWeight ≠ 0xFFFF && reduceOf im im.stage.finalWeight c)

/-- FINAL_WEIGHT is not the one weight whose layer ready comes last in backward order (R185). -/
def finalWeightBad (im : Image) : Bool :=
  let ready := (im.pairs.filter (·.role = 3)).map (·.subject)
  let low := ready.foldl (fun m t => min m (im.tlayer t)) 0xFFFF
  if ready.isEmpty then im.stage.finalWeight ≠ 0xFFFF
  else !(ready.contains im.stage.finalWeight) || im.tlayer im.stage.finalWeight ≠ low ||
    !(im.colls.any (reduceOf im im.stage.finalWeight))

/-- Phases whose operations VOTE_SAMPLE must cover (Table 8.8). -/
def inVote (phase : Nat) : Bool := phase ≤ 5

/-- Pairs whose completion the covered work needs: VOTE_SAMPLE, and what covered operations wait on, what triggers
covered lists, and what triggers covered entries (R192; DEDUCED). -/
def coverStep (im : Image) (ps : List Nat) : List Nat :=
  let fromOps := (im.lists.map (fun l =>
    let last := (l.ops.zipIdx.filter (fun o => ps.contains o.1.post)).foldl (fun m o => max m (o.2 + 1)) 0
    ((l.ops.take last).map (·.wait)) ++ (if 0 < last && l.trigger = 1 then [l.pair] else []))).flatten
  let fromColls := (im.colls.filter (fun c => ps.contains c.post)).map (·.trigger)
  ((fromOps ++ fromColls).filter (· ≠ 0xFFFF)).foldl (fun a x => if a.contains x then a else x :: a) ps

/-- The covered pairs after n rounds. -/
def cover (im : Image) : Nat → List Nat → List Nat
  | 0, ps => ps
  | n + 1, ps => cover im n (coverStep im ps)

/-- Completions that covered work posts to a pair in a step: of operations, one from each tile, and of collective entries (R192,
R226, R355). -/
def coveredPosts (im : Image) (pair : Nat) : Nat :=
  let starts := fun (e : Nat) => (im.lists.zipIdx.map (fun l =>
    (l.1.ops.filter (fun o => o.opcode = 0x0801 && recF o.attr 8 2 = e)).length * releases im l.2)).foldl (· + ·) 0
  (im.lists.zipIdx.map (fun l =>
    if inVote l.1.phase then
      ((l.1.ops.filter (·.post = pair)).map (fun o =>
        (if bit o.flags 3 then finals im l.2 else releases im l.2) * (if 0x0801 ≤ o.opcode then 1 else (im.tiles l.1.sheaf).length))).foldl (· + ·) 0
    else 0)).foldl (· + ·) 0 +
  (im.colls.zipIdx.map (fun c =>
    if c.1.post = pair && c.1.kind < 6 then (if c.1.trigger = 0xFFFF then starts c.2 else 1) else 0)).foldl (· + ·) 0

/-- VOTE_SAMPLE does not cover an operation or a reduce-scatter (R192, R230): the first that it leaves out, or a pair on the way
whose target is below the completions that the covered work posts to it. -/
def coverage (im : Image) : Option Fail :=
  let ps := cover im im.pairs.length ((im.pairs.filter (·.role = 1)).map (·.pair))
  run [
    (allOps im).findSome? (fun q =>
      if inVote q.2.2.1.phase && !((q.2.2.1.ops.drop q.2.1).any (fun o => ps.contains o.post)) then
        some { code := 0x0316, sec := 4, entry := q.1, sub := q.2.1 } else none),
    bad 0x0316 8 im.colls (fun c _ => c.kind = 0 && !ps.contains c.post),
    first im.pairs (fun x i =>
      if ps.contains x.pair && x.role ≠ 3 && x.target < coveredPosts im x.pair then
        some { code := 0x0316, sec := 9, entry := i, ukind := 6, unit := x.pair } else none)]

/-- The checkpoint plan breaks R232 or R422. -/
def ckptBad (im : Image) (me : Nat) (k : CkptPlan) : Bool :=
  let ops := allOps im
  let copies := ops.filter (fun q => q.2.2.2.opcode = 0x0A01)
  let digests := ops.filter (fun q => q.2.2.2.opcode = 0x0A02)
  let mult := fun (a b : Nat) => a = 0 || b = 0 || a % b = 0
  im.commit.members ≤ k.partner || im.commit.members ≤ k.digest || k.partner = me || k.digest = me ||
  (k.reserve ≠ 0xFFFF && ((im.pc k.reserve).map (·.lifetime)) ≠ some 0) ||
  ((im.lists.drop k.first).take k.count).any (·.phase ≠ 8) || im.lists.length < k.first + k.count ||
  !mult k.flashEvery k.partnerEvery || !mult k.storeEvery k.flashEvery || !mult k.storeEvery k.partnerEvery ||
  copies.any (fun q =>
    let t := recF q.2.2.2.attr 8 1
    (t = 0 && k.partnerEvery = 0) || (t = 1 && k.flashEvery = 0) || (t = 2 && k.storeEvery = 0)) ||
  copies.any (fun q => (digests.filter (fun d => d.2.2.2.in0 = q.2.2.2.in0)).length ≠ 1) ||
  copies.any (fun q => recF q.2.2.2.attr 8 1 = 0 &&
    (im.colls.filter (fun c => c.kind = 7 && c.src = q.2.2.2.in0 && c.trigger = 0xFFFF)).length ≠ 1) ||
  ops.any (fun q => q.2.2.2.opcode = 0x0801 && (match im.colls[recF q.2.2.2.attr 8 2]? with | some c => c.kind = 7 | none => false)) ||
  (if k.partnerEvery = 0 then k.reserve ≠ 0xFFFF
   else im.fmt k.reserve ≠ 0x11 || (im.shape k.reserve).length ≠ 2 || 2 < (im.shape k.reserve).getD 0 0)

/-- Bytes of one grain of a saved tensor: its bytes over the extent of axis 0 (R173). -/
def grainBytes (im : Image) (t : Nat) : Nat :=
  let b := (im.pieces.filter (·.logical = t)).foldl (fun n x => n + x.planeBytes 0 + x.planeBytes 1) 0
  b / max 1 ((im.shape t).getD 0 1)

/-- Saved tensors of the retention plan. -/
def saved (im : Image) (t : Nat) : Bool := im.retain.any (·.tensor = t)

/-- Staging of the retention plan (R177, R178): a tensor into which a saved one is read back, or that recompute writes. -/
def staging (im : Image) (t : Nat) : Bool :=
  im.lists.any (fun l => l.ops.any (fun o => o.out = t && ((o.opcode = 0x0901 && saved im o.in0) || l.phase = 3)))

/-- Bytes of the pieces that satisfy a test. -/
def pieceBytes (im : Image) (f : Piece → Bool) : Nat :=
  (im.pieces.filter f).foldl (fun n x => n + (x.ranges.map (·.2)).foldl (· + ·) 0) 0

/-- The tensors of which a retention entry keeps two grains in staging (R174): the saved one, and, where it recomputes, the
grain-indexed results of the forward operations of layers RECOMPUTE_FROM + 1 to its own (R178; DEDUCED, log entry 129). -/
def staged (im : Image) (x : Retention) : List Nat :=
  if x.cls = 2 || (x.cls = 0 && x.overflow = 1) then
    (x.tensor :: (im.lists.filter (·.phase = 0)).flatMap (fun l =>
      (l.ops.filter (fun o => o.grained 3 && o.out ≠ 0xFFFF && (x.src = 0xFFFF || x.src < o.layer) && o.layer ≤ x.layer)).map
        (·.out))).eraseDups
  else [x.tensor]

/-- The activation-store plan of a die (R174): kept grains, staging, and every other tensor placed in the store. -/
def actPlan (im : Image) (die : Nat) : Nat :=
  ((im.retain.filter (·.die = die)).foldl (fun n x =>
    let g := grainBytes im x.tensor
    n + (if x.cls = 0 then x.keep * x.slots * g else 0) +
      ((staged im x).map (fun t => 2 * grainBytes im t)).foldl (· + ·) 0) 0) +
  pieceBytes im (fun x => x.store = 1 && x.storeId = die && !saved im x.logical && !staging im x.logical)

/-- Bytes of a spill region (R176). -/
def spillBytes (im : Image) (x : Retention) : Nat :=
  let g := grainBytes im x.tensor
  if x.cls = 0 && x.overflow = 0 then (im.stage.maxGrains - x.keep) * x.slots * g
  else if x.cls = 1 then im.stage.maxGrains * x.slots * g
  else 0

/-- The part of a spill region below a stack: the region lies where the saved tensor's pieces in stacks lie, in proportion to their
bytes; without such a piece, in the even stack of the entry's die (R176; DEDUCED, log entry 149). -/
def spillBelow (im : Image) (x : Retention) (st : Nat) : Nat :=
  let total := pieceBytes im (fun y => y.logical = x.tensor && y.store = 0)
  if total = 0 then (if 2 * x.die < st then spillBytes im x else 0)
  else spillBytes im x * pieceBytes im (fun y => y.logical = x.tensor && y.store = 0 && y.storeId < st) / total

/-- The spill regions of an image in a stack. -/
def spillIn (im : Image) (st : Nat) : Nat :=
  (im.retain.map (fun x => spillBelow im x (st + 1) - spillBelow im x st)).foldl (· + ·) 0

/-- Bytes that an image plans in a stack (R25, R26): spill regions, and every tensor placed there that is not in one. -/
def stackPlan (im : Image) (st : Nat) : Nat :=
  pieceBytes im (fun x => x.store = 0 && x.storeId = st && !im.retain.any (fun r => r.tensor = x.logical && spillBytes im r ≠ 0)) +
    spillIn im st

/-- Bytes that an image plans in a tile's local store. -/
def tilePlan (im : Image) (t : Nat) : Nat :=
  (im.pieces.filter (fun x => x.store = 2 && x.storeId = t)).foldl (fun n x => n + x.ranges.foldl (fun m r => m + r.2) 0) 0

/-- Stage 4: the first store over its limit, in the order of R26. -/
def capacity (im : Image) : Option Fail :=
  let beyond := fun (kind unit plan limit : Nat) =>
    if limit < plan then some ({ code := 0x0401, ukind := kind, unit := unit, found := plan, limit := limit } : Fail) else none
  run [
    (List.range 8).findSome? (fun st => beyond 1 st (stackPlan im st) resvBase),
    (List.range 4).findSome? (fun d => beyond 2 d (actPlan im d) 0x8000000),
    (List.range 384).findSome? (fun t => beyond 3 t (tilePlan im t) 0x200000)]

end Sys2Proof.Machine.Chk
end

