-- ==== Sys2Proof/Machine/CheckOp.lean ====
section
/-! DEFINITION. CheckOp.lean: load checks of the operation lists (R224, R242 to R265, R108, R133, R170, R171) and the
whole of the load checks in the order of R237. -/

namespace Sys2Proof.Machine.Chk

/-- A row of Table 9.1: ATTR_LEN (0: by its steps), allowed phases as a mask, and for IN0, IN1, IN2 and OUT whether the
operand is absent (0), required (1) or optional (2). -/
structure OpRow where
  len : Nat
  phases : Nat
  ins : List Nat
deriving DecidableEq, Repr

/-- Table 9.1. -/
def opRow (opcode : Nat) : Option OpRow :=
  match opcode with
  | 0x0101 => some ⟨24, 0x0F, [1, 1, 2, 1]⟩
  | 0x0102 => some ⟨24, 0x04, [1, 1, 0, 1]⟩
  | 0x0201 => some ⟨0, 0x0F, [1, 2, 2, 1]⟩
  | 0x0301 => some ⟨40, 0x0F, [1, 0, 0, 1]⟩
  | 0x0302 => some ⟨32, 0x0F, [1, 0, 0, 1]⟩
  | 0x0311 => some ⟨40, 0x09, [1, 1, 2, 1]⟩
  | 0x0312 => some ⟨40, 0x04, [1, 1, 1, 1]⟩
  | 0x0313 => some ⟨40, 0x09, [1, 1, 0, 1]⟩
  | 0x0314 => some ⟨40, 0x04, [1, 1, 1, 1]⟩
  | 0x0321 => some ⟨40, 0x09, [1, 0, 0, 1]⟩
  | 0x0322 => some ⟨32, 0x04, [1, 1, 0, 1]⟩
  | 0x0323 => some ⟨40, 0x02, [1, 1, 0, 1]⟩
  | 0x0401 => some ⟨32, 0x09, [1, 1, 0, 1]⟩
  | 0x0501 => some ⟨32, 0x0F, [1, 0, 0, 1]⟩
  | 0x0502 => some ⟨40, 0x0F, [1, 2, 0, 1]⟩
  | 0x0503 => some ⟨32, 0x02, [1, 0, 0, 1]⟩
  | 0x0601 => some ⟨16, 0xC0, [0, 0, 0, 0]⟩
  | 0x0701 => some ⟨16, 0x10, [0, 0, 0, 0]⟩
  | 0x0801 => some ⟨16, 0x1FF, [0, 0, 0, 0]⟩
  | 0x0901 => some ⟨24, 0xED, [2, 0, 0, 2]⟩
  | 0x0A01 => some ⟨16, 0x100, [1, 0, 0, 0]⟩
  | 0x0A02 => some ⟨16, 0x100, [1, 0, 0, 0]⟩
  | _ => none

/-- Vector-family operations carry the common block of Table 9.3. -/
def isVec (opcode : Nat) : Bool := 0x0201 ≤ opcode && opcode ≤ 0x0503

/-- Row-wise operations of R255. -/
def isRowWise (opcode : Nat) : Bool := opcode = 0x0301 || (0x0311 ≤ opcode && opcode ≤ 0x0323)

/-- Operations that run once per release (R244). -/
def isOnce (opcode : Nat) : Bool := 0x0801 ≤ opcode

/-- Tensors that an operation's attributes name: EXTRA_OUT and LOSS_OUT. -/
def extraOut (o : Op) : Nat :=
  if o.opcode = 0x0312 || o.opcode = 0x0314 || o.opcode = 0x0323 then recF o.attr 36 2 else 0xFFFF

/-- Attribute field at a byte offset. -/
abbrev at' (o : Op) (off n : Nat) : Nat := recF o.attr off n

/-- Rows of a shape: the product of all its axes but the last. -/
def rowsOf (sh : List Nat) : Nat := prod sh.dropLast

/-- Extent of the last axis. -/
def colsOf (sh : List Nat) : Nat := sh.getLastD 1

/-- The last two axes swapped. -/
def swap (sh : List Nat) : List Nat :=
  match sh.reverse with
  | a :: b :: t => (b :: a :: t).reverse
  | _ => sh

/-- The shape of A, B and C of a MATMUL after their views. -/
def matShapes (im : Image) (o : Op) : List Nat × List Nat × List Nat :=
  let a := im.seen o 0 o.in0
  let b := im.seen o 1 o.in1
  (if at' o 8 1 = 1 then swap a else a, if at' o 9 1 = 1 then swap b else b, im.seen o 3 o.out)

/-- The shape over which a vector-family operation iterates: IN0's for the reductions, else OUT's. -/
def iter (im : Image) (o : Op) : List Nat :=
  if o.opcode = 0x0301 || o.opcode = 0x0302 then im.seen o 0 o.in0 else im.seen o 3 o.out

/-- An operand has a shape, or extent 1 where the shape is larger (R248). -/
def fits (x sh : List Nat) : Bool := x.length = sh.length && (x.zip sh).all (fun p => p.1 = p.2 || p.1 = 1)

/-- The header and prefix rules that every operation obeys (R224, R242 to R245). -/
def headBad (im : Image) (l : OpList) (o : Op) (row : OpRow) (extra : Nat) : Bool :=
  let ops := [0, 1, 2, 3].map o.operand
  let mat := isMat o
  let moves := 0x0901 ≤ o.opcode
  let tiles := (im.tiles l.sheaf).length
  let given := ops.filter (· ≠ 0xFFFF)
  (row.len ≠ 0 && o.attrLen ≠ row.len) || o.attrLen % 8 ≠ 0 || 1024 < o.attrLen || !bit row.phases l.phase ||
  (ops.zip row.ins).any (fun p => (p.2 = 0 && p.1 ≠ 0xFFFF) || (p.2 = 1 && p.1 = 0xFFFF)) ||
  given.any (fun t => !im.has t) ||
  (mat && 1023 < o.stream) || (!mat && o.stream ≠ 0xFFFF) ||
  (o.wait ≠ 0xFFFF && !listed im o.wait) || (o.post ≠ 0xFFFF && !listed im o.post) ||
  (o.out ≠ 0xFFFF && (o.out = o.in0 || o.out = o.in1 || o.out = o.in2 || o.out = extra)) ||
  (extra ≠ 0xFFFF && (!im.has extra || extra = o.in0 || extra = o.in1 || extra = o.in2)) ||
  (o.out ≠ 0xFFFF && (match im.ckpt with | some k => o.out = k.reserve | none => false)) ||
  (!moves && given.any (fun t => im.fmt t = 6)) ||
  ops.zipIdx.any (fun p => p.1 ≠ 0xFFFF && im.fmt p.1 = 0x11 &&
      !((o.opcode = 0x0102 && p.2 = 0) || ((o.opcode = 0x0323 || o.opcode = 0x0401) && p.2 = 1))) ||
  (bit o.flags 0 && !mat) || (bit o.flags 1 && !(o.opcode = 0x0201 || o.opcode = 0x0501 || o.opcode = 0x0502)) ||
  (bit o.flags 2 && o.opcode ≠ 0x0601) ||
  o.splitRows = 0 || 384 < o.splitRows || o.splitCols = 0 || 384 < o.splitCols ||
  (if isOnce o.opcode then o.splitRows ≠ 1 || o.splitCols ≠ 1 else o.splitRows * o.splitCols ≠ tiles) ||
  ((isRowWise o.opcode || o.opcode = 0x0601 || o.opcode = 0x0701) && o.splitCols ≠ 1) ||
  (o.opcode = 0x0302 && o.splitRows ≠ 1) ||
  (if o.grainBits = 0 then o.slots ≠ 0 else o.slots = 0 || 64 < o.slots)

/-- A schedule entry releases a list for a grain that a grain-indexed operand does not hold, or unbound, or no schedule
entry binds the list's grain (R245; DEDUCED for lists without schedule entries). EXTRA_OUT and LOSS_OUT follow OUT's bit. -/
def grainBad (im : Image) (li : Nat) (l : OpList) (o : Op) : Bool :=
  o.grainBits ≠ 0 &&
  [(0, o.in0), (1, o.in1), (2, o.in2), (3, o.out), (3, extraOut o)].any (fun q =>
    let k := q.1
    let t := if o.opcode = 0x0801 then
        (match im.colls[at' o 8 2]? with | some c => if k = 0 then c.src else if k = 3 then c.dst else 0xFFFF | none => 0xFFFF)
      else q.2
    o.grained k && t ≠ 0xFFFF &&
    (let sh := im.shape t
     let e := im.grainsOf o t
     sh.length < 2 || e = 0 || sh.getD 0 0 % o.slots ≠ 0 || (k = 3 && im.axis t = 0) || l.trigger ≠ 0 ||
     im.sched.any (fun q => q.oplist = li && (q.grain = 0xFFFF || q.mb = 0xFFFF || q.grain < o.grainBase || o.grainBase + e ≤ q.grain))))

/-- Formats that enter the array (R101). -/
def arrayFmt (f : Nat) : Bool := 1 ≤ f && f ≤ 4
/-- Formats that enter the vector engine or the epilogue. -/
def numFmt (f : Nat) : Bool := 1 ≤ f && f ≤ 5

/-- Conditions of TRANSPOSE_OF (R123): D takes C's long-sum mark and threshold, and only one of its own that differs is refused. -/
def transposeBad (im : Image) (o : Op) : Bool :=
  let li := at' o 16 2
  let oi := at' o 18 2
  if li = 0xFFFF && oi = 0xFFFF then false
  else
    match (im.lists[li]?).bind (fun l => l.ops[oi]?) with
    | none => true
    | some c =>
      let (a, _, z) := matShapes im o
      let (a', _, z') := matShapes im c
      c.opcode ≠ 0x0101 || colsOf a ≠ colsOf a' || z ≠ swap z' || im.fmt o.in0 ≠ im.fmt c.in1 || im.fmt o.in1 ≠ im.fmt c.in0 ||
      o.stream ≠ c.stream ||
      ((bit (im.tflags o.out) 0 || im.recipe o.out = 0x31) && !(bit (im.tflags c.out) 0 || im.recipe c.out = 0x31)) ||
      (at' o 12 4 ≠ 0 && at' o 12 4 ≠ at' c 12 4) || bit o.flags 0 != bit c.flags 0

/-- A piece lies where a tile's epilogue reads V: in the tile's local store or in its die's activation store (R124). -/
def nearTile (t : Nat) (x : Piece) : Bool := (x.store = 2 && x.storeId = t) || (x.store = 1 && x.storeId = t / 96)

/-- A range of one axis of a piece meets [a, b). -/
def axisMeets (x : Piece) (k a b : Nat) : Bool := x.origin.getD k 0 < b && a < x.origin.getD k 0 + x.dims.getD k 0

/-- V of an epilogue is not placed as R124 asks: some tile of the sheaf uses an element of V (R244) that lies in another tile's local
store, in another die's activation store or in HBM. `c` is the output's shape; a grain-indexed V is judged over all its grains. -/
def vFar (im : Image) (l : OpList) (o : Op) (c : List Nat) : Bool :=
  let rows := rowsOf c
  let h := max 1 (cdiv rows o.splitRows)
  let w := colsOf c / max 1 o.splitCols
  let k0 := if o.grained 2 then 1 else 0
  let ps := im.piecesOf o.in2
  (im.tiles l.sheaf).zipIdx.any (fun t =>
    let r0 := t.2 / max 1 o.splitCols * h
    let r1 := min rows (r0 + h)
    let c0 := t.2 % max 1 o.splitCols * w
    let used : Piece → Bool := fun x =>
      match at' o 11 1 with
      | 0 => axisMeets x (k0 + c.length - 1) c0 (c0 + w) && (List.range (r1 - r0)).any (fun r =>
          (ixOf c.dropLast (r0 + r)).zipIdx.all (fun e => axisMeets x (k0 + e.2) e.1 (e.1 + 1)))
      | 1 => axisMeets x k0 c0 (c0 + w)
      | 2 => axisMeets x k0 r0 r1
      | _ => true
    r0 < r1 && ps.any (fun x => used x && !nearTile t.1 x))

/-- MATMUL (R249, R101, R112, R114, R118, R124). -/
def matBad (im : Image) (l : OpList) (o : Op) : Bool :=
  let (a, b, c) := matShapes im o
  let k := colsOf a
  let m := a.getD (a.length - 2) 0
  let n := colsOf c
  let lead := a.take (a.length - 2)
  let epi := at' o 10 1
  let vs := im.seen o 2 o.in2
  let rows := rowsOf c
  let th := at' o 12 4
  1 < at' o 8 1 || 1 < at' o 9 1 || 2 < epi || 3 < at' o 11 1 || a.length < 2 || b.length < 2 ||
  !(b = lead ++ [k, n] || b = [k, n]) || c ≠ lead ++ [m, n] ||
  !arrayFmt (im.fmt o.in0) || !arrayFmt (im.fmt o.in1) || !numFmt (im.fmt o.out) ||
  k % 64 ≠ 0 || 2 ^ 32 ≤ k || 2 ^ 32 < rows || 2 ^ 32 < n || n % (64 * o.splitCols) ≠ 0 ||
  (epi = 0 && o.in2 ≠ 0xFFFF) || (epi ≠ 0 && o.in2 = 0xFFFF) ||
  (epi ≠ 0 && (!numFmt (im.fmt o.in2) || vFar im l o c || im.recipe o.out = 0x31 ||
    vs ≠ (match at' o 11 1 with | 0 => c | 1 => [n] | 2 => [rows] | _ => [1]))) ||
  !(th = 0 || (th % 64 = 0 && th ≤ 1048576)) || at' o 20 2 = 0 || 1 < at' o 22 1 ||
  (at' o 22 1 = 1 && 256 < at' o 20 2) || (bit o.flags 0 && (im.fmt o.out ≠ 5 || epi ≠ 0)) || transposeBad im o

/-- EMBED_GRAD (R251, R252). -/
def embedBad (im : Image) (o : Op) : Bool :=
  let ix := im.seen o 0 o.in0
  let dy := im.seen o 1 o.in1
  let out := im.seen o 3 o.out
  let t := ix.getD 0 0
  im.fmt o.in0 ≠ 0x11 || ix.length ≠ 1 || dy ≠ [t, colsOf out] || !arrayFmt (im.fmt o.in1) || im.recipe o.out ≠ 0x31 ||
  out.length ≠ 2 || t % 64 ≠ 0 || 2 ^ 32 ≤ t || at' o 12 4 = 0 || out.getD 0 0 < at' o 8 4 + at' o 12 4 || at' o 16 2 = 0 ||
  colsOf out % (64 * o.splitCols) ≠ 0

/-- The mask, taps and shapes of the common block (R149, R247, R248, R256). `packed` is the chain's MODE. -/
def vecBad (im : Image) (o : Op) (packed : Nat) : Bool :=
  let sh := iter im o
  let gen := at' o 8 1
  let mode := at' o 9 1
  let taps := at' o 10 1
  let vc := at' o 16 4
  let n := colsOf sh
  let unit := if packed = 1 then 128 else if packed = 2 then 256 else 64
  let noMask := o.opcode = 0x0401 || o.opcode = 0x0302 || o.opcode = 0x0503
  let src := fun k => im.seen o k (o.operand k)
  3 < gen || 1 < mode || 3 < taps || (if bit gen 1 then vc = 0 || n < vc else vc ≠ 0) || (noMask && gen ≠ 0) ||
  (isRowWise o.opcode && mode ≠ 1) || (packed ≠ 0 && taps ≠ 0) ||
  recF o.attr (20 + 4 * taps) (4 * (3 - taps)) ≠ 0 ||
  (List.range (min 3 taps)).any (fun i =>
    let k := at' o (20 + 4 * i) 1
    3 < k || o.operand k = 0xFFFF || im.fmt (o.operand k) = 0x11 || !(src k = sh || k = 3 || (o.opcode = 0x0401 && k = 0))) ||
  im.recipe o.out = 0x31 || !numFmt (im.fmt o.out) || n % unit ≠ 0 ||
  (!isRowWise o.opcode && n % (64 * o.splitCols) ≠ 0) || colsOf (im.seen o 3 o.out) % 64 ≠ 0

/-- The operands that have OUT's shape or are broadcast to it. -/
def shapesBad (im : Image) (o : Op) (ks : List Nat) : Bool :=
  ks.any (fun k => o.operand k ≠ 0xFFFF && !(numFmt (im.fmt (o.operand k)) && fits (im.seen o k (o.operand k)) (iter im o)))

/-- Full last axis (R255). -/
def lastBad (im : Image) (o : Op) (ks : List Nat) : Bool :=
  ks.any (fun k => colsOf (im.seen o k (o.operand k)) ≠ colsOf (iter im o))

/-- A per-row result: rank 1, FP32, one value for each logical row (R255). -/
def rowOutBad (im : Image) (o : Op) (t : Nat) : Bool := im.fmt t ≠ 5 || im.seen o 3 t ≠ [rowsOf (iter im o)]

/-- γ and β: rank 1 with the logical row's extent (R248). -/
def paramBad (im : Image) (o : Op) (k : Nat) : Bool :=
  o.operand k ≠ 0xFFFF && !(numFmt (im.fmt (o.operand k)) && im.seen o k (o.operand k) = [colsOf (iter im o)])

/-- One chain step (Table 9.7). -/
structure Step where
  vop : Nat
  dst : Nat
  s0 : Nat
  s1 : Nat
  s2 : Nat
  mask : Nat
  arg : Nat
deriving DecidableEq, Repr

/-- The steps of a chain. -/
def steps (o : Op) : List Step :=
  (List.range (at' o 32 1)).map (fun i =>
    let b := 72 + 8 * i
    { vop := at' o b 1, dst := at' o (b + 1) 1, s0 := at' o (b + 2) 1, s1 := at' o (b + 3) 1, s2 := at' o (b + 4) 1,
      mask := at' o (b + 5) 1, arg := at' o (b + 6) 1 })

/-- Number of sources of a step operation (Table 9.9); none where it is not listed. -/
def arity (vop : Nat) : Option Nat :=
  if vop = 4 then some 3
  else if (1 ≤ vop && vop ≤ 3) || vop = 5 || vop = 6 || vop = 0x0A || (0x10 ≤ vop && vop ≤ 0x15) || vop = 0x33 then some 2
  else if (7 ≤ vop && vop ≤ 9) || vop = 0x0B || (0x16 ≤ vop && vop ≤ 0x19) || (0x30 ≤ vop && vop ≤ 0x3A) then some 1
  else none

/-- A step operation is allowed in a mode (Table 5.3, Table 9.9). -/
def inMode (mode vop : Nat) : Bool :=
  if mode = 0 then !(0x17 ≤ vop && vop ≤ 0x19)
  else if mode = 1 then vop ≤ 0x16
  else vop = 7 || vop = 8 || vop = 9 || vop = 0x0A || (0x16 ≤ vop && vop ≤ 0x19)

/-- Steps whose result is a mask. -/
def toMask (vop : Nat) : Bool := 0x10 ≤ vop && vop ≤ 0x19

/-- A step of a chain breaks R254. `done` holds the scratch and mask operands that earlier steps wrote. -/
def stepBad (o : Op) (mode : Nat) (done : List Nat) (last : Bool) (s : Step) : Bool :=
  let srcs := [s.s0, s.s1, s.s2]
  match arity s.vop with
  | none => true
  | some n =>
    !inMode mode s.vop || (srcs.drop n).any (· ≠ 0xFF) ||
    (srcs.take n).any (fun c =>
      if c ≤ 2 then o.operand c = 0xFFFF
      else if 8 ≤ c && c ≤ 0xF then !done.contains c
      else !(0x10 ≤ c && c ≤ 0x17) || mode = 2) ||
    (toMask s.vop != (0x20 ≤ s.dst && s.dst ≤ 0x27)) || (!toMask s.vop && !((8 ≤ s.dst && s.dst ≤ 0xF) || s.dst = 0x18)) ||
    !(s.mask = 0xFF || (0x20 ≤ s.mask && s.mask ≤ 0x27 && done.contains s.mask)) ||
    (s.vop = 0x0A && !(0x20 ≤ s.arg && s.arg ≤ 0x27 && done.contains s.arg)) || (s.vop = 0x16 && 5 < s.arg) ||
    ((s.dst = 0x18) != last)

/-- The chain's steps break R254. -/
def chainBad (o : Op) (mode : Nat) : List Nat → List Step → Bool
  | _, [] => false
  | done, s :: t => stepBad o mode done t.isEmpty s || chainBad o mode (s.dst :: done) t

/-- EW_CHAIN (R248, R253, R254, R140). -/
def ewBad (im : Image) (o : Op) : Bool :=
  let n := at' o 32 1
  let mode := at' o 33 1
  let used := ((steps o).map (fun s => [s.s0, s.s1, s.s2])).flatten
  let given := [0, 1, 2].filter (fun k => o.operand k ≠ 0xFFFF)
  n = 0 || 32 < n || 2 < mode || o.attrLen ≠ 72 + 8 * n || chainBad o mode [] (steps o) || vecBad im o mode || shapesBad im o [0, 1, 2] ||
  (List.range 8).any (fun i =>
    let w := at' o (40 + 4 * i) 4
    (f32 w).bad || (mode = 1 && used.contains (0x10 + i) && w % 65536 ≠ 0)) ||
  (mode = 1 && (3 :: given).any (fun k => im.fmt (o.operand k) ≠ 4)) ||
  (mode = 2 && ((3 :: given).any (fun k => im.fmt (o.operand k) ≠ im.fmt o.in0) || !(im.fmt o.in0 = 2 || im.fmt o.in0 = 3) ||
    im.seen o 0 o.in0 ≠ iter im o || im.axis o.in0 ≠ im.axis o.out))

/-- A recipe of activation gradients (Table 3.6). -/
def isActGrad (rc : Nat) : Bool := rc = 0x21 || rc = 0x22 || rc = 0x23

/-- The operation writes a tensor that carries 2^G though nothing it reads carries it (R261; DEDUCED). -/
def factorBad (im : Image) (o : Op) (extra : Nat) : Bool :=
  o.opcode ≠ 0x0503 && o.opcode < 0x0901 &&
  [o.out, extra].any (fun t => t ≠ 0xFFFF && carriesShift (im.recipe t)) &&
  !([o.in0, o.in1, o.in2].any (fun t => t ≠ 0xFFFF && carriesShift (im.recipe t)))

/-- Each opcode's own rules (R249 to R267). -/
def bodyBad (im : Image) (l : OpList) (o : Op) : Bool :=
  let cfin := fun w => !(f32 w).bad
  match o.opcode with
  | 0x0101 => matBad im l o
  | 0x0102 => embedBad im o
  | 0x0201 => ewBad im o
  | 0x0301 => vecBad im o 0 || shapesBad im o [0] || rowOutBad im o o.out || 3 < at' o 32 1
  | 0x0302 => vecBad im o 0 || shapesBad im o [0] || im.seen o 3 o.out ≠ [colsOf (iter im o)]
  | 0x0311 => vecBad im o 0 || shapesBad im o [0] || lastBad im o [0] || paramBad im o 1 || paramBad im o 2 || !posFinite (at' o 32 4)
      || at' o 36 2 ≠ 0xFFFF
  | 0x0312 => vecBad im o 0 || shapesBad im o [0, 2] || lastBad im o [0, 2] || paramBad im o 1 || !posFinite (at' o 32 4)
      || (at' o 36 2 ≠ 0xFFFF && (im.seen o 3 (at' o 36 2) ≠ iter im o || !numFmt (im.fmt (at' o 36 2)) || im.recipe (at' o 36 2) = 0x31))
  | 0x0313 => vecBad im o 0 || shapesBad im o [0] || lastBad im o [0] || paramBad im o 1 || !posFinite (at' o 32 4) || at' o 36 2 ≠ 0xFFFF
  | 0x0314 => vecBad im o 0 || shapesBad im o [0, 2] || lastBad im o [0, 2] || paramBad im o 1 || !posFinite (at' o 32 4)
      || (at' o 36 2 ≠ 0xFFFF && (im.seen o 3 (at' o 36 2) ≠ iter im o || !numFmt (im.fmt (at' o 36 2)) || im.recipe (at' o 36 2) = 0x31))
  | 0x0321 => vecBad im o 0 || shapesBad im o [0] || lastBad im o [0] || !cfin (at' o 32 4)
  | 0x0322 => vecBad im o 0 || shapesBad im o [0, 1] || lastBad im o [0, 1]
  | 0x0323 => vecBad im o 0 || shapesBad im o [0] || lastBad im o [0] || im.fmt o.in1 ≠ 0x11 || im.seen o 1 o.in1 ≠ [rowsOf (iter im o)]
      || !cfin (at' o 32 4) || at' o 36 2 = 0xFFFF || rowOutBad im o (at' o 36 2)
  | 0x0401 =>
    let tab := im.seen o 0 o.in0
    vecBad im o 0 || tab.length ≠ 2 || !numFmt (im.fmt o.in0) || im.fmt o.in1 ≠ 0x11 || im.seen o 1 o.in1 ≠ [rowsOf (iter im o)]
      || im.fmt o.out ≠ im.fmt o.in0 || im.recipe o.out ≠ im.recipe o.in0 || colsOf tab ≠ colsOf (iter im o)
      || (isBlock (im.fmt o.in0) && (im.axis o.in0 + 1 ≠ (im.shape o.in0).length || im.axis o.out + 1 ≠ (im.shape o.out).length))
  | 0x0501 => vecBad im o 0 || shapesBad im o [0] || (im.fmt o.in0 = 4 && im.fmt o.out = 4)
  | 0x0502 => vecBad im o 0 || shapesBad im o [0] || !isBlock (im.fmt o.out) || 1 < at' o 32 1 || (at' o 32 1 = 0 && at' o 33 1 = 0xFF) ||
      (at' o 32 1 = 0 && shapesBad im o [1])
      || (at' o 32 1 = 1 && (o.in1 = 0xFFFF || !isBlock (im.fmt o.in1) || im.seen o 1 o.in1 ≠ iter im o
            || (im.operand o 1 o.in1 0 o.grainBase 0).axis ≠ (im.operand o 3 o.out 0 o.grainBase 0).axis))
  | 0x0503 => vecBad im o 0 || shapesBad im o [0] || im.fmt o.in0 ≠ 5 || im.recipe o.in0 ≠ 0 || !isActGrad (im.recipe o.out)
  | 0x0601 =>
    match im.opts[at' o 8 2]? with
    | none => true
    | some e => im.inWindow e.layer != (l.phase = 6) ||
        (bit o.flags 2 && !im.ratios.any (fun x => x.layer = e.layer))
  | 0x0701 => im.folds[at' o 8 2]? = none
  | 0x0801 => (match im.colls[at' o 8 2]? with | some c => c.trigger ≠ 0xFFFF || c.kind = 6 | none => true)
  | 0x0901 =>
    let d := at' o 8 1
    2 < d || at' o 16 8 % 64 ≠ 0 ||
    (if d = 0 then o.in0 = 0xFFFF || o.out = 0xFFFF || im.seen o 0 o.in0 ≠ im.seen o 3 o.out || im.fmt o.in0 ≠ im.fmt o.out
        || im.recipe o.in0 ≠ im.recipe o.out
        || (im.operand o 0 o.in0 0 o.grainBase 0).axis ≠ (im.operand o 3 o.out 0 o.grainBase 0).axis
     else if d = 1 then o.in0 = 0xFFFF || o.out ≠ 0xFFFF
     else o.in0 ≠ 0xFFFF || o.out = 0xFFFF)
  | 0x0A01 => 2 < at' o 8 1 || ((im.pc o.in0).map (·.lifetime)) ≠ some 0
  | _ => ((im.pc o.in0).map (·.lifetime)) ≠ some 0

/-- DRAIN_COUPLED to the operation before it (R133). -/
def coupledBad (l : OpList) (oi : Nat) (o : Op) : Bool :=
  bit o.flags 1 &&
  (match oi with
   | 0 => true
   | k + 1 => match l.ops[k]? with
     | some m => !isMat m || m.out ≠ o.in0
     | none => true)

/-- A list header breaks Table 8.7 or Table 8.8. `o` is its offset. -/
def listBad (im : Image) (r o i : Nat) (l : OpList) : Bool :=
  recF r o 2 ≠ i || im.sheaves.length ≤ l.sheaf || 8 < l.phase || l.ops.length = 0 || 4096 < l.ops.length || recF r (o + 12) 4 % 8 ≠ 0 ||
  !(if l.phase = 6 then l.trigger = 2 else if l.phase = 7 then l.trigger = 3 else l.trigger ≤ 1) ||
  (if l.trigger = 1 then !listed im l.pair else l.pair ≠ 0xFFFF)

/-- The layer for which an operation carries RATIO_CHECK (R156, R262). -/
def ratioLayer (im : Image) (o : Op) : Option Nat :=
  if o.opcode = 0x0601 && bit o.flags 2 then (im.opts[at' o 8 2]?).map (·.layer) else none

/-- The operation lists (R224 and the rules it names), in increasing list and operation, then what the section as a whole lacks. -/
def opsCheck (im : Image) (r : Nat) (ds : List Img.Dir) : Option Fail :=
  let d := Img.dir ds 4
  let offs := ((Img.lists r d.count d.off (d.off + d.len)).getD []).map (·.1)
  let ops := allOps im
  let again := fun (o : Op) =>
    ((o.opcode = 0x0A02 || o.opcode = 0x0601 || o.opcode = 0x0701) &&
      (ops.filter (fun z => z.2.2.2.opcode = o.opcode && at' z.2.2.2 8 2 = at' o 8 2)).length ≠ 1) ||
    (match ratioLayer im o with
     | some a => (ops.filter (fun z => ratioLayer im z.2.2.2 = some a)).length ≠ 1
     | none => false)
  run [
    first im.lists (fun l i =>
      if listBad im r (offs.getD i 0) i l then some { code := 0x0308, sec := 4, entry := i, ukind := 5, unit := l.sheaf }
      else l.ops.zipIdx.findSome? (fun p =>
        let o := p.1
        let extra := extraOut o
        let b := match opRow o.opcode with
          | none => true
          | some row => headBad im l o row extra || grainBad im i l o || coupledBad l p.2 o || factorBad im o extra || bodyBad im l o || again o
        if b then some { code := 0x0308, sec := 4, entry := i, sub := p.2 } else none)),
    whole 0x0308 4 (im.ratios.any (fun x => !ops.any (fun q => ratioLayer im q.2.2.2 = some x.layer))),
    whole 0x0308 4 ((List.range im.opts.length).any (fun i => !ops.any (fun q => q.2.2.2.opcode = 0x0601 && at' q.2.2.2 8 2 = i))),
    whole 0x0308 4 (im.folds.zipIdx.any (fun f => !ops.any (fun q => q.2.2.2.opcode = 0x0701 && at' q.2.2.2 8 2 = f.2)
      && !im.colls.any (fun c => c.kind = 3 && f.1.2.contains c.src)))]

/-- Collector rows held open (R108, R250). -/
def rowsCheck (im : Image) : Option Fail :=
  (allOps im).findSome? (fun q =>
    let o := q.2.2.2
    let n := if o.opcode = 0x0101 then at' o 20 2 else if o.opcode = 0x0102 then at' o 16 2 else 0
    if 512 < n then some { code := 0x0309, sec := 4, entry := q.1, sub := q.2.1, ukind := 5, unit := q.2.2.1.sheaf } else none)

/-- A use of an accumulator in a step: the place of its operation, the micro-batch and grain it runs for, the rows of the
accumulator it sums into, whether it opens the sum, and its sheaf and pairs. -/
structure Use where
  li : Nat
  oi : Nat
  mb : Nat
  grain : Nat
  lo : Nat
  hi : Nat
  opens : Bool
  sheaf : Nat
  wait : Nat
  post : Nat
deriving DecidableEq, Repr

/-- The uses of an accumulator in the order of the step program (R170, R171). -/
def uses (im : Image) (a : Nat) : List Use :=
  let of := fun (li mb g : Nat) => (match im.lists[li]? with
    | some l => (l.ops.zipIdx.filter (fun o => isMat o.1 && o.1.out = a)).map (fun o =>
        ({ li := li, oi := o.2, mb := mb, grain := g, lo := if o.1.opcode = 0x0102 then at' o.1 8 4 else 0,
           hi := if o.1.opcode = 0x0102 then at' o.1 8 4 + at' o.1 12 4 else 2 ^ 32, opens := !bit o.1.flags 0,
           sheaf := l.sheaf, wait := o.1.wait, post := o.1.post } : Use))
    | none => [])
  (im.sched.map (fun e => of e.oplist e.mb e.grain)).flatten ++
    ((List.range im.lists.length).filter (fun i => match im.lists[i]? with | some l => l.trigger = 1 | none => false)).flatMap
      (fun i => of i 0xFFFF 0xFFFF)

/-- Two uses share accumulator elements. -/
def useMeets (x y : Use) : Bool := x.lo < y.hi && y.lo < x.hi

/-- The uses of an accumulator that break R170 or R171: the first use opens it and no other does, the opening is
that of micro-batch 0 and grain 0, and of uses that share elements they come in rising micro-batch and grain, and uses of different sheaves are joined by a
pair (DEDUCED). -/
def usesBad : List Use → List Use → List Use
  | _, [] => []
  | before, x :: t =>
    let met := before.filter (useMeets x)
    let bad := x.opens != before.isEmpty || (x.opens && !(x.mb = 0 && x.grain = 0)) ||
      met.any (fun y => x.mb < y.mb || (x.mb = y.mb && x.grain < y.grain))
        || met.any (fun y => y.sheaf ≠ x.sheaf && !(x.wait ≠ 0xFFFF && x.wait = y.post))
    (if bad then [x] else []) ++ usesBad (before ++ [x]) t

/-- The accumulators (R170, R171): those without a use by their place in section 3, then the first operation at fault in section
4 (R237). -/
def accCheck (im : Image) : Option Fail :=
  let none_ := (accs im).filter (fun a => (uses im a).isEmpty)
  let bad := (accs im).flatMap (fun a => usesBad [] (uses im a))
  run [
    first im.pieces (fun x i => if none_.contains x.logical then some { code := 0x030A, sec := 3, entry := i } else none),
    (allOps im).findSome? (fun q =>
      if bad.any (fun u => u.li = q.1 && u.oi = q.2.1) then some { code := 0x030A, sec := 4, entry := q.1, sub := q.2.1 } else none)]

/-- Taps of an operation: source and slot. -/
def taps (o : Op) : List (Nat × Nat) :=
  if isVec o.opcode then (List.range (min 3 (at' o 10 1))).map (fun i => (at' o (20 + 4 * i) 1, at' o (22 + 4 * i) 2)) else []

/-- Elements that a step can tap into a slot (R152): recompute feeds no tap (R178), and a tap on OUT takes OUT's elements. -/
def tapped (im : Image) (slot : Nat) : Nat :=
  ((allOps im).filter (fun q => q.2.2.1.phase ≠ 3)).foldl (fun n q =>
    let o := q.2.2.2
    n + releases im q.1 * (((taps o).filter (fun t => t.2 = slot)).map (fun t =>
      prod (if t.1 = 3 then im.seen o 3 o.out else iter im o))).foldl (· + ·) 0) 0
  + (im.colls.filter (fun c => bit c.flags 0 && c.slot = slot)).foldl (fun n c => n + im.elems c.src) 0
  + (im.ratios.filter (fun x => x.wslot = slot || x.uslot = slot)).foldl (fun n x =>
      n + (im.opts.filter (fun e => e.layer = x.layer)).foldl (fun m e => m + im.elems e.master) 0) 0

/-- The norm slots (R152, R153, R232). -/
def slotsCheck (im : Image) (mine : List Nat) : Option Fail :=
  run [
    (allOps im).findSome? (fun q =>
      if (taps q.2.2.2).any (fun t => !im.slots.any (·.slot = t.2)) then
        some { code := 0x0310, sec := 4, entry := q.1, sub := q.2.1 } else none),
    bad 0x0310 10 im.slots (fun x i => slotBad im mine i x || 2 ^ 48 < tapped im x.slot),
    whole 0x0310 10 (trailerMissing im)]

/-- The grist streams (R232). -/
def gristCheck (im : Image) (r : Nat) (ds : List Img.Dir) : Option Fail :=
  let ks := (Img.offs (Img.dir ds 12)).map (fun o => recF r o 2)
  run [
    (allOps im).findSome? (fun q =>
      if isMat q.2.2.2 && !ks.contains q.2.2.2.stream then some { code := 0x0312, sec := 4, entry := q.1, sub := q.2.1 } else none),
    first ks (fun k i => if 1023 < k || repeated ks i then some { code := 0x0312, sec := 12, entry := i } else none)]

/-- Stage 3: the sections, in increasing code (R237). `mine` are the partition's dies and `me` the member index. -/
def sections (im : Image) (r : Nat) (mine : List Nat) (me : Nat) : Option Fail :=
  let ds := Img.dirs r
  let offOf := fun t => Img.offs (Img.dir ds t)
  run [
    (Img.reservedAt r).map (fun q => { code := 0x0301, sec := q.1, entry := q.2.1, sub := q.2.2.getD 0xFFFFFFFF }),
    if stage im.stage then none else some { code := 0x0302, sec := 1, entry := 0 },
    first (offOf 2) (fun o i => if sheafBad r o i im.dieMask then some { code := 0x0303, sec := 2, entry := i, ukind := 5, unit := i } else none),
    first im.sheaves (fun _ i => (sheafClash im i).map (fun t => { code := 0x0304, sec := 2, entry := i, ukind := 7, unit := t })),
    bad 0x0305 3 im.pieces (fun x _ => formatBad x),
    bad 0x0306 3 im.pieces (fun x i => shapeBad im i x),
    bad 0x0307 3 im.pieces (fun x i => placeBad mine x || placeClash im i x),
    opsCheck im r ds, rowsCheck im, accCheck im,
    bad 0x030B 5 im.sched (fun e i => schedBad im i e),
    bad 0x030C 6 im.retain (fun x _ => retainBad im mine x),
    first (im.folds.zip (offOf 7)) (fun x i => if foldBad im r i x.2 x.1 then some { code := 0x030D, sec := 7, entry := i } else none),
    bad 0x030E 8 im.colls (fun c i => collBad im me r (Img.dir ds 8).off i c || (c.kind = 6 && (im.colls.take i).any (·.kind = 6))),
    whole 0x030E 8 (!im.colls.any (·.kind = 6)),
    first im.pairs (fun x i => if pairBad im i x then some { code := 0x030F, sec := 9, entry := i, ukind := 6, unit := x.pair } else none),
    whole 0x030F 9 (pairsMissing im),
    slotsCheck im mine,
    bad 0x0311 11 im.ratios (fun x i => ratioBad im i x),
    gristCheck im r ds,
    if commitBad im then some { code := 0x0313, sec := 13, entry := 0 } else none,
    bad 0x0314 14 im.opts (fun x i => optBad im i x), whole 0x0314 14 (optMissing im),
    bad 0x0315 8 im.colls (fun c _ => finalBad im c), whole 0x0315 8 (finalWeightBad im),
    coverage im,
    (match im.ckpt with
     | some k => if ckptBad im me k then some { code := 0x0317, sec := 15, entry := 0 } else none
     | none =>
       (allOps im).findSome? (fun q =>
         if q.2.2.2.opcode = 0x0A01 then some { code := 0x0317, sec := 4, entry := q.1, sub := q.2.1 } else none))]

end Sys2Proof.Machine.Chk

namespace Sys2Proof.Machine

/-- The load checks of an image in their five stages (R237): the first failure. -/
def State.loadCheck (s : State) (p : Nat) (wrong : Option Nat) (params r mt : Nat) : Option Fail :=
  let im := Img.parse r
  let mine := (List.range 4).filter (fun d => s.dieOwner d = some p)
  s.checkContainer r (recF params 8 4) <|> s.checkContext p wrong params mt im im.ckpt.isSome <|>
    Chk.sections im r mine (recF params 12 2) <|> Chk.capacity im <|> s.checkBeat im

end Sys2Proof.Machine
end

