-- ==== Sys2Proof/Machine/Fec.lean ====
section
/-! DEFINITION. Fec.lean: the codes of the tensor links: RS(288,272) over GF(2^10) for codewords (R302) and the
shortened binary BCH (112,72) for control blocks (R306). The spec gives the place of every data bit, and for the BCH
code the power of x of every bit; for the RS code it gives the generator polynomial and the order of the symbols. Data
symbol i is taken as the coefficient of x^(i+16) and parity symbol j as that of x^j, as R306 states for the BCH code
(DEDUCED, log entry 20). -/

namespace Sys2Proof.Machine.Fec

/-- Multiply by x in GF(2^10) with x^10 + x^3 + 1. -/
def xt (a : Nat) : Nat := if a < 512 then 2 * a else (2 * a) ^^^ 0x409

/-- Multiply in GF(2^10), over the lowest n bits of b. -/
def mulN : Nat → Nat → Nat → Nat
  | 0, _, _ => 0
  | n + 1, a, b => (if b % 2 = 1 then a else 0) ^^^ mulN n (xt a) (b / 2)

/-- Multiply in GF(2^10). -/
def mul (a b : Nat) : Nat := mulN 10 a b

/-- Powers in GF(2^10), exponent given by its lowest n bits. -/
def powN : Nat → Nat → Nat → Nat
  | 0, _, _ => 1
  | n + 1, a, e => mul (if e % 2 = 1 then a else 1) (powN n (mul a a) (e / 2))

/-- a^e. -/
def pow (a e : Nat) : Nat := powN 10 a (e % 1023)

/-- The inverse of a non-zero element. -/
def inv (a : Nat) : Nat := pow a 1022

/-- α^e, with α = x. -/
def alpha (e : Nat) : Nat := pow 2 e

/-- The value of a polynomial (coefficients lowest first) at a point. -/
def eval (p : List Nat) (x : Nat) : Nat := p.foldr (fun c acc => c ^^^ mul acc x) 0

/-- Product of a polynomial and (x + r). -/
def mulLin (p : List Nat) (r : Nat) : List Nat :=
  List.zipWith (· ^^^ ·) (0 :: p) (p.map (mul r) ++ [0])

/-- The RS generator polynomial: the product of (x − α^i) for i = 0 to 15 (R302). -/
def rsGen : List Nat := (List.range 16).foldl (fun p i => mulLin p (alpha i)) [1]

/-- One division step: the remainder register (16 symbols, lowest power first) takes in the next data symbol. -/
def rsStep (g : List Nat) (r : List Nat) (d : Nat) : List Nat :=
  let f := d ^^^ r.getD 15 0
  List.zipWith (fun a c => a ^^^ mul f c) (0 :: r.take 15) g

/-- The 16 parity symbols of 272 data symbols. -/
def rsParity (data : List Nat) : List Nat :=
  data.reverse.foldl (rsStep (rsGen.take 16)) (List.replicate 16 0)

/-- The codeword of 272 data symbols, in sending order: data, then parity (R302). -/
def rsEncode (data : List Nat) : List Nat := data ++ rsParity data

/-- The state of the Berlekamp-Massey iteration. -/
structure BM where
  c : List Nat
  b : List Nat
  l : Nat
  m : Nat
  d : Nat

/-- Add two polynomials of any lengths. -/
def padd : List Nat → List Nat → List Nat
  | [], q => q
  | p, [] => p
  | a :: p, b :: q => (a ^^^ b) :: padd p q

/-- One Berlekamp-Massey step at syndrome index n. -/
def bmStep (s : List Nat) (st : BM) (n : Nat) : BM :=
  let d := (List.range (st.l + 1)).foldl (fun a i => a ^^^ mul (st.c.getD i 0) (s.getD (n - i) 0)) 0
  if d = 0 then { st with m := st.m + 1 }
  else
    let f := mul d (inv st.d)
    let c' := padd st.c (List.replicate st.m 0 ++ st.b.map (mul f))
    if 2 * st.l ≤ n then { c := c', b := st.c, l := n + 1 - st.l, m := 1, d := d }
    else { st with c := c', m := st.m + 1 }

/-- The error locator of a syndrome list and its degree. -/
def locator (s : List Nat) : List Nat × Nat :=
  let r := (List.range s.length).foldl (bmStep s) { c := [1], b := [1], l := 0, m := 1, d := 1 }
  (r.c, r.l)

/-- The positions below n whose locator value is zero. -/
def roots (lam : List Nat) (n : Nat) : List Nat :=
  (List.range n).filter (fun j => eval lam (alpha (1023 - j)) = 0)

/-- The first n coefficients of a product. -/
def mulTrunc (n : Nat) (p q : List Nat) : List Nat :=
  (List.range n).map (fun k => (List.range (k + 1)).foldl (fun a i => a ^^^ mul (p.getD i 0) (q.getD (k - i) 0)) 0)

/-- The formal derivative: the odd coefficients move down. -/
def deriv (p : List Nat) : List Nat :=
  (List.range (p.length - 1)).map (fun i => if i % 2 = 0 then p.getD (i + 1) 0 else 0)

/-- Decode a received codeword of 288 symbols: the 272 data symbols and the positions corrected (by sending order), or
none when more than 8 symbols are wrong (R302). -/
def rsDecode (rx : List Nat) : Option (List Nat × List Nat) :=
  let data := rx.take 272
  let par := rx.drop 272
  if rx.length ≠ 288 then none
  else if rsParity data = par then some (data, [])
  else
    let poly := par ++ data
    let s := (List.range 16).map (fun i => eval poly (alpha i))
    let (lam, l) := locator s
    let ps := roots lam 288
    if l ≤ 8 ∧ ps.length = l then
      let om := mulTrunc 16 s lam
      let dl := deriv lam
      let fix := ps.foldl (fun p j =>
        let xi := alpha (1023 - j)
        p.set j (p.getD j 0 ^^^ mul (alpha j) (mul (eval om xi) (inv (eval dl xi))))) poly
      if rsParity (fix.drop 16) = fix.take 16 then
        some (fix.drop 16, ps.map (fun j => if j < 16 then 272 + j else j - 16))
      else none
    else none

/-- Bits of a byte string, each byte lowest bit first. -/
def bitsOf (bs : List Byte) : List Nat := (bs.map (fun b => (List.range 8).map (fun i => b.toNat / 2 ^ i % 2))).flatten

/-- Cut a bit list into n numbers of k bits, lowest bit first. -/
def group (k : Nat) : Nat → List Nat → List Nat
  | 0, _ => []
  | n + 1, l => ((l.take k).foldr (fun b a => b + 2 * a) 0) :: group k n (l.drop k)

/-- The 272 data symbols of a flit of 340 bytes (R302: flit bit k is bit k mod 10 of data symbol k / 10). -/
def symbolsOf (flit : List Byte) : List Nat := group 10 272 (bitsOf flit)

/-- The 340 bytes of 272 data symbols. -/
def bytesOf (syms : List Nat) : List Byte :=
  (group 8 340 ((syms.map (fun s => (List.range 10).map (fun i => s / 2 ^ i % 2))).flatten)).map (BitVec.ofNat 8)

/-- Remainder of a bit polynomial modulo the BCH generator; both held as numbers, n reduction steps from the top. -/
def bchMod (g : Nat) : Nat → Nat → Nat
  | 0, v => v
  | n + 1, v => bchMod g n (if v / 2 ^ (n + 40) % 2 = 1 then v ^^^ (g * 2 ^ n) else v)

/-- The minimal polynomial of α^e over GF(2), as a number: the product of (x + β) over the conjugates of α^e. -/
def minPoly (e : Nat) : Nat :=
  ((List.range 10).foldl (fun p i => mulLin p (alpha (e * 2 ^ i % 1023))) [1]).foldr (fun c a => c % 2 + 2 * a) 0

/-- Carry-less product of bit polynomials over the lowest n bits of b. -/
def clmul : Nat → Nat → Nat → Nat
  | 0, _, _ => 0
  | n + 1, a, b => (if b % 2 = 1 then a else 0) ^^^ clmul n (2 * a) (b / 2)

/-- The BCH generator: the least common multiple of the minimal polynomials of α, α^3, α^5, α^7 (R306). -/
def bchGen : Nat := clmul 41 (clmul 41 (clmul 41 (minPoly 1) (minPoly 3)) (minPoly 5)) (minPoly 7)

/-- The 40 parity bits of 72 message bits. -/
def bchParity (m : Nat) : Nat := bchMod bchGen 72 (m * 2 ^ 40)

/-- A control block of 120 bits (Table 11.3). -/
def block (grp kind payload : Nat) : Nat :=
  let m := grp + 16 * kind + 256 * (payload % 2 ^ 64)
  0x5C + 256 * m + 2 ^ 80 * bchParity m

/-- Correct the 112 coded bits (parity low) of a received block: none when more than 4 bits are wrong. -/
def bchDecode (v : Nat) : Option Nat :=
  if bchParity (v / 2 ^ 40) = v % 2 ^ 40 then some v
  else
    let poly := (List.range 112).map (fun i => v / 2 ^ i % 2)
    let s := (List.range 8).map (fun i => eval poly (alpha (i + 1)))
    let (lam, l) := locator s
    let ps := roots lam 112
    if l ≤ 4 ∧ ps.length = l then
      let w := ps.foldl (fun a j => a ^^^ 2 ^ j) v
      if bchParity (w / 2 ^ 40) = w % 2 ^ 40 then some w else none
    else none

/-- The content of a control block that passes FEC: group, kind and payload (R306). The decoder finds at most 4 bit
errors and MARKER differs from 0x5C in at most 2 bits. -/
def ctl (blk : Nat) : Option (Nat × Nat × Nat) :=
  if popcount ((blk % 256) ^^^ 0x5C) 8 > 2 then none
  else
    match bchDecode (blk / 2 ^ 80 % 2 ^ 40 + 2 ^ 40 * (blk / 256 % 2 ^ 72)) with
    | none => none
    | some w =>
      let m := w / 2 ^ 40
      some (m % 16, m / 16 % 16, m / 256)

end Sys2Proof.Machine.Fec
end

