-- ==== Sys2Proof/Machine/Disc.lean ====
section
/-! DEFINITION. Disc.lean: link accessors, the identity exchange, the wiring plan and the judgement of links, adoption
and release of a chip number (chapter 14). -/

namespace Sys2Proof.Machine

/-- Link n. -/
def State.link (s : State) (n : Nat) : LinkSt := s.net.links.get n {}

/-- Replace link n. -/
def State.setLink (s : State) (n : Nat) (l : LinkSt) : State := { s with net.links := s.net.links.set n l }

/-- Channel c (R369). -/
def State.chan (s : State) (c : Nat) : Channel := s.optics.chans.get c {}

/-- Replace channel c. -/
def State.setChan (s : State) (c : Nat) (x : Channel) : State := { s with optics.chans := s.optics.chans.set c x }

/-- Set or clear a flag of channel c (Table 13.9). -/
def State.chanFlag (s : State) (c b : Nat) (v : Bool) : State :=
  let x := s.chan c
  s.setChan c { x with flags := setBit x.flags b v }

/-- The channel number of a lane of a class O link (R369). -/
def chanNo (n lane : Nat) : Nat := 4 * (n - 8) + lane

/-- Whether TLn exists in this configuration (R4). -/
def State.linkPresent (s : State) (n : Nat) : Bool := n < 8 || (s.fullConfig && n < 24)

/-- The links of this configuration. -/
def State.linkList (s : State) : List Nat := List.range (if s.fullConfig then 24 else 8)

/-- LINK_STATE of TLn (Table 11.5). -/
def State.lstate (s : State) (n : Nat) : Nat := s.obj (O.at O.LINK_STATE n)

/-- Link states (Table 11.5). -/
abbrev LS.disabled : Nat := 0
/-- TRAINING. -/
abbrev LS.training : Nat := 1
/-- IDENTIFY. -/
abbrev LS.identify : Nat := 2
/-- UP. -/
abbrev LS.up : Nat := 3
/-- RETRAIN. -/
abbrev LS.retrain : Nat := 4
/-- DOWN. -/
abbrev LS.down : Nat := 5

/-- Whether TLn is UP. -/
def State.isUp (s : State) (n : Nat) : Bool := s.lstate n = 3

/-- Whether TLn's discovery outcome is match (Table 14.3). -/
def State.isMatch (s : State) (n : Nat) : Bool := (s.link n).outcome = 1

/-- UP and MATCH: the link carries packets and beat symbols. -/
def State.usable (s : State) (n : Nat) : Bool := s.linkPresent n && s.isUp n && s.isMatch n

/-- The epoch table (R337). -/
def State.epochOf (s : State) (chip : Nat) : Nat := s.net.epoch.get chip 0

/-- Fields of an IDENT payload (Table 14.1). -/
abbrev Ident.chip (w : Nat) : Nat := bits w 63 50
/-- EPOCH. -/
abbrev Ident.epoch (w : Nat) : Nat := bits w 49 34
/-- LINK. -/
abbrev Ident.link (w : Nat) : Nat := bits w 33 26
/-- NODE. -/
abbrev Ident.node (w : Nat) : Nat := bits w 25 24
/-- HEARD. -/
abbrev Ident.heard (w : Nat) : Bool := bit w 23
/-- The payload apart from HEARD. -/
def Ident.plain (w : Nat) : Nat := w - (if bit w 23 then 2 ^ 23 else 0)

/-- The IDENT this module sends on a link: its chip number, epoch, the link's index, NODE 0 holder, 1 standby, 2
fenced, and HEARD when it holds the partner's identity (R402). -/
def State.ownIdent (s : State) (n : Nat) : Nat :=
  let st := s.obj O.CHIP_STATE
  let node := if st = 1 then 0 else if st = 2 then 2 else 1
  s.obj O.CHIP_NUMBER * 2 ^ 50 + s.obj O.CHIP_EPOCH * 2 ^ 34 + n * 2 ^ 26 + node * 2 ^ 24
    + (if (s.link n).exch then 2 ^ 23 else 0)

/-- The plan entry of a link (R404). -/
def State.wiring (s : State) (n : Nat) : Nat := s.net.wiring.get n 0x00FFFFFC00000000

/-- MODE of a plan entry (Table 14.2). -/
abbrev Wire.mode (e : Nat) : Nat := bits e 2 0
/-- CRITICAL. -/
abbrev Wire.critical (e : Nat) : Bool := bit e 3
/-- EXPECT_ID. -/
abbrev Wire.expectId (e : Nat) : Nat := bits e 47 34
/-- EXPECT_LINK. -/
abbrev Wire.expectLink (e : Nat) : Nat := bits e 55 48

/-- Whether a plan entry is refused (R404). -/
def Wire.bad (e : Nat) : Bool :=
  Wire.mode e > 3 || bits e 63 56 ≠ 0 || bits e 33 4 ≠ 0 ||
  (Wire.mode e = 1 && (Wire.expectId e = 0x3FFF || (Wire.expectLink e > 23 && Wire.expectLink e ≠ 0xFF))) ||
  ((Wire.mode e = 0 || Wire.mode e = 2) && (Wire.expectId e ≠ 0x3FFF || Wire.expectLink e ≠ 0xFF))

/-- MISSING_GRACE_MS has passed since the latest of its causes (Table 14.4 test 3). -/
def State.gracePassed (s : State) (n : Nat) : Bool :=
  (s.link n).graceStart + s.obj O.MISSING_GRACE_MS * 8000000 ≤ s.now

/-- An entry that expects the given identity (tests 12 and 14). -/
def Wire.expects (e mode chip link : Nat) : Bool :=
  Wire.mode e = mode && Wire.expectId e = chip && (Wire.expectLink e = 0xFF || Wire.expectLink e = link)

/-- The judgement of a link: outcome and reason (Table 14.4, tests in order). A link in IDENTIFY that holds a stale
identity is judged by test 8 as R406 states, after tests 5 to 7. -/
def State.judgement (s : State) (n : Nat) : Nat × Nat :=
  let l := s.link n
  let e := s.wiring n
  let w := l.ident
  let node := Ident.node w
  let chip := Ident.chip w
  let mode := Wire.mode e
  if l.express then (0, 10)
  else if s.lstate n = LS.identify && l.exch && mode ≠ 0 && node = 0 && chip ≠ s.obj O.CHIP_NUMBER && Ident.epoch w < s.epochOf chip then (3, 6)
  else if !s.isUp n && mode = 0 then (0, 1)
  else if !s.isUp n && !s.gracePassed n then (0, 1)
  else if !s.isUp n then (2, 1)
  else if mode = 0 then (3, 2)
  else if node = 2 then (3, 8)
  else if node = 0 && chip = s.obj O.CHIP_NUMBER then (3, 9)
  else if node = 0 && Ident.epoch w < s.epochOf chip then (3, 6)
  else if node = 0 && s.epochOf chip < Ident.epoch w then (3, 7)
  else if mode = 2 && (node = 1 || node = 0) then (1, 0)
  else if (mode = 1 && node ≠ 0) || (mode = 3 && node ≠ 3) || (mode = 2 && node ≠ 0 && node ≠ 1) then (3, 3)
  else if chip = Wire.expectId e && (Wire.expectLink e = 0xFF || Wire.expectLink e = Ident.link w) then (1, 0)
  else if chip = Wire.expectId e then (4, 5)
  else if s.linkList.any (fun m => m ≠ n && Wire.expects (s.wiring m) mode chip (Ident.link w)) then (4, 4)
  else (3, 4)

/-- An event that names a link. -/
def State.raiseLink (s : State) (code n : Nat) : State := s.raise code { kind := 1, subj := n }

/-- A discovery event of a link (R420): its entry names the link, and the chip number and epoch that the link's identity holds. -/
def State.raiseDisc (s : State) (code n : Nat) : State :=
  let w := (s.link n).ident
  let c := if (s.link n).haveIdent then fld 0 (Ident.chip w) + fld 2 (Ident.epoch w) else fld 0 0x3FFF
  s.raise code { kind := 1, subj := n, pay := c, len := 4 }

/-- CRITICAL_NOT_MATCH follows the plan and the outcomes (R413). -/
def State.updCritical (s : State) : State :=
  s.put O.CRITICAL_NOT_MATCH
    ((s.linkList.filter (fun n => Wire.critical (s.wiring n) && !s.isMatch n)).foldl (fun a n => a + 2 ^ n) 0)

/-- The FENCED_NOTICE for a revenant (R406, Table 14.1). -/
def State.fenceNotice (s : State) (n : Nat) : Out :=
  let w := (s.link n).ident
  .block n 3 4 (Ident.chip w * 2 ^ 50 + Ident.epoch w * 2 ^ 34 + s.epochOf (Ident.chip w) * 2 ^ 18) 0

/-- A follower enters ACQUIRING when its primary upstream link is up and matches (R48, R560), from UNLOCKED or, when the
link comes up again, from LOST (R49). -/
def State.checkAcquire (s : State) (n : Nat) : State :=
  if s.obj O.BEAT_ROLE = 0 && s.obj O.UPSTREAM_PRIMARY = n && s.usable n
      && (s.obj O.BEAT_STATE = 0 || s.obj O.BEAT_STATE = 4) then
    { s.put O.BEAT_STATE BeatState.acquiring with beat.acqCount := none, beat.acqRun := 0 }
  else s

/-- Judge a link again and act on a change (R405 to R407, R413). -/
def State.judge (s : State) (n : Nat) : State :=
  let l := s.link n
  let (o, r) := s.judgement n
  let changed := o ≠ l.outcome
  let s := s.setLink n { l with outcome := o, reason := r,
                                sinceNs := if changed then s.refNs else l.sinceNs,
                                judged := l.judged || o ≠ 0 }
  let s := if changed then s.inc O.OUTCOME_CHANGES else s
  let s := if changed && o = 1 then (s.raiseDisc 0x1301 n).checkAcquire n else s
  let s := if (changed && l.outcome = 1) || (!l.judged && (o = 2 || o = 3 || o = 4)) then s.raiseDisc 0x2302 n else s
  let crit := Wire.critical (s.wiring n)
  let s :=
    if crit && o ≠ 1 && ((changed && l.outcome = 1) || (!l.critRaised && s.gracePassed n)) then
      (s.setLink n { s.link n with critRaised := true }).raiseDisc 0x3303 n
    else if o = 1 then s.setLink n { s.link n with critRaised := false }
    else s
  let s :=
    if r = 6 then
      let s := s.send (s.fenceNotice n)
      if (s.link n).noticed = some (Ident.plain l.ident) then s
      else ((s.setLink n { s.link n with noticed := some (Ident.plain l.ident) }).inc O.STALE_NEIGHBOURS_SEEN).raiseDisc 0x2304 n
    else s
  s.updCritical

/-- Judge every link again. -/
def State.judgeAll (s : State) : State := s.linkList.foldl State.judge s

/-- Start the identity update of R403 on every link that is UP: four sets of IDENT, SERIAL_0, SERIAL_1. -/
def State.identUpdate (s : State) : State :=
  s.linkList.foldl (fun s n => if s.isUp n then s.setLink n { s.link n with identSets := 4 } else s) s

/-- The serial words of this module: bytes 0 to 7 and 8 to 15 of MODULE_SERIAL (Table 14.1). -/
def State.serialWord (s : State) (half : Nat) : Nat := s.obj O.MODULE_SERIAL / 2 ^ (64 * half) % 2 ^ 64

/-- One identity set in three consecutive gaps (R402). -/
def State.sendIdentSet (s : State) (n : Nat) : State :=
  s.sendAll [.block n 3 1 (s.ownIdent n) 0, .block n 3 2 (s.serialWord 0) 0, .block n 3 3 (s.serialWord 1) 0]

/-- A control block arrives on a link: its payload when it passes FEC, is of the group and kind, and every reserved bit
given by `resv` is zero; a block that fails FEC is discarded, one with a reserved group or kind, or a reserved bit set,
is counted in MALFORMED_CTRL (R9, R306). -/
def State.ctlRx (s : State) (n blk grp kind resv : Nat) : Option Nat × State :=
  match Fec.ctl blk with
  | none => (none, s)
  | some (g, k, p) =>
    let known := (g = 1 && 1 ≤ k && k ≤ 4) || (g = 2 && 1 ≤ k && k ≤ 7) || (g = 3 && 1 ≤ k && k ≤ 4)
    if !known then (none, s.inc (O.at O.MALFORMED_CTRL n))
    else if g ≠ grp || k ≠ kind then (none, s)
    else if p &&& resv ≠ 0 then (none, s.inc (O.at O.MALFORMED_CTRL n))
    else (some p, s)

/-- Whether a link hears discovery blocks: IDENTIFY or UP (Table 11.5). -/
def State.hears (s : State) (n : Nat) : Bool := s.linkPresent n && (s.lstate n = 2 || s.lstate n = 3)

/-- IDENT_SEND_TIMER (R402, R403): in IDENTIFY one set every 1 µs; in UP the sets that an identity change still owes,
or else the keep-alive, which begins four sets every 100 ms. -/
def execIdentSendTimer (link : Fin 24) (keepAlive : Bool) (s : State) : Outcome :=
  let n := link.val
  if !s.hears n then ok s
  else if s.lstate n = 2 then ok (s.sendIdentSet n)
  else
    let owed := if keepAlive then 4 else (s.link n).identSets
    if owed = 0 then ok s
    else ok ((s.sendIdentSet n).setLink n { s.link n with identSets := owed - 1, identAt := s.now })

/-- The side holds its partner's identity once it has received one block of each kind and then a second IDENT equal to
the first apart from HEARD (R402). -/
def LinkSt.takeIdent (l : LinkSt) (w : Nat) : LinkSt :=
  let l := { l with heard := l.heard || Ident.heard w }
  match l.newIdent, l.newS0, l.newS1 with
  | some f, some a, some b =>
    if Ident.plain f = Ident.plain w then
      { l with haveIdent := true, exch := true, ident := w, serial0 := a, serial1 := b }
    else { l with newIdent := some w }
  | _, _, _ => { l with newIdent := some w }

/-- Whether two IDENT payloads name the same CHIP, EPOCH, LINK and NODE. -/
def Ident.same (a b : Nat) : Bool := Ident.plain a = Ident.plain b

/-- IDENT_RX (R402, R403, R407). The link is judged when an identity comes to be held, and again when a changed one replaces it. -/
def execIdentRx (link : Fin 24) (blk : Nat) (s : State) : Outcome :=
  let n := link.val
  if !s.hears n then ok s
  else
    match s.ctlRx n blk 3 1 (2 ^ 23 - 1) with
    | (none, s) => ok s
    | (some w, s) =>
      if s.lstate n = 2 then
        let s' := s.setLink n ((s.link n).takeIdent w)
        if (s'.link n).exch && (!(s.link n).exch || !Ident.same (s.link n).ident (s'.link n).ident) then ok (s'.judge n) else ok s'
      else if Ident.same (s.link n).ident w then ok s
      else ok ((s.setLink n { s.link n with ident := w, noticed := none }).judge n)

/-- SERIAL_RX (R402, R403): in IDENTIFY a half of the serial is collected; in UP a changed half replaces the held one
without a new judgement and counts in SERIAL_CHANGES. -/
def execSerialRx (link : Fin 24) (half : Fin 2) (blk : Nat) (s : State) : Outcome :=
  let n := link.val
  if !s.hears n then ok s
  else
    match s.ctlRx n blk 3 (2 + half.val) 0 with
    | (none, s) => ok s
    | (some w, s) =>
      let l := s.link n
      if s.lstate n = 2 then
        ok (s.setLink n (if half.val = 0 then { l with newS0 := some w } else { l with newS1 := some w }))
      else
        let old := if half.val = 0 then l.serial0 else l.serial1
        if old = w then ok s
        else ok ((s.setLink n (if half.val = 0 then { l with serial0 := w } else { l with serial1 := w })).inc O.SERIAL_CHANGES)

/-- FENCED_NOTICE_REPEAT (R406): every 100 µs the notice is sent again while the outcome holds with reason 6. -/
def execFencedNoticeRepeat (link : Fin 24) (s : State) : Outcome :=
  if (s.link link.val).reason = 6 && s.hears link.val then ok (s.send (s.fenceNotice link.val)) else ok s

/-- MISSING_GRACE_EXPIRY (R405, R407, R413): the grace time of a link has passed; reference time reaches that moment
and the link is judged again. -/
def execMissingGraceExpiry (link : Fin 24) (s : State) : Outcome :=
  let n := link.val
  if !s.linkPresent n then ok s
  else ok ((s.upTo ((s.link n).graceStart + s.obj O.MISSING_GRACE_MS * 8000000)).judge n)

/-- A stored plan entry takes effect: the link's grace time restarts and every link is judged again (R404, R407). -/
def State.setWiring (s : State) (n e : Nat) : State :=
  let s := { s with net.wiring := s.net.wiring.set n e }
  (s.setLink n { s.link n with graceStart := s.now }).judgeAll

/-- WIRING_ENTRY_WRITE (R404): the entry of a link, refused when it breaks Table 14.2. -/
def execWiringEntryWrite (who : Who) (link : Fin 24) (v : Nat) (s : State) : Outcome :=
  rowWrite s who O.WIRING_ENTRY v fun s =>
    if !s.linkPresent link.val || Wire.bad v then (s, St.refused)
    else if s.wiring link.val = v then (s.setWiring link.val v, St.ok)
    else ((s.setWiring link.val v).storeInst O.WIRING_ENTRY (link.val + 1) v, St.ok)

/-- The result of an ADOPT (Table 14.6), first failure first. -/
def State.adoptResult (s : State) (chip epoch : Nat) : Nat :=
  if s.obj O.CHIP_STATE ≠ 0 then 1
  else if chip > 16382 then 2
  else if epoch ≠ s.epochOf chip then 3
  else if s.obj O.CRITICAL_NOT_MATCH ≠ 0 then 4
  else 0

/-- ADOPT carries CHIP U16, then EPOCH U16 (R411, Table 14.6). In return-to-vendor mode it is refused (R540). -/
def State.adopt (s : State) (v : Nat) : State × Nat :=
  let chip := v % 65536
  let epoch := v / 65536 % 65536
  if s.obj O.RTV_MODE = 1 then (s, St.refused)
  else
    let r := s.adoptResult chip epoch
    let s := s.put O.ADOPT_RESULT r
    if r ≠ 0 then (s, St.refused)
    else
      let s := ((s.put O.CHIP_STATE 1).put O.CHIP_NUMBER chip).put O.CHIP_EPOCH epoch
      (((s.identUpdate.judgeAll).inc O.ADOPTIONS).raise 0x1305 { kind := 2, subj := chip, pay := epoch, len := 2 }, St.ok)

/-- ADOPT (R411). -/
def execAdopt (who : Who) (v : Nat) (s : State) : Outcome := rowWrite s who O.ADOPT v (·.adopt v)

/-- The neighbour record of a link (Table 14.10). -/
def State.neighbour (s : State) (n : Nat) : Nat :=
  let l := s.link n
  let w := l.ident
  fld 0 l.serial0 + fld 8 l.serial1 +
    (if l.haveIdent then fld 16 (Ident.chip w) + fld 18 (Ident.epoch w) + fld 20 (Ident.link w) + fld 21 (Ident.node w)
     else fld 16 0x3FFF + fld 20 0xFF) +
    fld 22 l.outcome + fld 23 l.reason + fld 24 l.sinceNs

end Sys2Proof.Machine
end

