-- ==== Sys2Proof/Machine/Links.lean ====
section
/-! DEFINITION. Links.lean: link states, training, delay measurement, lane-degraded operation, retry and the flit
sender (chapter 11). -/

namespace Sys2Proof.Machine

/-- REACH_CLASS of a link: 0 B, 1 C, 2 O (Table 11.1). -/
def reachClass (n : Nat) : Nat := if n < 4 then 0 else if n < 8 then 1 else 2

/-- Time with fewer than four lanes accumulates in DEGRADED_NS (R316); a degraded link is a condition of Table 2.5. -/
def State.accountLanes (s : State) (n : Nat) : State :=
  let l := s.link n
  let deg := s.isUp n && (popcount (s.obj (O.at O.ACTIVE_LANES n)) 4 < 4 || popcount l.outMap 4 < 4)
  match l.degradedAt, deg with
  | none, true => (s.setLink n { l with degradedAt := some s.now }).markCond
  | some t, false => (s.setLink n { l with degradedAt := none }).add (O.at O.DEGRADED_NS n) ((s.now - t) / 8)
  | _, _ => s

/-- The bytes that finish a packet whose input stopped: zeros up to its length, then a trailer with STATUS 1 and
END_CRC 0 (R331). `left` is how many bytes are missing, the 16-byte trailer among them. -/
def abortTail (left : Nat) : List Byte :=
  List.replicate (left - 16) 0#8 ++ (toLE 4 0 ++ [1#8] ++ List.replicate 11 0#8).drop (16 - min left 16)

/-- Append the bytes that have arrived to the packet that link n forwards, waiting or in progress at this output. A packet
that is cut short no longer belongs to its input. -/
def LinkSt.feed (l : LinkSt) (n : Nat) (bs : List Byte) (done cut : Bool) : LinkSt :=
  let hit := fun (p : OutPkt) => p.src = some n && !p.done
  let f := fun (p : OutPkt) =>
    if hit p then { p with bytes := p.bytes ++ bs, done := done, src := if cut then none else p.src } else p
  { l with cur := l.cur.map f, queue := l.queue.map f }

/-- A forwarding module whose input left UP in the middle of a packet ends it with the abort marker (R331). -/
def State.abortInput (s : State) (n : Nat) : State :=
  let l := s.link n
  match l.rxMode with
  | .forward o =>
    let s := s.setLink o ((s.link o).feed n (abortTail l.rxLeft) true true)
    (s.setLink n { s.link n with rxMode := .drop }).inc O.ABORTS_SENT
  | _ => s

/-- A link takes a state (Table 11.5); leaving UP starts the grace time, ends forwarded packets and is judged. -/
def State.setLstate (s : State) (n v : Nat) : State :=
  let was := s.isUp n
  let s := s.put (O.at O.LINK_STATE n) v
  let s := if v = LS.down then s.setLink n { s.link n with downAt := s.now } else s
  let s := s.put O.LINKS_UP (setBit (s.obj O.LINKS_UP) n (v = LS.up))
  let s :=
    if was && v ≠ LS.up then
      (s.setLink n { s.link n with leftUp := s.now, graceStart := s.now }).abortInput n
    else s
  (s.accountLanes n).judge n

/-- A training attempt starts (R313). -/
def State.startTraining (s : State) (n : Nat) : State :=
  let l := s.link n
  if s.boot.stopCause.isSome || s.inResetHold then s.setLstate n LS.down
  else
  (s.setLink n { l with attemptAt := s.now, attempts := l.attempts + 1, isRetrain := false, partner := none,
                        newIdent := none, newS0 := none, newS1 := none, exch := false, heard := false,
                        loopOn := false, loopCount := 0, loopSum := 0, loopOut := [], loopAdd := 0,
                        switchOut := none, switchThen := none, switchCal := false, switchIn := none, prevId := none, framed := false, lostIn := 0 }).setLstate n LS.training

/-- A retrain starts: it keeps the replay buffer and counts in RETRAINS (R315). -/
def State.startRetrain (s : State) (n : Nat) : State :=
  let l := s.link n
  ((s.setLink n { l with attemptAt := s.now, isRetrain := true, partner := none,
                         newIdent := none, newS0 := none, newS1 := none, exch := false, heard := false,
                         loopOn := false, loopCount := 0, loopSum := 0, loopOut := [], loopAdd := 0,
                         switchOut := none, switchThen := none, switchCal := false, switchIn := none, framed := false, lostIn := 0,
                         replayDue := false,
                         prevId := some (Ident.plain l.ident, l.serial0, l.serial1) }).inc (O.at O.RETRAINS n)).setLstate n LS.retrain

/-- A training attempt fails: after TRAIN_ATTEMPTS in a row the link is DOWN, before that a new attempt starts (R313,
R315). TRAIN_FAILED is raised once for a run of failures. -/
def State.failAttempt (s : State) (n : Nat) : State :=
  let s := s.inc (O.at O.TRAIN_ATTEMPTS_FAILED n)
  let f := (s.link n).fails + 1
  let s := s.setLink n { s.link n with fails := f }
  if s.obj O.TRAIN_ATTEMPTS ≤ f then
    let s := if (s.link n).failRaised then s else (s.setLink n { s.link n with failRaised := true }).raiseLink 0x2D06 n
    (s.setLstate n LS.down).raiseLink 0x3D05 n
  else s.startTraining n

/-- The effect of LINK_ENABLE taking a value (R313): 0 sends the link to DISABLED at once; 1 starts training. A link in
an express circuit does not train (R559). -/
def State.linkEnable (s : State) (n v : Nat) : State :=
  let s := s.store (O.at O.LINK_ENABLE n) v
  if v = 0 then s.setLstate n LS.disabled
  else
    let s := s.setLink n { s.link n with graceStart := s.now, fails := 0, failRaised := false }
    if s.lstate n = LS.disabled && !(s.link n).express then s.startTraining n else s

/-- LINK_ENABLE_WRITE (R313). -/
def execLinkEnableWrite (who : Who) (link : Fin 24) (v : Nat) (s : State) : Outcome :=
  rowWrite s who (O.at O.LINK_ENABLE link.val) v fun s => (s.linkEnable link.val v, St.ok)

/-- The limit of a training attempt or retrain in units of 0.125 ns (R313, R315). -/
def State.trainLimit (s : State) (n : Nat) : Nat :=
  if (s.link n).isRetrain then (if reachClass n = 2 then 160000000 else 40000000)
  else (if reachClass n = 2 then 1600000000 else 400000000)

/-- TRAIN_ATTEMPT_TIMEOUT (R313, R315). -/
def execTrainAttemptTimeout (link : Fin 24) (s : State) : Outcome :=
  let n := link.val
  let st := s.lstate n
  if s.linkPresent n && (st = 1 || st = 2 || st = 4) then
    ok ((s.upTo ((s.link n).attemptAt + s.trainLimit n)).failAttempt n)
  else ok s

/-- TRAIN_RETRY_TIMER (R313): a DOWN link starts a new attempt every 10 s, reckoned from its entry into DOWN (log entry 121). -/
def execTrainRetryTimer (link : Fin 24) (s : State) : Outcome :=
  let n := link.val
  if s.linkPresent n && s.lstate n = LS.down && s.obj (O.at O.LINK_ENABLE n) = 1 && !(s.link n).express then
    ok ((s.upTo ((s.link n).downAt + 80 * sec1)).startTraining n)
  else ok s

/-- The key of a link direction and phase, when the SC holds one (R535): direction 0 transmit, 1 receive. -/
def State.linkKey (s : State) (n dir phase : Nat) : Option Nat := s.sec.linkKeys.find (4 * n + 2 * dir + phase)

/-- Whether the outbound direction of a link is encrypted (R321). -/
def State.txEnc (s : State) (n : Nat) : Bool := (s.link n).encAgree && (s.linkKey n 0 (s.link n).txPhase).isSome

/-- Whether the inbound direction of a link is encrypted (R321). -/
def State.rxEnc (s : State) (n : Nat) : Bool := (s.link n).encAgree && (s.linkKey n 1 (s.link n).rxPhase).isSome

/-- This module's TRAIN_PARAM (Table 11.4). -/
def State.ownParam (s : State) (n lanes : Nat) : Out :=
  .block n 2 1 (2 ^ 56 + lanes % 16 * 2 ^ 52 + s.obj (O.at O.ENCRYPT_ENABLE n) % 2 * 2 ^ 51 + (s.link n).txPhase % 2 * 2 ^ 50 + 3072 * 2 ^ 36) 0

/-- TRAIN_PARAM_RX (R307, R313 step 5, R321): the exchange of TRAIN_PARAM, the common lanes, and whether both ends agree on
encryption. `lanes` are the lanes this module has trained; its own block, which names them, is sent with this command
(log entry 122). -/
def execTrainParamRx (link : Fin 24) (blk lanes : Nat) (s : State) : Outcome :=
  let n := link.val
  let st := s.lstate n
  if !(s.linkPresent n && (st = 1 || st = 4)) then ok s
  else
    match s.ctlRx n blk 2 1 (3 * 2 ^ 48 + (2 ^ 36 - 1)) with
    | (none, s) => ok s
    | (some p, s) =>
      if bits p 63 56 ≠ 1 || bits p 47 36 ≠ 3072 then ok (s.inc (O.at O.MALFORMED_CTRL n))
      else
        let s := s.send (s.ownParam n lanes)
        let common := bits p 55 52 &&& (lanes % 16)
        if popcount common 4 < 2 then ok (s.failAttempt n)
        else
          let enc := s.obj (O.at O.ENCRYPT_ENABLE n)
          let mism := bits p 51 51 ≠ enc
          let s := s.setLink n { s.link n with partner := some p, selfLanes := lanes % 16, outMap := common,
                                               encMismatch := mism, encAgree := !mism && enc = 1,
                                               rxPhase := bits p 50 50, identAt := s.now }
          ok ((s.put (O.at O.ACTIVE_LANES n) common).setLstate n LS.identify)

/-- IDENTIFY_TIMEOUT (R402): 1 ms after entering IDENTIFY without a held identity and HEARD the attempt fails. -/
def execIdentifyTimeout (link : Fin 24) (s : State) : Outcome :=
  let n := link.val
  let l := s.link n
  if s.linkPresent n && s.lstate n = LS.identify && !(l.exch && l.heard) then
    ok ((s.upTo (l.identAt + 8000000)).failAttempt n)
  else ok s

/-- Whether the delay measurement runs: after the identity exchange, or when a lane returns (R313, R319). -/
def State.measuring (s : State) (n : Nat) : Bool :=
  let l := s.link n
  ((s.lstate n = LS.identify && l.exch && l.heard) || (s.isUp n && l.loopOn)) && l.loopCount < 16

/-- LOOP_REQ_SEND (R314): requests not answered within 10 µs are given up; another is sent while sixteen round trips are
not yet measured or on their way. -/
def execLoopReqSend (link : Fin 24) (s : State) : Outcome :=
  let n := link.val
  if !(s.linkPresent n && s.measuring n) then ok s
  else
    let l := s.link n
    let out := l.loopOut.filter (fun e => s.now < e.2 + 80000)
    if l.loopCount + out.length < 16 then
      ok ((s.setLink n { l with loopOut := Tab.set out l.loopId s.now, loopId := (l.loopId + 1) % 65536 }).send
        (.block n 2 2 (l.loopId * 2 ^ 48) 0))
    else ok (s.setLink n { l with loopOut := out })

/-- LOOP_REQ_RX (R314): answered with the time this module took. -/
def execLoopReqRx (link : Fin 24) (blk turnaround : Nat) (s : State) : Outcome :=
  let n := link.val
  if !s.hears n then ok s
  else
    match s.ctlRx n blk 2 2 (2 ^ 48 - 1) with
    | (none, s) => ok s
    | (some p, s) => ok (s.send (.block n 2 3 (bits p 63 48 * 2 ^ 48 + turnaround % 2 ^ 32) 0))

/-- The mean of 16 round trips, halved and rounded to the nearest unit; a tie is a free choice (R314). -/
def State.edgeDelayOf (s : State) (sum : Int) : Nat × State :=
  let t := sum.toNat
  if t % 32 = 16 then
    let (c, s) := s.drawChoice
    (t / 32 + b2n c, s)
  else ((t + 16) / 32, s)

/-- The outbound lane map that stands once every announced switch has applied (R317). -/
def LinkSt.pendMap (l : LinkSt) : Nat :=
  match l.switchOut with
  | none => l.outMap
  | some (m, _) => l.switchThen.getD m

/-- A switch of the outbound lane map is planned (R317), announced with 16 codewords. One whose countdown has not begun is
planned anew with both changes; one that is counting down keeps its map, and the new one is announced after it (log entry 145). -/
def LinkSt.planSwitch (l : LinkSt) (f : Nat → Nat) (cal : Bool) : LinkSt :=
  match l.switchOut with
  | none => if f l.outMap = l.outMap then l else { l with switchOut := some (f l.outMap, 16), switchThen := none, switchCal := cal }
  | some (m, k) =>
    if k < 16 || l.switchThen.isSome then { l with switchThen := some (f l.pendMap) }
    else if f m = l.outMap then { l with switchOut := none, switchCal := false }
    else { l with switchOut := some (f m, 16), switchCal := l.switchCal || cal }

/-- Lanes leave the outbound lane map at once (R317, an unplanned removal); announced switches go on without them, and one that
would change nothing any more is not made (log entry 145). -/
def LinkSt.dropLanes (l : LinkSt) (keep : Nat) : LinkSt :=
  let new := l.outMap &&& keep
  let later := l.switchThen.map (· &&& keep)
  match l.switchOut with
  | none => { l with outMap := new }
  | some (m, k) =>
    if m &&& keep = new then
      { l with outMap := new, switchOut := (later.filter (· ≠ new)).map (fun x => (x, 16)), switchThen := none, switchCal := false }
    else { l with outMap := new, switchOut := some (m &&& keep, k), switchThen := later }

/-- LOOP_RSP_RX (R41, R314, R319): one round trip; after sixteen EDGE_DELAY is set, and a returning lane is announced. -/
def execLoopRspRx (link : Fin 24) (blk at_ : Nat) (s : State) : Outcome :=
  let n := link.val
  if !(s.hears n && s.measuring n) then ok s
  else
    match (s.upTo at_).ctlRx n blk 2 3 (2 ^ 48 - 2 ^ 32) with
    | (none, s) => ok s
    | (some p, s) =>
      let l := s.link n
      let id := bits p 63 48
      match l.loopOut.find id with
      | none => ok s
      | some t =>
        if t + 80000 ≤ at_ then ok (s.setLink n { l with loopOut := l.loopOut.del id })
        else
          let sum := l.loopSum + ((at_ : Int) - t - (p % 2 ^ 32 : Nat))
          let s := s.setLink n { l with loopOut := l.loopOut.del id, loopSum := sum, loopCount := l.loopCount + 1 }
          if l.loopCount + 1 = 16 then
            let (d, s) := s.edgeDelayOf sum
            let s := s.put (O.EDGE_DELAY_TL0 + n) d
            let l := s.link n
            ok (s.setLink n
              (if l.loopAdd ≠ 0 then
                { l.planSwitch (· ||| l.loopAdd) false with loopOn := false, loopAdd := 0, loopOut := [] }
               else { l with loopOn := false }))
          else ok s

/-- Full credits for every class (Table 12.4). -/
def fullCredits : Tab Nat := [(0, 256), (1, 512), (2, 1024), (3, 768), (4, 512), (5, 512), (6, 384), (7, 128)]

/-- A lane of a class O link is in a map: its ring, modulator (flag 1) or drop filter (flag 0), holds its wavelength (R378). -/
def State.ringLocked (s : State) (n lane flag : Nat) : State :=
  if reachClass n = 2 then
    let x := s.chan (chanNo n lane)
    s.setChan (chanNo n lane) (if flag = 1 then { x with flags := setBit x.flags 1 true, lostMod := none }
      else { x with flags := setBit x.flags 0 true, lostDrop := none })
  else s

/-- A lane map change of one direction takes effect: each removal is counted, and each removal and return is raised (R316, R319). -/
def State.lanesChanged (s : State) (n old new : Nat) (planned : Bool) : State :=
  let s := (setBits (old &&& (15 ^^^ new)) 4).foldl (fun (s : State) _ =>
    (s.inc (O.at (if planned then O.LANE_DROPS_PLANNED else O.LANE_DROPS_UNPLANNED) n)).raiseLink 0x2D02 n) s
  let s := (setBits (new &&& (15 ^^^ old)) 4).foldl (fun (s : State) _ => s.raiseLink 0x1D03 n) s
  s.accountLanes n

/-- The switchover sub-slot of a class O transmitter: only IDLE flits are sent (R320). -/
def State.idleSlot (s : State) (n : Nat) : Bool :=
  reachClass n = 2 && s.onBeat && s.beat.lastEdge ≤ s.now && s.now < s.beat.lastEdge + s.obj O.SWITCH_SUBSLOT_NS * 8

/-- The outbound lane map of a link takes a value by an announced switch (R317, R319): a calibration's timeline starts when its
lane leaves (R380). -/
def State.switchTo (s : State) (n m : Nat) : State :=
  let l := s.link n
  let s := (setBits (m &&& (15 ^^^ l.outMap)) 4).foldl (fun (s : State) k => s.ringLocked n k 1) s
  let s := (setBits (l.outMap &&& (15 ^^^ m)) 4).foldl (fun (s : State) k =>
    match s.optics.wins.find (chanNo n k) with
    | some w => if w.phase = 0 then { s with optics.wins := s.optics.wins.set (chanNo n k) { w with t0 := s.now } } else s
    | none => s) s
  let next := match l.switchThen with | some x => if x = m then none else some (x, 16) | none => none
  (s.setLink n { s.link n with outMap := m, switchOut := next, switchThen := none, switchCal := false }).lanesChanged n l.outMap m true

/-- The lanes on which control blocks wait for a gap of link n: those left over, and those of the blocks sent since the last
codeword (R305). -/
def State.ctlLanes (s : State) (n : Nat) : List Nat :=
  (s.link n).ctlWait ++ (s.out.take (s.out.length - (s.link n).outMark)).reverse.filterMap (fun o =>
    match o with
    | .block m _ _ _ lane => if m = n then some ((setBits (s.link n).outMap 4).getD lane lane) else none
    | _ => none)

/-- The gap after the next codeword, with its lanes of control blocks, by what waits and the fill credit in quarter symbols (R305): a
gap with control blocks is 12 symbols, while the credit may fall to −1,024; without one, a credit of one symbol is spent on an idle
symbol. -/
def gapOf (lanes : List Nat) (fill : Int) : Nat × Nat :=
  if !lanes.isEmpty && -4048 ≤ fill then (12, lanes.foldl (fun a k => setBit a k true) 0)
  else if 4 ≤ fill then (1, 0) else (0, 0)

/-- The link header of a flit (Table 11.2): the gap that follows it, the gap `next` that follows the codeword after it, and the
announced lane switch `sw`. -/
def State.flitHeader (s : State) (n typ seq phase : Nat) (replayed : Bool) (next : Nat × Nat) (sw : Nat × Nat) : Nat :=
  let l := s.link n
  let cls := ((List.range 8).find? (fun c => 0 < l.credOwed.get c 0)).getD 0
  let cnt := min (l.credOwed.get cls 0) 4095
  typ + fld 1 (phase + (if replayed then 2 else 0)) + fld 2 seq
    + fld 4 (2 ^ 15 + (if l.nak then 2 ^ 14 else 0) + (l.rxNext + 4095) % 4096)
    + fld 6 (cls * 2 ^ 13 + cnt) + fld 8 l.gapPlan.1 + fld 9 next.1 + fld 10 (next.2 * 16 + l.gapPlan.2) + fld 11 sw.1 + fld 12 sw.2

/-- A flit's 340 bytes: header, body, CRC (R303). -/
def flitBytes (hdr : Nat) (body : List Byte) : List Byte :=
  let hb := toLE 16 hdr ++ body ++ List.replicate (320 - body.length) 0#8
  hb ++ toLE 4 (crc32c hb)

/-- Put a flit on a link: it carries ACK, NAK, one class of owed credit, its two gaps and the announcement `sw` (R305, R310, R312). A
gap carries at most one control block on a lane. -/
def State.putFlit (s : State) (n typ seq phase : Nat) (replayed : Bool) (body : List Byte) (sw : Nat × Nat) : State :=
  let l := s.link n
  let cls := ((List.range 8).find? (fun c => 0 < l.credOwed.get c 0)).getD 0
  let cnt := min (l.credOwed.get cls 0) 4095
  let lanes := s.ctlLanes n
  let fill := l.fill + 1 - 4 * l.gapPlan.1
  let next := gapOf lanes fill
  let o := Out.flit n (flitBytes (s.flitHeader n typ seq phase replayed next sw) body)
  let s := s.send o
  s.setLink n { l with nak := false, credOwed := if cnt = 0 then l.credOwed else l.credOwed.set cls (l.credOwed.get cls 0 - cnt),
                       gapPlan := next, fill := fill, outMark := s.out.length,
                       ctlWait := if next.2 = 0 then lanes else lanes.eraseDups.foldl List.erase lanes }

/-- Send a flit: a pending lane switch is announced with it, and applies from the codeword after the one that announces 1 (R317).
The removal that a calibration window opens takes effect after the switchover sub-slot, where LANE_MAP_SWITCH announces it. -/
def State.sendFlit (s : State) (n typ seq phase : Nat) (replayed : Bool) (body : List Byte) : State :=
  match (if s.idleSlot n && (s.link n).switchCal then none else (s.link n).switchOut) with
  | none => s.putFlit n typ seq phase replayed body (0, 0)
  | some (m, k) =>
    let s := s.putFlit n typ seq phase replayed body (m, max k 1)
    if k ≤ 1 then s.switchTo n m else s.setLink n { s.link n with switchOut := some (m, k - 1) }

/-- An IDLE flit (R303). -/
def State.sendIdle (s : State) (n : Nat) : State := s.sendFlit n 0 0 0 false []

/-- How many packet bytes one flit body carries (R329). -/
def State.bodySize (s : State) (n : Nat) : Nat := if s.txEnc n then 304 else 320

/-- Send one data flit with a body of packet bytes: it takes the next SEQ and goes into the replay buffer; on an
encrypted link the body is sealed (R310, R321). -/
def State.sendData (s : State) (n : Nat) (body : List Byte) : State :=
  let l := s.link n
  let enc := s.txEnc n
  let padded := body ++ List.replicate (s.bodySize n - body.length) 0#8
  let key := (s.linkKey n 0 l.txPhase).getD 0
  let typ := if enc then 2 else 1
  let sealed :=
    if enc then
      let aad := [BitVec.ofNat 8 2] ++ toLE 2 l.txNext
      let r := Gcm.encrypt (toLE 32 key) (toLE 4 (key / 2 ^ 256) ++ toLE 8 l.txCtr) aad padded
      r.1 ++ r.2
    else padded
  let rp : Replay := { seq := l.txNext, typ := typ, phase := if enc then l.txPhase else 0, body := sealed, count := 0 }
  let s := s.setLink n { l with txNext := (l.txNext + 1) % 4096, txCtr := if enc then l.txCtr + 1 else l.txCtr, replay := l.replay ++ [rp],
                                lastAckAt := if l.replay.isEmpty then s.now else l.lastAckAt }
  (s.sendFlit n typ rp.seq rp.phase false sealed).inc (O.at O.DATA_FLITS_TX n)

/-- The credits of a packet's bytes: one per 64 bytes (R312, R333). -/
def creditsOf (bytes : Nat) : Nat := cdiv bytes 64

/-- A link owes its partner the credits of a packet whose bytes have left its receive buffer (R312). -/
def State.owe (s : State) (n cls bytes : Nat) : State :=
  let l := s.link n
  s.setLink n { l with credOwed := l.credOwed.set cls (l.credOwed.get cls 0 + creditsOf bytes) }

/-- A forwarded packet has left its output: its input buffer is free. -/
def State.freeInput (s : State) (p : OutPkt) : State :=
  match p.src with
  | some m => s.owe m p.cls p.bytes.length
  | none => s

/-- A direction sends only IDLE flits: it carries no packets while the ends disagree on encryption (R321), its key is exhausted, or its
tags have failed (R322). -/
def LinkSt.idleOnly (l : LinkSt) : Bool := l.encMismatch || l.keyStop || l.authStop

/-- Send the bytes of the packet in progress that are here, whole bodies first and the rest when its last byte is here;
at most `fuel` flits. A full replay buffer, a replay that is due, an exhausted key or a partner that disagrees on encryption holds
data back (R310, R321, R322, R329). -/
def State.pump : Nat → Nat → State → State
  | 0, _, s => s
  | fuel + 1, n, s =>
    let l := s.link n
    match l.cur with
    | none => s
    | some p =>
      let b := s.bodySize n
      let avail := p.bytes.length - p.sent
      if 3072 ≤ l.replay.length || l.replayDue || l.idleOnly || !s.isUp n || s.idleSlot n then s
      else if b ≤ avail || (p.done && 0 < avail) then
        let body := (p.bytes.drop p.sent).take b
        let s := s.sendData n body
        let p' := { p with sent := p.sent + body.length }
        if p'.done && p'.sent = p'.bytes.length then (s.setLink n { s.link n with cur := none }).freeInput p'
        else State.pump fuel n (s.setLink n { s.link n with cur := some p' })
      else s

/-- Whether a link is in a retry burst: more than RETRY_BURST_LIMIT replays have begun within the last microsecond (R311). -/
def State.inBurst (s : State) (n : Nat) : Bool :=
  s.obj O.RETRY_BURST_LIMIT < ((s.link n).replayTimes.filter (fun t => s.now < t + 8000)).length

/-- The codewords of a link are lost, or its replay limit is reached: its partner is asked to retrain, and it retrains (R305, R307,
R310). -/
def State.askRetrain (s : State) (n cause : Nat) : State := (s.send (.block n 2 7 (cause * 2 ^ 60) 0)).startRetrain n

/-- Resend every unacknowledged flit, byte for byte with REPLAY set (R310); a flit replayed eight times without being
acknowledged sends the link to RETRAIN. Where only IDLE flits are sent, in the switchover sub-slot too, the replay waits (R320 to
R322). -/
def State.replayAll (s : State) (n : Nat) : State :=
  let l := s.link n
  if l.replay.isEmpty then s
  else if l.replay.any (fun r => 8 ≤ r.count) then s.askRetrain n 2
  else if s.idleSlot n || l.idleOnly then s.setLink n { l with replayDue := true }
  else
    let s := s.setLink n { l with replay := l.replay.map (fun r => { r with count := r.count + 1 }), replayDue := false,
                                  replayTimes := s.now :: l.replayTimes.filter (fun t => s.now < t + 8000), lastAckAt := s.now }
    let s := (s.inc (O.at O.REPLAYS n)).add (O.at O.REPLAYED_FLITS n) l.replay.length
    let s := l.replay.foldl (fun s r => s.sendFlit n r.typ r.seq r.phase true r.body) s
    if s.inBurst n then (s.raiseEvery 0x2D04 n sec1 { kind := 1, subj := n }).markCond else s

/-- A replay that waited for the end of the sub-slot, or for a key, starts. -/
def State.resumeReplay (s : State) (n : Nat) : State :=
  if (s.link n).replayDue && s.isUp n && !s.idleSlot n && !(s.link n).idleOnly then s.replayAll n else s

/-- The flit counter when SEQ starts again at 0: the next multiple of 4,096, so that its low 12 bits equal SEQ and none is used
twice under a key (R321, log entry 120). -/
def freshCtr (c : Nat) : Nat := cdiv c 4096 * 4096

/-- LINK_TRAINING_COMPLETE (R313 step 8, R315, R47): the link reaches UP. After a retrain to the same partner the sequence goes
on and every unacknowledged flit is resent, its count of replays begun afresh (log entry 123); otherwise both start afresh. A
class O link has no light without the LSM (R375). -/
def execLinkTrainingComplete (link : Fin 24) (s : State) : Outcome :=
  let n := link.val
  let l := s.link n
  if !(s.linkPresent n && s.lstate n = LS.identify && l.exch && l.heard && l.loopCount = 16
        && s.obj (O.at O.LINK_ENABLE n) = 1 && (reachClass n ≠ 2 || s.obj O.LSM_PRESENT = 1)) then ok s
  else
    let same := l.isRetrain && l.prevId = some (Ident.plain l.ident, l.serial0, l.serial1)
    let s :=
      if same then s.setLink n { l with replay := l.replay.map (fun r => { r with count := 0 }) }
      else s.setLink n { l with replay := [], txNext := 0, rxNext := 0, nak := false, txCtr := freshCtr l.txCtr, rxCtr := freshCtr l.rxCtr,
                                rxBuf := [], rxMode := .idle, rxLeft := 0, discarding := false, credTx := fullCredits, credOwed := [] }
    let s := s.setLink n { s.link n with fails := 0, failRaised := false, framed := true, gapNext := some (0, 0), authStop := false,
                                         lastAckAt := s.now, gapPlan := (0, 0), fill := 0, ctlWait := [], outMark := s.out.length }
    let s := [0, 1, 2, 3].foldl (fun (s : State) k => (s.ringLocked n k 1).ringLocked n k 0) s
    let s := { s with optics.dropAsked := s.optics.dropAsked.filter (fun k => k / 4 ≠ n),
                      optics.rxs := s.optics.rxs.filter (fun e => e.1 / 4 + 8 ≠ n) }
    let s := s.put (O.at O.LAST_TRAIN_MS n) ((s.now - l.attemptAt) / 8000000 % 2 ^ 32)
    let s := { s with beat.beatnumDue := setBit s.beat.beatnumDue n true }
    let s := (s.setLstate n LS.up).raiseLink 0x1D01 n
    let s := if l.encMismatch then s.raiseLink 0x2D08 n else s
    ok ((s.replayAll n).checkAcquire n)

/-- RETRAIN_REQ_RX (R307, R315). -/
def execRetrainReqRx (link : Fin 24) (blk : Nat) (s : State) : Outcome :=
  let n := link.val
  if !(s.linkPresent n && s.isUp n) then ok s
  else
    match s.ctlRx n blk 2 7 (2 ^ 60 - 1) with
    | (none, s) => ok s
    | (some p, s) =>
      let c := bits p 63 60
      if 1 ≤ c && c ≤ 3 then ok (s.startRetrain n) else ok (s.inc (O.at O.MALFORMED_CTRL n))

/-- LANE_SET_RX (R318): the inbound lane map switches at the next codeword: the lanes that leave are unplanned removals. -/
def execLaneSetRx (link : Fin 24) (blk : Nat) (s : State) : Outcome :=
  let n := link.val
  if !(s.linkPresent n && s.isUp n) then ok s
  else
    match s.ctlRx n blk 2 5 (2 ^ 60 - 1) with
    | (none, s) => ok s
    | (some p, s) =>
      let new := bits p 63 60
      let old := s.obj (O.at O.ACTIVE_LANES n)
      if popcount new 4 < 2 then ok (s.startRetrain n)
      else
        ok (((s.setLink n { s.link n with lostIn := (s.link n).lostIn &&& new }).put (O.at O.ACTIVE_LANES n) new).lanesChanged n old new false)

/-- LANE_ADD_READY_RX (R319): the lane is measured before it returns; lanes that are ready during one measurement return together. -/
def execLaneAddReadyRx (link : Fin 24) (blk : Nat) (s : State) : Outcome :=
  let n := link.val
  if !(s.linkPresent n && s.isUp n) then ok s
  else
    match s.ctlRx n blk 2 6 (2 ^ 60 - 1) with
    | (none, s) => ok s
    | (some p, s) =>
      let l := s.link n
      let add := bits p 63 60 &&& (15 ^^^ l.outMap)
      if add = 0 then ok s
      else ok (s.setLink n { l with loopOn := true, loopAdd := l.loopAdd ||| add, loopCount := 0, loopSum := 0, loopOut := [] })

/-- The receive window of the switchover sub-slot of a class O link (R320): after the last local edge, and from 40 ns before the
next one once that is placed. -/
def State.inSubslot (s : State) (n : Nat) : Bool :=
  reachClass n = 2 && s.onBeat &&
  ((s.beat.lastEdge ≤ s.now && s.now < s.beat.lastEdge + s.obj O.SWITCH_SUBSLOT_NS * 8 + s.obj (O.EDGE_DELAY_TL0 + n) + 320) ||
    s.beat.placed.any (fun pl => pl.time ≤ s.now + 320))

/-- A request to the partner to take lanes out of this module's inbound direction (R317, R318). -/
def dropReq (n lanes cause lane : Nat) : Out := .block n 2 4 (lanes * 2 ^ 60 + cause * 2 ^ 56) lane

/-- An inbound lane loses lock (R316, R318, R320): NAK is sent, and LANE_DROP_REQ on every remaining outbound lane; the lane
leaves the map with the partner's LANE_SET. With fewer than two lanes left the link retrains instead. -/
def State.laneLost (s : State) (n lane : Nat) : State :=
  let l := s.link n
  let old := s.obj (O.at O.ACTIVE_LANES n) &&& (15 ^^^ l.lostIn)
  if !(s.linkPresent n && s.isUp n) || !bit old lane || s.inSubslot n then s
  else if popcount (setBit old lane false) 4 < 2 then s.startRetrain n
  else
    let s := (s.setLink n { l with nak := true, lostIn := setBit l.lostIn lane true }).sendIdle n
    (s.sendAll ((setBits l.outMap 4).mapIdx (fun i _ => dropReq n (2 ^ lane) 2 i))).markCond

/-- LANE_LOCK_LOST (R316, R318, R320). -/
def execLaneLockLost (link : Fin 24) (lane : Fin 4) (s : State) : Outcome := ok (s.laneLost link.val lane.val)

/-- LANE_SER_EXCEEDED (R316, R317): a lane's corrected symbols of one millisecond pass LANE_SER_LIMIT. -/
def execLaneSerExceeded (link : Fin 24) (lane : Fin 4) (corrected : Nat) (s : State) : Outcome :=
  let n := link.val
  let old := s.obj (O.at O.ACTIVE_LANES n)
  if !(s.linkPresent n && s.isUp n) || !bit old lane.val || s.inSubslot n || corrected ≤ s.obj O.LANE_SER_LIMIT then ok s
  else if popcount (setBit old lane.val false) 4 < 2 then ok (s.startRetrain n)
  else ok ({ s with optics.dropAsked := (4 * n + lane.val) :: s.optics.dropAsked }.send (dropReq n (2 ^ lane.val) 1 0)).markCond

/-- An inbound lane has left by a planned removal (R380): one that this module did not ask for is a calibration removal, and its
receiver's timeline starts. -/
def State.calSeen (s : State) (n lane : Nat) : State :=
  let k := 4 * n + lane
  if s.optics.dropAsked.contains k then { s with optics.dropAsked := s.optics.dropAsked.filter (· ≠ k) }
  else if reachClass n = 2 then { s with optics.rxs := s.optics.rxs.set (chanNo n lane) { t0 := s.now } }
  else s

/-- LANE_MAP_SWITCH (R317): at the codeword SWITCH_IN names the announced map of a direction applies. Outbound, the codewords
that still have to announce it go first, as IDLE flits; a removal that a calibration window opened at an edge takes effect
after the switchover sub-slot of that edge. -/
def execLaneMapSwitch (link : Fin 24) (outbound : Bool) (s : State) : Outcome :=
  let n := link.val
  let l := s.link n
  if outbound then
    match l.switchOut with
    | none => ok s
    | some (m, k) =>
      let s := (List.range (max k 1)).foldl (fun (s : State) i => s.putFlit n 0 0 0 false [] (m, max k 1 - i)) s
      let s := if s.idleSlot n && l.switchCal then s.upTo (s.beat.lastEdge + s.obj O.SWITCH_SUBSLOT_NS * 8) else s
      ok (s.switchTo n m)
  else
    match l.switchIn with
    | none => ok s
    | some (m, _) =>
      let old := s.obj (O.at O.ACTIVE_LANES n)
      let s := (setBits (m &&& (15 ^^^ old)) 4).foldl (fun (s : State) k => s.ringLocked n k 0) s
      let s := (setBits (old &&& (15 ^^^ m)) 4).foldl (fun (s : State) k => s.calSeen n k) s
      ok (((s.setLink n { l with switchIn := none }).put (O.at O.ACTIVE_LANES n) m).lanesChanged n old m true)

/-- LANE_RETRAINED (R319): a removed inbound lane has finished its own retrain: this end announces it, and measures the delay
as its partner does. -/
def execLaneRetrained (link : Fin 24) (lane : Fin 4) (s : State) : Outcome :=
  let n := link.val
  if s.linkPresent n && s.isUp n && !bit (s.obj (O.at O.ACTIVE_LANES n)) lane.val then
    ok ((s.setLink n { s.link n with loopOn := true, loopCount := 0, loopSum := 0, loopOut := [] }).send
      (.block n 2 6 (2 ^ lane.val * 2 ^ 60) 0))
  else ok s

/-- The retired transmit key of a link goes once every flit sent under it is acknowledged (R321). -/
def State.dropRetired (s : State) (n : Nat) : State :=
  let l := s.link n
  if l.txRetired && !l.replay.any (fun r => r.typ = 2 && r.phase ≠ l.txPhase) then
    { s.setLink n { l with txRetired := false } with sec.linkKeys := s.sec.linkKeys.del (4 * n + (1 - l.txPhase % 2)) }
  else s

/-- The transmitter toggles KEY_PHASE (R322): the counter under the new key begins at SEQ, whose bits its low 12 bits are
(R321, log entry 120), and the old key is retired. -/
def State.togglePhase (s : State) (n : Nat) : State :=
  let l := s.link n
  (s.setLink n { l with txPhase := 1 - l.txPhase % 2, txCtr := l.txNext, keyStop := false, txRetired := true }).dropRetired n

/-- KEY_EXHAUSTED (R322): a transmit flit counter reaches 2^40; with a new key of the other phase the transmitter
toggles, otherwise the direction sends only IDLE flits and LINK_AUTH is raised. -/
def execKeyExhausted (link : Fin 24) (s : State) : Outcome :=
  let n := link.val
  let l := s.link n
  if !s.linkPresent n then ok s
  else if (s.linkKey n 0 (1 - l.txPhase % 2)).isSome && !l.txRetired then ok (s.togglePhase n)
  else ok ((s.setLink n { l with txCtr := max l.txCtr (2 ^ 40), keyStop := true }).raiseLink 0x3D07 n)

/-- LINK_KEY_NEEDED (R535): a direction's flit counter reaches 2^38; raised once for that link. -/
def execLinkKeyNeeded (link : Fin 24) (s : State) : Outcome :=
  let n := link.val
  if !s.linkPresent n || s.sec.keyNeeded.contains n then ok s
  else ok (({ s with sec.keyNeeded := n :: s.sec.keyNeeded }).raiseLink 0x208B n)

/-- REPLAY_TIMEOUT (R310): no acknowledgement advanced for REPLAY_TIMEOUT_NS while flits are unacknowledged. -/
def execReplayTimeout (link : Fin 24) (s : State) : Outcome :=
  let n := link.val
  if s.linkPresent n && s.isUp n && !(s.link n).replay.isEmpty then
    ok ((s.upTo ((s.link n).lastAckAt + s.obj O.REPLAY_TIMEOUT_NS * 8)).replayAll n)
  else ok s

/-- Drop the flits that an acknowledgement covers: those up to ACK_SEQ in the replay buffer's order (R310). -/
def ackFlits (ack : Nat) (rs : List Replay) : List Replay :=
  if rs.any (fun r => r.seq = ack) then (rs.dropWhile (fun r => r.seq ≠ ack)).drop 1 else rs

end Sys2Proof.Machine
end

