-- ==== Sys2Proof/Machine/Host.lean ====
section
/-! DEFINITION. Host.lean: completion queues, MSI-X and sync records of the host ports (R480 to R490). -/

namespace Sys2Proof.Machine

/-- A host port. -/
def State.port (s : State) (n : Nat) : Port := s.host.ports.get n {}

/-- Replace a host port. -/
def State.setPort (s : State) (n : Nat) (x : Port) : State := { s with host.ports := s.host.ports.set n x }

/-- A queue pair of a port. -/
def State.qp (s : State) (n q : Nat) : QPair := (s.port n).qs.get q {}

/-- Replace a queue pair. -/
def State.setQp (s : State) (n q : Nat) (x : QPair) : State :=
  s.setPort n { s.port n with qs := (s.port n).qs.set q x }

/-- A host port number as an output carries it. -/
def fin4 (n : Nat) : Fin 4 := Fin.ofNat 4 n

/-- The port of a partition (R475). -/
def State.partPort (s : State) (p : Nat) : Option Nat :=
  (List.range 4).find? (fun n => bits s.layout.portPart (4 * n + 3) (4 * n) = p)

/-- An MSI-X table entry; an entry never written is masked. -/
def Port.entry (x : Port) (v : Nat) : Nat := x.msix.get v (2 ^ 96)

/-- Send an MSI-X vector, or set its pending bit while it is masked (R489). -/
def State.interrupt (s : State) (n v : Nat) : State :=
  let x := s.port n
  let e := x.entry v
  if bit e 96 then (if x.pending.contains v then s else s.setPort n { x with pending := v :: x.pending })
  else s.send (.msix (fin4 n) v (e % 2 ^ 64) (recF e 8 4))

/-- A completion queue has no room: one entry stays unused, so that head and tail tell full from empty (DEDUCED). -/
def QPair.full (x : QPair) : Bool := x.cqSize < 2 || (x.cqTail + 1) % x.cqSize = x.cqHead

/-- Write a completion record at the tail of a completion queue and send a vector (R481). The record's PHASE bit and
SQ_HEAD are filled in here. -/
def State.writeCq (s : State) (n q rec_ vec : Nat) : State :=
  let x := s.qp n q
  let r := rec_ + fld 5 (b2n x.phase) + fld 6 x.sqHead
  let t := (x.cqTail + 1) % max 1 x.cqSize
  let s := s.send (.hostWrite (fin4 n) (x.cqBase + 16 * x.cqTail) (toLE 16 r))
  (s.setQp n q { x with cqTail := t, phase := if t = 0 then !x.phase else x.phase }).interrupt n vec

/-- Put a completion record into a queue: written, or held while the queue is full or not enabled (R480, R481). -/
def State.record (s : State) (n q rec_ vec : Nat) : State :=
  let x := s.qp n q
  if x.state = 1 && x.enable && x.held.isEmpty && !x.full then s.writeCq n q rec_ vec
  else
    let s := if x.state = 1 && x.enable then s.inc (O.at O.CQ_FULL_WAITS n) else s
    s.setQp n q { x with held := x.held ++ [rec_ + vec * 2 ^ 128] }

/-- Write held records while there is room. -/
def State.drainCq (n q : Nat) : Nat → State → State
  | 0, s => s
  | k + 1, s =>
    let x := s.qp n q
    match x.held with
    | [] => s
    | r :: t =>
      if x.state = 1 && x.enable && !x.full then State.drainCq n q k ((s.setQp n q { x with held := t }).writeCq n q (r % 2 ^ 128) (r / 2 ^ 128))
      else s

/-- Write a sync record into CQ 0 of a partition's port; with pair 0 not enabled it is dropped (R488). -/
def State.syncRecord (s : State) (p rec_ vec : Nat) : State :=
  match s.partPort p with
  | none => s
  | some n =>
    if (s.qp n 0).state = 1 then s.record n 0 rec_ vec else s.inc (O.at O.SYNC_RECORDS_DROPPED n)

/-- A descriptor's work ends (R481): its record is written when DESCRIPTOR_COMPLETE follows. A descriptor that a port
reset made silent leaves nothing (R490). -/
def State.finishDesc (s : State) (who : Nat × Nat × Nat) (status info : Nat) : State :=
  let x := s.qp who.1 who.2.1
  match x.running.find? (fun r => r.1 = who.2.2) with
  | none => s
  | some r =>
    let x := { x with running := x.running.filter (fun y => y.1 ≠ who.2.2), done := x.done ++ [⟨who.2.2, r.2.1, status, info⟩] }
    let s := (s.setQp who.1 who.2.1 x).inc (O.at O.DESCRIPTORS_COMPLETED who.1)
    if status = 0x40 then s.inc (O.at O.DESCRIPTORS_MALFORMED who.1) else s

/-- A queue pair enters ERROR (R480). -/
def State.queueError (s : State) (n q : Nat) : State :=
  (s.setQp n q { s.qp n q with state := 2 }).raise 0x2002
    { kind := 7, subj := n, part := (s.portPart n).getD 0xFF, pay := q, len := 1 }

end Sys2Proof.Machine
end

