-- ==== Sys2Proof/Machine/Sync.lean ====
section
/-! DEFINITION. Sync.lean: sync objects: reset, arrivals, completion, timeouts and rollback (R347 to R354). -/

namespace Sys2Proof.Machine

/-- Sync object states (Table 12.9). -/
abbrev Sy.free : Nat := 0
/-- ARMED. -/
abbrev Sy.armed : Nat := 1
/-- COMPLETE. -/
abbrev Sy.complete : Nat := 2
/-- TIMED_OUT. -/
abbrev Sy.timedOut : Nat := 3

/-- A sync object. -/
def State.syncObj (s : State) (o : Nat) : SyncObj := s.net.sync.get o {}

/-- Replace a sync object. -/
def State.setSync (s : State) (o : Nat) (x : SyncObj) : State := { s with net.sync := s.net.sync.set o x }

/-- The object of a pair for a step (R347). -/
def State.pairObj (s : State) (p pair step : Nat) : Nat := s.syncBase p + 2 * pair + step % 2

/-- The pairs of a partition's image. -/
def State.pairsOf (s : State) (p : Nat) : List Pair := ((s.job p).image.map (·.pairs)).getD []

/-- Sync record (Table 17.6). -/
def syncRec (kind step ix : Nat) : Nat := fld 2 0xFF + fld 3 kind + fld 8 (step % 2 ^ 32 * 2 ^ 32 + ix)

/-- The INTERRUPT record of an object (R488): held while it depends on a pending vote. -/
def State.syncInterrupt (s : State) (o kind : Nat) : State :=
  let x := s.syncObj o
  if bits x.action 13 12 ≠ 1 then s
  else
    let r := syncRec kind x.step (o - s.syncBase x.owner)
    let v := bits x.action 11 0
    if x.taggedDone then
      match s.partPort x.owner with
      | none => s
      | some n => s.setPort n { s.port n with heldSync := (s.port n).heldSync ++ [⟨x.owner, x.step, r, v⟩] }
    else s.syncRecord x.owner r v

/-- The effects of a completion or release wait for the engines that follow (R352): the pair, its step and whether it
completed tagged. -/
def State.fire (s : State) (o : Nat) : State :=
  let x := s.syncObj o
  if x.pair = 0xFFFF then s
  else
    let j := s.job x.owner
    s.setJob x.owner { j with fired := j.fired ++ [(x.pair, x.step, x.taggedDone)] }

/-- An ARMED object whose COUNT has reached TARGET completes (R352). -/
def State.syncTry (s : State) (o : Nat) : State :=
  let x := s.syncObj o
  if x.state = Sy.armed && x.target ≤ x.count && 0 < x.target then
    let s := s.setSync o { x with state := Sy.complete, completeNs := s.refNs, taggedDone := x.spec ≠ 0 }
    ((s.inc (O.at O.SYNC_COMPLETIONS x.owner)).syncInterrupt o 1).fire o
  else s

/-- Reset an object of a pair for a step (R348 steps 2 and 4). -/
def State.syncReset (s : State) (o step : Nat) : State :=
  let x := s.syncObj o
  (s.setSync o { x with step := step, count := x.early, spec := x.earlySpec, early := 0, earlySpec := 0, state := Sy.armed,
                        deadlineSet := false, taggedDone := false, eventStep := none, taken := false, lastArrival := none }).syncTry o

/-- Give a partition's pairs their objects and reset each for the first step of its parity at or after a step (R348). -/
def State.syncInit (s : State) (p step : Nat) : State :=
  (s.pairsOf p).foldl (fun s x =>
    [0, 1].foldl (fun s b =>
      let o := s.syncBase p + 2 * x.pair + b
      let st := if step % 2 = b then step else step + 1
      (s.setSync o { target := x.target, action := x.action, timeoutKind := x.kind, timeout := x.timeout, owner := p,
                     role := x.role, pair := x.pair }).syncReset o st) s) s

/-- At the retirement of step n, every pair's object of its parity is reset for step n + 2 (R348). -/
def State.syncRetire (s : State) (p n : Nat) : State :=
  (s.pairsOf p).foldl (fun s x =>
    let o := s.pairObj p x.pair n
    if (s.syncObj o).step = n then s.syncReset o (n + 2) else s) s

/-- Arm the timeouts of a step's pairs, from the schedule beat and REF_NS at which its program begins (R348 step 5). -/
def State.syncArm (s : State) (p step beat ns : Nat) : State :=
  (s.pairsOf p).foldl (fun s x =>
    let o := s.pairObj p x.pair step
    let y := s.syncObj o
    if y.step = step && y.state = Sy.armed && y.timeoutKind ≠ 0 && !y.taken then
      s.setSync o { y with deadlineSet := true, deadline := (if y.timeoutKind = 1 then beat else ns) + y.timeout }
    else s) s

/-- Saturating 32-bit count. -/
def sat32 (n : Nat) : Nat := min n 0xFFFFFFFF

/-- The signed value of GRAD_SHIFT. -/
def State.gradShift (s : State) (p : Nat) : Int := toInt 32 (s.obj (O.at O.GRAD_SHIFT p))

/-- Before the first operation of step m issues, the bank of step m - 2 is retired, its pairs are reset for step m, and
the bank serves step m (R147, R348). Late work of an older step takes no bank back. -/
def State.enterStep (s : State) (p m : Nat) : State :=
  let b := (s.job p).bank m
  if b.step = some m || b.step.any (m < ·) then s
  else
    let s := match b.step with
      | some k => (s.retireBank p k).syncRetire p k
      | none => s
    let s := s.setJob p ((s.job p).setBank m { step := some m, shift := s.gradShift p })
    ((s.job p).progs.filter (fun g => g.step = m)).foldl (fun s g => s.syncArm p m g.base g.ns) s

/-- INVALID in the lowest-numbered sheaf's word of the bank of a paired object's step, which serves that step from then on
(R193, R352, R353). -/
def State.syncFault (s : State) (x : SyncObj) : State :=
  if x.pair = 0xFFFF then s else (s.enterStep x.owner x.step).orSheaf x.owner x.step lowSheaf Fl.invalid false

/-- An arrival that counts at an object (R350 to R353). -/
def State.arrive (s : State) (o inc : Nat) (tagged : Bool) : State :=
  let x := s.syncObj o
  let y := { x with count := sat32 (x.count + inc), spec := if tagged then sat32 (x.spec + inc) else x.spec,
                    lastArrival := if x.state = Sy.armed then some s.now else x.lastArrival }
  let s := s.setSync o y
  let a : EvArgs := { part := x.owner, kind := 8, subj := o }
  if x.state = Sy.armed then s.syncTry o
  else if x.state = Sy.timedOut then s.inc (O.at O.LATE_ARRIVALS x.owner)
  else if x.state = Sy.complete && x.target < y.count then
    ((s.inc (O.at O.OVERCOUNT_ARRIVALS x.owner)).raise 0x2E07 a).syncFault x
  else s

/-- The difference of two step numbers by their low 32 bits, read as two's complement (R351). -/
def stepDiff (a b : Nat) : Int := toInt 32 (ofInt 32 ((a : Int) - b))

/-- A paired arrival for a step (R351). The answer tells whether it was taken. -/
def State.arrivePair (s : State) (p pair step inc : Nat) (tagged : Bool) : State × Bool :=
  let o := s.pairObj p pair step
  let x := s.syncObj o
  if !(s.pairsOf p).any (·.pair = pair) then (s, false)
  else
    let d := stepDiff step x.step
    if d = 0 then (s.arrive o inc tagged, true)
    else if d = 2 then
      let y := { x with early := sat32 (x.early + inc), earlySpec := if tagged then sat32 (x.earlySpec + inc) else x.earlySpec }
      ((s.setSync o y).inc (O.at O.EARLY_ARRIVALS p), true)
    else ((s.inc (O.at O.STEP_MISMATCH p)).raise 0x2E08 { part := p, kind := 8, subj := o }, false)

/-- A local completion posts to a pair, when one is named (R350). -/
def State.post (s : State) (p pair step : Nat) (tagged : Bool) : State :=
  if pair = 0xFFFF then s else (s.arrivePair p pair step 1 tagged).1

/-- An object of a partition's share that no pair of its image uses (R347). -/
def State.plainObj (s : State) (p ix : Nat) : Bool := ix < s.syncShare p && !(s.pairsOf p).any (fun x => x.pair = ix / 2)

/-- A remote arrival at an object index within a share (R351). -/
def State.arrivePlain (s : State) (p ix inc : Nat) : State × Bool :=
  if ix < s.syncShare p && s.plainObj p ix then (s.arrive (s.syncBase p + ix) inc false, true) else (s, false)

/-- A timeout that falls due acts by ON_TIMEOUT (R353). -/
def State.syncTimeout (s : State) (o : Nat) : State :=
  let x := s.syncObj o
  let on := bits x.action 15 14
  let a : EvArgs := { part := x.owner, kind := 8, subj := o }
  let s := s.inc (O.at O.SYNC_TIMEOUTS x.owner)
  let s := if x.eventStep = some x.step then s else s.raise 0x2E06 a
  let y := { x with eventStep := some x.step, deadlineSet := false, taken := true }
  if on = 2 then s.setSync o y
  else
    let s := s.setSync o { y with state := Sy.timedOut, completeNs := s.refNs }
    let s := if on = 0 then s.syncFault x else s
    (s.syncInterrupt o 2).fire o

/-- What the accepted WRITEs that a checkpoint still holds will add to an object: they count as of their acceptance (R350, R424). -/
def State.heldInc (s : State) (o : Nat) : Nat :=
  let x := s.syncObj o
  let hits := fun (k : Packet) =>
    let p := bits k.route 7 6
    bit k.flags 4 && (if bit k.flags 3 then s.pairObj p k.sync k.step = o && stepDiff k.step x.step = 0 else s.syncBase p + k.sync = o)
  ((([0, 1, 2, 3].map (fun p => (s.job p).ckpt.held)).flatten.filter hits).map (·.arg)).foldl (· + ·) 0

/-- A timeout is met by what has been accepted (R66, R350). -/
def State.stillArmed (s : State) (o : Nat) : Bool :=
  let x := s.syncObj o
  x.state = Sy.armed && x.deadlineSet && x.count + s.heldInc o < x.target

/-- Beat deadlines that fall due at the edge that begins a schedule beat (R65, step E3). -/
def State.beatDeadlines (s : State) (beat : Nat) : State :=
  s.net.sync.foldl (fun s e =>
    let x := s.syncObj e.1
    if s.stillArmed e.1 && x.timeoutKind = 1 && x.deadline ≤ beat then s.syncTimeout e.1 else s) s

/-- Nanosecond deadlines that REF_NS has reached (R65). -/
def State.nsDeadlines (s : State) : State :=
  s.net.sync.foldl (fun s e =>
    let x := s.syncObj e.1
    if s.stillArmed e.1 && (x.timeoutKind = 2 || x.pair = 0xFFFF) && x.deadline ≤ s.refNs then s.syncTimeout e.1
    else s) s

/-- Tagged arrivals of a partition's paired objects at a commit (R354). -/
def State.syncCommit (s : State) (p : Nat) : State :=
  s.net.sync.foldl (fun s e =>
    let x := s.syncObj e.1
    if x.owner = p && x.pair ≠ 0xFFFF then s.setSync e.1 { x with spec := 0, earlySpec := 0, taggedDone := false } else s) s

/-- Tagged arrivals of a partition's paired objects at a squash (R354). The objects that stay complete are given in the
answer: what they release is released again, untagged, at step E7. -/
def State.syncSquash (s : State) (p : Nat) : State × List (Nat × Nat) :=
  s.net.sync.foldl (fun (a : State × List (Nat × Nat)) e =>
    let s := a.1
    let x := s.syncObj e.1
    if x.owner = p && x.pair ≠ 0xFFFF then
      let y := { x with count := x.count - x.spec, early := x.early - x.earlySpec, spec := 0, earlySpec := 0 }
      if x.state = Sy.complete && x.taggedDone then
        if y.count < x.target then
          ((s.setSync e.1 { y with state := Sy.armed, taggedDone := false }).inc (O.at O.SPEC_ROLLBACKS p), a.2)
        else (s.setSync e.1 { y with taggedDone := false }, a.2 ++ [(x.pair, x.step)])
      else (s.setSync e.1 y, a.2)
    else a) (s, [])

/-- A pair is complete, or has timed out, for a step: its waiters may go on (R352, R353). The second value tells whether
its completion is tagged. -/
def State.pairDone (s : State) (p pair step : Nat) : Bool × Bool :=
  if pair = 0xFFFF then (true, false)
  else
    let x := s.syncObj (s.pairObj p pair step)
    (x.step = step && (x.state = Sy.complete || x.state = Sy.timedOut), x.taggedDone)

end Sys2Proof.Machine
end

