-- ==== Sys2Proof/Machine/Xport.lean ====
section
/-! DEFINITION. Xport.lean: packets, routing, injection at an output, flow contexts, request tags and the requests of the
transfer and checkpoint engines (R329 to R346). -/

namespace Sys2Proof

open Machine

/-- CLASS of a packet's ROUTE (Table 12.1). -/
def Packet.cls (p : Packet) : Nat := bits p.route 2 0
/-- SRC_PARTITION. -/
def Packet.srcPart (p : Packet) : Nat := bits p.route 5 4
/-- DST_PARTITION. -/
def Packet.dstPart (p : Packet) : Nat := bits p.route 7 6
/-- SPEC of FLAGS. -/
def Packet.spec (p : Packet) : Nat := bits p.flags 7 6

/-- The 32 header bytes (Table 12.1). -/
def Packet.header (p : Packet) : List Byte :=
  toLE 32 (fld 0 p.typ + fld 1 p.flags + fld 2 p.len + fld 4 p.srcChip + fld 6 p.srcEpoch + fld 8 p.dstChip +
    fld 10 p.dstEpoch + fld 12 p.tag + fld 14 p.route + fld 15 p.hops + fld 16 p.addr + fld 24 p.step + fld 28 p.sync +
    fld 30 p.arg)

/-- A packet from its header bytes and payload. -/
def Packet.ofHeader (h : Nat) (payload : List Byte) : Packet :=
  { typ := recF h 0 1, flags := recF h 1 1, len := recF h 2 2, srcChip := recF h 4 2, srcEpoch := recF h 6 2,
    dstChip := recF h 8 2, dstEpoch := recF h 10 2, tag := recF h 12 2, route := recF h 14 1, hops := recF h 15 1,
    addr := recF h 16 8, step := recF h 24 4, sync := recF h 28 2, arg := recF h 30 2, payload := payload }

/-- The trailer of a packet as its sender forms it: END_CRC and STATUS 0 (R331). -/
def Packet.trailer (p : Packet) : List Byte := toLE 4 (crc32c (p.header ++ p.payload)) ++ List.replicate 12 0#8

/-- A packet as its bytes: header, payload and trailer (R331). -/
def Packet.bytes (p : Packet) : List Byte := p.header ++ p.payload ++ p.trailer

/-- A packet as it is forwarded: HOPS is lowered and the trailer passed on as it arrived (R331). -/
def Packet.forwarded (p : Packet) : List Byte := { p with hops := p.hops - 1 }.header ++ p.payload ++ p.trailer

end Sys2Proof

namespace Sys2Proof.Machine

/-- A packet that this module originates (R330): its own chip number and epoch, or 0x3FFF and 0 when it holds none. -/
def State.mkPacket (s : State) (typ flags chip tag cls src dst addr step sync arg : Nat) (payload : List Byte) : Packet :=
  let own := s.obj O.CHIP_STATE = 1
  { typ := typ, flags := flags, len := payload.length, srcChip := if own then s.obj O.CHIP_NUMBER else 0x3FFF,
    srcEpoch := if own then s.obj O.CHIP_EPOCH else 0, dstChip := chip, dstEpoch := s.epochOf chip, tag := tag,
    route := dst * 64 + src * 16 + cls, hops := s.obj O.HOP_LIMIT, addr := addr, step := step % 2 ^ 32, sync := sync,
    arg := arg, payload := payload }

/-- Whether a chip number is local (R271). -/
def State.ownChip (s : State) (c : Nat) : Bool := c = 0x3FFF || (s.obj O.CHIP_STATE = 1 && c = s.obj O.CHIP_NUMBER)

/-- The routing entry of a chip number (Table 12.7). -/
def State.routeOf (s : State) (chip : Nat) : Nat := s.net.route.get chip 0xFFFFFFFF00000000

/-- The candidates of a routing entry, in position order. -/
def Route.cands (e : Nat) : List Nat := ([bits e 39 32, bits e 47 40, bits e 55 48, bits e 63 56]).filter (· ≠ 0xFF)

/-- Whether a routing entry is refused (R341). -/
def Route.bad (e : Nat) (present : Nat → Bool) : Bool :=
  let all := [bits e 39 32, bits e 47 40, bits e 55 48, bits e 63 56]
  let cs := Route.cands e
  cs.any (fun c => !present c) || cs.eraseDups.length ≠ cs.length || all.take cs.length ≠ cs
    || (bit e 0 && cs.isEmpty) || bit e 2 || bits e 31 3 ≠ 0

/-- Bytes of a class queued at an output. -/
def State.queued (s : State) (n cls : Nat) : Nat :=
  let l := s.link n
  ((match l.cur with | some p => [p] | none => []) ++ l.queue).foldl
    (fun a p => if p.cls = cls then a + (p.bytes.length - p.sent) else a) 0

/-- The output for a packet (R342): `src` is the link it arrived on and `mask` the LINK_MASK of its collective entry. -/
def State.chooseOut (s : State) (chip cls : Nat) (src : Option Nat) (mask : Nat) : Option Nat :=
  let e := s.routeOf chip
  if !bit e 0 then none
  else
    let us := (Route.cands e).filter (fun n => s.usable n && !(s.link n).encMismatch && src ≠ some n && bit mask n)
    if bits e 2 1 = 1 then us.head?
    else
      let load := fun n => (s.queued n cls, max 1 (popcount (s.link n).outMap 4))
      us.foldl (fun (b : Option Nat) n =>
        match b with
        | none => some n
        | some m => if (load n).1 * (load m).2 < (load m).1 * (load n).2 then some n else some m) none

/-- Core cycles in a span of reference time, in units of 0.125 ns (R13). -/
def State.cycles (s : State) (d : Nat) : Nat := d * s.obj O.CLOCK_MHZ / 8000

/-- Put a packet in an output's queue (R335): packets of a class go in the order in which they came, and those that came in one
cycle in the order of their ranks: links by number, then the engines of this module. -/
def State.enqueue (s : State) (n : Nat) (p : OutPkt) : State :=
  let l := s.link n
  let p := { p with at_ := s.now }
  let q := l.queue.span (fun e => !(e.cls = p.cls && s.cycles e.at_ = s.cycles p.at_ && p.rank < e.rank))
  s.setLink n { l with queue := q.1 ++ p :: q.2 }

/-- Put a packet of an engine in an output's queue. -/
def State.originate (s : State) (n part : Nat) (p : Packet) : State :=
  s.enqueue n { src := none, cls := p.cls, bytes := p.bytes, done := true, sent := 0, part := part }

/-- Every link may carry it. -/
abbrev anyLink : Nat := 2 ^ 24 - 1

/-- The event of a packet without a usable candidate (R343). -/
def State.noRouteEvent (s : State) (chip : Nat) : State := s.raiseEvery 0x2E03 0 sec1 { kind := 2, subj := chip }

/-- The transfer and collective engines may inject for a partition: the module is not stopped (R452), and no I/O die that serves one of
its dies has set a thermal hold (R465, R467; log entry 147). -/
def State.engineOn (s : State) (p : Nat) : Bool :=
  s.boot.stopCause.isNone && !(s.power.holdOn && [0, 1, 2, 3].any (fun d => s.dieOwner d = some p && s.power.holders.contains (4 + d / 2)))

/-- Inject a packet at this module (R343, R584): to the ejection stage when its destination is local, otherwise to an
output. The answer tells whether it went. -/
def State.inject (s : State) (part : Nat) (p : Packet) (mask : Nat) : State × Bool :=
  if s.boot.stopCause.isSome then (s, false)
  else if s.ownChip p.dstChip then ({ s with net.localQ := s.net.localQ ++ [(p, part)] }, true)
  else
    match s.chooseOut p.dstChip p.cls none mask with
    | some n => (s.originate n part p, true)
    | none => (s.noRouteEvent p.dstChip, false)

/-- The flow context of a partition, chip and class, with its number. -/
def State.findCtx (s : State) (p chip cls : Nat) : Option (Nat × Ctx) :=
  s.net.ctxs.find? (fun e => e.2.owner = p && e.2.chip = chip && e.2.cls = cls)

/-- Replace a flow context. -/
def State.setCtx (s : State) (i : Nat) (c : Ctx) : State := { s with net.ctxs := s.net.ctxs.set i c }

/-- The lowest of n numbers from a base on that a table does not list. -/
def freeKey {β : Type} (t : Tab β) (base n : Nat) : Option Nat :=
  ((List.range n).find? (fun i => (t.find (base + i)).isNone)).map (base + ·)

/-- Open a flow context (R344): a new one takes the lowest free number of the partition's range (R477); one that is open on demand becomes the image's at its
load, and stays open until unload. -/
def State.openCtx (s : State) (p chip cls kind : Nat) : State :=
  match s.findCtx p chip cls with
  | some (i, c) => if kind = 1 then s.setCtx i { c with state := 1 } else s
  | none =>
    match freeKey s.net.ctxs (s.ctxBase p) (s.ctxShare p) with
    | none => s
    | some i => s.setCtx i { chip := chip, epoch := s.epochOf chip, cls := cls, state := kind, owner := p }

/-- A packet of a partition's flow has been sent: its context counts it (Table 12.8). -/
def State.noteTx (s : State) (p chip cls : Nat) : State :=
  match s.findCtx p chip cls with
  | none => s
  | some (i, c) => s.setCtx i { c with packetsTx := (c.packetsTx + 1) % 2 ^ 64, lastUseNs := s.refNs }

/-- Send a collective, vote or micro-batch packet of a partition: it waits at injection while no candidate is usable
(R343), or its engines may not inject (R467). -/
def State.sendColl (s : State) (p : Nat) (k : Packet) (mask : Nat) : State :=
  let (s, went) := if s.engineOn p then s.inject p k mask else (s, false)
  if went then s.noteTx p k.dstChip k.cls
  else { s with net.waiting := s.net.waiting ++ [{ pkt := k, part := p, mask := mask }] }

/-- Send the answer of a remote request: it is dropped when no candidate is usable (R343). A module that holds no chip
number originates no packet (R410). -/
def State.sendAnswer (s : State) (p : Nat) (k : Packet) : State :=
  if s.obj O.CHIP_STATE ≠ 1 then s
  else
  let (s, went) := s.inject p k anyLink
  if went then s else s.inc O.NO_ROUTE_DROPPED

/-- Drop the waiting packets of a partition (R343). -/
def State.dropWaiting (s : State) (p : Nat) : State :=
  let (a, b) := s.net.waiting.partition (fun w => w.part = p)
  ({ s with net.waiting := b }).add O.NO_ROUTE_DROPPED a.length

/-- The packets that wait at injection are tried again after `cycles` more cycles of waiting for a route (R343). -/
def State.injectWaiting (s : State) (cycles : Nat) : State :=
  s.net.waiting.foldl (fun s w =>
    (if s.engineOn w.part then s.add (O.at O.NO_ROUTE_WAIT_CYCLES w.part) cycles else s).sendColl w.part w.pkt w.mask)
    { s with net.waiting := [] }

/-- Tags of a partition that are outstanding. -/
def State.tagsOf (s : State) (p : Nat) : Nat := (s.net.tags.filter (fun t => t.2.owner = p)).length

/-- Tags that a request of a partition may use (R345): 256 are kept for the checkpoint engine while the image has a
checkpoint plan. -/
def State.tagLimit (s : State) (r : Req) : Nat :=
  s.tagShare r.part - (if !r.ckpt && (((s.job r.part).image.map (fun im => im.ckpt.isSome)).getD false) then 256 else 0)

/-- Replace a request. -/
def State.setReq (s : State) (i : Nat) (r : Req) : State := { s with net.reqs := s.net.reqs.set i r }

/-- The waiting cycles of a request that goes on (R345). -/
def State.reqGo (s : State) (r : Req) : State :=
  match r.waitSince with
  | none => s
  | some (t, tag) =>
    s.add (O.at (if tag then O.TAG_WAIT_CYCLES else O.WINDOW_WAIT_CYCLES) r.part) (s.cycles (s.now - t))

/-- A request waits for a tag (true) or for its window (false); what it waits for may change. -/
def State.reqWait (s : State) (i : Nat) (r : Req) (tag : Bool) : State :=
  match r.waitSince with
  | some (_, t) => if t = tag then s else (s.reqGo r).setReq i { r with waitSince := some (s.now, tag) }
  | none => s.setReq i { r with waitSince := some (s.now, tag) }

/-- A packet of a request has ended with a status (R346). -/
def Req.mark (r : Req) (off st len : Nat) : Req :=
  if st = 0 then { r with bytes := r.bytes + len }
  else if r.badStatus = 0 || off < r.badOff then { r with badOff := off, badStatus := st }
  else r

/-- Issue packets of a request while it has tags and window; at most `fuel` packets (R333, R343, R345). A packet with no
usable candidate in the partition's link set ends the request's issue with NO_ROUTE (R476). A module without a chip number
originates no packet (R410), nor does an engine that is held (R452, R467). -/
def State.issue : Nat → Nat → State → State
  | 0, _, s => s
  | fuel + 1, i, s =>
    match s.net.reqs.find i with
    | none => s
    | some r =>
      if r.total ≤ r.next || !s.engineOn r.part || s.obj O.CHIP_STATE ≠ 1 then s
      else
        let len := min 4096 (r.total - r.next)
        match s.findCtx r.part r.chip r.cls, freeKey s.net.tags (s.tagBase r.part) (s.tagShare r.part) with
        | some (ci, c), some ti =>
          if s.tagLimit r ≤ s.tagsOf r.part then s.reqWait i r true
          else if s.obj O.FLOW_WINDOW_BYTES < c.bytesOut + len then s.reqWait i r false
          else
            let s := s.reqGo r
            let gen := (s.net.gens.get ti 0 + 1) % 8
            let data := if r.isRead then [] else s.readMem (r.loc + r.next) len
            let k := s.mkPacket (if r.isRead then 2 else 1) (if r.isRead then 0 else 0x20) r.chip (gen * 8192 + ti) r.cls
              r.part 0 (r.rem + r.next) 0 0 (if r.isRead then len / 64 else 0) data
            let (s, went) := s.inject r.part k (s.layout.links.getD r.part 0)
            if went then
              let s := if r.isRead then s else s.engineRead r.part (r.loc + r.next) len
              let g : Tag :=
                { gen := gen, owner := r.part, ctx := ci, chip := r.chip, req := i, off := r.next, len := len,
                  isRead := r.isRead, dst := r.loc + r.next, deadlineNs := s.refNs + s.obj O.REQ_TIMEOUT_NS }
              let s := { s with net.gens := s.net.gens.set ti gen, net.tags := s.net.tags.set ti g }
              let s := s.setCtx ci { c with tagsOut := c.tagsOut + 1, bytesOut := c.bytesOut + len,
                                            packetsTx := (c.packetsTx + 1) % 2 ^ 64, lastUseNs := s.refNs }
              State.issue fuel i (s.setReq i { r with next := r.next + len, left := r.left + 1, waitSince := none })
            else
              (s.inc O.NO_ROUTE_DROPPED).setReq i { (r.mark r.next 0x10 0) with next := r.total, waitSince := none }
        | _, _ => s.reqWait i r true

/-- A restore's reads of its partner's slot are over, with the status of the lowest-offset packet that was not OK, or 0 (R439, R441). -/
def State.restoreRead (s : State) (p st : Nat) : State :=
  let j := s.job p
  match j.ckpt.restore with
  | some r => if r.rd = 1 then s.setJob p { j with ckpt := { j.ckpt with restore := some { r with rd := if st = 0 then 2 else 3 } } } else s
  | none => s

/-- A request whose last tag has completed ends (R346): its descriptor's POST_OBJECT is posted and its record follows. -/
def State.reqEnd (s : State) (i : Nat) : State :=
  match s.net.reqs.find i with
  | none => s
  | some r =>
    if r.left ≠ 0 || r.next < r.total then s
    else
      let s := { s with net.reqs := s.net.reqs.del i }
      if r.ckpt then s.restoreRead r.part r.badStatus
      else
      let s := if r.badStatus = 0 && r.post ≠ 0xFFFF then (s.arrivePlain r.part r.post 1).1 else s
      s.finishDesc r.owner r.badStatus r.bytes

/-- Every unfinished request of a partition goes on, lowest number first. -/
def State.issueAll (s : State) (p : Nat) : State :=
  ((s.net.reqs.filter (fun e => e.2.part = p && e.2.next < e.2.total)).map (·.1)).foldl
    (fun s i => (State.issue 8193 i s).reqEnd i) s

/-- Start a request; the flow context is opened on demand, or the request ends with NO_CONTEXT (R344). -/
def State.startReq (s : State) (r : Req) : State :=
  let i := s.net.reqNext
  let full := (s.findCtx r.part r.chip r.cls).isNone &&
    (freeKey s.net.ctxs (s.ctxBase r.part) (s.ctxShare r.part)).isNone
  let s := { s with net.reqNext := i + 1 }
  if full then
    ((s.inc (O.at O.NO_CONTEXT_COUNT r.part)).setReq i { r with next := r.total, badStatus := 0x21 }).reqEnd i
  else
    let s := (s.openCtx r.part r.chip r.cls 2).setReq i r
    (State.issue 8193 i s).reqEnd i

/-- A tag completes with a status (R345, R346): its context and request count it, and waiting requests go on. TIMEOUT and
EPOCH_CHANGED are no answer received (Table 12.8). -/
def State.tagDone (s : State) (ti st : Nat) : State :=
  match s.net.tags.find ti with
  | none => s
  | some t =>
    let s := { s with net.tags := s.net.tags.del ti }
    let s := match s.net.ctxs.find t.ctx with
      | none => s
      | some c => s.setCtx t.ctx { c with tagsOut := c.tagsOut - 1, bytesOut := c.bytesOut - t.len,
                                          lastUseNs := if st = 0x20 || st = 0x22 then c.lastUseNs else s.refNs,
                                          freeNs := s.refNs }
    let s := match s.net.reqs.find t.req with
      | none => s
      | some r => s.setReq t.req { (r.mark t.off st t.len) with left := r.left - 1 }
    (s.reqEnd t.req).issueAll t.owner

/-- REQ_TIMEOUT (R345): REQ_TIMEOUT_NS has passed without an answer for a tag. One whose answer has come, and whose data waits for a
checkpoint (R424), has its answer. -/
def execReqTimeout (tag : Nat) (s : State) : Outcome :=
  match s.net.tags.find tag with
  | none => ok s
  | some t =>
    if (s.job t.owner).ckpt.held.any (fun k => k.typ = 3 && k.tag = t.gen * 8192 + tag) then ok s
    else
    let s := s.upTo (t.deadlineNs * 8)
    ok (((s.inc O.REQ_TIMEOUTS).raiseEvery 0x2E09 0 sec1 { kind := 2, subj := t.chip, part := t.owner }).tagDone tag 0x20)

/-- CONTEXT_IDLE_CLOSE (R344): an on-demand context has had no outstanding tag for CONTEXT_IDLE_NS. -/
def execContextIdleClose (ctx : Nat) (s : State) : Outcome :=
  match s.net.ctxs.find ctx with
  | none => ok s
  | some c =>
    if c.state = 2 && c.tagsOut = 0 && !s.net.reqs.any (fun e => e.2.part = c.owner && e.2.chip = c.chip && e.2.cls = c.cls && e.2.next < e.2.total)
    then
      let s := s.upTo ((max c.lastUseNs c.freeNs + s.obj O.CONTEXT_IDLE_NS) * 8)
      ok { s with net.ctxs := s.net.ctxs.del ctx }
    else ok s

/-- ROUTE_ENTRY_WRITE (R341). -/
def execRouteEntryWrite (who : Who) (chip v : Nat) (s : State) : Outcome :=
  rowWrite s who O.ROUTE_ENTRY v fun s =>
    if 16382 < chip then (s, St.notPresent)
    else if Route.bad v s.linkPresent then (s, St.refused)
    else ({ s with net.route := s.net.route.set chip v }, St.ok)

/-- A partition's flow contexts, tags and requests are released, and its waiting packets dropped (R235, R343). A
descriptor whose request ends so completes with TIMEOUT, the local status of a request without an answer (DEDUCED). -/
def State.releaseXport (s : State) (p : Nat) : State :=
  let s := s.dropWaiting p
  let rs := s.net.reqs.filter (fun e => e.2.part = p)
  let s := { s with net.ctxs := s.net.ctxs.filter (fun e => e.2.owner ≠ p),
                    net.tags := s.net.tags.filter (fun e => e.2.owner ≠ p),
                    net.reqs := s.net.reqs.filter (fun e => e.2.part ≠ p) }
  rs.foldl (fun s (e : Nat × Req) => if e.2.ckpt then s else s.finishDesc e.2.owner 0x20 e.2.bytes) s

end Sys2Proof.Machine
end

