-- ==== Sys2Proof/Machine/Load.lean ====
section
/-! DEFINITION. Load.lean: loading, starting and unloading an image, and debug mode (R127, R223, R233 to R240). -/

namespace Sys2Proof.Machine

/-- IMAGE_STATE values (Table 8.18). -/
abbrev IS.empty : Nat := 0
/-- LOADING. -/
abbrev IS.loading : Nat := 1
/-- LOADED. -/
abbrev IS.loaded : Nat := 2
/-- RUNNING. -/
abbrev IS.running : Nat := 3
/-- UNLOADING. -/
abbrev IS.unloading : Nat := 4

/-- Give IMAGE_STATE of a partition a value. -/
def State.setImageState (s : State) (p v : Nat) : State := s.put (O.at O.IMAGE_STATE p) v

/-- The index of partition p's objects whose counters are zero after each image load (R98, R129, R159, R186, R213, R268,
R366, R445). -/
def perLoad (p k : Nat) : Bool :=
  let i := k / 256
  (i = 0x5100 + p || i = 0x5110 + p || i = 0x5120 + p || i = 0x5130 + p || i = 0x5140 + p || i = 0x5150 + p || i = 0x5160 + p
    || i = 0x3110 + p || (i = 0x6010 + p && 4 ≤ k % 256 && k % 256 ≤ 9)) && k ≠ O.at O.STEP_PARAM p

/-- A load request reaches the module (R233, R236, R413): the image and the member table are copied; IMAGE_STATE is
LOADING unless the request is one to be refused with WRONG_STATE. -/
def State.loadRequest (s : State) (p params img table : Nat) (who : Nat × Nat × Nat) : State :=
  let crit := s.obj O.CRITICAL_NOT_MATCH
  let wrong :=
    if crit ≠ 0 then some ((setBits crit 24).headD 0xFFFF)
    else if s.imageState p ≠ IS.empty || !s.onBeat || s.obj O.RTV_MODE = 1 || s.obj (O.at O.RESTORE_STATE p) = 1 then some 0xFFFF
    else none
  let j := s.job p
  let s := s.setJob p { j with load := j.load ++ [{ params := params, img := img, table := table, who := who, wrong := wrong }] }
  if wrong.isNone then s.setImageState p IS.loading else s

/-- A load ends with a refusal (R239): its record, counter and event, and the answer to its descriptor. -/
def State.refuseLoad (s : State) (p : Nat) (r : LoadReq) (f : Fail) : State :=
  let s := if r.wrong.isNone then s.setImageState p IS.empty else s
  let s := (s.put (O.at O.LOAD_STATUS p) f.record).inc (O.at O.REFUSALS p)
  (s.raise 0x2A02 { part := p, pay := f.record, len := 32 }).finishDesc r.who 0x43 f.code

/-- The objects that a loaded image gives (Tables 8.18, 6.4, 3.8 and 7.9). -/
def State.imageObjs (s : State) (p : Nat) (im : Image) (me digest : Nat) : State :=
  let sum := fun (f : Nat → Nat) n => ((List.range n).map f).foldl (· + ·) 0
  ([ (O.JOB_ID, im.jobId), (O.CONTRACT_LEVEL, im.level), (O.STAGE_INDEX, im.stage.index), (O.MEMBER_INDEX, me),
     (O.MIN_PERIOD_NOMINAL_NS, im.stage.minNominal), (O.MIN_PERIOD_FIXED_NS, im.stage.minFixed),
     (O.STEP_BEATS, im.stage.stepBeats), (O.STEP_STRIDE, im.stage.stride), (O.IMAGE_DIGEST, digest),
     (O.GRAIN_ROWS, im.stage.grainRows), (O.MAX_GRAINS, im.stage.maxGrains), (O.MICROBATCHES_PER_STEP, im.stage.mbs),
     (O.KEEP_LAYERS, im.stage.keepLayers), (O.ACT_STORE_PLAN_BYTES, sum (Chk.actPlan im) 4),
     (O.SPILL_REGION_BYTES, sum (Chk.spillIn im) 8), (O.GRAD_SHIFT, ofInt 32 im.commit.gInit),
     (O.GRAD_SHIFT_MIN, ofInt 32 im.commit.gMin), (O.GRAD_SHIFT_MAX, ofInt 32 im.commit.gMax),
     (O.SHIFT_DOWN_AFTER, im.commit.downAfter), (O.SHIFT_UP_AFTER, im.commit.upAfter),
     (O.STEP_NUMBER, im.commit.stepStart), (O.VOTE_STATE, 1) ]).foldl (fun s e => s.put (O.at e.1 p) e.2) s

/-- Zero every placed byte of an image (R223, R235). -/
def State.zeroPlacements (s : State) (im : Image) : State :=
  ((im.pieces.map Piece.ranges).flatten).foldl (fun s r => s.zeroMem r.1 r.2) s

/-- A load succeeds (R233): placements are zeroed, objects, contexts and sync objects made, and LOADED entered. -/
def State.finishLoad (s : State) (p : Nat) (r : LoadReq) : State :=
  let im := Img.parse r.img
  let cnt := recF r.params 14 2
  let me := recF r.params 12 2
  let members := (List.range cnt).map (fun i => (recF r.table (4 * i) 2, recF r.table (4 * i + 2) 1))
  let digest := ofLE (Sha.sha256 (toLE (recF r.params 8 4 - recF r.img 20 4) r.img))
  let s := { s with dict := s.dict.drop (perLoad p) }
  let s := (s.zeroPlacements im).imageObjs p im me digest
  let s := s.add O.SHEAVES_LOADED im.sheaves.length
  let s := s.setJob p { load := (s.job p).load, unload := (s.job p).unload, unloadWho := (s.job p).unloadWho, image := some im,
                            members := members, memberIx := me, ckpt := { cursors := (s.job p).ckpt.cursors } }
  let s := (flows im.colls members me (s.obj O.CHIP_NUMBER)).foldl (fun s f => s.openCtx p f.1 f.2 1) s
  let s := s.syncInit p im.commit.stepStart
  let s := ((s.put (O.at O.LOAD_STATUS p) loadedRecord).inc (O.at O.LOADS p)).setImageState p IS.loaded
  (s.raise 0x1A01 { part := p }).finishDesc r.who 0 0

/-- IMAGE_LOAD_DONE (R237 to R239): the oldest load request of the partition finishes its checks. It is not due
while memory of a die of the partition is being zeroed, since the load's accesses to it are held (R279). -/
def execImageLoadDone (part : Fin 4) (s : State) : Outcome :=
  let p := part.val
  let j := s.job p
  match j.load with
  | [] => ok s
  | r :: rest =>
    if (s.diesOf p).any (fun d => bit s.host.zeroing d) then ok s
    else
    let s := s.setJob p { j with load := rest }
    match s.loadCheck p r.wrong r.params r.img r.table with
    | some f => ok (s.refuseLoad p r f)
    | none => ok (s.finishLoad p r)

/-- BEAT_STATE leaves LOCKED or ROOT: every load in progress ends with WRONG_STATE (R236). -/
def State.endLoads (s : State) : State :=
  [0, 1, 2, 3].foldl (fun s p =>
    let j := s.job p
    let (on, rest) := j.load.partition (fun r => r.wrong.isNone)
    on.foldl (fun s r => s.refuseLoad p r { code := 0x0201 }) (s.setJob p { j with load := rest })) s

/-- START_BEAT_WRITE (R234). -/
def State.startBeat (s : State) (p v : Nat) : State × Nat :=
  if s.imageState p ≠ IS.loaded || v < s.obj O.BEAT_COUNT + 2 then (s, St.refused)
  else ((s.put (O.at O.START_BEAT p) v).setJob p { s.job p with armed := true, startAt := v }, St.ok)

/-- START_BEAT_WRITE (R234). -/
def execStartBeatWrite (who : Who) (part : Fin 4) (v : Nat) (s : State) : Outcome :=
  rowWrite s who (O.at O.START_BEAT part.val) v (·.startBeat part.val v)

/-- Clear the share of sync objects of a partition, and the records that its port holds for them (R235, R417). -/
def State.releaseSync (s : State) (p : Nat) : State :=
  let lo := s.syncBase p
  let s := { s with net.sync := s.net.sync.drop (fun o => lo ≤ o && o < lo + s.syncShare p) }
  match s.partPort p with
  | none => s
  | some n => s.setPort n { s.port n with heldSync := (s.port n).heldSync.filter (fun h => h.part ≠ p) }

/-- The objects copied from an image read as zero while the partition is EMPTY (R186, R240). -/
def imageOnly : List Nat :=
  [O.JOB_ID, O.CONTRACT_LEVEL, O.STAGE_INDEX, O.MEMBER_INDEX, O.MIN_PERIOD_NOMINAL_NS, O.MIN_PERIOD_FIXED_NS, O.STEP_BEATS,
   O.STEP_STRIDE, O.IMAGE_DIGEST, O.PROGRAM_BASE, O.GRAIN_ROWS, O.MAX_GRAINS, O.MICROBATCHES_PER_STEP, O.KEEP_LAYERS,
   O.ACT_STORE_PLAN_BYTES, O.SPILL_REGION_BYTES, O.GRAD_SHIFT, O.GRAD_SHIFT_MIN, O.GRAD_SHIFT_MAX, O.SHIFT_DOWN_AFTER,
   O.SHIFT_UP_AFTER, O.VOTE_STATE]

/-- The handle that a share's transfer uses, when it is an offload transfer. -/
def State.shareHandle (s : State) (p : Nat) (x : Share) : Option Nat :=
  ((s.job p).image.bind (fun im => (im.lists[x.list]?).bind (fun l => l.ops[x.op]?))).bind (fun o =>
    if o.opcode = 0x0901 && Chk.at' o 8 1 ≠ 0 && x.flags = 0 then some (Chk.at' o 12 4) else none)

/-- Offload handles being released that no transfer uses any longer are free, and their descriptors complete (Table 17.7). -/
def State.offloadDone (s : State) (p : Nat) : State :=
  let used := (s.job p).shares.filterMap (s.shareHandle p)
  let (out, stay) := (s.host.offload.get p []).partition (fun x => x.releasing.isSome && !used.contains x.handle)
  if out.isEmpty then s
  else
    (out.filterMap (·.releasing)).foldl (fun (s : State) w => s.finishDesc w 0 0)
      { s with host.offload := s.host.offload.set p stay }

/-- A layout change and fencing release the handles of every partition (R487). -/
def State.releaseOffloads (s : State) : State :=
  ((s.host.offload.vals.flatten).filterMap (·.releasing)).foldl (fun (s : State) w => s.finishDesc w 0 0)
    { s with host.offload := [] }

/-- Bytes written to the flash wear it (R297): events at 90% and 100% of its rated endurance. What is
written is counted in whole units of 64 KiB (R296). -/
def State.flashWear (s : State) (n : Nat) : State :=
  let was := s.obj O.FLASH_LIFE_USED
  let s := s.add O.FLASH_BYTES_WRITTEN n
  let life := min 100 (s.obj O.FLASH_BYTES_WRITTEN * 100 / max 1 (s.obj O.FLASH_ENDURANCE_BYTES))
  let s := s.put O.FLASH_LIFE_USED life
  let s := if was < 90 && 90 ≤ life then s.raise 0x2C04 else s
  if was < 100 && 100 ≤ life then (s.put O.FLASH_WRITE_ENABLED 0).raise 0x3C05 else s

/-- What an unload leaves of a partition's checkpoints: a slot in flash that was FILLING is FAILED (R430), and a restore that
runs ends (R444), which completes its descriptor with REFUSED (DEDUCED). -/
def State.endCkpt (s : State) (p : Nat) : State :=
  let open_ := fun (e : Nat × CkSlot) => e.1 / 8 = p && recF e.2.header 4 1 = 1
  let n := (s.flashCk.filter open_).length
  let s := { s with flashCk := s.flashCk.map (fun (e : Nat × CkSlot) =>
    if open_ e then (e.1, { e.2 with header := e.2.header + fld 4 2 }) else e) }
  let s := if n = 0 then s else s.flashWear (65536 * n)
  match ((s.job p).ckpt.restore).bind (·.who) with
  | some w => s.finishDesc w 0x43 0
  | none => s

/-- An unload is done (R235): the partition's rows, sync objects, contexts, tags and placements are zeroed and released, and
the state is EMPTY. The status banks and the norm-slot history rings are emptied too (DESIGN CHOICE, log entry 134). -/
def State.unloadDone (s : State) (p : Nat) : State :=
  let s := s.clearBanks p
  let j := s.job p
  match j.image with
  | none =>
    j.unloadWho.foldl (fun s w => s.finishDesc w 0 0) (s.setJob p { j with unload := false, unloadWho := [] })
  | some im =>
    let s := (((s.endCkpt p).releaseXport p).releaseSync p).zeroPlacements im
    let s := s.put O.SHEAVES_LOADED (s.obj O.SHEAVES_LOADED - im.sheaves.length)
    let s := imageOnly.foldl (fun s k => s.put (O.at k p) 0) s
    let s := if s.obj (O.at O.RESTORE_STATE p) = 1 then s.put (O.at O.RESTORE_STATE p) 0 else s
    let s := (s.setJob p { load := j.load, records := j.records, ckpt := { cursors := j.ckpt.cursors } }).setImageState p IS.empty
    j.unloadWho.foldl (fun s w => s.finishDesc w 0 0) ((s.offloadDone p).raise 0x1A04 { part := p })

/-- An unload applies (R235): sequencers stop at their next operation boundary, in UNLOADING while operations are still under
way, planned work is forgotten, and packets waiting at injection are dropped (R343). -/
def State.unloadNow (s : State) (p : Nat) : State :=
  let j := s.job p
  if j.image.isNone || j.shares.isEmpty then s.unloadDone p
  else
    ((s.dropWaiting p).setJob p { j with rels := [], progs := [], armed := false, final := none, voteDeadline := none, formed := none }).setImageState p
      IS.unloading

/-- An unload request (R235): at the next edge while edges come, in this cycle otherwise. A partition that is still
LOADING is unloaded once its load has ended (DEDUCED). -/
def State.requestUnload (s : State) (p : Nat) (who : Option (Nat × Nat × Nat)) : State :=
  let j := s.job p
  let s := s.setJob p { j with unload := true, unloadWho := j.unloadWho ++ who.toList }
  if s.onBeat && s.imageState p ≠ IS.empty then s else s.unloadNow p

/-- UNLOAD (R235). -/
def execUnload (who : Who) (part : Fin 4) (v : Nat) (s : State) : Outcome :=
  rowWrite s who (O.at O.UNLOAD part.val) v fun s => (s.requestUnload part.val none, St.ok)

/-- The partition of debug mode (R127). -/
def State.debugPart (s : State) : Nat := s.obj O.DEBUG_PARTITION

/-- DEBUG_ENABLE takes a value (R127, R541): entry waits for the next edge; exit unloads the partition's image, zeroes its
collector rows and sum-length records and leaves debug mode. A write of the value that it holds has no effect (DESIGN CHOICE,
log entry 135). -/
def State.debugEnable (s : State) (who : Who) (v : Nat) : State × Nat :=
  let p := s.debugPart
  if v = s.obj O.DEBUG_ENABLE then (s, St.ok)
  else if v = 1 then
    if s.imageState p = IS.empty || (s.obj O.BEAT_STATE = BeatState.root && s.obj O.DOWNSTREAM_MASK = 0) then
      let s := s.audit who 10 O.DEBUG_ENABLE 0xFF 0 p
      ({ s.put O.DEBUG_ENABLE 1 with dbg := { entering := true } }, St.ok)
    else (s, St.refused)
  else
    let reads := s.dbg.reads
    let was := s.dbg.on
    let s := s.setJob p { s.job p with rows := [], sums := [] }
    let s := (s.requestUnload p none).audit who 11 O.DEBUG_ENABLE 0xFF 1 reads
    let s := { s.put O.DEBUG_ENABLE 0 with dbg := {} }
    (if was then s.raise 0x1605 { part := p } else s, St.ok)

/-- DEBUG_ENABLE_WRITE (R127). -/
def execDebugEnableWrite (who : Who) (v : Nat) (s : State) : Outcome := rowWrite s who O.DEBUG_ENABLE v (·.debugEnable who v)

/-- The partition's tile sequencers are stopped by DEBUG_HALT (R127). -/
def State.halted (s : State) (p : Nat) : Bool := s.dbg.on && s.debugPart = p && s.obj O.DEBUG_HALT = 1

/-- DEBUG_HALT_WRITE (R127): the sequencers of the debug partition stop at their next operation boundary while it is 1. -/
def execDebugHaltWrite (who : Who) (v : Nat) (s : State) : Outcome :=
  rowWrite s who O.DEBUG_HALT v fun s => (s.put O.DEBUG_HALT v, St.ok)

end Sys2Proof.Machine
end

