-- ==== Sys2Proof/Machine/Lanes.lean ====
section
/-! DEFINITION. Lanes.lean: what an operation produces, element by element, its division among tiles, and the writing of
elements and blocks through a recipe (R86 to R88, R143, R149 to R151, R169, R243, R244, R582). -/

namespace Sys2Proof.Machine

/-- One element that an operation computes: its value before the conversion of its recipe, whether its lane is active,
whether its row is padding (R169), its flags, and, where the operation copies codes, the code with its scale byte. -/
structure Cell where
  val : Num := .zero
  act : Bool := true
  pad : Bool := false
  fl : Nat := 0
  raw : Option (Nat × Nat) := none
deriving DecidableEq, Repr

/-- What writing one element gives: the element whose tile writes its bytes, the bytes, its flags, the stored value that a
tap sees, and whether it made a NaN block or was saturated. -/
structure Wrote where
  own : Nat
  ws : List ByteW
  fl : Nat
  tap : Option Num
  nanBlk : Bool
  sat : Bool
deriving DecidableEq, Repr

/-- An operation as released (R226, R245): its place in the image, what it is bound to, and its valid rows. -/
structure OpCtx where
  p : Nat
  im : Image
  li : Nat
  oi : Nat
  op : Op
  sheaf : Nat
  phase : Nat
  step : Nat
  mb : Nat
  grain : Nat
  tagged : Bool
  valid : Nat
  shift : Int
deriving DecidableEq, Repr

/-- Phase RECOMPUTE (Table 8.7). -/
abbrev phaseRecompute : Nat := 3

/-- The bank of a tensor that work reads or writes as LIVE or shadow (R24, R201, R205): tagged work of a step whose
vote is pending sees the shadow bank of a BANKED tensor, other work and recompute the LIVE bank. -/
def State.bankOf (s : State) (c : OpCtx) (t : Nat) : Nat :=
  if !bit (c.im.tflags t) 2 then 0
  else
    let live := (s.job c.p).live.get t 0
    if c.tagged && c.phase ≠ phaseRecompute then 1 - live else live

/-- Operand k of an operation, tensor t. -/
def State.opView (s : State) (c : OpCtx) (k t : Nat) : View := c.im.operand c.op k t c.mb c.grain (s.bankOf c t)

/-- A header operand. -/
def State.opIn (s : State) (c : OpCtx) (k : Nat) : View := s.opView c k (c.op.operand k)

/-- A recipe of an activation or an activation gradient (Table 3.6). -/
def actRecipe (r : Nat) : Bool := (0x11 ≤ r && r ≤ 0x13) || (0x21 ≤ r && r ≤ 0x23)

/-- The axis of an output along which the padding rows of a grain lie (R169): the output is grain-indexed, or its recipe
is that of an activation or an activation gradient; the axis is the first with GRAIN_ROWS elements (DEDUCED). -/
def OpCtx.padAxis (c : OpCtx) (shape : List Nat) : Option Nat :=
  if c.op.grained 3 || actRecipe (c.im.recipe c.op.out) then shape.findIdx? (· = c.im.stage.grainRows) else none

/-- An index of an output is in a padding row (R169). -/
def OpCtx.padAt (c : OpCtx) (shape ix : List Nat) : Bool :=
  match c.padAxis shape with
  | none => false
  | some a => c.valid ≤ ix.getD a 0

/-- The tile, by its number within the sheaf, and the lane of row r and column c of a shape (R244). -/
def Op.place (o : Op) (shape : List Nat) (r c : Nat) : Nat × Nat :=
  let h := max 1 (cdiv (Chk.rowsOf shape) o.splitRows)
  let w := max 1 (Chk.colsOf shape / o.splitCols)
  (r / h * o.splitCols + c / w, c % 64)

/-- The tile and lane of a linear index of a shape. -/
def Op.placeLin (o : Op) (shape : List Nat) (n : Nat) : Nat × Nat :=
  let w := max 1 (Chk.colsOf shape)
  o.place shape (n / w) (n % w)

/-- Write one element into an unscaled format (R143, R169, Table 3.5). Flags that earlier steps raised on a lane stay when the
write itself is masked off (R144, R253). -/
def Image.writeScalar (im : Image) (v : View) (merge : Bool) (n : Nat) (x : Cell) : Wrote :=
  let ix := ixOf v.shape n
  let z : Wrote := { own := n, ws := [], fl := 0, tap := none, nanBlk := false, sat := false }
  let F := (fmtOf v.fmt).getD .fp32
  if x.pad then { z with ws := im.putElem v ix 0 }
  else if !x.act then { z with ws := if merge then [] else im.putElem v ix 0, fl := x.fl }
  else
    match x.raw with
    | some (code, _) => { z with ws := im.putElem v ix code, fl := x.fl, tap := some (stored v.fmt code 0) }
    | none =>
      let (code, f) := convScalar F x.val
      { z with ws := im.putElem v ix code, fl := x.fl ||| f, tap := some (F.dec code) }

/-- Write one block (R86 to R88, R582): `ns` are the linear indices of its 64 elements, `given` the scale byte of R88. Codes
that an operation copies are written with their own scale where no inactive lane of the block keeps its value and every
element is copied. Every element of a NaN block has the NaN code, those of padding rows too (R87). -/
def State.writeBlk (s : State) (im : Image) (v : View) (merge : Bool) (ns : List Nat) (xs : List Cell) (given : Option Nat) :
    List Wrote :=
  let F := (fmtOf v.fmt).getD .fj8a
  let n0 := ns.headD 0
  let es := ns.zip xs
  let put := fun (n code : Nat) (scale : Nat) =>
    im.putElem v (ixOf v.shape n) code ++ (if n = n0 then im.putScale v (ixOf v.shape n) scale else [])
  let z : Wrote := { own := n0, ws := [], fl := 0, tap := none, nanBlk := false, sat := false }
  let kept := xs.any (fun x => merge && !x.act && !x.pad)
  let copied := (xs.find? (·.raw.isSome)).bind (·.raw)
  if xs.all (·.pad) then es.map (fun e => { z with ws := put e.1 0 0 })
  else
    match (if kept || xs.any (fun x => x.act && !x.pad && x.raw.isNone) then none else copied) with
    | some (_, scale) =>
      es.map (fun e =>
        let code := if e.2.pad || !e.2.act then 0 else (e.2.raw.getD (0, 0)).1
        { z with ws := put e.1 code scale, fl := e.2.fl,
                 tap := if e.2.pad || !e.2.act then none else some (stored v.fmt code scale),
                 nanBlk := e.1 = n0 && scale = 0xFF })
    | none =>
      let given := (copied.map (·.2)) <|> given
      let src := es.map (fun e =>
        if e.2.pad then Num.zero
        else if e.2.act then e.2.val
        else if merge then s.val im v (ixOf v.shape e.1) else Num.zero)
      if given = some 0xFF || src.any Num.bad then
        (es.zip src).map (fun e =>
          let live := e.1.2.act && !e.1.2.pad
          { z with ws := put e.1.1 F.nan 0xFF,
                   fl := e.1.2.fl ||| e.2.nf ||| (if given = some 0xFF && live then Fl.nonfinite else 0),
                   tap := if live then some .nan else none, nanBlk := e.1.1 = n0 })
      else
        let (b, cs) := writeBlock F given src
        (es.zip cs).map (fun e =>
          { z with ws := put e.1.1 e.2.1 b, fl := e.1.2.fl ||| e.2.2,
                   tap := if e.1.2.act && !e.1.2.pad then some (stored v.fmt e.2.1 b) else none,
                   sat := e.2.2 &&& Fl.saturate ≠ 0 })

/-- The blocks of a shape along an axis, as the linear indices of their elements. -/
def blocksOf (shape : List Nat) (axis : Nat) : List (List Nat) :=
  let stride := prod (shape.drop (axis + 1))
  let ext := shape.getD axis 64
  ((List.range (prod shape)).filter (fun n => n / stride % ext % 64 = 0)).map (fun n =>
    (List.range 64).map (fun j => n + j * stride))

/-- Write every element of an output view through its recipe, with the linear index of each. -/
def State.writeCells (s : State) (im : Image) (v : View) (merge : Bool) (given : Nat → Option Nat) (xs : Array Cell) :
    List (Nat × Wrote) :=
  match v.axis with
  | none => (List.range (prod v.shape)).map (fun n => (n, im.writeScalar v merge n (xs.getD n {})))
  | some a =>
    ((blocksOf v.shape a).map (fun ns =>
      ns.zip (s.writeBlk im v merge ns (ns.map (fun n => xs.getD n {})) (given (ns.headD 0))))).flatten

/-- A tile's share of an operation's results: its writes, flags, the lowest lane with a vote-failing flag, its taps, and
what the conversions count. -/
structure TileOut where
  ws : List ByteW := []
  fl : Nat := 0
  lane : Nat := 64
  taps : Tab NormAcc := []
  nan : Nat := 0
  sat : Nat := 0
deriving DecidableEq, Repr

/-- Flags of a lane join a tile's share. -/
def TileOut.flag (t : TileOut) (lane f : Nat) : TileOut :=
  { t with fl := t.fl ||| f, lane := if Fl.fails f then min t.lane lane else t.lane }

/-- Change the share of one tile. -/
def onTile (t : Tab TileOut) (k : Nat) (f : TileOut → TileOut) : Tab TileOut := t.set k (f (t.get k {}))

/-- A tap takes an element as an FP32 value (R150). -/
def tap32 (a : Num) : Nat := (Fmt.fp32.enc a).1

/-- An element joins a slot's partial accumulators. -/
def TileOut.tap (t : TileOut) (slots : List Nat) (w : Nat) : TileOut :=
  slots.foldl (fun t x => { t with taps := t.taps.set x ((t.taps.get x {}).plus (.one w)) }) t

/-- Results join the shares of their tiles: bytes with the tile that writes them, flags and taps with the element's own
tile and lane. -/
def addWrotes (place : Nat → Nat × Nat) (slots : List Nat) (t : Tab TileOut) (l : List (Nat × Wrote)) : Tab TileOut :=
  l.foldl (fun t e =>
    let w := e.2
    let (k, lane) := place e.1
    let t := onTile t (place w.own).1 (fun x => { x with ws := x.ws ++ w.ws, nan := x.nan + b2n w.nanBlk, sat := x.sat + b2n w.sat })
    if w.fl = 0 && w.tap.isNone then t
    else onTile t k (fun x =>
      let x := x.flag lane w.fl
      match w.tap with
      | some a => x.tap slots (tap32 a)
      | none => x)) t

/-- The slots that an operation's taps name for a source (Table 9.3). -/
def Op.tapSlots (o : Op) (src : Nat) : List Nat :=
  if Chk.isVec o.opcode then ((Chk.taps o).filter (fun x => x.1 = src)).map (·.2) else []

/-- What an operation gives: the share of every tile with work, the collector rows it leaves, the sum length of its
accumulator, the longest sum it reached with whether it passed 2^20 products and the rows that met the limit, its counts (by
object key, added), the views and indices it read, and what its tiles' predicate masks hold after it. -/
structure OpOut where
  tiles : Tab TileOut := []
  rows : Tab CRow := []
  lens : Option (Nat × SumLen) := none
  longest : Nat := 0
  beyond : Bool := false
  satRows : Nat := 0
  counts : List (Nat × Nat) := []
  reads : List (View × List Nat) := []
  masks : Tab (BitVec 256) := []
deriving DecidableEq, Repr

/-- Raise a warning at most once per step of a partition. -/
def State.oncePerStep (s : State) (p key step code : Nat) (a : EvArgs) : State :=
  let j := s.job p
  if j.once.contains (key, step) then s else (s.setJob p { j with once := (key, step) :: j.once }).raise code a

/-- Every index of a view, in linear order. -/
def View.all (v : View) : List (View × List Nat) := (List.range (prod v.shape)).map (fun n => (v, ixOf v.shape n))

end Sys2Proof.Machine
end

