-- ==== Sys2Proof/Machine/Mat.lean ====
section
/-! DEFINITION. Mat.lean: the matrix engine: pass sums, the collector with its rounding, and the results of MATMUL and
EMBED_GRAD (R100 to R126, R249 to R252). -/

namespace Sys2Proof.Machine

/-- A run of 64 elements as it enters the array (R82, R105, R106): in 4-bit and 8-bit modes its element values as
integers with the exponent of their unit, block scale included; in 16-bit mode its exact stored values. -/
structure KRun where
  nan : Bool
  ints : List Int
  exp : Int
  nums : List Num
  fl : Nat
deriving DecidableEq, Repr

/-- The run that 64 elements of a format make, in 16-bit mode or not (R82, R83, R106, R107). -/
def KRun.make (wide : Bool) (code : Nat) (es : List (Nat × Nat)) : KRun :=
  if wide then
    let vs := es.map (fun e => stored code e.1 e.2)
    let nan := vs.any Num.isNan
    { nan := nan, ints := [], exp := 0, nums := vs, fl := if nan then Fl.nonfinite else 0 }
  else
    let r := rebase code es
    let F := (fmtOf code).getD .fj8a
    { nan := r.nan, nums := [], exp := F.qmin + r.scale - 127, fl := r.flags,
      ints := r.codes.map (fun c => match F.dec c with | .fin n m e => sgn n (m * 2 ^ (e - F.qmin).toNat) | _ => 0) }

/-- round40: to nearest even with 41 significand bits and no exponent limit (R106). -/
def round40 : Num → Num
  | .fin n m e =>
    let l := bitLen m
    if l ≤ 41 then .fin n m e
    else
      let d := l - 41
      let lo := m / 2 ^ d
      let r := m % 2 ^ d
      .fin n (lo + b2n (2 ^ (d - 1) < r || (r = 2 ^ (d - 1) && lo % 2 = 1))) (e + d)
  | x => x

/-- The pass sum of one K-block: exact in 4-bit and 8-bit modes, summed in order with round40 in 16-bit mode; its flags
(R105, R106, R107). In 16-bit mode a NaN runs through the sum, beside what the other products raise. -/
def passSum (wide : Bool) (a b : KRun) : Num × Nat :=
  if !wide && (a.nan || b.nan) then (.nan, Fl.nonfinite)
  else if wide then
    (a.nums.zip b.nums).foldl (fun (z : Num × Nat) ab =>
      let q := ab.1.mul ab.2
      let y := z.1.add q.1
      (round40 y.1, z.2 ||| q.2 ||| ab.1.nf ||| ab.2.nf ||| y.2)) (.zero, 0)
  else
    let t := (a.ints.zip b.ints).foldl (fun (t : Int) ab => t + ab.1 * ab.2) 0
    (.fin (t < 0) t.natAbs (a.exp + b.exp), 0)

/-- SR of an exact value with a grist value (R117): pattern and flags. -/
def roundSr (g : Nat) (y : Num) : Nat × Nat :=
  match y with
  | .fin n m e =>
    if m = 0 then (Fmt.fp32.signed n 0, 0)
    else
      let F := Fmt.fp32
      let q := max (e + (bitLen m : Int) - 24) (-149)
      let d := (q - e).toNat
      let m' := if q ≤ e then m * 2 ^ (e - q).toNat else m
      let lo := m' / 2 ^ d
      let r := m' % 2 ^ d
      let t := r * 65536 / 2 ^ d
      let p := (q + 149).toNat * 2 ^ 23 + lo + b2n (g < t)
      if F.top < p then (F.signed n (F.top + 1), Fl.overflow + Fl.inexact)
      else (F.signed n p, (if r ≠ 0 then Fl.inexact else 0) + (if r ≠ 0 && F.tiny m e then Fl.underflow else 0))
  | x => Fmt.fp32.enc x

/-- One collector update (R110, R111): RNE, or SR with a grist value. -/
def colStep (g : Option Nat) (c : Nat) (x : Num × Nat) : Nat × Nat :=
  let y := (f32 c).add x.1
  if y.1.isZero then (0, x.2 ||| y.2)
  else
    let (w, f) := match g with
      | some g => roundSr g y.1
      | none => Fmt.fp32.enc y.1
    (w, f ||| x.2 ||| y.2)

/-- The grist value of output (i, j) at a pass of a step, under a stream key (R118). -/
def gristAt (keys : List (List Nat)) (step i j pass : Nat) : Nat :=
  let blk := [step % 2 ^ 32, i, j / 8, pass].map (fun w => [w % 256, w / 256 % 256, w / 65536 % 256, w / 16777216 % 256])
  let o := Aes.enc keys blk.flatten
  o.getD (2 * (j % 8)) 0 + 256 * o.getD (2 * (j % 8) + 1) 0

/-- The round keys of a stream of an image (R118). -/
def Image.streamKeys (im : Image) (stream : Nat) : List (List Nat) :=
  Aes.roundKeys ((toLE 16 (im.grist.get stream 0)).map BitVec.toNat)

/-- One pass of an operation (R101, R109, R112 to R114): its first K-block, how many it covers, its pass index, and whether
it rounds by SR, passes 2^20 products, or meets the sum limit. -/
structure PassI where
  b : Nat
  nb : Nat
  pass : Nat
  sr : Bool
  beyond : Bool
  sat : Bool
deriving DecidableEq, Repr

/-- The passes of an operation from a sum length on, with the sum length after them. A sum that met its limit takes no
more passes (R114). -/
def passesFrom (sr : Bool) : List (Nat × Nat) → SumLen → List PassI × SumLen
  | [], l => ([], l)
  | (b, nb) :: t, l =>
    if l.sat then ([], l)
    else if 2 ^ 26 ≤ l.blocks + nb then
      ([{ b := b, nb := nb, pass := l.pass, sr := false, beyond := false, sat := true }], { l with sat := true })
    else
      let n := l.blocks + nb
      let beyond := 2 ^ 14 < n
      let r := passesFrom sr t { l with blocks := n, pass := l.pass + 1 }
      ({ b := b, nb := nb, pass := l.pass, sr := sr || beyond, beyond := beyond, sat := false } :: r.1, r.2)

/-- The K-blocks of each pass (R101). -/
def passBlocks (pair : Bool) (nk : Nat) : List (Nat × Nat) :=
  if pair then (List.range ((nk + 1) / 2)).map (fun i => (2 * i, if 2 * i + 1 < nk then 2 else 1))
  else (List.range nk).map (fun i => (i, 1))

/-- The sum of one output over an operation's passes (R110, R251): entry and flags. `sum` gives a K-block's pass sum, none
for a null pass, which sets no flag. -/
def sumOutput (ps : List PassI) (sum : Nat → Option (Num × Nat)) (grist : Nat → Nat) (c0 : Nat × Nat) : Nat × Nat :=
  ps.foldl (fun (c : Nat × Nat) q =>
    if q.sat then (nan32, c.2 ||| Fl.sumsat)
    else
      match sum q.b with
      | none => c
      | some x =>
        let fl := c.2 ||| (if q.beyond then Fl.longsum else 0)
        let x := if q.nb = 2 then
            (match sum (q.b + 1) with
             | some y => let z := x.1.add y.1; (z.1, x.2 ||| y.2 ||| z.2)
             | none => x)
          else x
        let r := colStep (if q.sr then some (grist q.pass) else none) c.1 x
        (r.1, r.2 ||| fl)) c0

/-- Rows of each tile of an operation's grid, in tile order, with the columns it has. -/
def Op.regions (o : Op) (rows cols : Nat) : List (Nat × Nat × Nat) :=
  let h := max 1 (cdiv rows o.splitRows)
  (List.range (o.splitRows * o.splitCols)).map (fun k =>
    let a := k / max 1 o.splitCols
    (k, min rows ((a + 1) * h) - a * h, cols / max 1 o.splitCols))

/-- Stall cycles of the stationary reloads that a tile's chunks do not hide (R103, R250). -/
def stallCycles (chunk groups passes reload cpr rows : Nat) : Nat :=
  let one := fun r => if r = 0 then 0 else groups * passes * (reload - r * cpr)
  rows / max 1 chunk * one chunk + one (rows % max 1 chunk)

/-- The collector rows of an operation on its tiles (R108, R250), OPEN until its share completes (R125): the last row and column group
that used each of them. `val` gives an output's entry, `rows` are the rows that run, from row `base` of the output's `total`. A tile's rows
take its collector rows in order, modulo ROW_CHUNK, and every second chunk of a double-buffered operation those ROW_CHUNK
higher (DESIGN CHOICE, log entry 131: the spec numbers no collector row for an output row). -/
def leftRows (c : OpCtx) (total base rows cols chunk : Nat) (db : Bool) (val : Nat → Nat → Nat) (r0 : CRow) : Tab CRow :=
  let ts := c.im.tiles c.sheaf
  let h := max 1 (cdiv total c.op.splitRows)
  let w := max 64 (cols / max 1 c.op.splitCols)
  (List.range rows).foldl (fun t i =>
    (List.range c.op.splitCols).foldl (fun t b =>
      let lr := (base + i) % h
      let slot := lr % chunk + (if db then lr / chunk % 2 * chunk else 0)
      t.set (ts.getD ((base + i) / h * c.op.splitCols + b) 0 * 512 + slot)
        { r0 with entries := (List.range 64).map (fun q => val i ((b + 1) * w - 64 + q)) }) t) []

/-- Counts common to the matrix operations (Table 4.8). `issued` is the number of row passes that ran. -/
def matCounts (p issued issuedSr rows groups : Nat) (ps : List PassI) (first over0 : Bool) (stall : Nat) : List (Nat × Nat) :=
  [ (O.at O.ROW_PASSES p, issued), (O.at O.ROW_PASSES_SR p, issuedSr), (O.at O.GRIST_BLOCKS p, 8 * issuedSr),
    (O.at O.LONGSUM_ROWS p, if first && ps.any (·.beyond) && !over0 then rows * groups else 0),
    (O.at O.SUMSAT_ROWS p, if ps.any (·.sat) then rows * groups else 0),
    (O.at O.STATIONARY_STALL_CYCLES p, stall), (O.at O.EPILOGUE_ROWS p, rows * groups) ]

/-- Whether a tensor's outputs carry the long-sum mark (R112, Table 8.6). -/
def Image.longSum (im : Image) (t : Nat) : Bool := bit (im.tflags t) 0 || im.recipe t = 0x31

/-- Where a sum starts (R109): the sum length of an accumulating operation's tensor, or an opened one. -/
def State.sumStart (s : State) (c : OpCtx) : SumLen :=
  if bit c.op.flags 0 then { (s.job c.p).sums.get c.op.out {} with saved := none } else {}

/-- The index of row i and column j of C with its leading axes. -/
def rowIx (shape : List Nat) (i j : Nat) : List Nat := ixOf shape (i * Chk.colsOf shape + j)

/-- An index with its last two coordinates swapped. -/
def swapIx (b : Bool) (ix : List Nat) : List Nat := if b then Chk.swap ix else ix

/-- The operation whose stream, long-sum mark and threshold a MATMUL takes: the one that TRANSPOSE_OF names, else itself (R123). -/
def Image.transposeOf (im : Image) (o : Op) : Op :=
  if Chk.at' o 16 2 = 0xFFFF then o else ((im.lists[Chk.at' o 16 2]?).bind (fun l => l.ops[Chk.at' o 18 2]?)).getD o

/-- A tensor has a sum-length record (R109): it is an accumulator, or some operation of the image accumulates into it. -/
def Image.summed (im : Image) (t : Nat) : Bool :=
  im.recipe t = 0x31 || im.lists.any (fun l => l.ops.any (fun o => Chk.isMat o && bit o.flags 0 && o.out = t))

/-- MATMUL (R249): the shares of its tiles. A run that changes as it is rebased counts once for the operation, however often the
array streams it (DESIGN CHOICE, log entry 132). -/
def State.matmul (s : State) (c : OpCtx) : OpOut :=
  let o := c.op
  let im := c.im
  let va := s.opIn c 0
  let vb := s.opIn c 1
  let vv := s.opIn c 2
  let vc := s.opIn c 3
  let (sa, sb, sc) := Chk.matShapes im o
  let swA := Chk.at' o 8 1 = 1
  let swB := Chk.at' o 9 1 = 1
  let k := Chk.colsOf sa
  let m := sc.getD (sc.length - 2) 1
  let n := Chk.colsOf sc
  let rows := Chk.rowsOf sc
  let groups := n / 64
  let wide := va.fmt = 4 || vb.fmt = 4
  let pair := va.fmt = 1 && vb.fmt = 1
  let nk := k / 64
  let co := c.im.transposeOf o
  let mark := im.longSum co.out
  let th := Chk.at' co 12 4
  let long := mark || (th ≠ 0 && th < k)
  let l0 := s.sumStart c
  let (ps, l1) := passesFrom long (passBlocks pair nk) l0
  let aRuns : Array KRun := ((List.range (rows * nk)).map (fun x =>
    let lead := (rowIx sc (x / nk) 0).dropLast
    KRun.make wide va.fmt ((List.range 64).map (fun q => s.elem im va (swapIx swA (lead ++ [x % nk * 64 + q])))))).toArray
  let shared := sb.length < sc.length
  let nb := if shared then 1 else rows / max 1 m
  let bRuns : Array KRun := ((List.range (nb * n * nk)).map (fun x =>
    let j := x / nk % n
    let lead := if shared then [] else (rowIx sc (x / nk / n * m) 0).take (sc.length - 2)
    KRun.make wide vb.fmt ((List.range 64).map (fun q => s.elem im vb (swapIx swB (lead ++ [x % nk * 64 + q, j])))))).toArray
  let z : KRun := { nan := false, ints := [], exp := 0, nums := [], fl := 0 }
  let aRun := fun i b => aRuns.getD (i * nk + b) z
  let bRun := fun i j b => bRuns.getD (((if shared then 0 else i / max 1 m) * n + j) * nk + b) z
  let tr := Chk.at' o 16 2 ≠ 0xFFFF
  let keys := im.streamKeys co.stream
  let grist := fun i j q => if tr then gristAt keys c.step (i / max 1 m * n + j) (i % max 1 m) q else gristAt keys c.step i j q
  let acc := bit o.flags 0
  let entries : Array (Nat × Nat) := ((List.range (rows * n)).map (fun x =>
    let i := x / n
    let j := x % n
    let c0 := if acc then (s.elem im vc (rowIx sc i j)).1 else 0
    let f0 := (List.range nk).foldl (fun f b => f ||| (aRun i b).fl ||| (bRun i j b).fl) ((f32 c0).nf)
    sumOutput ps (fun b => some (passSum wide (aRun i b) (bRun i j b))) (grist i j) (c0, f0))).toArray
  let epi := Chk.at' o 10 1
  let vIx := fun (i j : Nat) =>
    match Chk.at' o 11 1 with
    | 0 => rowIx sc i j
    | 1 => [j]
    | 2 => [i]
    | _ => [0]
  let cells : Array Cell := ((List.range (rows * n)).map (fun x =>
    let i := x / n
    let j := x % n
    let e := entries.getD x (0, 0)
    let pad := c.padAt sc (rowIx sc i j)
    if pad then { pad := true }
    else if epi = 0 then { val := f32 e.1, fl := e.2 }
    else
      let num := s.val im vv (vIx i j)
      let (w, fw) := convScalar .fp32 num
      let y := if epi = 1 then (f32 e.1).add (f32 w) else (f32 e.1).mul (f32 w)
      let (zw, zf) := Fmt.fp32.enc y.1
      { val := f32 (if epi = 1 && y.1.isZero then 0 else zw), fl := e.2 ||| fw ||| y.2 ||| zf })).toArray
  let outs := s.writeCells im vc false (fun _ => none) cells
  let reload := if wide then 128 else 64
  let cpr := if wide then 4 else 1
  let chunk := max 1 (Chk.at' o 20 2)
  let stall := ((o.regions rows n).map (fun r => stallCycles chunk (r.2.2 / 64) ps.length reload cpr r.2.1)).foldl (· + ·) 0
  let live := (ps.filter (fun q => !q.sat)).length
  let liveSr := (ps.filter (fun q => q.sr)).length
  let inexact := ((aRuns.toList ++ bRuns.toList).filter (fun r => r.fl &&& Fl.inexact ≠ 0)).length
  let r0 : CRow :=
    { blocks := l1.blocks, pass := l1.pass, kop := nk, stream := o.stream,
      flags := 16 * b2n c.tagged + 8 * b2n l1.sat + 4 * b2n ((ps.getLast?.map (·.sr)).getD false) + 2 * b2n mark + 1 }
  { tiles := addWrotes (o.placeLin sc) [] [] outs,
    rows := leftRows c rows 0 rows n chunk (Chk.at' o 22 1 = 1) (fun i j => (entries.getD (i * n + j) (0, 0)).1) r0,
    lens := if im.summed o.out then some (o.out, l1) else none,
    longest := l1.blocks, beyond := ps.any (·.beyond), satRows := if ps.any (·.sat) then rows * groups else 0,
    counts := matCounts c.p (rows * groups * live) (rows * groups * liveSr) rows groups ps true (2 ^ 14 < l0.blocks) stall ++
      [(O.at O.REBASED_RUNS_INEXACT c.p, inexact)],
    reads := va.all ++ vb.all ++ (if epi = 0 then [] else vv.all) ++ (if acc then vc.all else []) }

/-- The events and the longest sum of a matrix operation (R113, R114, Table 4.8). -/
def State.matEvents (s : State) (c : OpCtx) (blocks rows : Nat) (beyond sat : Bool) : State :=
  let s := s.put (O.at O.LONGEST_SUM_BLOCKS c.p) (max (s.obj (O.at O.LONGEST_SUM_BLOCKS c.p)) blocks)
  let a : EvArgs := { part := c.p, kind := 0, subj := c.oi }
  let s := if beyond then s.oncePerStep c.p (2 ^ 60 + c.li * 65536 + c.oi) c.step 0x1601 a else s
  if sat then (List.range rows).foldl (fun s _ => s.raise 0x3602 a) s else s

/-- Cut a list of rows into chunks. -/
def cutRows (chunk : Nat) : Nat → List Nat → List (List Nat)
  | 0, _ => []
  | f + 1, l => if l.isEmpty then [] else l.take chunk :: cutRows chunk f (l.drop chunk)

/-- EMBED_GRAD (R251, R252): the shares of its tiles, and how many valid rows hold an index at or above V. A stationary block
streams only the rows that have a match in it, and waits where they do not hide the next block's load (R103). -/
def State.embedGrad (s : State) (c : OpCtx) : OpOut × Nat :=
  let o := c.op
  let im := c.im
  let vi := s.opIn c 0
  let vy := s.opIn c 1
  let vc := s.opIn c 3
  let t := vi.shape.getD 0 0
  let n := Chk.colsOf vc.shape
  let v := vc.shape.getD 0 0
  let base := Chk.at' o 8 4
  let rows := Chk.at' o 12 4
  let groups := n / 64
  let wide := vy.fmt = 4
  let nk := t / 64
  let padIx := if t = im.stage.grainRows then c.valid else t
  let ixs : Array (Option Nat) := ((List.range t).map (fun i => if padIx ≤ i then none else some (s.elem im vi [i]).1)).toArray
  let hit := fun (i r : Nat) => decide ((ixs.getD i none) = some r)
  let l0 := s.sumStart c
  let (ps, l1) := passesFrom true (passBlocks false nk) l0
  let bRuns : Array KRun := ((List.range (n * nk)).map (fun x =>
    KRun.make wide vy.fmt ((List.range 64).map (fun q => s.elem im vy [x % nk * 64 + q, x / nk])))).toArray
  let z : KRun := { nan := false, ints := [], exp := 0, nums := [], fl := 0 }
  let bRun := fun j b => bRuns.getD (j * nk + b) z
  let some' := fun r b => (List.range 64).any (fun q => hit (b * 64 + q) r)
  let aRun := fun r b : Nat =>
    let h : List Bool := (List.range 64).map (fun q => hit (b * 64 + q) r)
    ({ nan := false, ints := h.map (fun x => if x then 1 else 0), exp := 0,
       nums := h.map (fun x => .fin false (b2n x) 0), fl := 0 } : KRun)
  let keys := im.streamKeys o.stream
  let acc := bit o.flags 0
  let entries : Array (Nat × Nat) := ((List.range (rows * n)).map (fun x =>
    let r := base + x / n
    let j := x % n
    let c0 := if acc then (s.elem im vc [r, j]).1 else 0
    let f0 := (List.range nk).foldl (fun f b => if some' r b then f ||| (bRun j b).fl else f) ((f32 c0).nf)
    sumOutput ps (fun b => if some' r b then some (passSum wide (aRun r b) (bRun j b)) else none) (gristAt keys c.step r j)
      (c0, f0))).toArray
  let place := o.place [v, n]
  let outs := (List.range (rows * n)).map (fun x =>
    let e := entries.getD x (0, 0)
    (x, im.writeScalar { vc with shape := vc.shape } false ((base * n) + x) { val := f32 e.1, fl := e.2 }))
  let outs := outs.map (fun e => (e.1, { e.2 with own := e.1 }))
  let live := ps.filter (fun q => !q.sat)
  let issued := ((List.range rows).map (fun r => (live.filter (fun q => some' (base + r) q.b)).length)).foldl (· + ·) 0 * groups
  let skipped := rows * groups * live.length - issued
  let beyond := ((List.range t).filter (fun i => match ixs.getD i none with | some x => v ≤ x | none => false)).length
  let chunk := max 1 (Chk.at' o 16 2)
  let r0 : CRow :=
    { blocks := l1.blocks, pass := l1.pass, kop := nk, stream := o.stream, flags := 16 * b2n c.tagged + 8 * b2n l1.sat + 7 }
  let inexact := (bRuns.toList.zipIdx.filter (fun r => r.1.fl &&& Fl.inexact ≠ 0 &&
    (List.range rows).any (fun i => some' (base + i) (r.2 % nk)))).length
  let tiles := addWrotes (fun x => place (base + x / n) (x % n)) [] [] outs
  let h := max 1 (cdiv v o.splitRows)
  let reload := if wide then 128 else 64
  let cpr := if wide then 4 else 1
  let stall := (List.range o.splitRows).map (fun a =>
    let mine := ((List.range rows).map (base + ·)).filter (fun r => r / h = a)
    ((cutRows chunk mine.length mine).map (fun rs =>
      (live.map (fun q =>
        let k := (rs.filter (fun r => some' r q.b)).length
        if k = 0 then 0 else reload - k * cpr)).foldl (· + ·) 0)).foldl (· + ·) 0)
  let stall := groups * stall.foldl (· + ·) 0
  ({ tiles := if beyond = 0 then tiles else onTile tiles 0 (fun x => x.flag 0 Fl.invalid),
     rows := leftRows c v base rows n chunk false (fun i j => (entries.getD (i * n + j) (0, 0)).1) r0,
     lens := some (o.out, l1), longest := l1.blocks, beyond := ps.any (·.beyond),
     satRows := if ps.any (·.sat) then rows * groups else 0,
     counts := matCounts c.p issued issued rows groups ps true (2 ^ 14 < l0.blocks) stall ++
       [(O.at O.REBASED_RUNS_INEXACT c.p, inexact), (O.at O.INDEX_RANGE_ROWS c.p, beyond), (O.at O.EMBED_PASSES_ISSUED c.p, issued),
        (O.at O.EMBED_PASSES_SKIPPED c.p, skipped)],
     reads := vi.all ++ vy.all ++ (if acc then (List.range (rows * n)).map (fun x => (vc, [base + x / n, x % n])) else []) }, beyond)

end Sys2Proof.Machine
end

