-- ==== Sys2Proof/Machine/Func.lean ====
section
/-! DEFINITION. Func.lean: the correctly rounded functions EXP, EXP2, LOG, LOG2, TANH, SIGMOID and ERF (R137, Table
5.2). Each is evaluated in fixed point to 256 fraction bits and rounded once to FP32; a last bit marks a value that is
not exact (log entry 21: no FP32 input lies closer to a rounding boundary than this evaluation resolves). -/

namespace Sys2Proof.Machine.Fun

/-- One in fixed point. -/
abbrev one : Nat := 2 ^ 256

/-- Sum of z^(2k+1)/(2k+1), the inverse hyperbolic tangent, from power p onward. -/
def atanhN : Nat → Int → Int → Nat → Int
  | 0, _, _, _ => 0
  | n + 1, z2, p, k => p / (k : Int) + atanhN n z2 (p * z2 / (one : Int)) (k + 2)

/-- Inverse hyperbolic tangent of a fixed-point value of magnitude at most one third. -/
def atanh (z : Int) : Int := atanhN 90 (z * z / (one : Int)) z 1

/-- The natural logarithm of two. -/
def ln2 : Nat := (2 * atanh (one / 3 : Nat)).toNat

/-- Sum of alternating z^(2k+1)/(2k+1), the arctangent, from power p onward. -/
def atanN : Nat → Int → Int → Nat → Int
  | 0, _, _, _ => 0
  | n + 1, z2, p, k => p / (k : Int) - atanN n z2 (p * z2 / (one : Int)) (k + 2)

/-- Arctangent of one over q. -/
def atanInv (q : Nat) : Int := atanN 70 ((one / (q * q) : Nat) : Int) ((one / q : Nat) : Int) 1

/-- The circle constant. -/
def pi : Nat := (16 * atanInv 5 - 4 * atanInv 239).toNat

/-- The square root of the circle constant. -/
def sqrtPi : Nat := isqrt (pi * one)

/-- The exponential series from a term onward. -/
def expN : Nat → Nat → Nat → Nat → Nat
  | 0, _, _, _ => 0
  | n + 1, r, t, k => t + expN n r (t * r / one / k) (k + 1)

/-- e^r for a fixed-point r below one. -/
def expFix (r : Nat) : Nat := expN 70 r one 1

/-- e^X for a fixed-point X: mantissa and exponent. -/
def expX (x : Int) : Nat × Int :=
  let k := x / (ln2 : Int)
  (expFix (x - k * ln2).toNat, k - 256)

/-- A value a little above or below one. -/
def nearOne (below : Bool) (e : Int) : Num := .fin false (if below then 2 ^ 60 - 1 else 2 ^ 60 + 1) (e - 60)

/-- Whether a magnitude is at least 2^k. -/
def geP (m : Nat) (e k : Int) : Bool := k < (bitLen m : Int) + e

/-- A magnitude in fixed point. -/
def fix (m : Nat) (e : Int) : Nat := if 0 ≤ e + 256 then m * 2 ^ (e + 256).toNat else m / 2 ^ (-(e + 256)).toNat

/-- A value with a mark that it is not exact. -/
def inx (neg : Bool) (m : Nat) (e : Int) : Num := .fin neg (2 * m + 1) (e - 1)

/-- e^x of a finite x. -/
def expF (n : Bool) (m : Nat) (e : Int) : Num :=
  if m = 0 then .fin false 1 0
  else if geP m e 8 then (if n then .fin false 1 (-400) else .fin false 1 400)
  else if !geP m e (-40) then nearOne n 0
  else
    let (v, k) := expX (sgn n (fix m e))
    inx false v k

/-- 2^x of a finite x. -/
def exp2F (n : Bool) (m : Nat) (e : Int) : Num :=
  if m = 0 then .fin false 1 0
  else if geP m e 9 then (if n then .fin false 1 (-400) else .fin false 1 400)
  else if !geP m e (-40) then nearOne n 0
  else
    let x := sgn n (fix m e)
    let k := x / (one : Int)
    let f := (x % (one : Int)).toNat
    if f = 0 then .fin false 1 k else inx false (expFix (f * ln2 / one)) (k - 256)

/-- The parts of a positive value: exponent and a mantissa in fixed point from three quarters to one and a half. -/
def split (m : Nat) (e : Int) : Int × Nat :=
  let l := bitLen m
  let y := m * one / 2 ^ (l - 1)
  if 3 * one ≤ 2 * y then (e + l, y / 2) else (e + l - 1, y)

/-- The logarithm of a mantissa near one. -/
def logFix (y : Nat) : Int := 2 * atanh (((y : Int) - one) * one / ((y + one : Nat) : Int))

/-- A signed fixed-point value that is not exact. -/
def inxI (x : Int) : Num := inx (x < 0) x.natAbs (-256)

/-- The natural logarithm of a positive value. -/
def logF (m : Nat) (e : Int) : Num :=
  let (k, y) := split m e
  if y = one && k = 0 then .fin false 0 0 else inxI (k * ln2 + logFix y)

/-- The binary logarithm of a positive value. -/
def log2F (m : Nat) (e : Int) : Num :=
  let (k, y) := split m e
  if y = one then .fin (k < 0) k.natAbs 0 else inxI (k * (one : Int) + logFix y * (one : Int) / (ln2 : Int))

/-- tanh of a finite x. -/
def tanhF (n : Bool) (m : Nat) (e : Int) : Num :=
  if m = 0 then .fin n 0 0
  else if geP m e 5 then .fin n (2 ^ 60 - 1) (-60)
  else if !geP m e (-20) then .fin n (m * 2 ^ 60 - 1) (e - 60)
  else
    let (v, k) := expX (-(2 * fix m e : Nat))
    let t := v / 2 ^ (-(k + 256)).toNat
    inx n ((one - t) * one / (one + t)) (-256)

/-- The logistic function of a finite x. -/
def sigF (n : Bool) (m : Nat) (e : Int) : Num :=
  if m = 0 then .fin false 1 (-1)
  else if geP m e 8 then (if n then .fin false 1 (-400) else .fin false (2 ^ 60 - 1) (-60))
  else if !geP m e (-40) then nearOne n (-1)
  else
    let (v, k) := expX (-(fix m e : Nat))
    let t := v / 2 ^ (-(k + 256)).toNat
    let (q, x) := if n then quot (v * one) (k - 256) (one + t) (-256) else quot (one * one) (-512) (one + t) (-256)
    inx false q x

/-- The error-function series from a term onward. -/
def erfN : Nat → Nat → Nat → Nat → Int
  | 0, _, _, _ => 0
  | n + 1, s, t, k => (t / (2 * k + 1) : Nat) - erfN n s (t * s / one / (k + 1)) (k + 1)

/-- erf of a finite x. -/
def erfF (n : Bool) (m : Nat) (e : Int) : Num :=
  if m = 0 then .fin n 0 0
  else if geP m e 3 || 9 * one ≤ 2 * fix m e then .fin n (2 ^ 60 - 1) (-60)
  else
    let s := if geP m e (-130) then fix m e * fix m e / one else 0
    let (q, x) := quot (2 * m * (erfN 170 s one 0).toNat) (e - 256) sqrtPi (-256)
    inx n q x

/-- EXP with its special cases. -/
def exp : Num → Num × Nat
  | .nan => (.nan, 0)
  | .inf n => (if n then .zero else .inf false, 0)
  | .fin n m e => (expF n m e, 0)
/-- EXP2. -/
def exp2 : Num → Num × Nat
  | .nan => (.nan, 0)
  | .inf n => (if n then .zero else .inf false, 0)
  | .fin n m e => (exp2F n m e, 0)
/-- LOG. -/
def log : Num → Num × Nat
  | .nan => (.nan, 0)
  | .inf n => if n then (.nan, Fl.invalid) else (.inf false, 0)
  | .fin n m e => if m = 0 then (.inf true, Fl.divzero) else if n then (.nan, Fl.invalid) else (logF m e, 0)
/-- LOG2. -/
def log2 : Num → Num × Nat
  | .nan => (.nan, 0)
  | .inf n => if n then (.nan, Fl.invalid) else (.inf false, 0)
  | .fin n m e => if m = 0 then (.inf true, Fl.divzero) else if n then (.nan, Fl.invalid) else (log2F m e, 0)
/-- TANH. -/
def tanh : Num → Num × Nat
  | .nan => (.nan, 0)
  | .inf n => (.fin n 1 0, 0)
  | .fin n m e => (tanhF n m e, 0)
/-- SIGMOID. -/
def sigmoid : Num → Num × Nat
  | .nan => (.nan, 0)
  | .inf n => (if n then .zero else .fin false 1 0, 0)
  | .fin n m e => (sigF n m e, 0)
/-- ERF. -/
def erf : Num → Num × Nat
  | .nan => (.nan, 0)
  | .inf n => (.fin n 1 0, 0)
  | .fin n m e => (erfF n m e, 0)

end Sys2Proof.Machine.Fun

namespace Sys2Proof.Machine

/-- A function of one FP32 pattern. -/
def V.fn (f : Num → Num × Nat) (a : Nat) : Nat × Nat := rnd (f (f32 a)) (f32 a).nf

end Sys2Proof.Machine
end

