-- ==== Sys2Proof/Machine/Vec.lean ====
section
/-! DEFINITION. Vec.lean: the vector engine: chains, row-wise operations, reductions, gathers, casts and the loss seed
(R131 to R143, R247 to R261). -/

namespace Sys2Proof.Machine

/-- A value on its way through an operation, with the flags raised so far. -/
abbrev FV := Num × Nat

/-- One rounding to a format, with the flags of the operands read (R135, R136). -/
def FV.round (F : Fmt) (r : Num × Nat) (fl : Nat) : FV :=
  let (w, f) := F.enc r.1
  (F.dec w, f ||| r.2 ||| fl)

/-- An operation of one operand. -/
def FV.op1 (F : Fmt) (f : Num → Num × Nat) (a : FV) : FV := FV.round F (f a.1) (a.1.nf ||| a.2)
/-- An operation of two operands. -/
def FV.op2 (F : Fmt) (f : Num → Num → Num × Nat) (a b : FV) : FV := FV.round F (f a.1 b.1) (a.1.nf ||| b.1.nf ||| a.2 ||| b.2)
/-- An operation of three operands. -/
def FV.op3 (F : Fmt) (f : Num → Num → Num → Num × Nat) (a b c : FV) : FV :=
  FV.round F (f a.1 b.1 c.1) (a.1.nf ||| b.1.nf ||| c.1.nf ||| a.2 ||| b.2 ||| c.2)

/-- FP32 ADD. -/
def FV.add : FV → FV → FV := FV.op2 .fp32 Num.add
/-- FP32 SUB. -/
def FV.sub : FV → FV → FV := FV.op2 .fp32 (fun a b => a.add b.neg)
/-- FP32 MUL. -/
def FV.mul : FV → FV → FV := FV.op2 .fp32 Num.mul
/-- FP32 FMA. -/
def FV.fma : FV → FV → FV → FV := FV.op3 .fp32 Num.fma
/-- ADD_W48: a in W48, b in FP32, rounded once to 39 fraction bits (R138). -/
def FV.addW48 : FV → FV → FV := FV.op2 .w48 Num.add
/-- FMA_W48: a × b + c, with a and b in FP32 and c in W48, rounded once to 39 fraction bits (R138). -/
def FV.fmaW48 : FV → FV → FV → FV := FV.op3 .w48 Num.fma
/-- RECIP. -/
def FV.recip : FV → FV := FV.op1 .fp32 (fun a => (Num.fin false 1 0).div a)
/-- RSQRT. -/
def FV.rsqrt : FV → FV := FV.op1 .fp32 Num.rsqrt
/-- EXP. -/
def FV.exp : FV → FV := FV.op1 .fp32 Fun.exp
/-- LOG. -/
def FV.log : FV → FV := FV.op1 .fp32 Fun.log

/-- A constant of an attribute, as an FP32 pattern. -/
def FV.const (w : Nat) : FV := (f32 w, 0)

/-- The exact sum of values, whatever their order (R139): NaN first, then opposite infinities. -/
def exactSum (vs : List Num) : Num × Nat :=
  if vs.any Num.isNan then (.nan, 0)
  else
    let infs := vs.filter Num.bad
    match infs with
    | [] => (vs.foldl (fun a v => (a.add v).1) .zero, 0)
    | x :: t => if t.any (fun y => y.sign != x.sign) then (.nan, Fl.invalid) else (x, 0)

/-- Cut a list into rows of 64. -/
def rows64 {α : Type} : Nat → List α → List (List α)
  | 0, _ => []
  | n + 1, l => if l.isEmpty then [] else l.take 64 :: rows64 n (l.drop 64)

/-- ROW_SUM of a logical row; an inactive lane is none (R139). -/
def rowSum (xs : List (Option FV)) : FV :=
  (rows64 (xs.length / 64 + 1) xs).foldl (fun (t : FV) r =>
    let vs := r.filterMap id
    let e := exactSum (vs.map (·.1))
    FV.round .fp32 ((t.1.add e.1).1, (t.1.add e.1).2 ||| e.2) (t.2 ||| vs.foldl (fun f v => f ||| v.2 ||| v.1.nf) 0)) (.zero, 0)

/-- ROW_MAX or ROW_MIN of a logical row (R139). -/
def rowMax (mx : Bool) (xs : List (Option FV)) : FV :=
  let vs := xs.filterMap id
  FV.round .fp32 (vs.foldl (fun (a : Num) v => a.minMax mx v.1) (.inf mx), 0) (vs.foldl (fun f v => f ||| v.2 ||| v.1.nf) 0)

/-- The index of a broadcast operand (R248). -/
def bcast (shape ix : List Nat) : List Nat := (shape.zip ix).map (fun p => if p.1 = 1 then 0 else p.2)

/-- The mask generated for an element of the iterated shape (R247, Table 9.3). -/
def Op.active (o : Op) (ix : List Nat) : Bool :=
  let gen := Chk.at' o 8 1
  let j := ix.getLastD 0
  let i := if ix.length < 2 then 0 else ix.getD (ix.length - 2) 0
  (!bit gen 0 || (j : Int) ≤ (i : Int) + toInt 32 (Chk.at' o 12 4)) && (!bit gen 1 || j < Chk.at' o 16 4)

/-- The mask of an element of the shape that an operation iterates: a REDUCE_ROW has a rank-1 OUT, so i is 0, and j is the
element's place in its logical row (R247, log entry 40). -/
def Op.activeAt (o : Op) (ix : List Nat) : Bool := o.active (if o.opcode = 0x0301 then [ix.getLastD 0] else ix)

/-! ### Predicate masks (R141) -/

/-- The operations of the mask unit. -/
inductive MaskOp where
  | and
  | or
  | xor
  | andn
  | not
  | setAll
  | clear
  | firstN
deriving DecidableEq, Repr

/-- What a mask operation gives (R141): ANDN keeps the bits of its first mask that the second does not have, and FIRST_N
sets bits 0 to n - 1 and clears the others. -/
def MaskOp.run (m : MaskOp) (a b : BitVec 256) (n : Nat) : BitVec 256 :=
  match m with
  | .and => a &&& b
  | .or => a ||| b
  | .xor => a ^^^ b
  | .andn => a &&& ~~~b
  | .not => ~~~a
  | .setAll => BitVec.allOnes 256
  | .clear => 0#256
  | .firstN => BitVec.ofNat 256 (2 ^ min n 256 - 1)

/-! ### Chains -/

/-- The lanes of one element of a chain: scratch operands, each with the scale byte its code came with in packed 8-bit
mode, predicate bits, and what OUT takes. -/
structure Lane where
  scratch : Tab (Num × Nat × Nat) := []
  masks : Nat := 0
  out : Option (Num × Nat × Nat) := none
  fl : Nat := 0
deriving DecidableEq, Repr

/-- CLASSIFY on a value, in FP32 and packed 16-bit modes, whose smallest normal values are equal (R142). -/
def classify (test : Nat) (a : Num) : Bool :=
  match test with
  | 0 => a.isNan
  | 1 => a.bad && !a.isNan
  | 2 => !a.bad
  | 3 => a.isZero
  | 4 => (match a with | .fin _ m e => Fmt.fp32.tiny m e | _ => false)
  | _ => a.sign && !a.isNan

/-- CLASSIFY and the sign compares on a code of packed 8-bit mode (R140). -/
def classify8 (fmt vop test code scale : Nat) : Bool :=
  let nan := code = 0x80 || scale = 0xFF
  let zero := code % 128 = 0
  if vop = 0x17 then !nan && code < 0x80 && !zero
  else if vop = 0x18 then !nan && 0x80 < code
  else if vop = 0x19 then !nan && zero
  else
    match test with
    | 0 => nan
    | 1 => false
    | 2 => !nan
    | 3 => !nan && zero
    | 4 => !nan && !zero && code % 128 < (if fmt = 2 then 8 else 4)
    | _ => !nan && 0x80 < code

/-- A compare (R142). -/
def compare (vop : Nat) (a b : Num) : Bool :=
  match vop with
  | 0x10 => a.eqv b
  | 0x11 => !a.eqv b
  | 0x12 => a.lt b
  | 0x13 => a.lt b || a.eqv b
  | 0x14 => b.lt a
  | _ => b.lt a || a.eqv b

/-- An arithmetic step of a chain (Table 9.9), rounded once to the mode's format (R135). -/
def stepVal (F : Fmt) (vop arg : Nat) (x y z : Num) : FV :=
  let one := fun f => FV.op1 F f (x, 0)
  let two := fun f => FV.op2 F f (x, 0) (y, 0)
  match vop with
  | 0x01 => two Num.add
  | 0x02 => two (fun a b => a.add b.neg)
  | 0x03 => two Num.mul
  | 0x04 => FV.op3 F Num.fma (x, 0) (y, 0) (z, 0)
  | 0x05 => two (fun a b => (a.minMax false b, 0))
  | 0x06 => two (fun a b => (a.minMax true b, 0))
  | 0x07 => one (fun a => (a.abs, 0))
  | 0x08 => one (fun a => (a.neg, 0))
  | 0x0B => one (fun a => (a.scale (toInt 8 arg), 0))
  | 0x30 => one Fun.exp2
  | 0x31 => one Fun.log2
  | 0x32 => one (fun a => (Num.fin false 1 0).div a)
  | 0x33 => two Num.div
  | 0x34 => one Num.sqrt
  | 0x35 => one Num.rsqrt
  | 0x36 => one Fun.exp
  | 0x37 => one Fun.log
  | 0x38 => one Fun.tanh
  | 0x39 => one Fun.sigmoid
  | 0x3A => one Fun.erf
  | _ => one (fun a => (a, 0))

/-- A step on the code of an element in packed 8-bit mode (R140): the code and its flags. -/
def step8 (vop code scale : Nat) : Nat × Nat :=
  let fl := if code = 0x80 || scale = 0xFF then Fl.nonfinite else 0
  match vop with
  | 0x07 => (if code = 0x80 then 0x80 else code % 128, fl)
  | 0x08 => (if code % 128 = 0 then code else if code < 128 then code + 128 else code - 128, fl)
  | _ => (code, fl)

/-- One step of a chain on one element (R253). `ins` are the inputs: value, code and scale byte. -/
def chainStep (o : Op) (mode fmt : Nat) (zero gen : Bool) (ins : List (Num × Nat × Nat)) (l : Lane) (t : Chk.Step) : Lane :=
  let F := if mode = 1 then Fmt.fj16 else Fmt.fp32
  let act := gen && (t.mask = 0xFF || bit l.masks (t.mask - 0x20))
  let src := fun (c : Nat) =>
    if c ≤ 2 then ins.getD c (.zero, 0, 0)
    else if 8 ≤ c && c ≤ 0xF then l.scratch.get c (.zero, 0, 0)
    else if 0x10 ≤ c && c ≤ 0x17 then (f32 (Chk.at' o (40 + 4 * (c - 0x10)) 4), 0, 0)
    else (.zero, 0, 0)
  if Chk.toMask t.vop then
    let a := src t.s0
    let b :=
      if mode = 2 then classify8 fmt t.vop t.arg a.2.1 a.2.2
      else if t.vop = 0x16 then classify t.arg a.1
      else compare t.vop a.1 (src t.s1).1
    if act then { l with masks := setBit l.masks (t.dst - 0x20) b }
    else if zero then { l with masks := setBit l.masks (t.dst - 0x20) false }
    else l
  else
    let put := fun (l : Lane) (v : Num × Nat × Nat) =>
      if t.dst = 0x18 then { l with out := some v } else { l with scratch := l.scratch.set t.dst v }
    if !act then (if zero && t.dst ≠ 0x18 then put l (.zero, 0, 0) else l)
    else
      let pick := if t.vop = 0x0A then (if bit l.masks (t.arg - 0x20) then src t.s0 else src t.s1) else src t.s0
      if mode = 2 then
        let (code, f) := step8 t.vop pick.2.1 pick.2.2
        put { l with fl := l.fl ||| f } (.zero, code, pick.2.2)
      else
        let (v, f) := stepVal F t.vop t.arg pick.1 (src t.s1).1 (src t.s2).1
        put { l with fl := l.fl ||| f } (v, 0, 0)

/-- The lanes of EW_CHAIN's output, each with the scale byte of its IN0 element; none in padding rows (R253). -/
def State.chainLanes (s : State) (c : OpCtx) : Array (Option (Lane × Nat)) :=
  let o := c.op
  let mode := Chk.at' o 33 1
  let vo := s.opIn c 3
  let ins : List (Bool × View) := [0, 1, 2].map (fun k => (o.operand k ≠ 0xFFFF, s.opIn c k))
  let zero := Chk.at' o 9 1 = 1
  ((List.range (prod vo.shape)).map (fun n =>
    let ix := ixOf vo.shape n
    if c.padAt vo.shape ix then none
    else
      let xs := ins.map (fun v =>
        if v.1 then
          let e := s.elem c.im v.2 (bcast v.2.shape ix)
          (if mode = 0 then (stored v.2.fmt e.1 e.2).in32 else stored v.2.fmt e.1 e.2, e.1, e.2)
        else (.zero, 0, 0))
      some ((Chk.steps o).foldl (chainStep o mode vo.fmt zero (o.active ix) xs) {}, (xs.getD 0 (.zero, 0, 0)).2.2))).toArray

/-- The elements of EW_CHAIN's output (R253). In packed 8-bit mode a code is copied with IN0's scale, and in packed 16-bit mode
a result has OUT's format already, so neither is converted (Table 3.5). -/
def chainCells (fmt mode : Nat) (ls : Array (Option (Lane × Nat))) : Array Cell :=
  ls.map (fun x =>
    match x with
    | none => { pad := true }
    | some (l, scale) =>
      match l.out with
      | none => { act := false, fl := l.fl, raw := if mode = 2 then some (0, scale) else none }
      | some v =>
        if mode = 2 then { val := stored fmt v.2.1 scale, fl := l.fl, raw := some (v.2.1, scale) }
        else if mode = 1 then { val := v.1, fl := l.fl, raw := some ((Fmt.fj16.enc v.1).1, 0) }
        else { val := v.1, fl := l.fl })

/-- What PM0 to PM7 of an EW_CHAIN's tiles hold after it: those of the last row of the mode's width that each tile ran, by the
key 8 * tile + mask (R141, R253). -/
def OpCtx.chainMasks (c : OpCtx) (shape : List Nat) (ls : Array (Option (Lane × Nat))) : Tab (BitVec 256) :=
  let o := c.op
  let mode := Chk.at' o 33 1
  let unit := if mode = 1 then 128 else if mode = 2 then 256 else 64
  let rows := Chk.rowsOf shape
  let cols := Chk.colsOf shape
  let h := max 1 (cdiv rows o.splitRows)
  let w := max 1 (cols / max 1 o.splitCols)
  ((c.im.tiles c.sheaf).zipIdx.filter (fun t => t.2 / max 1 o.splitCols * h < rows)).foldl (fun m t =>
    let row := min rows ((t.2 / max 1 o.splitCols + 1) * h) - 1
    let c1 := (t.2 % max 1 o.splitCols + 1) * w
    let c0 := t.2 % max 1 o.splitCols * w + (w - 1) / unit * unit
    (List.range 8).foldl (fun m k =>
      m.set (t.1 * 8 + k) (BitVec.ofNat 256 (((List.range (c1 - c0)).map (fun n =>
        match ls.getD (row * cols + c0 + n) none with
        | some (l, _) => b2n (bit l.masks k) * 2 ^ n
        | none => 0)).foldl (· + ·) 0))) m) []

/-! ### Row-wise operations -/

/-- What a row-wise operation gives for one logical row: its elements, none where inactive, those of EXTRA_OUT, and its
per-row value. -/
structure RowOut where
  main : List (Option FV) := []
  extra : List (Option FV) := []
  one : Option FV := none
  invalid : Bool := false
deriving DecidableEq, Repr

/-- Apply a function to the active elements of two rows. -/
def zipRow (f : FV → FV → FV) (a b : List (Option FV)) : List (Option FV) :=
  (a.zip b).map (fun p => match p.1, p.2 with | some x, some y => some (f x y) | _, _ => none)

/-- Apply a function to the active elements of a row. -/
def mapRow (f : FV → FV) (a : List (Option FV)) : List (Option FV) := a.map (Option.map f)

/-- The procedures of R255 for one logical row. `x`, `y` and `z` are the rows of IN0, IN1 and IN2, `inv` is recip(d), and
`label` the row's label of XENT. -/
def rowWise (o : Op) (x y z : List (Option FV)) (inv : FV) (label : Nat) : RowOut :=
  let c := FV.const (Chk.at' o 32 4)
  let norm := fun (_ : Unit) =>
    let mu := (rowSum x).mul inv
    let dv := mapRow (·.sub mu) x
    let var := (rowSum (zipRow FV.mul dv dv)).mul inv
    (dv, (var.add c).rsqrt)
  let rms := fun (_ : Unit) => (((rowSum (zipRow FV.mul x x)).mul inv).add c).rsqrt
  match o.opcode with
  | 0x0301 =>
    match Chk.at' o 32 1 with
    | 0 => { one := some (rowSum x) }
    | 1 => { one := some (rowMax true x) }
    | 2 => { one := some (rowMax false x) }
    | _ => { one := some (rowSum (zipRow FV.mul x x)) }
  | 0x0311 =>
    let (dv, rs) := norm ()
    let b := if o.in2 = 0xFFFF then x.map (fun _ => some (Num.zero, 0)) else z
    { main := ((dv.zip y).zip b).map (fun p =>
        match p.1.1, p.1.2, p.2 with
        | some d, some gm, some be => some ((d.mul rs).fma gm be)
        | _, _, _ => none) }
  | 0x0312 =>
    let (dv, rs) := norm ()
    let xh := mapRow (·.mul rs) dv
    let g := zipRow FV.mul z y
    let a := (rowSum g).mul inv
    let b := (rowSum (zipRow FV.mul g xh)).mul inv
    { main := zipRow (fun g h => rs.mul ((g.sub a).sub (h.mul b))) g xh, extra := zipRow FV.mul z xh }
  | 0x0313 =>
    let rs := rms ()
    { main := zipRow (fun x g => (x.mul rs).mul g) x y }
  | 0x0314 =>
    let rs := rms ()
    let xr := mapRow (·.mul rs) x
    let h := zipRow FV.mul z y
    let k := (rowSum (zipRow FV.mul h xr)).mul inv
    { main := zipRow (fun h r => rs.mul (h.sub (r.mul k))) h xr, extra := zipRow FV.mul z xr }
  | 0x0321 =>
    let t := mapRow (·.mul c) x
    let m := rowMax true t
    let e := mapRow (fun v => (v.sub m).exp) t
    let r := (rowSum e).recip
    { main := mapRow (·.mul r) e }
  | 0x0322 =>
    let q := rowSum (zipRow FV.mul x y)
    { main := zipRow (fun y d => y.mul (d.sub q)) x y }
  | _ =>
    let mz := rowMax true x
    let ez := mapRow (fun v => (v.sub mz).exp) x
    let sz := rowSum ez
    let rz := sz.recip
    match (x[label]?).bind id with
    | none => { main := x, one := some (.zero, 0), invalid := true }
    | some zl =>
      { main := ez.zipIdx.map (fun p => p.1.map (fun e =>
          ((e.mul rz).sub (if p.2 = label then (.fin false 1 0, 0) else (.zero, 0))).mul c)),
        one := some ((mz.add sz.log).sub zl) }

/-- A cell of an optional value: an inactive element is +0 (R247). -/
def cellOf (v : Option FV) : Cell :=
  match v with
  | some (x, f) => { val := x, fl := f }
  | none => { act := false }

/-- What a row-wise operation gives: the elements of OUT, those of EXTRA_OUT or the values of LOSS_OUT, and the rows whose
label is out of range (R255 to R258): NaN in each, which a block format takes as a NaN block (R87). -/
def State.rowCells (s : State) (c : OpCtx) : Array Cell × Array Cell × Nat :=
  let o := c.op
  let sh := Chk.iter c.im o
  let d := Chk.colsOf sh
  let rows := Chk.rowsOf sh
  let ins := [0, 1, 2].map (fun k => s.opIn c k)
  let inv := FV.recip (.fin false d 0, 0)
  let perRow := o.opcode = 0x0301
  let xent := o.opcode = 0x0323
  let out := (s.opIn c 3).shape
  let res : List (Bool × RowOut) := (List.range rows).map (fun r =>
    let ix0 := rowIx' sh r
    let pad := if perRow then c.padAt out [r] else c.padAt out (ix0 ++ [0])
    if pad then (true, {})
    else
      let act : List Bool := (List.range d).map (fun j => o.activeAt (ix0 ++ [j]))
      if !act.any id then (false, { main := act.map (fun _ => none), extra := act.map (fun _ => none) })
      else
        let rd := fun (k : Nat) =>
          let v := ins.getD k (s.opIn c 0)
          if o.operand k = 0xFFFF || v.fmt = 0x11 then act.map (fun _ => none)
          else act.zipIdx.map (fun p =>
            if p.1 then some (s.val32 c.im v (if v.shape.length = 1 && sh.length ≠ 1 then [p.2] else bcast v.shape (ix0 ++ [p.2])), 0)
            else none)
        let label := if xent then (s.elem c.im (s.opIn c 1) [r]).1 else 0
        (false, rowWise o (rd 0) (rd 1) (rd 2) inv label))
  let blank : List Cell := List.replicate d { pad := true }
  let fo := (s.opIn c 3).fmt
  let nan : Cell :=
    if isBlock fo then { val := .nan, fl := Fl.invalid } else { raw := some (((fmtOf fo).getD .fp32).nan, 0), fl := Fl.invalid }
  let main := (res.map (fun p =>
    if p.1 then blank else if p.2.invalid then p.2.main.map (fun _ => nan) else p.2.main.map cellOf)).flatten
  let extra := (res.map (fun p => if p.1 then blank else p.2.extra.map cellOf)).flatten
  let ones := res.map (fun p =>
    if p.1 then { pad := true } else if p.2.invalid then { raw := some (nan32, 0), fl := Fl.invalid } else cellOf p.2.one)
  ((if perRow then ones else main).toArray, (if xent then ones else extra).toArray, (res.filter (·.2.invalid)).length)
where
  /-- The leading coordinates of a logical row. -/
  rowIx' (sh : List Nat) (r : Nat) : List Nat := ixOf sh.dropLast r

/-- The elements of REDUCE_COLS (R258). -/
def State.colCells (s : State) (c : OpCtx) : Array Cell :=
  let v := s.opIn c 0
  let n := Chk.colsOf v.shape
  ((List.range n).map (fun j =>
    let (x, f) := (List.range (Chk.rowsOf v.shape)).foldl (fun (t : FV) r =>
      t.add (s.val32 c.im v (ixOf v.shape.dropLast r ++ [j]), 0)) (.zero, 0)
    { val := x, fl := f })).toArray

/-- The elements of GATHER, and the rows whose index is out of range (R259). -/
def State.gatherCells (s : State) (c : OpCtx) : Array Cell × Nat :=
  let tab := s.opIn c 0
  let ixv := s.opIn c 1
  let vo := s.opIn c 3
  let n := Chk.colsOf vo.shape
  let rows := Chk.rowsOf vo.shape
  let v := tab.shape.getD 0 0
  let nan := ((fmtOf vo.fmt).getD .fp32).nan
  let res : List (List Cell × Bool) := (List.range rows).map (fun r =>
    if c.padAt vo.shape (ixOf vo.shape.dropLast r ++ [0]) then (List.replicate n { pad := true }, false)
    else
      let i := (s.elem c.im ixv [r]).1
      if v ≤ i then (List.replicate n { raw := some (nan, 0xFF), fl := Fl.invalid }, true)
      else ((List.range n).map (fun j => { raw := some (s.elem c.im tab [i, j]) }), false))
  ((res.map (·.1)).flatten.toArray, (res.filter (·.2)).length)

/-- The elements of CAST, REQUANTIZE and LOSS_SEED (R260, R261). -/
def State.castCells (s : State) (c : OpCtx) : Array Cell :=
  let o := c.op
  let v := s.opIn c 0
  let vo := s.opIn c 3
  ((List.range (prod vo.shape)).map (fun n =>
    let ix := ixOf vo.shape n
    if c.padAt vo.shape ix then { pad := true }
    else if !o.active ix then { act := false }
    else
      let x := s.val c.im v (bcast v.shape ix)
      if o.opcode = 0x0503 then
        let (y, f) := FV.op1 .fp32 (fun a => (a.scale c.shift, 0)) (x, 0)
        { val := y, fl := f }
      else { val := x })).toArray

/-- The scale byte that REQUANTIZE gives a block, by the linear index of its first element (R260). -/
def State.givenScale (s : State) (c : OpCtx) (n : Nat) : Option Nat :=
  let o := c.op
  if o.opcode ≠ 0x0502 then none
  else if Chk.at' o 32 1 = 0 then some (Chk.at' o 33 1)
  else some (s.elem c.im (s.opIn c 1) (ixOf (s.opIn c 3).shape n)).2

/-- Class of a step (Table 9.9). -/
def stepClass (vop : Nat) : Nat :=
  if vop = 0x30 || vop = 0x31 then 3
  else if 0x32 ≤ vop && vop ≤ 0x37 then 4
  else if vop = 0x38 || vop = 0x39 then 5
  else if vop = 0x3A then 6
  else 1

/-- Row lane-ops of a vector-family operation over the ranges of its tiles (Tables 5.1, 9.1, R244), with its rows of the mode's width. -/
def Op.laneOps (o : Op) (sh : List Nat) (fmt : Nat) : Nat × Nat :=
  let mode := if o.opcode = 0x0201 then Chk.at' o 33 1 else 0
  let w := if mode = 1 then 128 else if mode = 2 then 256 else 64
  let cols := Chk.colsOf sh / max 1 o.splitCols
  let rows := Chk.rowsOf sh * o.splitCols * cdiv cols w
  let lr := Chk.rowsOf sh
  let ex := if Chk.extraOut o = 0xFFFF then 0 else 1
  let n := match o.opcode with
    | 0x0201 => (((Chk.steps o).map (fun t => stepClass t.vop)).foldl (· + ·) 0) * rows
    | 0x0301 => (if Chk.at' o 32 1 = 3 then 2 else 1) * rows
    | 0x0311 => 6 * rows + 7 * lr
    | 0x0312 => (13 + ex) * rows + 9 * lr
    | 0x0313 => 4 * rows + 6 * lr
    | 0x0314 => (9 + ex) * rows + 7 * lr
    | 0x0321 => 9 * rows + 4 * lr
    | 0x0322 => 4 * rows
    | 0x0323 => 10 * rows + 10 * lr
    | 0x0401 =>
      let h := max 1 (cdiv (Chk.rowsOf sh) o.splitRows)
      o.splitCols * ((List.range o.splitRows).map (fun a =>
        cdiv (elemBytes fmt (min h (Chk.rowsOf sh - a * h) * cols)) 256)).foldl (· + ·) 0
    | _ => rows
  (n, rows)

/-- What a vector-family operation reads: of a row-wise one only active elements of rows that are not padding, and of labels and
indices only those of such rows, with the table rows that they name (R247, R257, R259). -/
def State.vecReads (s : State) (c : OpCtx) (given : List Nat) : List (View × List Nat) :=
  let o := c.op
  let sh := Chk.iter c.im o
  let out := (s.opIn c 3).shape
  if o.opcode = 0x0401 then
    let tab := s.opIn c 0
    let ixv := s.opIn c 1
    ((List.range (Chk.rowsOf out)).map (fun r =>
      if c.padAt out (ixOf out.dropLast r ++ [0]) then []
      else
        let i := (s.elem c.im ixv [r]).1
        (ixv, [r]) :: (if i < tab.shape.getD 0 0 then (List.range (Chk.colsOf out)).map (fun j => (tab, [i, j])) else []))).flatten
  else if Chk.isRowWise o.opcode then
    let live := ((List.range (Chk.rowsOf sh)).map (fun r =>
      let ix0 := ixOf sh.dropLast r
      let pad := if o.opcode = 0x0301 then c.padAt out [r] else c.padAt out (ix0 ++ [0])
      if pad then [] else ((List.range (Chk.colsOf sh)).map (fun j => (r, ix0 ++ [j]))).filter (fun e => o.activeAt e.2))).flatten
    (given.map (fun k =>
      let v := s.opIn c k
      if v.fmt = 0x11 then ((live.map (fun e => [e.1])).eraseDups).map (fun ix => (v, ix))
      else if v.shape = sh then live.map (fun e => (v, e.2))
      else
        ((live.map (fun e => if v.shape.length = 1 && sh.length ≠ 1 then [e.2.getLastD 0] else bcast v.shape e.2)).eraseDups).map
          (fun ix => (v, ix)))).flatten
  else (given.map (fun k => (s.opIn c k).all)).flatten

/-- A vector-family operation (R247): the shares of its tiles, and its rows with an index out of range. A tap on GATHER's table takes the
elements of the rows that it gathers (R149). -/
def State.vector (s : State) (c : OpCtx) : OpOut × Nat :=
  let o := c.op
  let im := c.im
  let sh := Chk.iter im o
  let vo := s.opIn c 3
  let merge := Chk.at' o 9 1 = 0
  let oc := o.opcode
  let lanes := if oc = 0x0201 then s.chainLanes c else #[]
  let (main, extra, bad) : Array Cell × Array Cell × Nat :=
    if oc = 0x0201 then (chainCells vo.fmt (Chk.at' o 33 1) lanes, #[], 0)
    else if oc = 0x0302 then (s.colCells c, #[], 0)
    else if oc = 0x0401 then let r := s.gatherCells c; (r.1, #[], r.2)
    else if 0x0501 ≤ oc then (s.castCells c, #[], 0)
    else s.rowCells c
  let live := fun (src : Nat) => if c.phase = phaseRecompute then [] else o.tapSlots src
  let tiles := addWrotes (o.placeLin vo.shape) (live 3) [] (s.writeCells im vo merge (s.givenScale c) main)
  let x := Chk.extraOut o
  let tiles :=
    if x = 0xFFFF then tiles
    else if oc = 0x0323 then
      addWrotes (fun r => o.place sh r 0) [] tiles (s.writeCells im (s.opView c 3 x) false (fun _ => none) extra)
    else addWrotes (o.placeLin sh) [] tiles (s.writeCells im (s.opView c 3 x) false (fun _ => none) extra)
  let given := [0, 1, 2].filter (fun k => o.operand k ≠ 0xFFFF)
  let tiles := given.foldl (fun t k =>
    let slots := live k
    if slots.isEmpty then t
    else if oc = 0x0401 then
      let tab := s.opIn c 0
      (List.range (prod vo.shape)).foldl (fun t n =>
        let ix := ixOf vo.shape n
        let i := (s.elem im (s.opIn c 1) [n / max 1 (Chk.colsOf vo.shape)]).1
        if c.padAt vo.shape ix || tab.shape.getD 0 0 ≤ i then t
        else onTile t (o.placeLin vo.shape n).1 (fun y => y.tap slots (tap32 (s.val im tab [i, ix.getLastD 0])))) t
    else
      let v := s.opIn c k
      (List.range (prod sh)).foldl (fun t n =>
        let ix := ixOf sh n
        let row := n / max 1 (Chk.colsOf sh)
        if o.activeAt ix && !c.padAt vo.shape (if oc = 0x0301 then [row] else ix) then
          onTile t (if oc = 0x0301 then o.placeLin vo.shape row else o.placeLin sh n).1 (fun y => y.tap slots (tap32 (s.val im v ix)))
        else t) t) tiles
  let (n, rows) := o.laneOps sh vo.fmt
  let coupled := bit o.flags 1
  ({ tiles := tiles,
     counts := [ (O.at O.VECTOR_LANE_OPS c.p, if coupled then n - rows else n),
                 (O.at O.DRAIN_COUPLED_ROWS c.p, if coupled then rows else 0), (O.at O.INDEX_RANGE_ROWS c.p, bad) ],
     reads := s.vecReads c given, masks := if oc = 0x0201 then c.chainMasks vo.shape lanes else [] }, bad)

end Sys2Proof.Machine
end

