-- ==== Sys2Proof/Machine/Opt.lean ====
section
/-! DEFINITION. Opt.lean: the optimizer step and the fold pass (R180, R199 to R201, R262 to R264). -/

namespace Sys2Proof.Machine

/-- The norm round of a step, as a partition holds it. -/
def Job.normOf (j : Job) (step : Nat) : Norm :=
  let n := j.norms.get (step % 2) {}
  if n.step = step then n else { step := step }

/-- Replace the norm round of a step. -/
def Job.setNorm (j : Job) (n : Norm) : Job := { j with norms := j.norms.set (n.step % 2) n }

/-- The scalars of R201 from p1 and p2: ibc1 and rsbc2, with their flags. -/
def optScalars (n : Norm) : FV × FV :=
  (FV.recip (FV.sub (FV.const one32) (FV.const n.p1)), FV.rsqrt (FV.sub (FV.const one32) (FV.const n.p2)))

/-- What the optimizer gives for one element (R201): w32 and d for the taps, and the new master, moments and working
value. -/
structure OptElem where
  w32 : FV
  d : FV
  w1 : FV
  m1 : FV
  v1 : FV
deriving DecidableEq, Repr

/-- One element of R201: gradient, master, moments. The flags of every call are kept, those of the conversion of w too where no
weight decay uses it (R90). -/
def optElem (e : OptEntry) (n : Norm) (ib rs : FV) (g w m v : Num) : OptElem :=
  let c := FV.const
  let gh := (FV.op1 .fp32 (fun a => (a.scale (-n.shift), 0)) (g, 0)).mul (c n.clip)
  let w32 := FV.op1 .fp32 (fun a => (a, 0)) (w, 0)
  let on := e.wd = 1
  let a : FV := if on then (c n.wd).mul w32 else (.zero, 0)
  let u0 := if on then (c n.wd).fma w32 gh else gh
  let (m1, v1, u) : FV × FV × FV :=
    if e.kind = 2 then
      let m1 := (c e.b1).fma (m, 0) ((c e.omb1).mul gh)
      let v1 := (c e.b2).fma (v, 0) ((c e.omb2).mul (gh.mul gh))
      let den := ((FV.op1 .fp32 Num.sqrt v1).mul rs).add (c e.eps)
      (m1, v1, ib.fma (FV.op2 .fp32 Num.div m1 den) a)
    else if e.kind = 1 then
      let m1 := (c e.b1).fma (m, 0) u0
      (m1, (.zero, 0), if e.nesterov = 1 then (c e.b1).fma m1 u0 else m1)
    else ((.zero, 0), (.zero, 0), u0)
  let d := FV.mul ((f32 n.lr).neg, 0) u
  let w1 := FV.addW48 (w, 0) d
  { w32 := w32, d := d, w1 := (w1.1, w1.2 ||| w32.2), m1 := m1, v1 := v1 }

/-- Lane-ops for each row of 64 elements (Table 7.4, R263). -/
def optCost (e : OptEntry) : Nat :=
  (if e.kind = 2 then 24 else if e.kind = 1 then (if e.nesterov = 1 then 10 else 9) else 8) - (if e.wd = 1 then 0 else 1)

/-- The tile and lane of an element of a shard, taken in linear order as rows of 64 (R244). -/
def placeShard (splitRows elems n : Nat) : Nat × Nat :=
  (n / 64 / max 1 (cdiv (cdiv elems 64) splitRows), n % 64)

/-- OPT_STEP (R262): the shares of its tiles. -/
def State.optStep (s : State) (c : OpCtx) : OpOut :=
  let im := c.im
  let j := s.job c.p
  match im.opts[Chk.at' c.op 8 2]? with
  | none => {}
  | some e =>
    let n := j.normOf c.step
    let live := fun t => j.live.get t 0
    let rd := fun t => im.view t (if bit (im.tflags t) 2 then live t else 0)
    let wr := fun t => im.view t (if bit (im.tflags t) 2 then 1 - live t else 0)
    let shape := im.shape e.master
    let elems := prod shape
    let (ib, rs) := optScalars n
    let read := fun (t : Nat) (ix : List Nat) => if t = 0xFFFF then Num.zero else s.val im (rd t) ix
    let es : Array OptElem := ((List.range elems).map (fun k =>
      let ix := ixOf shape k
      optElem e n ib rs (read e.grad ix) (read e.master ix) (read e.m1 ix) (read e.m2 ix))).toArray
    let z : FV := (.zero, 0)
    let cells := fun (f : OptElem → FV) => (es.map (fun x => ({ val := (f x).1, fl := (f x).2 } : Cell)))
    let place := placeShard c.op.splitRows elems
    let put := fun (t : Tab TileOut) (x : Nat) (f : OptElem → FV) =>
      if x = 0xFFFF then t else addWrotes place [] t (s.writeCells im (wr x) false (fun _ => none) (cells f))
    let tiles := put (put (put (put [] e.master (·.w1)) e.m1 (·.m1)) e.m2 (·.v1)) e.working (·.w1)
    let tiles :=
      match im.ratios.find? (·.layer = e.layer) with
      | none => tiles
      | some x =>
        (List.range elems).foldl (fun t k =>
          let y := es.getD k ⟨z, z, z, z, z⟩
          onTile t (place k).1 (fun q => (q.tap [x.wslot] (tap32 y.w32.1)).tap [x.uslot] (tap32 y.d.1))) tiles
    { tiles := tiles, counts := [(O.at O.VECTOR_LANE_OPS c.p, optCost e * cdiv elems 64)],
      reads := ([e.grad, e.master, e.m1, e.m2].filter (· ≠ 0xFFFF)).map (fun t => (rd t).all) |>.flatten }

/-- FOLD (R180, R264): the shares of its tiles, and its rows of 64 elements. -/
def State.foldStep (s : State) (c : OpCtx) : OpOut × Nat :=
  let im := c.im
  match im.folds[Chk.at' c.op 8 2]? with
  | none => ({}, 0)
  | some (_, accs) =>
    let a0 := accs.headD 0
    let v := im.view a0 0
    let elems := prod v.shape
    let cells : Array Cell := ((List.range elems).map (fun k =>
      let ix := ixOf v.shape k
      let rd := fun t => ((s.val im (im.view t 0) ix, 0) : FV)
      let (x, f) := (accs.drop 1).foldl (fun (t : FV) k => t.add (rd k)) (rd a0)
      { val := x, fl := f })).toArray
    let rows := cdiv elems 64
    ({ tiles := addWrotes (placeShard c.op.splitRows elems) [] [] (s.writeCells im v false (fun _ => none) cells),
       counts := [(O.at O.VECTOR_LANE_OPS c.p, (accs.length - 1) * rows)],
       reads := (accs.map (fun t => (im.view t 0).all)).flatten }, rows)

end Sys2Proof.Machine
end

