-- ==== Sys2Proof/Machine/Issue.lean ====
section
/-! DEFINITION. Issue.lean: when a released operation issues, its speculation tag, and the shares that its tiles begin
(R58, R96, R127, R132, R172 to R178, R200, R205, R208, R226, R244 to R246, R266, R467). -/

namespace Sys2Proof.Machine

/-- The tile number that stands for an operation that runs once per release (R244). -/
abbrev onceTile : Nat := 384

/-- Key of a micro-batch record. -/
def mbKey (step mb : Nat) : Nat := step * 4096 + mb

/-- STEP_NUMBER of a partition. -/
def State.stepNo (s : State) (p : Nat) : Nat := s.obj (O.at O.STEP_NUMBER p)

/-- The next operation of a release, with what it is bound to (R226, R245). -/
def State.opCtx (s : State) (p : Nat) (r : Rel) : Option OpCtx :=
  let j := s.job p
  match j.image with
  | none => none
  | some im =>
    match im.lists[r.list]? with
    | none => none
    | some l =>
      (l.ops[r.next]?).map (fun o =>
        let valid := match j.mbs.find (mbKey r.step r.mb) with
          | some (g, rows) => if r.grain + 1 = g then rows else im.stage.grainRows
          | none => im.stage.grainRows
        let b := j.bank r.step
        { p := p, im := im, li := r.list, oi := r.next, op := o, sheaf := l.sheaf, phase := l.phase, step := r.step, mb := r.mb,
          grain := r.grain, tagged := false, valid := valid,
          shift := if b.step = some r.step then b.shift else s.gradShift p })

/-- A slice of a tensor, as tagged buffers are kept (R205). -/
def sliceOf (v : View) : Nat × Nat := (v.t, v.pre.getD 0xFFFFFFFF)

/-- Two slices share elements: of one tensor, the same slice, or one of them the whole. -/
def sliceMeets (a b : Nat × Nat) : Bool := a.1 = b.1 && (a.2 = b.2 || a.2 = 0xFFFFFFFF || b.2 = 0xFFFFFFFF)

/-- A slice as a table key. -/
def sliceKey (x : Nat × Nat) : Nat := x.1 * 2 ^ 33 + x.2

/-- The tensors that an operation reads through its operands; a COLLECTIVE, the SRC of its entry (R205, R265). -/
def State.readViews (s : State) (c : OpCtx) : List View :=
  if c.op.opcode = 0x0801 then
    match c.im.colls[Chk.at' c.op 8 2]? with
    | some k => if k.src = 0xFFFF then [] else [s.opView c 0 k.src]
    | none => []
  else ([0, 1, 2].filter (fun k => c.op.operand k ≠ 0xFFFF)).map (s.opIn c)

/-- The tensors and slices that an operation's results go to. -/
def State.outViews (s : State) (c : OpCtx) : List View :=
  ([c.op.out, Chk.extraOut c.op].filter (· ≠ 0xFFFF)).map (s.opView c 3)

/-- The tensors and banks whose bytes an operation writes. -/
def State.writeBanks (s : State) (c : OpCtx) : List (Nat × Nat) :=
  if c.op.opcode = 0x0601 then
    match c.im.opts[Chk.at' c.op 8 2]? with
    | some e =>
      ([e.master, e.m1, e.m2, e.working].filter (· ≠ 0xFFFF)).map (fun t =>
        (t, if bit (c.im.tflags t) 2 then 1 - (s.job c.p).live.get t 0 else 0))
    | none => []
  else if c.op.opcode = 0x0701 then
    match c.im.folds[Chk.at' c.op 8 2]? with
    | some f => [(f.2.headD 0, 0)]
    | none => []
  else (s.outViews c).map (fun v => (v.t, v.bank))

/-- A checkpoint has still to read a tensor's bank (R424). -/
def Job.ckHeld (j : Job) (t bank : Nat) : Bool := j.ckpt.hold.any (fun h => h.tensor = t && h.bank = bank)

/-- An operation issues tagged (R205): it belongs to the step after the pending one, and that step's norm round has
passed, or a tagged completion released it, or it reads a tagged buffer. -/
def State.opTagged (s : State) (p : Nat) (r : Rel) (c : OpCtx) : Bool :=
  let j := s.job p
  let n := s.stepNo p
  c.step = n + 1 &&
    ((j.normOf n).passed || r.tagged || (s.pairDone p c.op.wait c.step).2 ||
      (s.readViews c).any (fun v => j.bufTags.any (sliceMeets (sliceOf v))))

/-- A tensor that an operation reads or writes lies on a die that is being zeroed (R279): the access is held. -/
def State.zeroHolds (s : State) (c : OpCtx) : Bool :=
  s.host.zeroing ≠ 0 && (s.readViews c ++ s.outViews c).any (fun v =>
    (c.im.piecesOf v.t).any (fun x => bit s.host.zeroing (Chk.pieceDie x)))

/-- An operation opens an accumulator's sum (R109, R172). -/
def OpCtx.opens (c : OpCtx) : Bool := Chk.isMat c.op && !bit c.op.flags 0 && c.im.recipe c.op.out = 0x31

/-- A tensor into which a saved tensor is read back (R177). -/
def Image.readBack (im : Image) (t : Nat) : Bool :=
  im.lists.any (fun l => l.ops.any (fun o => o.opcode = 0x0901 && o.out = t && im.retain.any (·.tensor = o.in0)))

/-- The program of a step may not yet run, or runs no more: the conditions by phase (R200, R201, R267). -/
def State.phaseOpen (s : State) (p : Nat) (c : OpCtx) : Bool :=
  let j := s.job p
  let n := s.stepNo p
  if c.phase = 6 then c.step = n && (j.normOf n).passed
  else if c.phase = 7 then c.step < n && (j.bank c.step).step = some c.step && (j.bank c.step).committed
  else if c.phase = 8 then c.step ≤ n
  else true

/-- The layer whose weights an OPT_STEP updates. -/
def Image.optLayer (im : Image) (o : Op) : Option Nat :=
  if o.opcode = 0x0601 then (im.opts[Chk.at' o 8 2]?).map (·.layer) else none

/-- Whether one operation of a release that satisfies a test is still to issue or under way. -/
def Job.pendingOp (j : Job) (im : Image) (r : Rel) (f : Op → Bool) : Bool :=
  match im.lists[r.list]? with
  | none => false
  | some l => l.ops.zipIdx.any (fun o => f o.1 && (r.next ≤ o.2 || j.shares.any (fun x => x.rel = r.id && x.op = o.2)))

/-- The layers whose weights an operation uses: its own LAYER in the forward phase, and the layer of every master or working
weight that it reads (R24). -/
def State.weightLayers (s : State) (c : OpCtx) : List Nat :=
  (if c.phase = 0 && c.op.layer ≠ 0xFFFF then [c.op.layer] else []) ++
    (c.im.opts.filter (fun e => (s.readViews c).any (fun v => v.t = e.working || v.t = e.master))).map (·.layer)

/-- An optimizer operation of a step before on a layer, in lists of a phase, is released and not yet done. -/
def Job.updating (j : Job) (im : Image) (before phase layer : Nat) : Bool :=
  j.rels.any (fun r => r.step < before && ((im.lists[r.list]?).map (·.phase)) = some phase &&
    j.pendingOp im r (fun o => im.optLayer o = some layer))

/-- Work that uses a layer's weights waits for the step before its own (R24, R206): for the vote where the layer lies outside the
window, and then for its in-place update; for the norm round, and then for the layer's optimizer operation where it lies inside.
The optimizer's own phases and checkpoints have their own conditions. -/
def State.windowHeld (s : State) (p : Nat) (c : OpCtx) : Bool :=
  let j := s.job p
  c.phase < 6 && (s.weightLayers c).any (fun l =>
    if c.im.inWindow l then
      s.stepNo p < c.step && (!(j.normOf (s.stepNo p)).passed || j.updating c.im c.step 6 l)
    else s.stepNo p < c.step || j.updating c.im c.step 7 l)

/-- Work that is never tagged (R96, R206, Table 8.8): loss, backward and fold operations that would issue tagged wait for the
vote. -/
def State.tagHeld (s : State) (p : Nat) (r : Rel) (c : OpCtx) : Bool :=
  (c.phase = 1 || c.phase = 2 || c.phase = 4) && s.opTagged p r c

/-- Rows of its accumulator that a dW operation sums into. -/
def accRange (o : Op) : Nat × Nat :=
  if o.opcode = 0x0102 then (Chk.at' o 8 4, Chk.at' o 8 4 + Chk.at' o 12 4) else (0, 2 ^ 32)

/-- A dW operation waits for those of its step that the schedule released before it into the same accumulator: for their issue,
and for their end where they sum into the same rows (R171). -/
def Job.dwHeld (j : Job) (r : Rel) (c : OpCtx) : Bool :=
  let same := fun (o : Op) => Chk.isMat o && o.out = c.op.out
  Chk.isMat c.op && c.im.recipe c.op.out = 0x31 &&
  j.rels.any (fun x => x.id < r.id && x.step = r.step && (match c.im.lists[x.list]? with
    | some l => l.ops.zipIdx.any (fun o => same o.1 && (x.next ≤ o.2 ||
        (j.shares.any (fun y => y.rel = x.id && y.op = o.2) &&
          (accRange o.1).1 < (accRange c.op).2 && (accRange c.op).1 < (accRange o.1).2)))
    | none => false))

/-- FOLD waits for the last dW operation of every use of its weight: none is still to be released by the step's program or by a pair,
to issue or under way (R180). -/
def State.foldHeld (s : State) (p : Nat) (c : OpCtx) : Bool :=
  let j := s.job p
  match c.im.folds[Chk.at' c.op 8 2]? with
  | none => false
  | some f =>
    let dw := fun (o : Op) => Chk.isMat o && f.2.contains o.out
    c.op.opcode = 0x0701 &&
    (j.rels.any (fun x => x.step = c.step && j.pendingOp c.im x dw) ||
      j.progs.any (fun g => g.step = c.step && c.im.sched.any (fun e => j.relBeat < g.base + e.beat &&
        (match c.im.lists[e.oplist]? with | some l => l.ops.any dw | none => false))) ||
      c.im.lists.any (fun l => l.trigger = 1 && l.ops.any dw && !(s.pairDone p l.pair c.step).1))

/-- A release's next operation is due: the partition runs, nothing holds its issue, and its wait is over (R24, R49, R58, R96, R127,
R171, R172, R177, R180, R200, R206, R209, R210, R226, R228, R424, R467). `s` is the state after the step's bank is in place. An operation
two steps ahead of the pending vote waits, as its bank still serves that vote's step (R147, log entry 34). -/
def State.opDue (s : State) (p : Nat) (r : Rel) (c : OpCtx) (opcode : Nat) : Bool :=
  let j := s.job p
  let vs := s.obj (O.at O.VOTE_STATE p)
  s.imageState p = IS.running && c.op.opcode = opcode && vs ≠ 5 && vs ≠ 6 && !s.halted p && !s.power.holdOn && s.boot.stopCause.isNone &&
  (s.pairDone p c.op.wait c.step).1 &&
  !j.shares.any (fun x => x.list = r.list && x.step = r.step && x.mb = r.mb && x.grain = r.grain) &&
  (r.mb = 0xFFFF || (j.mbs.find (mbKey r.step r.mb)).isSome) &&
  (opcode ≠ 0x0503 || c.step ≤ s.stepNo p) && c.step ≤ s.stepNo p + 1 && !j.beatLost && (c.phase ≠ 7 || r.beat ≤ s.obj O.SCHEDULE_BEAT) &&
  !s.windowHeld p c && !s.tagHeld p r c && !j.dwHeld r c && !s.foldHeld p c && !s.zeroHolds c &&
  !(c.opens && j.accOpen.contains c.op.out) &&
  !(s.readViews c).any (fun v => j.shares.any (fun x => x.tile = onceTile && x.outs.any (sliceMeets (sliceOf v)))) &&
  !(s.writeBanks c).any (fun w => j.ckHeld w.1 w.2) && s.phaseOpen p c

/-- The operation posts its completion (R226): POST_FINAL_ONLY posts for the last valid grain of the last micro-batch. -/
def State.opPosts (s : State) (p : Nat) (c : OpCtx) : Bool :=
  c.op.post ≠ 0xFFFF &&
  (!bit c.op.flags 3 ||
    (c.mb + 1 = c.im.stage.mbs &&
      (match (s.job p).mbs.find (mbKey c.step c.mb) with | some (g, _) => c.grain + 1 = g | none => false)))

/-- Rows over which an operation's tiles are divided: the product of all of its output's axes but the last (R244). -/
def OpCtx.gridRows (c : OpCtx) : Nat :=
  let o := c.op
  match o.opcode with
  | 0x0101 => Chk.rowsOf (Chk.matShapes c.im o).2.2
  | 0x0102 => (c.im.seen o 3 o.out).getD 0 0
  | 0x0601 => (match c.im.opts[Chk.at' o 8 2]? with | some e => cdiv (c.im.elems e.master) 64 | none => 0)
  | 0x0701 => (match c.im.folds[Chk.at' o 8 2]? with | some f => cdiv (c.im.elems (f.2.headD 0)) 64 | none => 0)
  | _ => Chk.rowsOf (c.im.seen o 3 o.out)

/-- Tile k of an operation's grid has an empty range (R244). -/
def OpCtx.emptyTile (c : OpCtx) (k : Nat) : Bool :=
  let h := max 1 (cdiv c.gridRows c.op.splitRows)
  c.gridRows ≤ k / max 1 c.op.splitCols * h

/-- A release goes on to its next operation; tagged issues are counted for Table 7.9. -/
def Job.advance (j : Job) (id : Nat) (tagged : Bool) : Job :=
  { j with tagOps := j.tagOps + b2n tagged, rels := j.rels.map (fun r =>
      if r.id = id then { r with next := r.next + 1, tagAt := if tagged && r.tagAt.isNone then some r.next else r.tagAt } else r) }

/-- The work that an operation's tiles began (R226, R246). -/
def OpCtx.share (c : OpCtx) (r : Rel) (tile : Nat) (posts : Bool) : Share :=
  { rel := r.id, tile := tile, sheaf := c.sheaf, list := c.li, op := c.oi, step := c.step, mb := c.mb, grain := c.grain,
    layer := c.op.layer, tagged := c.tagged, posts := posts, flags := 0, lane := 0, record := c.phase ≠ phaseRecompute, taps := [],
    writes := [], outs := [], lens := none, poison := [], data := [] }

/-- An issued operation whose untagged completion will stand over a squash is noted (R354). -/
def Job.noteStood (j : Job) (c : OpCtx) (n : Nat) (posts : Bool) : Job :=
  if posts && !c.tagged && n < c.step then { j with stood := (c.li, c.oi, c.step, c.mb, c.grain) :: j.stood } else j

/-- A grain of a tensor is written: a saved tensor's grain that belongs in its spill region is counted (R175). -/
def State.spillGrain (s : State) (p step : Nat) (im : Image) (t grain : Nat) : State :=
  match im.retain.find? (fun x => x.tensor = t) with
  | some x =>
    if x.cls = 1 || (x.cls = 0 && x.overflow = 0 && x.keep ≤ grain) then
      let s := s.stepAdd p step 0 (Chk.grainBytes im t)
      if x.cls = 0 then s.oncePerStep p 0x1801 step 0x1801 { part := p, kind := 0, subj := x.layer } else s
    else s
  | none => s

/-- Grains of saved tensors written to a spill region, and a grain recomputed (R175, R177, R178). A grain lies where the tensor's
placement puts it; the retention entry says which of its writes count as spills (DESIGN CHOICE, log entry 130). -/
def State.retention (s : State) (c : OpCtx) (passes : Nat) : State :=
  let a : EvArgs := { part := c.p, kind := 0, subj := c.op.layer }
  let s :=
    if c.phase = phaseRecompute || !c.op.grained 3 then s
    else ([c.op.out, Chk.extraOut c.op].filter (· ≠ 0xFFFF)).foldl (fun s t => s.spillGrain c.p c.step c.im t c.grain) s
  if c.phase = phaseRecompute then
    let s := s.stepAdd c.p c.step 2 passes
    if c.im.retain.any (fun x => x.layer = c.op.layer && x.cls = 0) then s.oncePerStep c.p 0x1804 c.step 0x1804 a else s
  else s

/-- The cycles of a wait that ends now which lie before a moment. -/
def State.waitedFor (s : State) (waited : Nat) (t : Option Nat) : Nat :=
  match t with
  | none => 0
  | some t => waited - s.cycles (s.now - t)

/-- An operation that waited before its issue: the part of the wait that its accumulator's release took (R172), and the part that a
read-back of one of its operands took (R177). -/
def State.noteWaits (s : State) (c : OpCtx) (waited : Nat) : State :=
  let p := c.p
  let a : EvArgs := { part := p, kind := 0, subj := c.op.layer }
  let j := s.job p
  let rel := if c.opens then s.waitedFor waited (j.freedAt.find c.op.out) else 0
  let back := (((s.readViews c).filter (fun v => c.im.readBack v.t)).map (fun v =>
    s.waitedFor waited (j.backAt.find (sliceKey (sliceOf v))))).foldl max 0
  let s := if rel = 0 then s else (s.stepAdd p c.step 3 rel).oncePerStep p 0x2803 c.step 0x2803 a
  if back = 0 then s else (s.stepAdd p c.step 1 back).oncePerStep p 0x2802 c.step 0x2802 a

/-- What an operation computes on its tiles, and its rows with an index out of range. -/
def State.compute (s : State) (c : OpCtx) : OpOut × Nat :=
  let oc := c.op.opcode
  if oc = 0x0101 then (s.matmul c, 0)
  else if oc = 0x0102 then s.embedGrad c
  else if oc = 0x0601 then (s.optStep c, 0)
  else if oc = 0x0701 then ((s.foldStep c).1, 0)
  else s.vector c

/-- An operation that runs on tiles issues: its shares, null completions, counters, events and collector rows (R226, R244,
R246). -/
def State.issueTiles (s : State) (c : OpCtx) (r : Rel) (waited : Nat) : State :=
  let p := c.p
  let o := c.op
  let res : OpOut × Nat := s.compute c
  let out := res.1
  let bad := res.2
  let posts := s.opPosts p c
  let ts := (c.im.tiles c.sheaf).zipIdx
  let busy := ts.filter (fun x => !c.emptyTile x.2)
  let idle := ts.length - busy.length
  let shares := busy.map (fun x =>
    let t := out.tiles.get x.2 {}
    { c.share r x.1 posts with
      flags := t.fl, lane := t.lane % 64, taps := if c.phase = phaseRecompute then [] else t.taps, writes := t.ws,
      outs := (s.outViews c).map sliceOf, nan := t.nan, sat := t.sat,
      lens := out.lens.map (fun (l : Nat × SumLen) => (l.1, l.2.blocks, l.2.pass, l.2.sat)) })
  let s := s.noteReads c.im p c.step out.reads
  let s := out.counts.foldl (fun s e => if e.2 = 0 then s else s.add e.1 e.2) s
  let s := (s.add (O.at O.OPS_ISSUED p) busy.length).add (O.at O.NULL_COMPLETIONS p) idle
  let passes := ((out.counts.find? (fun e => e.1 = O.at O.ROW_PASSES p)).map (·.2)).getD 0
  let s := s.retention c passes
  let s := if bad = 0 then s else s.oncePerStep p 0x2B01 c.step 0x2B01 { part := p, kind := 0, subj := o.layer }
  let s := if Chk.isMat o then s.matEvents c out.longest out.satRows out.beyond (0 < out.satRows) else s
  let s := if o.opcode = 0x0503 then s.add (O.at O.VECTOR_STALL_CYCLES p) waited else s
  let s := if o.opcode = 0x0701 then s.stepAdd p c.step 4 (s.foldStep c).2 else s
  let s := s.noteWaits c waited
  let j := s.job p
  let j := { j with shares := j.shares ++ shares, rows := out.rows.foldl (fun (t : Tab CRow) (e : Nat × CRow) => t.set e.1 e.2) j.rows,
                    masks := out.masks.foldl (fun (t : Tab (BitVec 256)) (e : Nat × BitVec 256) => if e.2 = 0#256 then t.del e.1 else t.set e.1 e.2) j.masks,
                    accOpen := if c.opens then o.out :: j.accOpen else j.accOpen }
  let s := s.setJob p ((j.advance r.id c.tagged).noteStood c (s.stepNo p) posts)
  if posts then (List.range idle).foldl (fun s _ => s.post p o.post c.step c.tagged) s else s

/-! ### Movement -/

/-- The bytes of a view's planes, element plane first (R77, R78, R266). -/
def State.planes (s : State) (im : Image) (v : View) : List Byte :=
  let s := { s with poison := [] }
  let es := (List.range (prod v.shape)).map (fun n => s.elem im v (ixOf v.shape n))
  let elems :=
    if v.fmt = 1 then
      (List.range ((es.length + 1) / 2)).map (fun i =>
        BitVec.ofNat 8 ((es.getD (2 * i) (0, 0)).1 + 16 * (es.getD (2 * i + 1) (0, 0)).1))
    else if v.fmt = 6 then (es.map (fun e => toLE 4 (e.1 / 65536))).flatten
    else (es.map (fun e => toLE (elemBits v.fmt / 8) e.1)).flatten
  let second :=
    match v.axis with
    | some a => (blocksOf v.shape a).map (fun ns => BitVec.ofNat 8 (es.getD (ns.headD 0) (0, 0)).2)
    | none => if v.fmt = 6 then (es.map (fun e => toLE 2 e.1)).flatten else []
  elems ++ second

/-- The byte writes that give a view's planes their bytes. -/
def Image.planeWrites (im : Image) (v : View) (bs : List Byte) : List ByteW :=
  let n := prod v.shape
  let eb := elemBytes v.fmt n
  let at_ := fun (off len : Nat) => ofLE ((bs.drop off).take len)
  let elems := ((List.range n).map (fun k =>
    let code :=
      if v.fmt = 1 then at_ (k / 2) 1 / 16 ^ (k % 2) % 16
      else if v.fmt = 6 then at_ (4 * k) 4 * 65536 + at_ (eb + 2 * k) 2
      else at_ (elemBits v.fmt / 8 * k) (elemBits v.fmt / 8)
    im.putElem v (ixOf v.shape k) code)).flatten
  match v.axis with
  | some a =>
    elems ++ ((blocksOf v.shape a).zipIdx.map (fun b => im.putScale v (ixOf v.shape (b.1.headD 0)) (at_ (eb + b.2) 1))).flatten
  | none => elems

/-- Units of a destination view whose source bytes are poisoned (R292). -/
def State.carried (s : State) (im : Image) (src dst : View) : List Nat :=
  if s.poison.isEmpty then []
  else
    ((List.range (prod src.shape)).map (fun n =>
      match im.vloc src (ixOf src.shape n), im.vloc dst (ixOf dst.shape n) with
      | some a, some b =>
        (if s.bad a.byte then [b.byte / 64 * 64] else []) ++
          (match a.aux, b.aux with | some x, some y => if s.bad x then [y / 64 * 64] else [] | _, _ => [])
      | _, _ => [])).flatten.eraseDups

/-- A view's elements are those of one view copied to another of equal shape (R266, R356): byte writes and poison. -/
def State.copyView (s : State) (im : Image) (src dst : View) : List ByteW × List Nat :=
  (im.planeWrites dst (s.planes im src), s.carried im src dst)

/-- The registered offload region of a handle (R487). -/
def State.offloadOf (s : State) (p h : Nat) : Option Offload :=
  (s.host.offload.get p []).find? (fun x => x.handle = h && x.releasing.isNone)

/-- TRANSFER issues (R266): `data` is what a region answers for DIRECTION 2. What it reads is counted, and poisoned units with
event 0x2C02 (R291). -/
def State.issueTransfer (s : State) (c : OpCtx) (r : Rel) (data : List Byte) : State :=
  let p := c.p
  let o := c.op
  let posts := s.opPosts p c
  let sh := c.share r onceTile posts
  let dir := Chk.at' o 8 1
  let h := Chk.at' o 12 4
  let off := Chk.at' o 16 8
  let vi := s.opIn c 0
  let vo := s.opIn c 3
  let bytes := fun (v : View) => (s.planes c.im v).length
  let done := fun (s : State) (x : Share) =>
    let j := s.job p
    (s.setJob p ((({ j with shares := j.shares ++ [x] } : Job).advance r.id c.tagged).noteStood c (s.stepNo p) posts)).inc (O.at O.OPS_ISSUED p)
  if dir = 0 then
    let (ws, ps) := s.copyView c.im vi vo
    let s := (s.noteReads c.im p c.step vi.all).retention c 0
    done (s.add (O.at O.TRANSFER_BYTES p) (bytes vi)) { sh with writes := ws, poison := ps, outs := [sliceOf vo] }
  else
    let v := if dir = 1 then vi else vo
    let n := bytes v
    match s.offloadOf p h with
    | none => fault s done sh p
    | some x =>
      if x.count * 4096 < off + n then fault s done sh p
      else
        let s := s.add (O.at O.OFFLOAD_BYTES p) n
        if dir = 1 then
          let s := s.noteReads c.im p c.step vi.all
          done (s.send (.store p (x.start * 4096 + off) (s.planes c.im vi))) { sh with data := [] }
        else done (s.retention c 0) { sh with writes := c.im.planeWrites vo data, outs := [sliceOf vo] }
where
  /-- An offload transfer without a valid handle or range moves nothing and sets INVALID (R266). -/
  fault (s : State) (done : State → Share → State) (sh : Share) (p : Nat) : State :=
    done ((s.inc (O.at O.OFFLOAD_FAULTS p)).raise 0x3B03 { part := p }) { sh with flags := Fl.invalid }

/-- An operation command finds its release and operation, when it is due; the state has the step's bank in place, and the
context carries the tag. An operation whose untagged completion stands is passed over by the re-run (R354). -/
def State.findOp (s : State) (p rel opcode : Nat) : Option (State × OpCtx × Rel) :=
  match (s.job p).rels.find? (fun r => r.id = rel) with
  | none => none
  | some r =>
    let s := s.enterStep p r.step
    match s.opCtx p r with
    | none => none
    | some c => if s.opDue p r c opcode then some (s, { c with tagged := s.opTagged p r c }, r) else none

/-- The operation's untagged completion of before the squash stands (R354). -/
def State.stands (s : State) (c : OpCtx) : Bool := (s.job c.p).stood.contains (c.li, c.oi, c.step, c.mb, c.grain)

end Sys2Proof.Machine
end

