-- ==== Sys2Proof/Machine/Coll.lean ====
section
/-! DEFINITION. Coll.lean: the collective engine: starts, packets sent and received, folds, copies and completion of the
COLLECTIVES entries other than VOTE and PARTNER_COPY (R184, R205, R206, R265, R292, R355 to R360). -/

namespace Sys2Proof.Machine

/-- The collective entry of an index. -/
def Job.coll (j : Job) (e : Nat) : Option Coll := j.image.bind (fun im => im.colls[e]?)

/-- The chip and partition of a position of an entry (Table 12.11). -/
def Job.memberAt (j : Job) (c : Coll) (pos : Nat) : Nat × Nat := j.members.getD (c.members.getD pos 0xFFFF) (0x3FFF, 0)

/-- A view of a tensor, or of a slice of it. -/
def Image.sliceView (im : Image) (t bank : Nat) (pre : Option Nat) : View :=
  let v := im.view t bank
  match pre with
  | none => v
  | some g => { v with axis := (match v.axis with | some (a + 1) => some a | _ => none), shape := v.shape.drop 1, pre := some g }

/-- The address of every byte of a plane of a view, in the plane's linear order (Table 12.3). -/
def Image.planeAddrs (im : Image) (v : View) (plane : Nat) : List (Option Nat) :=
  let n := prod v.shape
  if plane = 0 then
    let w := elemBits v.fmt / 8
    (List.range (elemBytes v.fmt n)).map (fun b =>
      (im.vloc v (ixOf v.shape (if v.fmt = 1 then 2 * b else b / max 1 w))).map (fun l => l.byte + (if v.fmt = 1 then 0 else b % max 1 w)))
  else
    match v.axis with
    | some a => (blocksOf v.shape a).map (fun ns => (im.vloc v (ixOf v.shape (ns.headD 0))).bind (·.aux))
    | none =>
      if v.fmt = 6 then
        (List.range (2 * n)).map (fun b => ((im.vloc v (ixOf v.shape (b / 2))).bind (·.aux)).map (· + b % 2))
      else []

/-- Bytes of a plane of a view. -/
def Image.planeLen (im : Image) (v : View) (plane : Nat) : Nat := (im.planeAddrs v plane).length

/-- Read bytes of a plane; what lies beyond its end reads as zero. -/
def State.readPlane (s : State) (im : Image) (v : View) (plane off len : Nat) : List Byte :=
  let as := ((im.planeAddrs v plane).drop off).take len
  let bs := as.map (fun a => match a with | some x => Memory.read s.mem x | none => 0#8)
  bs ++ List.replicate (len - bs.length) 0#8

/-- Write bytes of a plane. -/
def State.writePlane (s : State) (im : Image) (v : View) (plane off : Nat) (bs : List Byte) : State :=
  let as := ((im.planeAddrs v plane).drop off).take bs.length
  s.applyWrites ((as.zip bs).filterMap (fun p => p.1.map (fun a => (a, p.2.toNat + 0xFF00))))

/-- Cut a stretch of bytes into packets of at most 4,096, in increasing order (R333): offset and length. -/
def cut4096 : Nat → Nat → Nat → List (Nat × Nat)
  | 0, _, _ => []
  | f + 1, off, len => if len = 0 then [] else (off, min 4096 len) :: cut4096 f (off + 4096) (len - 4096)

/-- SPEC of what work of a partition sends (Table 7.5, R205). -/
def State.specBits (s : State) (p : Nat) (tagged : Bool) : Nat := if tagged then 128 + 64 * (s.stepNo p % 2) else 0

/-- Send one COLL packet to a position of an entry (Table 12.3). -/
def State.sendCollPkt (s : State) (p : Nat) (c : Coll) (r : CRun) (pos plane carry off : Nat) (bs : List Byte) : State :=
  let (chip, part) := (s.job p).memberAt c pos
  let pad := (64 - bs.length % 64) % 64
  let k := s.mkPacket 6 (s.specBits p r.tagged) chip 0 c.channel p part (plane * 2 ^ 62 + carry * 2 ^ 48 + off) r.step 0 r.entry
    (bs ++ List.replicate pad 0#8)
  (s.add (O.at O.COLL_BYTES_SENT p) k.len).sendColl p k c.mask

/-- This partition's position in an entry. -/
def Job.posOf (j : Job) (c : Coll) : Nat := c.pos j.memberIx

/-- The source view of a start. -/
def Image.srcView (im : Image) (c : Coll) (r : CRun) : View := im.sliceView c.src r.srcBank r.srcPre
/-- The destination view of a start. -/
def Image.dstView (im : Image) (c : Coll) (r : CRun) : View := im.sliceView c.dst r.dstBank r.dstPre

/-- Elements of SRC and the shard length of a reducing entry (R357, R359). -/
def Coll.shards (c : Coll) (v : View) : Nat × Nat :=
  let e := prod v.shape
  (e, if c.kind = 3 then e else Chk.shardLen e c.members.length)

/-- Byte ranges of SRC by shard: the shard's owner, offset and length (R357). -/
def Coll.shardRanges (c : Coll) (v : View) : List (Nat × Nat × Nat) :=
  let (e, h) := c.shards v
  ((List.range (if c.kind = 3 then 1 else c.members.length)).map (fun k => (k, 4 * k * h, 4 * (min e ((k + 1) * h) - k * h)))).filter
    (fun x => 0 < x.2.2)

/-- Replace the run of an entry. -/
def Job.setRun (j : Job) (r : CRun) : Job := { j with colls := j.colls.map (fun x => if x.entry = r.entry then r else x) }

/-- Write a result shard of a reducing entry at its owner: values, flags into COLL_STATUS and the tap (R193, R356, R357). `e0`
is the index within SRC of the first element and `ws` are FP32 patterns. -/
def State.ownShard (s : State) (p : Nat) (c : Coll) (r : CRun) (k e0 flags : Nat) (ws : List Nat) : State :=
  let j := s.job p
  match j.image with
  | none => s
  | some im =>
    let vs := im.srcView c r
    let (e, h) := c.shards vs
    let dv := if c.kind = 3 then vs else im.dstView c r
    let o := if c.kind = 0 then e0 - k * h else e0
    let s := s.writePlane im dv 0 (4 * o) ((ws.map (toLE 4)).flatten)
    let b := (s.job p).bank r.step
    let s := s.setJob p ((s.job p).setBank r.step { b with coll := b.coll ||| Fl.close flags })
    if bit c.flags 0 then
      s.addTaps p r.step r.tagged [(c.slot, ((ws.zipIdx.filter (fun w => e0 + w.2 < e)).map (fun w => NormAcc.one w.1)).foldl NormAcc.plus {})]
    else s

/-- A copy of an owned shard starts along the ring of an ALL_REDUCE (R357). -/
def State.ringOn (s : State) (p : Nat) (c : Coll) (r : CRun) (pos owner plane off : Nat) (bs : List Byte) : State :=
  let n := c.members.length
  let next := (pos + 1) % n
  if n ≤ 1 || next = owner then s else s.sendCollPkt p c r next plane 0 off bs

/-- FP32 patterns of a payload. -/
def words32 : Nat → List Byte → List Nat
  | 0, _ => []
  | n + 1, bs => ofLE (bs.take 4) :: words32 n (bs.drop 4)

/-- A partial of the fold goes on from this position: to the next one, or, from the last one, to the shard's owner (R356). -/
def State.foldOn (s : State) (p : Nat) (c : Coll) (r : CRun) (pos off carry : Nat) (ws : List Nat) : State :=
  let n := c.members.length
  let bs := (ws.map (toLE 4)).flatten
  if pos + 1 < n then s.sendCollPkt p c r (pos + 1) 0 carry off bs
  else
    match (s.job p).image with
    | none => s
    | some im =>
      let (_, h) := c.shards (im.srcView c r)
      let k := if c.kind = 3 then 0 else off / (4 * max 1 h)
      if k = pos then
        let s := s.ownShard p c r k (off / 4) carry ws
        if c.kind = 2 then s.ringOn p c r pos k 0 off bs else s
      else s.sendCollPkt p c r k 0 carry off bs

/-- The SRC elements of this position over a byte range, as FP32 values (R292, R356). -/
def State.srcWords (s : State) (im : Image) (v : View) (off n : Nat) : List Nat :=
  (List.range n).map (fun i =>
    let k := off / 4 + i
    if k < prod v.shape then (s.elem im v (ixOf v.shape k)).1 else 0)

/-- The engine reads n elements of SRC from index k on: they are counted, and poisoned units raise event 0x2C02 (R291). -/
def State.noteSrc (s : State) (p : Nat) (im : Image) (v : View) (step k n : Nat) : State :=
  s.noteReads im p step ((List.range (min n (prod v.shape - k))).map (fun i => (v, ixOf v.shape (k + i))))

/-- NONFINITE_IN for elements of SRC that lie in a poisoned unit (R292). -/
def State.srcFlags (s : State) (im : Image) (v : View) (off n : Nat) : Nat :=
  if s.poison.isEmpty then 0
  else if (List.range n).any (fun i => match im.vloc v (ixOf v.shape (off / 4 + i)) with | some l => s.bad l.byte | none => false) then Fl.nonfinite
  else 0

/-- Units of a destination plane, from a byte of it on, whose source bytes are poisoned (R292). -/
def State.carriedPlane (s : State) (im : Image) (src dst : View) (plane off : Nat) : List Nat :=
  if s.poison.isEmpty then []
  else
    ((im.planeAddrs src plane).zip ((im.planeAddrs dst plane).drop off)).filterMap (fun (x : Option Nat × Option Nat) =>
      match x with
      | (some a, some b) => if s.bad a then some b else none
      | _ => none)

/-- The distance between the slices of an ALL_GATHER in COLL addresses: a slice's length, rounded up to the 64 bytes that an offset
is a multiple of (Table 12.3, R358, log entry 128). -/
def sliceStep (len : Nat) : Nat := cdiv len 64 * 64

/-- What an entry sends by itself when it starts (R356 to R360). -/
def State.collBegin (s : State) (p : Nat) (c : Coll) (r : CRun) : State :=
  let j := s.job p
  match j.image with
  | none => s
  | some im =>
    let pos := j.posOf c
    let n := c.members.length
    let vs := im.srcView c r
    let fuel := fun len => len / 4096 + 1
    if c.kind = 0 || c.kind = 2 || c.kind = 3 then
      let s :=
        if pos ≠ 0 then s
        else
          (c.shardRanges vs).foldl (fun s x =>
            (cut4096 (fuel x.2.2) x.2.1 x.2.2).foldl (fun s q =>
              (s.noteSrc p im vs r.step (q.1 / 4) (q.2 / 4)).foldOn p c r pos q.1 (s.srcFlags im vs q.1 (q.2 / 4))
                (s.srcWords im vs q.1 (q.2 / 4))) s) s
      if c.kind = 3 then s
      else
        let (e, h) := c.shards vs
        if c.kind = 0 then
          let from_ := max e (pos * h)
          if from_ < (pos + 1) * h then
            s.writePlane im (im.dstView c r) 0 (4 * (from_ - pos * h)) (List.replicate (4 * ((pos + 1) * h - from_)) 0#8)
          else s
        else s
    else if c.kind = 1 then
      let vd := im.dstView c r
      let s := s.noteSrc p im vs r.step 0 (prod vs.shape)
      let bad := ([0, 1].map (fun pl => s.carriedPlane im vs vd pl (pos * im.planeLen vs pl))).flatten
      let s := [0, 1].foldl (fun s pl =>
        let len := im.planeLen vs pl
        (cut4096 (fuel len) 0 len).foldl (fun s q =>
          let bs := s.readPlane im vs pl q.1 q.2
          (s.writePlane im vd pl (pos * len + q.1) bs).ringOn p c r pos pos pl (pos * sliceStep len + q.1) bs) s) s
      bad.foldl State.poisonUnit s
    else if c.kind = 4 then
      let (chip, part) := j.memberAt c 1
      let s :=
        if r.grain = 0 then
          match j.mbs.find (mbKey r.step r.mb) with
          | some (g, rows) =>
            let rec_ := fld 0 r.step + fld 8 r.mb + fld 10 g + fld 12 rows
            s.sendColl p (s.mkPacket 8 (s.specBits p r.tagged) chip 0 0 p part 0 r.step 0 r.entry (toLE 16 rec_)) c.mask
          | none => s
        else s
      let s := s.noteSrc p im vs r.step 0 (prod vs.shape)
      [0, 1].foldl (fun s pl =>
        let len := im.planeLen vs pl
        (cut4096 (fuel len) 0 len).foldl (fun s q => s.sendCollPkt p c r 1 pl 0 q.1 (s.readPlane im vs pl q.1 q.2)) s) s
    else if n = 0 then s
    else s

/-- The record of what has come in: phase, plane and offset. -/
def gotKey (phase plane off : Nat) : Nat := (phase * 2 + plane) * 2 ^ 48 + off

/-- A COLL packet meets the running start of its entry (R356 to R360). The answer is none when it belongs to a later
start and is kept. -/
def State.collTake (s : State) (p : Nat) (c : Coll) (r : CRun) (k : Packet) (tagged : Bool) : Option State :=
  let j := s.job p
  match j.image with
  | none => some s
  | some im =>
    let pos := j.posOf c
    let n := c.members.length
    let plane := bits k.addr 63 62
    let carry := bits k.addr 57 48
    let off := bits k.addr 47 0
    let src := (List.range n).find? (fun i => j.memberAt c i = (k.srcChip, k.srcPart))
    let r := { r with tagged := r.tagged || tagged }
    let dst : Nat × Nat := sliceOf (if c.kind = 3 then im.srcView c r else im.dstView c r)
    let take := fun (s : State) (key : Nat) =>
      let j := (s.job p).setRun { r with got := key :: r.got, gotTag := if tagged then key :: r.gotTag else r.gotTag }
      s.setJob p (if r.tagged && !j.bufTags.contains dst then { j with bufTags := dst :: j.bufTags } else j)
    if k.step ≠ r.step % 2 ^ 32 then none
    else
      match src with
      | none => some s
      | some i =>
        if c.kind = 0 || c.kind = 2 || c.kind = 3 then
          let vs := im.srcView c r
          let (e, h) := c.shards vs
          let sh := if c.kind = 3 then 0 else off / (4 * max 1 h)
          let nw := min (k.payload.length / 4) (min e ((sh + 1) * h) - off / 4)
          let ws := words32 nw k.payload
          if 0 < pos && i + 1 = pos && !r.got.contains (gotKey 0 0 off) then
            let ys := (ws.zip (s.srcWords im vs off nw)).map (fun x => V.add x.1 x.2)
            let fl := ys.foldl (fun f y => f ||| y.2) carry
            let s := s.noteSrc p im vs r.step (off / 4) nw
            some ((take s (gotKey 0 0 off)).foldOn p c r pos off fl (ys.map (·.1)))
          else if i + 1 = n && sh = pos && pos + 1 < n then
            if r.got.contains (gotKey 1 0 off) then none
            else
              let s := (take s (gotKey 1 0 off)).ownShard p c r pos (off / 4) carry ws
              some (if c.kind = 2 then s.ringOn p c r pos pos 0 off ((ws.map (toLE 4)).flatten) else s)
          else if c.kind = 2 && sh ≠ pos then
            if r.got.contains (gotKey 2 0 off) then none
            else
              let bs := (ws.map (toLE 4)).flatten
              some (((take s (gotKey 2 0 off)).writePlane im (im.dstView c r) 0 off bs).ringOn p c r pos sh 0 off bs)
          else if 0 < pos && i + 1 = pos then none
          else some s
        else if c.kind = 1 then
          let len := im.planeLen (im.srcView c r) plane
          let sl := off / max 1 (sliceStep len)
          let o := off % max 1 (sliceStep len)
          let bs := k.payload.take (len - o)
          if r.got.contains (gotKey 0 plane off) then none
          else some (((take s (gotKey 0 plane off)).writePlane im (im.dstView c r) plane (sl * len + o) bs).ringOn p c r pos sl plane off bs)
        else if c.kind = 5 then
          if r.got.contains (gotKey 0 plane off) then none
          else if r.mb ≠ 0xFFFF && (j.mbs.find (mbKey r.step r.mb)).isNone then none
          else some ((take s (gotKey 0 plane off)).writePlane im (im.dstView c r) plane off k.payload)
        else some s

/-- Taking a packet would write bytes of the start's destination that a checkpoint has still to read (R424). A partial that goes on to
another position writes nothing. -/
def State.collWaits (s : State) (p : Nat) (c : Coll) (r : CRun) (k : Packet) : Bool :=
  let j := s.job p
  match j.image with
  | none => false
  | some im =>
    let pos := j.posOf c
    let reduces : Bool := c.kind = 0 || c.kind = 2 || c.kind = 3
    let sh := if c.kind = 3 then 0 else bits k.addr 47 0 / (4 * max 1 (c.shards (im.srcView c r)).2)
    let passes : Bool := reduces && j.memberAt c (pos - 1) = (k.srcChip, k.srcPart) && 0 < pos &&
      !r.got.contains (gotKey 0 0 (bits k.addr 47 0)) && !(pos + 1 = c.members.length && sh = pos)
    !passes && (if c.kind = 3 then j.ckHeld c.src r.srcBank else j.ckHeld c.dst r.dstBank)

/-- A COLL packet for a partition's entry is accepted: taken by the running start, or kept until its start runs (R355) and no checkpoint
has still to read what it writes (R424). -/
def State.collRx (s : State) (p : Nat) (k : Packet) (tagged : Bool) : State :=
  let j := s.job p
  match j.coll k.arg with
  | none => s
  | some c =>
    match ((j.colls.find? (fun r => r.entry = k.arg)).bind (fun r => if s.collWaits p c r k then none else s.collTake p c r k tagged)) with
    | some s => s
    | none => s.setJob p { j with collHeld := j.collHeld ++ [k] }

/-- SPEC of a packet counts as tagged at a receiver (R206): its parity names the pending vote. -/
def State.pktTagged (s : State) (p : Nat) (k : Packet) : Bool := k.spec = 2 + s.stepNo p % 2

/-- The kept packets of an entry are offered to its start again. -/
def State.collOffer (s : State) (p entry : Nat) : State :=
  let j := s.job p
  let (mine, rest) := j.collHeld.partition (fun k => k.arg = entry)
  mine.foldl (fun s k => s.collRx p k (s.pktTagged p k)) (s.setJob p { j with collHeld := rest })

/-- An entry starts (R355): it binds its step, micro-batch and grain, and sends what it has to send by itself. -/
def State.collStart (s : State) (p : Nat) (w : CWait) : State :=
  let j := s.job p
  match j.coll w.entry, j.image with
  | some c, some im =>
    let live := fun (t : Nat) => j.live.get t 0
    let bank := fun (t : Nat) (shadow : Bool) =>
      if bit (im.tflags t) 2 then (if shadow then 1 - live t else live t) else 0
    let sh := bit c.flags 2 || w.tagged
    let r : CRun :=
      { entry := w.entry, step := w.step, mb := w.mb, grain := w.grain, tagged := w.tagged, srcPre := w.srcPre, dstPre := w.dstPre,
        srcBank := bank c.src sh, dstBank := bank c.dst sh, own := w.tagged }
    let dst : Nat × Nat := sliceOf (if c.kind = 3 then im.srcView c r else im.dstView c r)
    let s := s.setJob p { j with colls := j.colls ++ [r], finalStep := if bit c.flags 1 then some w.step else j.finalStep, bufTags := if w.tagged && c.kind < 4 then dst :: j.bufTags else j.bufTags }
    (s.collBegin p c r).collOffer p w.entry
  | _, _ => s

/-- An entry is running. -/
def Job.collBusy (j : Job) (e : Nat) : Bool := j.colls.any (fun r => r.entry = e)

/-- A start's destination holds bytes that a checkpoint has still to read (R424). -/
def State.collCkHeld (s : State) (p : Nat) (w : CWait) : Bool :=
  let j := s.job p
  match j.coll w.entry, j.image with
  | some c, some im =>
    let t := if c.kind = 3 then c.src else c.dst
    let live := j.live.get t 0
    j.ckHeld t (if bit (im.tflags t) 2 then (if bit c.flags 2 || w.tagged then 1 - live else live) else 0)
  | _, _ => false

/-- A start of an entry: at once, or waiting behind the entry's earlier starts or as a held layer ready (R184, R355). -/
def State.collRequest (s : State) (p : Nat) (w : CWait) : State :=
  let j := s.job p
  let behind := j.collBusy w.entry || j.collWait.any (fun x => x.entry = w.entry && !x.held)
  if w.held || behind || s.collCkHeld p w then
    s.setJob p { j with collWait := j.collWait ++ [{ w with since := if behind && !w.held then some s.now else none }] }
  else s.collStart p w

/-- The previous start of an entry has completed: the wait of the next one behind it ends, and is counted here where a checkpoint
still holds that start (R355, R424). -/
def State.collFreed (s : State) (p entry : Nat) : State :=
  let j := s.job p
  match j.collWait.find? (fun w => w.entry = entry && !w.held) with
  | none => s
  | some w =>
    if !s.collCkHeld p w then s
    else
      (s.setJob p { j with collWait := j.collWait.map (fun x => if x = w then { x with since := none } else x) }).add
        (O.at O.COLLECTIVE_START_WAIT_CYCLES p) ((w.since.map (fun t => s.cycles (s.now - t))).getD 0)

/-- The first waiting start of an entry begins once the previous one has completed (R355); `waited` counts for one that waited
behind it. -/
def State.collNext (s : State) (p entry waited : Nat) : State :=
  let j := s.job p
  match j.collWait.find? (fun w => w.entry = entry && !w.held) with
  | none => s
  | some w =>
    if j.collBusy entry || s.collCkHeld p w then s
    else
      let s := s.setJob p { j with collWait := j.collWait.erase w }
      (if w.since.isSome then s.add (O.at O.COLLECTIVE_START_WAIT_CYCLES p) waited else s).collStart p w

/-- Keys of the packets that a start must receive (Table 12.11). -/
def State.collNeeds (s : State) (p : Nat) (c : Coll) (r : CRun) : List Nat :=
  let j := s.job p
  match j.image with
  | none => []
  | some im =>
    let pos := j.posOf c
    let n := c.members.length
    let offs := fun (off len : Nat) => (cut4096 (len / 4096 + 1) off len).map (·.1)
    if c.kind = 0 || c.kind = 2 || c.kind = 3 then
      let rs := c.shardRanges (im.srcView c r)
      let part := if 0 < pos then ((rs.map (fun x => offs x.2.1 x.2.2)).flatten).map (gotKey 0 0) else []
      let fin := if pos + 1 < n then (((rs.filter (·.1 = pos)).map (fun x => offs x.2.1 x.2.2)).flatten).map (gotKey 1 0) else []
      let ring := if c.kind = 2 then (((rs.filter (·.1 ≠ pos)).map (fun x => offs x.2.1 x.2.2)).flatten).map (gotKey 2 0) else []
      part ++ fin ++ ring
    else if c.kind = 1 then
      ([0, 1].map (fun pl =>
        let len := im.planeLen (im.srcView c r) pl
        (((List.range n).filter (· ≠ pos)).map (fun k => (offs (k * sliceStep len) len).map (gotKey 0 pl))).flatten)).flatten
    else if c.kind = 5 then
      ([0, 1].map (fun pl => (offs 0 (im.planeLen (im.dstView c r) pl)).map (gotKey 0 pl))).flatten
    else []

/-- An entry's running start has handed over the partials that this position sends: all those it needs for them have come in (R356). -/
def State.collSent (s : State) (p : Nat) (c : Coll) (r : CRun) : Bool :=
  (s.collNeeds p c r).all (fun k => 2 ^ 49 ≤ k || r.got.contains k)

/-- An entry's running start has read, sent, received and written all it must (R355); the lowest PARTNER_COPY entry sends the
manifest of its boundary too (R431). -/
def State.collDone (s : State) (p : Nat) (c : Coll) (r : CRun) : Bool :=
  let j := s.job p
  (s.collNeeds p c r).all r.got.contains && !s.net.waiting.any (fun w => w.part = p && w.pkt.typ = 6 && w.pkt.arg = r.entry) &&
    !(c.kind = 7 && j.ckpt.runs.any (fun x => x.layer = 1 && x.boundary = r.step) &&
      (j.image.bind (fun im => im.colls.findIdx? (fun x => x.kind = 7))) = some r.entry)

/-- The partition that owns a micro-batch record checks it and takes it (R227). The answer tells whether it was taken. -/
def State.takeMb (s : State) (p : Nat) (rec_ : Nat) : State × Bool :=
  let j := s.job p
  let step := recF rec_ 0 8
  let mb := recF rec_ 8 2
  let g := recF rec_ 10 2
  let rows := recF rec_ 12 4
  match j.image with
  | none => (s.inc (O.at O.MB_REJECTED p), false)
  | some im =>
    let ended := step + 1 < s.stepNo p ||
      j.progs.any (fun x => x.step = step && x.base + im.stage.stepBeats ≤ s.obj O.SCHEDULE_BEAT)
    if im.stage.mbs ≤ mb || g = 0 || im.stage.maxGrains < g || rows = 0 || im.stage.grainRows < rows || ended ||
        (j.mbs.find (mbKey step mb)).isSome || step < im.commit.stepStart
    then (s.inc (O.at O.MB_REJECTED p), false)
    else (s.setJob p { j with mbs := j.mbs.set (mbKey step mb) (g, rows) }, true)

end Sys2Proof.Machine
end

