-- ==== Sys2Proof/Machine/Commit.lean ====
section
/-! DEFINITION. Commit.lean: the step's vote: contributions, the vote tree, the norm and commit rounds, what completed
sync objects start, and the application of the final vote at an edge (R95, R184, R188 to R211, R354, R361, R362). -/

namespace Sys2Proof.Machine

/-! ### Contributions and the tree -/

/-- Bytes of a contribution (Table 7.1). -/
def Contrib.bytes (c : Contrib) : List Byte :=
  toLE (128 + 80 * c.layers.length)
    (fld 0 (c.sumsq % 2 ^ 640) + fld 80 c.nonfinite + fld 88 (c.step % 2 ^ 32) + fld 92 (c.contributors % 65536) + fld 94 c.failChip +
      fld 96 c.flags + fld 98 c.round + fld 99 c.layers.length + fld 100 c.lr + fld 104 c.wd + fld 108 c.commitRound +
      ((c.layers.zipIdx).map (fun x => fld (128 + 80 * x.2) (x.1 % 2 ^ 640))).foldl (· + ·) 0)

/-- A contribution from the payload of a VOTE packet; none when a reserved bit is set, ROUND is not a round, or
LAYER_COUNT is not the number of layer entries (R8, R9). -/
def Contrib.parse (bs : List Byte) : Option Contrib :=
  let r := ofLE bs
  let k := recF r 99 1
  if recF r 109 19 ≠ 0 || 32 ≤ recF r 96 2 || !(recF r 98 1 = 1 || recF r 98 1 = 2) || bs.length ≠ 128 + 80 * k then none
  else
    some
      { sumsq := recF r 0 80, nonfinite := recF r 80 8, step := recF r 88 4, contributors := recF r 92 2, failChip := recF r 94 2,
        flags := recF r 96 2, round := recF r 98 1, lr := recF r 100 4, wd := recF r 104 4, commitRound := recF r 108 1,
        layers := (List.range k).map (fun i => recF r (128 + 80 * i) 80) }

/-- Two contributions combine by Table 7.1 and the equality rule (R191). -/
def Contrib.combine (a b : Contrib) : Contrib :=
  let same := a.step = b.step && a.round = b.round && a.layers.length = b.layers.length && a.lr = b.lr && a.wd = b.wd &&
    a.commitRound = b.commitRound
  { sumsq := (a.sumsq + b.sumsq) % 2 ^ 640, nonfinite := min (a.nonfinite + b.nonfinite) (2 ^ 64 - 1), step := min a.step b.step,
    contributors := (a.contributors + b.contributors) % 65536, failChip := min a.failChip b.failChip,
    flags := a.flags ||| b.flags ||| (if same then 0 else 16), round := min a.round b.round, lr := min a.lr b.lr, wd := min a.wd b.wd,
    commitRound := min a.commitRound b.commitRound, layers := (a.layers.zip b.layers).map (fun x => (x.1 + x.2) % 2 ^ 640) }

/-- The VOTE entry of an image with its index (R357). -/
def Job.voteEntry (j : Job) : Option (Coll × Nat) := j.image.bind (fun im => im.colls.zipIdx.find? (fun x => x.1.kind = 6))

/-- The children of a position in the vote tree of n members (R362). -/
def voteKids (pos n : Nat) : List Nat := ([1, 2, 3, 4].map (fun k => 4 * pos + k)).filter (· < n)

/-- What a position holds for a round and packet STEP (R191). -/
def Job.hop (j : Job) (round step : Nat) : Hop :=
  (j.hops.find? (fun h => h.round = round && h.step = step % 2 ^ 32)).getD { round := round, step := step % 2 ^ 32 }

/-- Replace it. -/
def Job.setHop (j : Job) (h : Hop) : Job :=
  { j with hops := h :: j.hops.filter (fun x => !(x.round = h.round && x.step = h.step)) }

/-- Send a contribution or a result to a position of the vote tree. -/
def State.sendVote (s : State) (p : Nat) (c : Coll) (entry pos step : Nat) (x : Contrib) : State :=
  let dest := (s.job p).memberAt c pos
  s.sendColl p (s.mkPacket 7 0 dest.1 0 0 p dest.2 0 step 0 entry x.bytes) c.mask

/-- The result goes to every child of this position (R362). -/
def State.passDown (s : State) (p step : Nat) (x : Contrib) : State :=
  let j := s.job p
  match j.voteEntry with
  | none => s
  | some (c, e) => (voteKids (j.posOf c) c.members.length).foldl (fun s k => s.sendVote p c e k step x) s

/-! ### The rounds -/

/-- The commit contribution is formed by no optimizer work when the image has none inside the window (R202, DEDUCED). -/
def Image.commitEmpty (im : Image) : Bool := !im.lists.any (·.phase = 6) && !im.colls.any (fun c => bit c.flags 2)

/-- The norm of a sum of squares in units of 2^-298 under the shift G (R196). -/
def normOfSum (sumsq : Nat) (g : Int) : Nat := (rnd (Num.fin false sumsq (-298 - 2 * g)).sqrt 0).1

/-- Release the lists of a trigger for a step (R200, R224, R226). -/
def Job.releaseLists (j : Job) (trigger pair step beat : Nat) (tagged : Bool) : Job :=
  match j.image with
  | none => j
  | some im =>
    (im.lists.zipIdx.filter (fun l => l.1.trigger = trigger && (trigger ≠ 1 || l.1.pair = pair))).foldl (fun (j : Job) l =>
      { j with relNext := j.relNext + 1,
               rels := j.rels ++ [{ id := j.relNext, list := l.2, step := step, mb := 0xFFFF, grain := 0xFFFF, beat := beat,
                                    planned := false, tagged := tagged, next := 0, tagAt := none }] }) j

/-- The final vote of a step is known; it applies at the next edge (R203). -/
def State.decide (s : State) (p : Nat) (f : Final) : State :=
  let j := s.job p
  let s := s.put (O.at O.LAST_VOTE_LATENCY_NS p) (min (s.refNs - j.sentNs) 0xFFFFFFFF)
  (s.setJob p { j with final := some f, voteDeadline := none }).put (O.at O.VOTE_STATE p) 4

/-- INCONSISTENT of a round (R195, R203), with event 0x3902. -/
def State.inconsistent (s : State) (p : Nat) (c : Contrib) : State × Bool :=
  let m := ((s.job p).image.map (fun im => im.commit.members)).getD 0
  if bit c.flags 4 || c.contributors ≠ m then (s.raise 0x3902 { part := p }, true) else (s, false)

/-- The scalars of R201 from the first Adam entry of the optimizer table. -/
def Job.powers (j : Job) : Nat × Nat :=
  match j.image.bind (fun im => im.opts.find? (·.kind = 2)) with
  | some e => ((V.mul j.b1pow e.b1).1, (V.mul j.b2pow e.b2).1)
  | none => (j.b1pow, j.b2pow)

/-- A norm-round result is accepted (R195, R196). The answer tells whether it passed and a commit round follows. -/
def State.normResult (s : State) (p : Nat) (c : Contrib) : State × Bool :=
  let n := s.stepNo p
  let j := s.job p
  match j.image with
  | none => (s, false)
  | some im =>
    let g := s.gradShift p
    let gn := normOfSum c.sumsq g
    let (s, inc) := s.inconsistent p c
    let nonf := bit c.flags 0 || bit c.flags 1 || c.nonfinite ≠ 0
    let range := gn = inf32
    let ok := !inc && !nonf && !range
    let t := (V.add gn im.commit.clipEps).1
    let clip :=
      if !ok then 0
      else if im.commit.maxNorm = inf32 then one32
      else (V.minMax false one32 (V.div im.commit.maxNorm t).1).1
    let (p1, p2) := j.powers
    let x : Norm :=
      { j.normOf n with
        step := n, gnorm := gn, clip := clip, nonfinite := c.nonfinite, layers := c.layers.map (fun q => normOfSum q g),
        failChip := c.failChip, passed := ok, accepted := true, p1 := p1, p2 := p2, shift := g }
    let j := { j.setNorm x with lastNorm := x.layers, voteDeadline := none }
    let s := ((s.setJob p j).put (O.at O.LAST_GLOBAL_NORM p) gn).put (O.at O.LAST_CLIP p) clip
    if !ok then
      (s.decide p { outcome := 32 * b2n inc + 2 * b2n nonf + 4 * b2n range, failChip := c.failChip }, false)
    else
      let s := s.setJob p ((s.job p).releaseLists 2 0 n (s.obj O.SCHEDULE_BEAT) false)
      if im.commit.commitRound = 0 then (s.decide p { outcome := 1, failChip := c.failChip }, false)
      else (s.put (O.at O.VOTE_STATE p) 2, true)

/-- A commit-round result is accepted (R203). -/
def State.commitResult (s : State) (p : Nat) (c : Contrib) : State :=
  let nc := ((s.job p).normOf (s.stepNo p)).failChip
  let (s, inc) := s.inconsistent p c
  let late := bit c.flags 2
  let veto := bit c.flags 3
  s.decide p { outcome := if inc || late || veto then 32 * b2n inc + 8 * b2n late + 16 * b2n veto else 1, failChip := min nc c.failChip }

/-- The VOTE entry of a partition completes for the steps that have their result, once every VOTE packet it sends has been handed
to a link (R355, log entry 127). -/
def State.voteHanded (s : State) (p : Nat) : State :=
  let j := s.job p
  match j.voteEntry with
  | none => s
  | some (c, e) =>
    if s.net.waiting.any (fun w => w.part = p && w.pkt.typ = 7 && w.pkt.arg = e) then s
    else
      j.voteOwed.foldl (fun s n => (s.inc (O.at O.COLL_ENTRIES_COMPLETED p)).post p c.post n false)
        (s.setJob p { j with voteOwed := [] })

/-- The result of a round has come for the pending step's VOTE entry (R355). -/
def State.voteDone (s : State) (p : Nat) : State :=
  (s.setJob p { s.job p with voteOwed := (s.job p).voteOwed ++ [s.stepNo p] }).voteHanded p

/-- A result of a round arrives at this partition's bridle cores: that of the pending vote's awaited round, or one to be
counted in VOTE_LATE_DROPPED (R191, R209). The answer tells whether the commit round is open. -/
def State.acceptResult (s : State) (p step : Nat) (c : Contrib) : State × Bool :=
  let j := s.job p
  let n := s.stepNo p
  let vs := s.obj (O.at O.VOTE_STATE p)
  if n % 2 ^ 32 ≠ step % 2 ^ 32 || vs = 5 || vs = 6 || c.round ≠ j.sentRound || j.final.isSome || j.voteDeadline.isNone then
    (s.inc (O.at O.VOTE_LATE_DROPPED p), false)
  else if c.round = 1 then (s.voteDone p).normResult p c
  else ((s.voteDone p).commitResult p c, false)

/-- A position that holds its own contribution and those of all its children sends their combination to its parent; the
root's is the result, which it sends down and accepts (R362). A partition in VOTE_LOST or STOPPED sends none upward (R343). The
answer tells whether the commit round is open. -/
def State.voteTry (s : State) (p round step : Nat) : State × Bool :=
  let j := s.job p
  match j.voteEntry with
  | none => (s, false)
  | some (c, e) =>
    let h := j.hop round step
    let pos := j.posOf c
    let vs := s.obj (O.at O.VOTE_STATE p)
    if h.sent || !h.own || !(voteKids pos c.members.length).all h.got.contains then (s, false)
    else
      match h.acc with
      | none => (s, false)
      | some x =>
        if pos = 0 then
          let s := s.setJob p (j.setHop { h with sent := true, result := true, acc := none })
          (s.passDown p step x).acceptResult p step x
        else if vs = 5 || vs = 6 then (s, false)
        else
          let s := s.setJob p (j.setHop { h with sent := true, acc := none })
          (s.sendVote p c e ((pos - 1) / 4) step x, false)

/-- A contribution joins this position's combination. -/
def Hop.add (h : Hop) (x : Contrib) : Hop :=
  { h with acc := some (match h.acc with | none => x | some a => a.combine x) }

/-- This partition contributes to a round (R194, R202): the vote timeout starts (R209). -/
def State.contribute (s : State) (p : Nat) (x : Contrib) : State × Bool :=
  let im := (s.job p).image
  let n := s.stepNo p
  let j := s.job p
  let dl := s.obj O.BEAT_COUNT + (im.map (fun i => i.commit.timeoutBeats)).getD 0
  let j := { j with sentRound := x.round, voteDeadline := some dl, sentNs := if x.round = 1 then s.refNs else j.sentNs }
  let s := s.setJob p (j.setHop { (j.hop x.round n).add x with own := true })
  s.voteTry p x.round n

/-- The newest block that names a step: the one that stood when its VOTE_SAMPLE completed, where a vote was pending then
(R192, R197). -/
def Job.paramOf (j : Job) (n : Nat) : Option Param :=
  match j.frozen.find? (fun x => x.1 = n) with
  | some x => x.2
  | none => j.params.find? (fun x => x.step = n)

/-- The parameters of a step at the completion of its VOTE_SAMPLE (R197). -/
def State.takeParams (s : State) (p n : Nat) : State × Param :=
  let j := s.job p
  let b := j.paramOf n
  let j := { j with frozen := j.frozen.filter (fun x => n < x.1), params := j.params.filter (fun y => n < y.step) }
  let s := s.setJob p j
  match b with
  | some x => (s.setJob p { j with lastParam := some x }, x)
  | none =>
    match j.lastParam with
    | some x => ((s.inc (O.at O.PARAM_REUSED p)).raise 0x2904 { part := p }, x)
    | none => (s, { step := n, lr := 0, wd := 0 })

/-- The norm-round contribution of step n (R193). -/
def State.formContrib (s : State) (p n : Nat) (pr : Param) : Contrib :=
  let j := s.job p
  let b := j.bank n
  let b : Bank := if b.step = some n then b else {}
  let fails := b.fails
  let slots := (j.image.map (fun im => im.slots)).getD []
  let acc := fun k => b.main.slots.get k {}
  let glob := slots.filter (fun x => x.kind = 1 && bit x.flags 7)
  let cr := (j.image.map (fun im => im.commit.commitRound)).getD 0
  let nt := (j.image.map (fun im => im.commit.trailers)).getD 0
  { sumsq := (glob.map (fun x => (acc x.slot).sumsq)).foldl (· + ·) 0,
    nonfinite := min ((glob.map (fun x => (acc x.slot).nonfin)).foldl (· + ·) 0) (2 ^ 64 - 1),
    step := n % 2 ^ 32, contributors := 1, failChip := if fails then s.obj O.CHIP_NUMBER else 0x3FFF,
    flags := b2n fails + 2 * b2n (b.coll &&& 0x25 ≠ 0), round := 1, lr := pr.lr, wd := pr.wd, commitRound := cr,
    layers := (List.range nt).map (fun k =>
      match slots.find? (fun x => bit x.flags 6 && x.flags % 32 = k) with
      | some x => (acc x.slot).sumsq
      | none => 0) }

/-- The packets of the FINAL weight's reduce-scatter of step n have all been handed to links, or the stage has no FINAL
weight (R194, R362). -/
def State.finalHanded (s : State) (p n : Nat) : Bool :=
  let j := s.job p
  match j.image.bind (fun im => im.colls.zipIdx.find? (fun x => bit x.1.flags 1)) with
  | none => true
  | some (c, e) =>
    j.finalStep = some n && j.colls.all (fun r => r.entry ≠ e || r.step ≠ n || s.collSent p c r) &&
      !j.collWait.any (fun w => w.entry = e && w.step = n) &&
      !s.net.waiting.any (fun w => w.part = p && w.pkt.typ = 6 && w.pkt.arg = e)

/-- The commit-round contribution of the pending step (R202). -/
def State.commitSend (s : State) (p : Nat) : State :=
  let n := s.stepNo p
  let j := s.job p
  let x := j.normOf n
  let b := j.bank n
  let late := b.step = some n && b.fails
  let veto := j.vetoes.contains n
  let cr := (j.image.map (fun im => im.commit.commitRound)).getD 0
  let s := s.put (O.at O.VOTE_STATE p) 3
  (s.contribute p
    { step := n % 2 ^ 32, contributors := 1, failChip := if late || veto then s.obj O.CHIP_NUMBER else 0x3FFF,
      flags := 4 * b2n late + 8 * b2n veto, round := 2, lr := x.lr, wd := x.wd, commitRound := cr }).1

/-- The commit round is open: a contribution that its COMMIT_SAMPLE already allows goes out (R202). -/
def State.commitOpen (s : State) (p : Nat) : State :=
  let j := s.job p
  let n := s.stepNo p
  let due := (match j.image with | some im => im.commitEmpty | none => false) || j.sampled.contains (n, 2)
  if due && (j.normOf n).passed && j.sentRound = 1 && j.final.isNone then
    (s.setJob p { j with sampled := j.sampled.filter (· ≠ (n, 2)) }).commitSend p
  else s

/-- A formed norm contribution is sent once the FINAL weight's packets have gone (R194). -/
def State.normSend (s : State) (p : Nat) : State :=
  let j := s.job p
  match j.formed with
  | none => s
  | some x =>
    if s.finalHanded p (s.stepNo p) then
      let r := (s.setJob p { j with formed := none }).contribute p x
      if r.2 then r.1.commitOpen p else r.1
    else s

/-- The norm-round contribution of the pending step is formed (R193). -/
def State.formNorm (s : State) (p : Nat) : State :=
  let n := s.stepNo p
  let vs := s.obj (O.at O.VOTE_STATE p)
  if (s.job p).sentRound ≠ 0 || (s.job p).formed.isSome || vs = 5 || vs = 6 then s
  else
    let r := s.takeParams p n
    let s := r.1
    let x := s.formContrib p n r.2
    let j := s.job p
    (s.setJob p { j.setNorm { step := n, lr := r.2.lr, wd := r.2.wd } with formed := some x }).normSend p

/-- A VOTE packet is accepted for a partition (R191, R362). -/
def State.voteRx (s : State) (p : Nat) (k : Packet) : State :=
  let late := s.inc (O.at O.VOTE_LATE_DROPPED p)
  match Contrib.parse k.payload with
  | none => s.inc O.MALFORMED_PKT
  | some x =>
    let j := s.job p
    match j.voteEntry with
    | none => late
    | some (c, e) =>
      let pos := j.posOf c
      let n := c.members.length
      if k.arg ≠ e then late
      else
        let h := j.hop x.round k.step
        if 0 < pos && j.memberAt c ((pos - 1) / 4) = (k.srcChip, k.srcPart) then
          if h.result then late
          else
            let vs := s.obj (O.at O.VOTE_STATE p)
            let s := s.setJob p (j.setHop { h with result := true })
            let s := if vs = 5 then s else s.passDown p k.step x
            let r := s.acceptResult p k.step x
            if r.2 then r.1.commitOpen p else r.1
        else
          match (voteKids pos n).find? (fun i => j.memberAt c i = (k.srcChip, k.srcPart)) with
          | none => late
          | some i =>
            if h.sent || h.got.contains i then late
            else
              let s := s.setJob p (j.setHop { h.add x with got := i :: h.got })
              let r := s.voteTry p x.round k.step
              if r.2 then r.1.commitOpen p else r.1

/-- VOTE_TIMEOUT (R209): VOTE_TIMEOUT_BEATS have passed since a contribution without its result. -/
def execVoteTimeout (part : Fin 4) (s : State) : Outcome :=
  let p := part.val
  let j := s.job p
  match j.voteDeadline with
  | none => ok s
  | some d =>
    if d ≤ s.obj O.BEAT_COUNT then
      ok ((((s.setJob p { j with voteDeadline := none }).put (O.at O.VOTE_STATE p) 5).raise 0x3906 { part := p }).dropWaiting p)
    else ok s

/-- An FP32 pattern that is finite and at least 0. -/
def paramOk (w : Nat) : Bool := w < 0x7F800000 || w = 0x80000000

/-- A step parameter block reaches a partition (R197). -/
def State.stepParam (s : State) (p v : Nat) : State × Nat :=
  let x : Param := { step := recF v 0 8, lr := recF v 8 4, wd := recF v 12 4 }
  if !paramOk x.lr || !paramOk x.wd then (s, St.refused)
  else ((s.put (O.at O.STEP_PARAM p) v).setJob p { s.job p with params := x :: (s.job p).params }, St.ok)

/-- STEP_PARAM_WRITE (R197). -/
def execStepParamWrite (who : Who) (part : Fin 4) (v : Nat) (s : State) : Outcome :=
  rowWrite s who (O.at O.STEP_PARAM part.val) v (·.stepParam part.val v)

/-! ### What completed pairs start -/

/-- Insert by decreasing first component, after its equals. -/
def insertDown {α : Type} (x : Nat × α) : List (Nat × α) → List (Nat × α)
  | [] => [x]
  | y :: t => if y.1 < x.1 then x :: y :: t else y :: insertDown x t

/-- What one completion or release starts, apart from collective entries (R182, R193, R202, R172, R224). -/
def State.fireOne (s : State) (p : Nat) (f : Nat × Nat × Bool) : State :=
  let (pair, step, tagged) := f
  let s := s.setJob p ((s.job p).releaseLists 1 pair step (s.obj O.SCHEDULE_BEAT) tagged)
  match (s.pairsOf p).find? (fun x => x.pair = pair) with
  | none => s
  | some x =>
    let j := s.job p
    if x.role = 1 then
      if step = s.stepNo p then s.formNorm p
      else s.setJob p { j with sampled := j.sampled ++ [(step, 1)], frozen := j.frozen ++ [(step, j.params.find? (fun y => y.step = step))] }
    else if x.role = 2 then (s.setJob p { j with sampled := j.sampled ++ [(step, 2)] }).commitOpen p
    else if x.role = 3 then s.stepAdd p step 5 1
    else if x.role = 4 then
      s.setJob p { j with accOpen := j.accOpen.filter (· ≠ x.subject), freedAt := j.freedAt.set x.subject s.now }
    else s

/-- The collective entries that a completion starts, each with its layer (R183, R184). -/
def State.fireColls (s : State) (p : Nat) (f : Nat × Nat × Bool) : List (Nat × CWait) :=
  let (pair, step, tagged) := f
  match (s.job p).image with
  | none => []
  | some im =>
    let ready := im.pairs.any (fun x => x.pair = pair && x.role = 3)
    (im.colls.zipIdx.filter (fun x => x.1.trigger = pair && x.1.kind < 6)).map (fun x =>
      (im.tlayer x.1.src, { entry := x.2, step := step, mb := 0xFFFF, grain := 0xFFFF, tagged := tagged, held := tagged && ready,
                            srcPre := none, dstPre := none }))

/-- Everything that the completions of this cycle release (R183, R224, R352). -/
def State.settle (s : State) (p : Nat) : State :=
  let fs := (s.job p).fired
  if fs.isEmpty then s
  else
    let s := s.setJob p { s.job p with fired := [] }
    let s := fs.foldl (fun s f => s.fireOne p f) s
    let cs := ((fs.map (s.fireColls p)).flatten).foldl (fun l x => insertDown x l) []
    (cs.foldl (fun s w => s.collRequest p w.2) s).normSend p

/-- The completions of every partition. -/
def State.settleAll (s : State) : State := [0, 1, 2, 3].foldl State.settle s

/-- Waiting packets are tried again after `cycles` more cycles; a VOTE entry that waited only for its packets completes (R355), and a
norm contribution that waited for the FINAL weight's packets goes out (R194). -/
def State.tryWaiting (s : State) (cycles : Nat) : State :=
  [0, 1, 2, 3].foldl (fun s p => ((s.voteHanded p).normSend p).settle p) (s.injectWaiting cycles)

/-- NO_ROUTE_INJECT (R343). -/
def execNoRouteInject (cycles : Nat) (s : State) : Outcome := ok (if s.boot.stopCause.isSome then s else s.tryWaiting cycles)

/-- NORM_CONTRIBUTION_SEND (R193, R194): the formed contribution goes out when what it waits for is done. -/
def execNormContributionSend (part : Fin 4) (s : State) : Outcome := ok ((s.normSend part.val).settle part.val)

/-! ### Applying the final vote (R207) -/

/-- An entry runs by an untagged start. -/
def Job.untaggedRun (j : Job) (entry : Nat) : Bool := j.colls.any (fun x => x.entry = entry && !x.tagged)

/-- Rows 1 to 3 of Table 7.6: tagged work in flight, tagged buffers, collector rows and sum lengths. A start that only its packets
made tagged goes on, or runs again, without what the tagged packets brought (R354). -/
def State.voteWork (s : State) (p : Nat) (commit : Bool) : State :=
  let j := s.job p
  let s :=
    if commit then s
    else s.add (O.at O.SPEC_OPS_SQUASHED p) j.tagOps
  let rows := j.rows.filterMap (fun (e : Nat × CRow) =>
    if !bit e.2.flags 4 then some e
    else if commit then some (e.1, { e.2 with flags := setBit e.2.flags 4 false })
    else none)
  let sq := (j.rows.filter (fun (e : Nat × CRow) => bit e.2.flags 4)).length
  let s := if commit then s else s.add (O.at O.SQUASHED_ROWS p) sq
  let sums := j.sums.map (fun (e : Nat × SumLen) =>
    (e.1, match e.2.saved with
      | none => e.2
      | some v => if commit then { e.2 with saved := none } else { blocks := v.1, pass := v.2.1, sat := v.2.2, saved := none }))
  let n := s.stepNo p
  let back := fun (r : Rel) =>
    if !r.planned && r.step = n + 1 then { r with next := r.tagAt.getD r.next, tagAt := none } else r
  let rels :=
    if commit then j.rels.map (fun r => { r with tagAt := none, tagged := false })
    else (j.rels.filter (fun r => !(n < r.step && (r.planned || r.tagged)))).map back
  let redo := (j.collTagged ++ j.colls.filter (fun x => x.tagged && !x.own)).map (fun x =>
    { x with tagged := false, got := x.got.filter (fun k => !x.gotTag.contains k), gotTag := [] })
  s.setJob p
    { j with shares := if commit then j.shares.map (fun x => { x with tagged := false }) else j.shares.filter (fun x => !x.tagged),
             tagOps := 0, bufTags := [], rows := rows, sums := sums, rels := rels,
             colls := if commit then j.colls.map (fun x => { x with tagged := false, gotTag := [] })
                      else j.colls.filter (fun x => !x.tagged) ++ redo.filter (fun x => !j.untaggedRun x.entry),
             collWait := (if commit then [] else
               (redo.filter (fun x => j.untaggedRun x.entry)).map (fun x =>
                 { entry := x.entry, step := x.step, mb := x.mb, grain := x.grain, tagged := false, held := false, srcPre := x.srcPre,
                   dstPre := x.dstPre })) ++ j.collWait,
             collTagged := [],
             collHeld := if commit then j.collHeld else j.collHeld.filter (fun k => !s.pktTagged p k),
             stood := j.stood.filter (fun x => n + 1 < x.2.2.1 || (x.2.2.1 = n + 1 && !commit)) }

/-- Row 4: sync objects and the records that wait for the vote (R354, R488). -/
def State.voteSync (s : State) (p : Nat) (commit : Bool) : State :=
  let n := s.stepNo p
  let s :=
    match s.partPort p with
    | none => s
    | some q =>
      let hs := (s.port q).heldSync.filter (fun (h : HeldSync) => h.part = p && h.step = n + 1)
      let s := s.setPort q { s.port q with heldSync := (s.port q).heldSync.filter (fun (h : HeldSync) => !(h.part = p && h.step = n + 1)) }
      if commit then hs.foldl (fun s (h : HeldSync) => s.syncRecord p h.rec_ h.vec) s else s
  if commit then s.syncCommit p
  else
    let r := s.syncSquash p
    let undone := fun (x : Nat × Nat) => x.1 = n + 1 && ((s.pairsOf p).any (fun y => y.role = x.2 && !(r.1.pairDone p y.pair x.1).1))
    let j := r.1.job p
    let j := { j with sampled := j.sampled.filter (fun x => !undone x), frozen := j.frozen.filter (fun x => !undone (x.1, 1)) }
    let s := r.1.setJob p { j with refire := r.2 }
    s.net.sync.foldl (fun s (e : Nat × SyncObj) =>
      let x := s.syncObj e.1
      if x.owner = p && x.pair ≠ 0xFFFF && x.step = n + 1 && x.state = Sy.armed then
        s.setSync e.1 { x with deadlineSet := false, taken := false }
      else s) s

/-- Rows 5 to 8: LIVE bits, status banks, held layer readies, accumulators. -/
def State.voteBanks (s : State) (p : Nat) (commit : Bool) : State :=
  let j := s.job p
  let n := s.stepNo p
  let bankedOf := fun (im : Image) => sortNat ((im.pieces.filter (fun x => bit x.flags 2)).map (·.logical))
  let live :=
    match j.image with
    | some im => if commit then (bankedOf im).foldl (fun (t : Tab Nat) k => t.set k (1 - t.get k 0)) j.live else j.live
    | none => j.live
  let b := j.bank (n + 1)
  let banks := if b.step = some (n + 1) then (j.setBank (n + 1) (if commit then b.merge else { b with spec := {} })).banks else j.banks
  let held := j.collWait.filter (·.held)
  let rest := j.collWait.filter (fun w => !w.held && (commit || !w.tagged))
  let rest := rest.map (fun w => { w with tagged := false })
  let s := s.setJob p { j with live := live, banks := banks, collWait := rest, accOpen := if commit then j.accOpen else [],
                               freedAt := if commit then j.freedAt else j.accOpen.foldl (fun t a => t.set a s.now) j.freedAt }
  if commit then
    let layer := fun (w : CWait) =>
      match (s.job p).image, (s.job p).coll w.entry with
      | some im, some c => im.tlayer c.src
      | _, _ => 0
    (held.foldl (fun l w => insertDown (layer w, { w with held := false, tagged := false }) l) []).foldl
      (fun s w => s.collRequest p w.2) s
  else if held.isEmpty then s
  else (s.add (O.at O.LAYER_READY_DISCARDED p) held.length).raise 0x1805 { part := p }

/-- Row 10: recipe state (R95). -/
def State.recipe (s : State) (p : Nat) (commit : Bool) : State :=
  let o := fun k => s.obj (O.at k p)
  let g := s.gradShift p
  let lo := toInt 32 (o O.GRAD_SHIFT_MIN)
  let hi := toInt 32 (o O.GRAD_SHIFT_MAX)
  let set := fun (s : State) (k v : Nat) => s.put (O.at k p) (v % 2 ^ 32)
  let setG := fun (s : State) (v : Int) => s.put (O.at O.GRAD_SHIFT p) (ofInt 32 v)
  if commit then
    let c := (o O.CLEAN_RUN + 1) % 2 ^ 32
    let s := set s O.SKIP_RUN 0
    if c = o O.SHIFT_UP_AFTER then
      let s := set s O.CLEAN_RUN 0
      if g < hi then ((setG s (g + 1)).inc (O.at O.SHIFT_UP_COUNT p)).raise 0x1530 { part := p } else s
    else set s O.CLEAN_RUN c
  else
    let c := (o O.SKIP_RUN + 1) % 2 ^ 32
    let s := set s O.CLEAN_RUN 0
    if c = o O.SHIFT_DOWN_AFTER then
      let s := set s O.SKIP_RUN 0
      if lo < g then ((setG s (g - 1)).inc (O.at O.SHIFT_DOWN_COUNT p)).raise 0x1531 { part := p }
      else (s.inc (O.at O.SHIFT_FLOOR_COUNT p)).raise 0x2532 { part := p }
    else set s O.SKIP_RUN c

/-- Step record (Table 7.7). -/
def stepRecord (n beat : Nat) (x : Norm) (f : Final) (g : Int) : Nat :=
  fld 0 n + fld 8 beat + fld 16 (if x.accepted then x.gnorm else 0) + fld 20 x.clip + fld 24 (min x.nonfinite 0xFFFFFFFF) +
    fld 28 f.failChip + fld 30 f.outcome + fld 31 (ofInt 8 g)

/-- Rows 9 to 12: optimizer powers, recipe state, step record and counters, step number (R95, R201, R210, R211). -/
def State.voteRecord (s : State) (p : Nat) (f : Final) : State :=
  let commit := bit f.outcome 0
  let j := s.job p
  let n := s.stepNo p
  let x := j.normOf n
  let rec_ := stepRecord n (s.obj O.BEAT_COUNT + 1) x f (s.gradShift p)
  let s := if commit then (s.setJob p { j with b1pow := x.p1, b2pow := x.p2 }).inc (O.at O.OPT_T p) else s
  let s := s.recipe p commit
  let j := s.job p
  let b := j.bank (n + 1)
  let j := if b.step = some (n + 1) then j.setBank (n + 1) { b with shift := s.gradShift p } else j
  let c := j.bank n
  let j := if c.step = some n then j.setBank n { c with committed := commit } else j
  let j := { j with records := (rec_ :: j.records).take 64, lastVote := j.lastVote.set (n % 2) (if commit then 1 else 2), final := none,
                    sentRound := 0, vetoes := j.vetoes.filter (n < ·), voteDeadline := none }
  let s := s.setJob p j
  let s :=
    if commit then (s.inc (O.at O.COMMITTED_STEPS p)).put (O.at O.CONSEC_SKIPS p) 0
    else
      let s := (s.inc (O.at O.SKIPPED_STEPS p)).put (O.at O.CONSEC_SKIPS p) ((s.obj (O.at O.CONSEC_SKIPS p) + 1) % 2 ^ 32)
      s.raise 0x2901 { part := p, pay := rec_, len := 32 }
  (s.put (O.at O.STEP_NUMBER p) ((n + 1) % 2 ^ 64)).put (O.at O.VOTE_STATE p) 1

/-- PROGRAM_BASE shows the schedule beat at which the current step's program began (R234). -/
def State.showBase (s : State) (p : Nat) : State :=
  match (s.job p).progs.find? (fun g => g.step = s.stepNo p) with
  | some g => s.put (O.at O.PROGRAM_BASE p) g.base
  | none => s

/-- Row 13 and the limit of R210: in-place optimizer lists are released after a commit, for the next schedule beat,
which begins at this edge unless it is a slip or hold edge (R200); after a skip the next step's
program begins again and the skipped step's optimizer lists never issue. -/
def State.voteProgram (s : State) (p n : Nat) (commit : Bool) : State :=
  let j := s.job p
  let im := j.image
  let optPhase := fun (r : Rel) => match im.bind (fun i => i.lists[r.list]?) with | some l => l.phase = 6 || l.phase = 7 | none => false
  if commit then s.setJob p (j.releaseLists 3 0 n (s.obj O.SCHEDULE_BEAT + 1) false)
  else
    let s := s.setJob p { j with rels := j.rels.filter (fun r => !(r.step = n && optPhase r)), progs := j.progs.filter (fun g => g.step ≤ n), progFrom := s.obj O.SCHEDULE_BEAT + 1 }
    let lim := (im.map (fun i => i.commit.maxSkips)).getD 0
    if lim ≠ 0 && s.obj (O.at O.CONSEC_SKIPS p) = lim then ((s.put (O.at O.VOTE_STATE p) 6).raise 0x3907 { part := p }).dropWaiting p else s

/-- Step E2 (R207, Table 7.6): the final vote of a partition applies. The contribution of the next step, when its sample
has completed already, is formed after it (R192). -/
def State.applyVote (s : State) (p : Nat) : State :=
  match (s.job p).final with
  | none => s
  | some f =>
    let commit := bit f.outcome 0
    let n := s.stepNo p
    let s := ((((s.voteWork p commit).offloadDone p).voteSync p commit).voteBanks p commit).voteRecord p f
    let s := (s.voteProgram p n commit).showBase p
    let j := { s.job p with ckpt := { (s.job p).ckpt with tainted := false } }
    let s := s.setJob p j
    if j.sampled.contains (n + 1, 1) && s.obj (O.at O.VOTE_STATE p) = 1 then
      (s.setJob p { j with sampled := j.sampled.filter (· ≠ (n + 1, 1)) }).formNorm p
    else s

end Sys2Proof.Machine
end

