-- ==== Sys2Proof/Machine/Ckpt.lean ====
section
/-! DEFINITION. Ckpt.lean: checkpoint boundaries, snapshots, manifests, digests, slots and the partner copy (R267, R281,
R421 to R437, R446). -/

namespace Sys2Proof.Machine

/-! ### Layout of a copy -/

/-- Round up to a multiple. -/
def upTo' (m n : Nat) : Nat := cdiv n m * m

/-- Bytes followed by zeros up to a multiple of 64. -/
def pad64 (bs : List Byte) : List Byte := bs ++ List.replicate (upTo' 64 bs.length - bs.length) 0#8

/-- Each plane of a tensor in the order of R428: its address in a bank and its length. -/
def Image.digestRanges (im : Image) (t bank : Nat) : List (Nat × Nat) :=
  ((im.piecesOf t).map (fun x => ([0, 1].map (fun pl => (x.base pl bank, x.planeBytes pl))).filter (fun r => 0 < r.2))).flatten

/-- Digested bytes of a tensor. -/
def Image.digestLen (im : Image) (t : Nat) : Nat := ((im.digestRanges t 0).map (·.2)).foldl (· + ·) 0

/-- Bytes that a tensor takes in a copy: every plane starts on a 64-byte boundary (R428). -/
def Image.copySpan (im : Image) (t : Nat) : Nat := ((im.digestRanges t 0).map (fun r => upTo' 64 r.2)).foldl (· + ·) 0

/-- The operations of an opcode, in image order: list, operation, the operation. -/
def Image.opsOf (im : Image) (opcode : Nat) : List (Nat × Nat × Op) :=
  ((im.lists.zipIdx).map (fun l => (l.1.ops.zipIdx.filter (fun o => o.1.opcode = opcode)).map (fun o => (l.2, o.2, o.1)))).flatten

/-- The tensors that a layer copies, in the order of its CHECKPOINT_COPY operations. -/
def Image.copied (im : Image) (layer : Nat) : List Nat :=
  ((im.opsOf 0x0A01).filter (fun o => Chk.at' o.2.2 8 1 + 1 = layer)).map (fun o => o.2.2.in0)

/-- The working weights that a layer does not copy: its REBUILT entries (R427). -/
def Image.rebuilt (im : Image) (layer : Nat) : List Nat :=
  ((im.opts.map (·.working)).filter (fun t => t ≠ 0xFFFF && !(im.copied layer).contains t)).eraseDups

/-- DIGEST_INDEX of a tensor; 0 when no operation digests it. -/
def Image.digestIx (im : Image) (t : Nat) : Nat :=
  (((im.opsOf 0x0A02).find? (fun o => o.2.2.in0 = t)).map (fun o => Chk.at' o.2.2 8 2)).getD 0

/-- Interval of a layer (Table 8.14). -/
def Image.every (im : Image) (layer : Nat) : Nat :=
  match im.ckpt with
  | none => 0
  | some c => if layer = 1 then c.partnerEvery else if layer = 2 then c.flashEvery else c.storeEvery

/-- Bytes of the manifest before its directory (Tables 15.1 and 15.2). -/
def Image.headLen (im : Image) : Nat :=
  256 + upTo' 64 (cdiv im.stage.runahead 8) + upTo' 64 (20 * im.grist.length) + 2112 + upTo' 64 (272 * im.slots.length) + 196672

/-- Bytes of a layer's manifest. -/
def Image.manifestLen (im : Image) (layer : Nat) : Nat := im.headLen + 64 * ((im.copied layer).length + (im.rebuilt layer).length)

/-- Where each copied tensor lies in a layer's copy. -/
def Image.offsets (im : Image) (layer : Nat) : List (Nat × Nat) :=
  ((im.copied layer).foldl (fun (a : List (Nat × Nat) × Nat) t => (a.1 ++ [(t, a.2)], a.2 + im.copySpan t)) ([], im.manifestLen layer)).1

/-- Bytes of a layer's copy. -/
def Image.copyLen (im : Image) (layer : Nat) : Nat :=
  im.manifestLen layer + ((im.copied layer).map im.copySpan).foldl (· + ·) 0

/-- The bytes of a tensor in a bank, as they are digested, and as a copy holds them. -/
def State.tensorBytes (s : State) (im : Image) (t bank : Nat) : List Byte × List Byte :=
  let ps := (im.digestRanges t bank).map (fun r => s.readMem r.1 r.2)
  (ps.flatten, (ps.map pad64).flatten)

/-- SHA-256 of bytes as a little-endian number. -/
def shaNat (bs : List Byte) : Nat := ofLE (Sha.sha256 bs)

/-- The bank of a tensor at a boundary. -/
def bankAt (im : Image) (live : Tab Nat) (t : Nat) : Nat := if bit (im.tflags t) 2 then live.get t 0 else 0

/-- Directory entry (Table 15.3). -/
def dirEntry (im : Image) (t ix off digest : Nat) (rebuilt : Bool) : Nat :=
  fld 0 t + fld 2 ix + fld 4 (im.fmt t) + fld 5 (b2n (bit (im.tflags t) 2) + 2 * b2n rebuilt) + fld 8 off + fld 16 (im.digestLen t) +
    fld 32 digest

/-- The manifest up to its directory, as partition p stands at boundary C (R426, R429). `cur` is the cursor block. -/
def State.manifestHead (s : State) (p layer c beat : Nat) (cur : Option Nat) (im : Image) : List Byte :=
  let j := s.job p
  let o := fun k => s.obj (O.at k p)
  let lp := match j.lastParam with | some x => fld 0 x.step + fld 8 x.lr + fld 12 x.wd | none => 0
  let cnt := (cur.map (fun x => recF x 8 1)).getD 0
  let hd :=
    fld 0 0x4D4B4356 + fld 4 1 + fld 6 layer + fld 7 (b2n cur.isSome) + fld 8 im.jobId + fld 16 c + fld 24 beat + fld 32 (o O.OPT_T) +
      fld 40 j.b1pow + fld 44 j.b2pow + fld 48 (o O.GRAD_SHIFT) + fld 52 (o O.SKIP_RUN) + fld 56 (o O.CLEAN_RUN) +
      fld 60 (o O.CONSEC_SKIPS) + fld 64 lp + fld 80 j.memberIx + fld 82 (s.obj O.CHIP_NUMBER) + fld 84 (s.obj O.CHIP_EPOCH) +
      fld 86 p + fld 87 cnt + fld 88 im.stage.runahead + fld 90 im.grist.length + fld 92 im.slots.length +
      fld 94 ((im.copied layer).length + (im.rebuilt layer).length) + fld 96 (o O.IMAGE_DIGEST) +
      ((List.range cnt).map (fun i => fld (128 + 8 * i) (recF (cur.getD 0) (16 + 8 * i) 8))).foldl (· + ·) 0
  let banked := fun (l : Nat) => (im.pieces.find? (fun x => bit x.flags 2 && x.layer = l)).map (·.logical)
  let liveBits := ((List.range im.stage.runahead).map (fun i =>
    match banked (im.stage.layerFirst + i) with | some t => 2 ^ i * j.live.get t 0 | none => 0)).foldl (· + ·) 0
  let streams := (im.grist.map (fun (e : Nat × Nat) => toLE 20 (fld 0 e.1 + fld 4 e.2))).flatten
  let ring := fun (n w : Nat) (xs : List Nat) =>
    toLE 64 xs.length ++ (xs.map (toLE w)).flatten ++ List.replicate ((n - xs.length) * w) 0#8
  let hist := (im.slots.map (fun x =>
    let h := j.rings.get x.slot []
    toLE 16 (fld 0 x.slot + fld 2 h.length) ++ (h.map (toLE 16)).flatten ++ List.replicate ((16 - h.length) * 16) 0#8)).flatten
  toLE 256 hd ++ pad64 (toLE (cdiv im.stage.runahead 8) liveBits) ++ pad64 streams ++ ring 64 32 j.records ++ pad64 hist ++
    ring 4096 48 s.beat.ring

/-! ### Events, slots -/

/-- A checkpoint event: its entry names the partition, the layer, the cause and the boundary (R447; the layout of the payload
is this model's, log entry 30). -/
def State.ckEvent (s : State) (code p layer cause c : Nat) : State :=
  s.raise code { part := p, pay := fld 0 layer + fld 1 cause + fld 8 c, len := 16 }

/-- Slot header (Table 15.4). -/
def slotHeader (state layer c job member chip epoch len cal crc : Nat) : Nat :=
  fld 0 0x534B4356 + fld 4 state + fld 5 layer + fld 8 c + fld 16 job + fld 24 member + fld 26 chip + fld 28 epoch + fld 32 len +
    fld 40 cal + fld 48 crc

/-- A slot's header with another STATE. -/
def setSlotState (h st : Nat) : Nat := h - fld 4 (recF h 4 1) + fld 4 st

/-- Bytes of a checkpoint area of the flash (Table 10.9). -/
abbrev ckArea : Nat := 1020 * 2 ^ 30

/-- Bytes of a flash slot: the header unit and the copy in whole units (R434). -/
def Image.flashSlotBytes (im : Image) : Nat := upTo' 65536 (im.copyLen 2) + 65536

/-- Slots of a partition's flash space (R434): areas of 1,020 GiB joined. -/
def State.flashSlots (s : State) (p : Nat) (im : Image) : Nat :=
  min 8 ((s.diesOf p).length * ckArea / im.flashSlotBytes)

/-- Slots and slot size of the store target (R437, Table 15.7). -/
def State.storeSlots (s : State) (p : Nat) : Nat × Nat :=
  let t := s.obj (O.at O.STORE_TARGET p)
  let n := recF t 40 1
  (n, recF t 32 8 / max 1 n * 4096)

/-- The slot for a new copy (R430): the oldest by BOUNDARY, an EMPTY one before any other, and never the one that holds the newest VALID
copy, so a layer with one slot that holds a VALID copy has none. -/
def pickSlot (t : Tab CkSlot) (base n : Nat) : Option Nat :=
  let hs := (List.range n).map (fun i =>
    let h := (t.get (base + i) { header := 0 }).header
    (i, recF h 4 1, if recF h 4 1 = 0 then 0 else recF h 8 8 + 1))
  let newest := (hs.filter (fun x => x.2.1 = 2)).foldl (fun (b : Option (Nat × Nat)) x =>
    match b with
    | none => some (x.1, x.2.2)
    | some y => if y.2 < x.2.2 then some (x.1, x.2.2) else b) none
  ((hs.filter (fun x => newest.map (·.1) ≠ some x.1)).foldl (fun (b : Option (Nat × Nat)) x =>
    match b with
    | none => some (x.1, x.2.2)
    | some y => if x.2.2 < y.2 then some (x.1, x.2.2) else b) none).map (·.1)

/-- A checkpoint under way of a layer and boundary. -/
def Job.ckRun (j : Job) (layer c : Nat) : Option CkRun := j.ckpt.runs.find? (fun r => r.layer = layer && r.boundary = c)

/-- Replace it. -/
def Job.setCkRun (j : Job) (r : CkRun) : Job :=
  { j with ckpt := { j.ckpt with
      runs := j.ckpt.runs.map (fun x => if x.layer = r.layer && x.boundary = r.boundary then r else x) } }

/-- End it. -/
def Job.dropCkRun (j : Job) (layer c : Nat) : Job :=
  { j with ckpt := { j.ckpt with runs := j.ckpt.runs.filter (fun x => !(x.layer = layer && x.boundary = c)) } }

/-- The flash offset of a byte of a partition's flash space, the areas of its dies joined in increasing die order (R434, Table 10.9). -/
def State.flashAt (s : State) (p off : Nat) : Nat :=
  16 * 2 ^ 30 + ckArea * (s.diesOf p).getD (off / ckArea) 0 + off % ckArea

/-- The 64 KiB units of a byte string. -/
def units64K : Nat → List Byte → List (List Byte)
  | 0, _ => []
  | n + 1, bs => bs.take 65536 :: units64K n (bs.drop 65536)

/-- A unit of flash as it is written: filled with zeros to 64 KiB. -/
def fullUnit (bs : List Byte) : List Byte := bs ++ List.replicate (65536 - bs.length) 0#8

/-- The CRC-32C that each unit of a slot carries, its header unit first (R296). -/
def slotCrcs (header : Nat) (copy : List Byte) : List Nat :=
  crc32c (fullUnit (toLE 64 header)) :: (units64K (cdiv copy.length 65536) copy).map (fun u => crc32c (fullUnit u))

/-- The byte of its namespace at which a slot of the store target begins (R437). -/
def State.storeAt (s : State) (p k : Nat) : Nat := recF (s.obj (O.at O.STORE_TARGET p)) 24 8 * 4096 + k * (s.storeSlots p).2

/-- Give a slot of the flash or the store a header; the flash's is a written unit with its CRC (R296, R297), the store's is also sent. -/
def State.putSlot (s : State) (p layer k : Nat) (x : CkSlot) : State :=
  if layer = 2 then
    let size := ((s.job p).image.map Image.flashSlotBytes).getD 0
    let x := { x with start := s.flashAt p (k * size), crcs := slotCrcs x.header x.copy }
    ({ s with flashCk := s.flashCk.set (8 * p + k) x }).flashWear 65536
  else
    ({ s with storeCk := s.storeCk.set (8 * p + k) { x with copy := [] } }).send (.store p (s.storeAt p k) (toLE 64 x.header))

/-- Slots of a layer that a partition has, and the table that holds them: 2 flash, 3 the store. -/
def State.layerSlots (s : State) (p layer : Nat) (im : Image) : Tab CkSlot × Nat :=
  if layer = 2 then (s.flashCk, s.flashSlots p im) else (s.storeCk, (s.storeSlots p).1)

/-- A checkpoint is abandoned: its slot becomes FAILED, the one that it would have taken where it had written no header yet (R430, R435). Causes: 1 poison, 2 write error, 3 flash writes off,
4 the copy does not fit the slot, or no slot may take it, 5 no target, or one that refused (R436). -/
def State.abandon (s : State) (p : Nat) (r : CkRun) (cause : Nat) : State :=
  let j := (s.job p).dropCkRun r.layer r.boundary
  let copies := fun (x : CRun) => r.layer = 1 && x.step = r.boundary && (match j.coll x.entry with | some c => c.kind = 7 | none => false)
  let s := s.setJob p { j with colls := j.colls.filter (fun x => !copies x) }
  let s :=
    match j.image with
    | none => s
    | some im =>
      let (t, n) := s.layerSlots p r.layer im
      let k := match r.slot with | some k => some k | none => if r.layer = 1 then none else pickSlot t (8 * p) n
      match k with
      | some k =>
        let len := if r.slot.isSome then im.copyLen r.layer else 0
        let h := slotHeader 3 r.layer r.boundary im.jobId j.memberIx (s.obj O.CHIP_NUMBER) (s.obj O.CHIP_EPOCH) len 0 0
        s.putSlot p r.layer k { header := h }
      | none => s
  (s.inc (O.at O.CKPT_FAILED p)).ckEvent 0x2103 p r.layer cause r.boundary

/-! ### Boundaries -/

/-- Step E2 after a vote has applied: the state becomes boundary C for the layers whose interval divides it (R421, R425). A working weight
that no operation digests is digested here; one with a poisoned unit abandons the checkpoint (R292). -/
def State.boundary (s : State) (p : Nat) : State :=
  let j := s.job p
  match j.image with
  | none => s
  | some im =>
    let c := s.stepNo p
    let due := [1, 2, 3].filter (fun l => im.every l ≠ 0 && c % im.every l = 0)
    let free := due.filter (fun l => !j.ckpt.runs.any (·.layer = l))
    let s := (due.filter (fun l => !free.contains l)).foldl (fun s l =>
      (s.inc (O.at O.CKPT_SKIPPED p)).ckEvent 0x2102 p l 0 c) s
    if free.isEmpty then s
    else
      let cur := j.ckpt.cursors.find? (fun x => recF x 0 8 = c)
      let s := if cur.isNone then free.foldl (fun s l => s.ckEvent 0x2104 p l 0 c) s else s
      let beat := s.obj O.BEAT_COUNT + 1
      let runs := free.map (fun l =>
        ({ layer := l, boundary := c, head := s.manifestHead p l c beat cur im, live := j.live, left := im.copied l,
           rebuilt := ((im.rebuilt l).filter (fun t => !(im.opsOf 0x0A02).any (fun o => o.2.2.in0 = t))).map (fun t =>
             (t, shaNat (s.tensorBytes im t (bankAt im j.live t)).1)) } : CkRun))
      let reads := (im.opsOf 0x0A02) ++ (im.opsOf 0x0A01).filter (fun o => free.contains (Chk.at' o.2.2 8 1 + 1))
      let hold := reads.map (fun o =>
        ({ list := o.1, op := o.2.1, tensor := o.2.2.in0, bank := bankAt im j.live o.2.2.in0 } : CkHold))
      let j := s.job p
      let kept := (j.ckpt.dirs.filter (fun d => d.ents ≠ [])).take 4
      let open_ := j.ckpt.dirs.filter (fun d => d.ents = [] && j.progs.any (fun g => g.step = d.boundary))
      let s := s.setJob p { j with ckpt := { j.ckpt with
        runs := j.ckpt.runs ++ runs, hold := j.ckpt.hold ++ hold,
        dirs := { boundary := c, live := j.live } :: (j.ckpt.dirs.filter (fun d => kept.contains d || open_.contains d)) } }
      runs.foldl (fun s r => (r.rebuilt.keys).foldl (fun s t =>
        let rs := im.digestRanges t (bankAt im j.live t)
        let s := s.engineReads p rs
        if rs.any (fun q => s.poisoned q.1 q.2) && ((s.job p).ckRun r.layer c).isSome then s.abandon p r 1 else s) s) s

/-! ### Completing a copy -/

/-- The digest of a tensor at a boundary, when it is known. -/
def Job.digestOf (j : Job) (r : CkRun) (t : Nat) : Option Nat :=
  ((j.ckpt.dirs.find? (fun d => d.boundary = r.boundary)).bind (fun d => (d.ents.find? (fun e => e.2.1 = t)).map (·.2.2))) <|> r.rebuilt.find t

/-- The whole manifest of a checkpoint, once every digest is known (Tables 15.1 to 15.3). -/
def Job.manifest (j : Job) (im : Image) (r : CkRun) : Option (List Byte) :=
  let offs := im.offsets r.layer
  let ents := offs.map (fun x => (x.1, x.2, false)) ++ (im.rebuilt r.layer).map (fun t => (t, 0, true))
  if ents.all (fun e => (j.digestOf r e.1).isSome) then
    some (r.head ++ (ents.map (fun e => toLE 64 (dirEntry im e.1 (im.digestIx e.1) e.2.1 ((j.digestOf r e.1).getD 0) e.2.2))).flatten)
  else none

/-- The start of a PARTNER_COPY entry for a boundary. -/
def copyRun (entry c : Nat) : CRun :=
  { entry := entry, step := c, mb := 0xFFFF, grain := 0xFFFF, tagged := false, srcPre := none, dstPre := none, srcBank := 0, dstBank := 0 }

/-- Send bytes of a partner copy from an offset (R431). -/
def State.sendCopy (s : State) (p entry c off : Nat) (bs : List Byte) : State :=
  match (s.job p).coll entry with
  | none => s
  | some e =>
    let r := copyRun entry c
    (cut4096 (bs.length / 4096 + 1) 0 bs.length).foldl (fun s q =>
      (s.add (O.at O.PARTNER_BYTES_SENT p) (min 4096 q.2)).sendCollPkt p e r 1 0 0 (off + q.1) ((bs.drop q.1).take q.2)) s

/-- Checkpoints whose tensors and digests are all in: the partner's manifest is sent on its lowest entry, and a flash or
store copy waits for its flush (R430, R431). -/
def State.ckProgress (s : State) (p : Nat) : State :=
  let j := s.job p
  match j.image with
  | none => s
  | some im =>
    (j.ckpt.runs.filter (fun r => r.left.isEmpty && !r.handed)).foldl (fun s r =>
      match (s.job p).manifest im r with
      | none => s
      | some m =>
        if r.layer = 1 then
          match im.colls.zipIdx.find? (fun x => x.1.kind = 7) with
          | none => s
          | some (_, e) =>
            let s := s.sendCopy p e r.boundary 0 m
            s.setJob p ((s.job p).dropCkRun 1 r.boundary)
        else
          let copy := m ++ ((im.copied r.layer).map (fun t => r.data.get t [])).flatten
          let s := s.setJob p ((s.job p).setCkRun { r with handed := true, data := [(0, copy)] })
          if r.layer = 2 then s
          else
            (s.send (.store p (s.storeAt p (r.slot.getD 0) + 65536) copy)).add (O.at O.STORE_BYTES p) copy.length) s

/-- The reads of an operation for the checkpoint are complete: the writes it held may go on (R424). -/
def Job.ckRelease (j : Job) (li oi : Nat) : Job :=
  { j with ckpt := { j.ckpt with hold := j.ckpt.hold.filter (fun h => !(h.list = li && h.op = oi)) } }

/-- CHECKPOINT_COPY reads its tensor for the boundary of its step (R267, R423, R430, R431, R435, R437). The answer is none when
it moves nothing. -/
def State.ckCopy (s : State) (c : OpCtx) : Option State :=
  let p := c.p
  let layer := Chk.at' c.op 8 1 + 1
  match (s.job p).ckRun layer c.step with
  | none => none
  | some r =>
    let t := c.op.in0
    let bank := bankAt c.im r.live t
    let bad := ((c.im.digestRanges t bank).any (fun q => s.poisoned q.1 q.2))
    let len := c.im.copyLen layer
    let n := (s.layerSlots p layer c.im).2
    let no :=
      if bad then 1
      else if layer = 2 && s.obj O.FLASH_WRITE_ENABLED = 0 then 3
      else if layer = 3 && (n = 0 || 2 ≤ s.obj (O.at O.STORE_STATUS p)) then 5
      else if layer = 3 && (s.storeSlots p).2 < len + 65536 then 4
      else if layer ≠ 1 && r.slot.isNone && (pickSlot (s.layerSlots p layer c.im).1 (8 * p) n).isNone then 4
      else 0
    let s := if no ≤ 1 then s.engineReads p (c.im.digestRanges t bank) else s
    if no ≠ 0 then some (s.abandon p r no)
    else
      let bs := (s.tensorBytes c.im t bank).2
      let had := (r.data.vals.map List.length).foldl (· + ·) 0
      let r := { r with left := r.left.erase t }
      if layer = 1 then
        let off := ((c.im.offsets 1).find? (fun x => x.1 = t)).map (·.2)
        let e := c.im.colls.zipIdx.find? (fun x => x.1.kind = 7 && x.1.src = t)
        let s := s.setJob p ((s.job p).setCkRun r)
        some (match e with
          | some (_, i) =>
            let j := s.job p
            (s.setJob p { j with colls := j.colls ++ [copyRun i r.boundary] }).sendCopy p i r.boundary (off.getD 0) bs
          | none => s)
      else
        let k := match r.slot with | some k => k | none => (pickSlot (s.layerSlots p layer c.im).1 (8 * p) n).getD 0
        let h := slotHeader 1 layer r.boundary c.im.jobId (s.job p).memberIx (s.obj O.CHIP_NUMBER) (s.obj O.CHIP_EPOCH) len 0 0
        let s := if r.slot.isNone then s.putSlot p layer k { header := h } else s
        let s := if layer = 2 then s.flashWear ((had + bs.length) / 65536 * 65536 - had / 65536 * 65536) else s
        some (s.setJob p ((s.job p).setCkRun { r with slot := some k, data := r.data.set t bs }))

/-- DIGEST digests its tensor for the boundary of its step (R267, R423, R428, R292, R446). The answer is none when it moves
nothing. -/
def State.ckDigest (s : State) (c : OpCtx) : Option State :=
  let j := s.job c.p
  match j.ckpt.dirs.find? (fun d => d.boundary = c.step) with
  | none => none
  | some d =>
    let t := c.op.in0
    let bank := bankAt c.im d.live t
    let s := s.engineReads c.p (c.im.digestRanges t bank)
    let j := s.job c.p
    if (c.im.digestRanges t bank).any (fun q => s.poisoned q.1 q.2) then
      some ((j.ckpt.runs.filter (fun r => r.boundary = c.step && ((c.im.copied r.layer).contains t || (c.im.rebuilt r.layer).contains t))).foldl
        (fun s r => s.abandon c.p r 1) s)
    else
      let dg := shaNat (s.tensorBytes c.im t bank).1
      let d := { d with ents := d.ents.set (Chk.at' c.op 8 2) (t, dg) }
      some ((s.setJob c.p { j with ckpt := { j.ckpt with
        dirs := j.ckpt.dirs.map (fun x => if x.boundary = d.boundary then d else x) } }).inc (O.at O.DIGESTS_COMPLETED c.p))

/-- A flash or store copy has been flushed, or its write has failed: the slot becomes VALID or FAILED (R430, R435, R297). -/
def State.ckFlushed (s : State) (p layer : Nat) (good : Bool) : State :=
  let j := s.job p
  match j.ckpt.runs.find? (fun r => r.layer = layer && r.handed), j.image with
  | some r, some im =>
    if !good then s.abandon p r 2
    else if layer = 2 && s.obj O.FLASH_WRITE_ENABLED = 0 then s.abandon p r 3
    else
      let copy := r.data.get 0 []
      let mlen := im.manifestLen layer
      let h := slotHeader 2 layer r.boundary im.jobId j.memberIx (s.obj O.CHIP_NUMBER) (s.obj O.CHIP_EPOCH) copy.length s.calNs
        (crc32c (copy.take mlen))
      let s := s.setJob p (j.dropCkRun layer r.boundary)
      let s := s.putSlot p layer (r.slot.getD 0) { header := h, copy := copy }
      let s := s.put (O.at (if layer = 2 then O.LAST_BOUNDARY_FLASH else O.LAST_BOUNDARY_STORE) p) r.boundary
      let s := s.ckEvent 0x1101 p layer 0 r.boundary
      if layer = 2 then (s.add (O.at O.FLASH_CKPT_BYTES p) copy.length).flashWear
        (upTo' 65536 copy.length - (copy.length - mlen) / 65536 * 65536) else s
  | _, _ => s
/-- FLASH_CKPT_COMPLETE (R430, R435): the flash copy of a partition is flushed, or a write error has met it. -/
def execFlashCkptComplete (part : Fin 4) (good : Bool) (s : State) : Outcome := ok (s.ckFlushed part.val 2 good)

/-- STORE_CKPT_COMPLETE (R430, R437): the store has flushed the copy of a partition, or refused it. -/
def execStoreCkptComplete (part : Fin 4) (good : Bool) (s : State) : Outcome := ok (s.ckFlushed part.val 3 good)

/-! ### Receiving a partner copy -/

/-- Write bytes into a slot of the reserve. -/
def State.writeReserve (s : State) (im : Image) (t slot off : Nat) (bs : List Byte) : State :=
  s.writePlane im (im.sliceView t 0 (some slot)) 0 off bs

/-- The bytes that the manifest at the start of a slot declares: its own length, and the whole copy (R431). -/
def State.declared (s : State) (im : Image) (t slot : Nat) : Nat × Nat :=
  let rd := fun (off n : Nat) => ofLE (s.readPlane im (im.sliceView t 0 (some slot)) 0 (64 + off) n)
  let m := 256 + upTo' 64 (cdiv (rd 88 2) 8) + upTo' 64 (20 * rd 90 2) + 2112 + upTo' 64 (272 * rd 92 2) + 196672
  let k := rd 94 2
  (m + 64 * k,
    (List.range k).foldl (fun a i =>
      let e := m + 64 * i
      if bit (rd (e + 5) 1) 1 then a else max a (upTo' 64 (rd (e + 8) 8 + rd (e + 16) 8))) (m + 64 * k))

/-- A PARTNER_COPY packet of the member named by PARTNER_MEMBER (R281, R431). The answer is its refusal status. -/
def State.partnerRx (s : State) (p : Nat) (k : Packet) : State × Nat :=
  let j := s.job p
  match j.image with
  | none => (s, Acc.notMember)
  | some im =>
    match im.ckpt, j.coll k.arg with
    | some pl, some e =>
      let t := pl.reserve
      let off := bits k.addr 47 0
      if e.kind ≠ 7 || t = 0xFFFF || j.members[pl.partner]? ≠ some (k.srcChip, k.srcPart) then (s, Acc.notMember)
      else
        let n := (im.shape t).getD 0 1
        let size := 4 * (im.shape t).getD 1 0
        let c := ((s.stepNo p : Int) + stepDiff k.step (s.stepNo p)).toNat
        let slot := c / max 1 pl.partnerEvery % max 1 n
        let hd := fun (st len cal crc : Nat) => toLE 64 (slotHeader st 1 c im.jobId pl.partner k.srcChip k.srcEpoch len cal crc)
        let old := ofLE (s.readPlane im (im.sliceView t 0 (some slot)) 0 0 64)
        let fresh : Bool := recF old 0 4 ≠ 0x534B4356 || recF old 4 1 = 0 || recF old 8 8 ≠ c
        let s := if fresh then s.writeReserve im t slot 0 (hd 1 0 0 0) else s
        let rx : CkRx := if fresh then ⟨c, []⟩ else j.ckpt.rx.get slot ⟨c, []⟩
        let setRx := fun (s : State) (x : CkRx) => s.setJob p { s.job p with ckpt := { (s.job p).ckpt with rx := (s.job p).ckpt.rx.set slot x } }
        if size < 64 + off + k.payload.length then ((setRx s rx).writeReserve im t slot 0 (hd 3 0 0 0), Acc.unmapped)
        else
          let s := s.writeReserve im t slot (64 + off) k.payload
          let got := if rx.got.contains (off, k.payload.length) then rx.got else (off, k.payload.length) :: rx.got
          let s := setRx s { rx with got := got }
          let have_ := (got.map (·.2)).foldl (· + ·) 0
          let (m, len) := s.declared im t slot
          let mhave := ((got.filter (fun g => g.1 < m)).map (·.2)).foldl (· + ·) 0
          if (fresh || recF old 4 1 = 1) && got.any (fun g => g.1 = 0) && m ≤ mhave && len = have_ then
            let mf := s.readPlane im (im.sliceView t 0 (some slot)) 0 64 m
            let s := s.writeReserve im t slot 0 (hd 2 have_ s.calNs (crc32c mf))
            let post := ((im.colls.find? (fun x => x.kind = 7)).map (·.post)).getD 0xFFFF
            let s := s.put (O.at O.LAST_BOUNDARY_PARTNER p) c
            ((s.ckEvent 0x1101 p 1 0 c).post p post c false, Acc.ok)
          else (s, Acc.ok)
    | _, _ => (s, Acc.notMember)

/-! ### Objects -/

/-- DATA_CURSORS takes a block (R429). -/
def State.dataCursors (s : State) (p v : Nat) : State × Nat :=
  if 16 < recF v 8 1 || recF v 9 7 ≠ 0 then (s, St.refused)
  else
    let j := s.job p
    ((s.put (O.at O.DATA_CURSORS p) v).setJob p { j with ckpt := { j.ckpt with cursors := v :: j.ckpt.cursors } }, St.ok)

/-- DATA_CURSORS_WRITE (R429). -/
def execDataCursorsWrite (who : Who) (part : Fin 4) (v : Nat) (s : State) : Outcome :=
  rowWrite s who (O.at O.DATA_CURSORS part.val) v (·.dataCursors part.val v)

/-- STORE_TARGET takes a value (R436): the partition's target is given up, and the network's answer to the new connection
is `status`: 1 connected, 2 refused, 3 wrong block size, 4 unreachable; an all-zero target is unconfigured. -/
def State.storeTarget (s : State) (p v status : Nat) : State × Nat :=
  if recF v 18 2 ≠ 0 || recF v 41 7 ≠ 0 || (v ≠ 0 && (recF v 40 1 = 0 || 8 < recF v 40 1)) then (s, St.refused)
  else
    let s := s.store (O.at O.STORE_TARGET p) v
    (({ s with storeCk := s.storeCk.drop (fun k => k / 8 = p) }).put (O.at O.STORE_STATUS p) (if v = 0 then 0 else max 1 (min 4 status)), St.ok)

/-- STORE_TARGET_WRITE (R436). -/
def execStoreTargetWrite (who : Who) (part : Fin 4) (v status : Nat) (s : State) : Outcome :=
  rowWrite s who (O.at O.STORE_TARGET part.val) v (·.storeTarget part.val v status)

/-- A slot header as SLOT_HEADER shows it (R445): of the reserve this partition holds, of its flash, or of its store target;
none where the layer has no such slot. -/
def State.slotView (s : State) (p layer k : Nat) : Option Nat :=
  if layer = 3 then (if k < (s.storeSlots p).1 then some (s.storeCk.get (8 * p + k) { header := 0 }).header else none)
  else
    match (s.job p).image with
    | none => none
    | some im =>
      if layer = 1 then
        match im.reserve with
        | none => none
        | some t => if k < (im.shape t).getD 0 0 then some (ofLE (s.readPlane im (im.sliceView t 0 (some k)) 0 0 64)) else none
      else if k < s.flashSlots p im then some (s.flashCk.get (8 * p + k) { header := 0 }).header
      else none

end Sys2Proof.Machine
end

