-- ==== Sys2Proof/Machine/Fence.lean ====
section
/-! DEFINITION. Fence.lean: fencing, its causes, and the epoch table (R337 to R340, R415 to R418). -/

namespace Sys2Proof.Machine

/-- Every outstanding tag completes with EPOCH_CHANGED and nothing more is issued (R417): the requests end. -/
def State.dropRequests (s : State) : State :=
  let ends := s.net.reqs.map (fun (e : Nat × Req) =>
    let mine := s.net.tags.filter (fun t => t.2.req = e.1)
    let r := mine.foldl (fun (r : Req) t => r.mark t.2.off 0x22 t.2.len) e.2
    if r.next < r.total then r.mark r.next 0x22 0 else r)
  let s := { s with net.tags := [], net.reqs := [],
                    net.ctxs := s.net.ctxs.map (fun (e : Nat × Ctx) => (e.1, { e.2 with tagsOut := 0, bytesOut := 0 })) }
  ends.foldl (fun s (r : Req) => if r.ckpt then s else s.finishDesc r.owner r.badStatus r.bytes) s

/-- RELEASE (R410, R412): only in HOLDER and with every partition EMPTY. A standby originates no packet, so the requests still under
way end as they do at a change of epoch (log entry 146). -/
def State.releaseChip (s : State) : State × Nat :=
  if s.obj O.CHIP_STATE = 1 && s.allEmpty then
    let c := s.obj O.CHIP_NUMBER
    let e := s.obj O.CHIP_EPOCH
    let s := ((s.put O.CHIP_STATE 0).put O.CHIP_NUMBER 0x3FFF).put O.CHIP_EPOCH 0
    ((s.dropRequests.identUpdate.judgeAll).raise 0x1306 { kind := 2, subj := c, pay := e, len := 2 }, St.ok)
  else (s, St.refused)

/-- RELEASE (R412, R583). -/
def execReleaseChip (who : Who) (v : Nat) (s : State) : Outcome := rowWrite s who O.RELEASE v (·.releaseChip)

/-- Engines stop injecting and the module forwards no further packet: an output that sends a packet of this module's own
ends it with the abort marker, and what waits at the outputs is dropped (R331, R417). -/
def State.stopOutput (s : State) (n : Nat) : State :=
  let l := s.link n
  match l.cur with
  | some k =>
    if k.src.isNone && k.rank = 24 && k.sent < k.bytes.length then
      let cut := { k with bytes := k.bytes.take k.sent ++ abortTail (k.bytes.length - k.sent), done := true }
      (State.pump 16 n (s.setLink n { l with queue := [], cur := some cut })).inc O.ABORTS_SENT
    else s.setLink n { l with queue := [] }
  | none => s.setLink n { l with queue := [] }

/-- Fence record (Table 14.7). -/
def fenceRecord (cause link chip held current ns cal : Nat) : Nat :=
  fld 0 cause + fld 1 link + fld 2 chip + fld 4 held + fld 6 current + fld 8 ns + fld 16 cal

/-- A holder becomes fenced (R416, R417): the cause, the link on which the notice arrived and the current epoch it gave. -/
def State.fence (s : State) (cause link current : Nat) : State :=
  let chip := s.obj O.CHIP_NUMBER
  let rec_ := fenceRecord cause link chip (s.obj O.CHIP_EPOCH) current s.refNs s.calNs
  let s := (((s.put O.CHIP_STATE 2).put O.CHIP_NUMBER 0x3FFF).put O.CHIP_EPOCH 0).put O.FENCE_RECORD rec_
  let s := s.raise 0x3307 { kind := 2, subj := chip, pay := rec_, len := 32 }
  let s := s.linkList.foldl State.stopOutput s.identUpdate
  let s := [0, 1, 2, 3].foldl State.dropWaiting { s.dropRequests with net.sync := [], net.localQ := [], net.zeroHeld := [] }
  let s := [0, 1, 2, 3].foldl State.unloadDone s
  let s := [0, 1, 2, 3].foldl State.zeroDie s
  ({ s.releaseOffloads with flashCk := [], net.fenceZeroing := true, net.fencedAt := some s.now }).judgeAll

/-- Whether this module was fenced in this cycle as the holder of a chip number at an epoch (R416). -/
def State.justFenced (s : State) (chip epoch : Nat) : Bool :=
  s.obj O.CHIP_STATE = 2 && s.net.fencedAt = some s.now && recF (s.obj O.FENCE_RECORD) 2 2 = chip &&
    recF (s.obj O.FENCE_RECORD) 4 2 = epoch

/-- A further cause in the cycle of fencing (R416): the record carries the lowest. -/
def State.fenceAgain (s : State) (cause link current : Nat) : State :=
  let r := s.obj O.FENCE_RECORD
  if cause < recF r 0 1 then
    s.put O.FENCE_RECORD (fld 0 cause + fld 1 link + fld 2 (recF r 2 4) + fld 6 current + fld 8 (recF r 8 24))
  else s

/-- FENCE_ZERO_COMPLETE (R417): the zeroing of every die is complete. -/
def execFenceZeroComplete (s : State) : Outcome :=
  if s.net.fenceZeroing then
    let s := s.put O.FENCE_RECORD (s.obj O.FENCE_RECORD % 256 ^ 24 + fld 24 s.refNs)
    let r := s.obj O.FENCE_RECORD
    ok (({ s with net.fenceZeroing := false }).raise 0x1308 { kind := 2, subj := recF r 2 2, pay := recF r 4 2, len := 2 })
  else ok s

/-- A notice or FENCED packet that names a chip number and an epoch (R339, R416): it fences the holder of both, and is
counted otherwise. -/
def State.fenceBy (s : State) (cause link chip epoch current : Nat) : State :=
  let s' := if cause = 2 then s.raise 0x3E05 { kind := 1, subj := link } else s
  if s.obj O.CHIP_STATE = 1 && chip = s.obj O.CHIP_NUMBER && epoch = s.obj O.CHIP_EPOCH then s'.fence cause link current
  else if s.justFenced chip epoch then s'.fenceAgain cause link current
  else s.inc O.FENCED_IGNORED

/-- FENCED_NOTICE_RX (R416, Table 14.1). -/
def execFencedNoticeRx (link : Fin 24) (blk : Nat) (s : State) : Outcome :=
  let n := link.val
  if !s.hears n then ok s
  else
    match s.ctlRx n blk 3 4 (2 ^ 18 - 1) with
    | (none, s) => ok s
    | (some w, s) => ok (s.fenceBy 3 n (bits w 63 50) (bits w 49 34) (bits w 33 18))

/-- An epoch-table entry is raised (R337, R340, R407): flow contexts to the chip and packets that wait at injection take the new
epoch, those queued at an output keep theirs, its tags complete with
EPOCH_CHANGED, links are judged again, and a raise of the own entry fences (R416). -/
def State.raiseEpoch (s : State) (chip v : Nat) : State :=
  let old := s.epochOf chip
  let s := { s with net.epoch := s.net.epoch.set chip v,
                    net.ctxs := s.net.ctxs.map (fun (e : Nat × Ctx) => if e.2.chip = chip then (e.1, { e.2 with epoch := v }) else e),
                    net.waiting := s.net.waiting.map (fun (w : Waiting) =>
                      if w.pkt.dstChip = chip then { w with pkt := { w.pkt with dstEpoch := v } } else w) }
  let s := s.raise 0x1E0A { kind := 2, subj := chip, pay := v, len := 2 }
  let s := (s.net.tags.filter (fun (t : Nat × Tag) => t.2.chip = chip)).foldl (fun (s : State) (t : Nat × Tag) => s.tagDone t.1 0x22) s
  let s := s.judgeAll
  if s.obj O.CHIP_STATE = 1 && chip = s.obj O.CHIP_NUMBER && s.obj O.CHIP_EPOCH < v then s.fence 1 0xFF v
  else if s.justFenced chip old then s.fenceAgain 1 0xFF v
  else s

/-- EPOCH_VALUE_WRITE (R337): a lower value is refused, an equal one has no effect. -/
def State.epochValue (s : State) (chip v : Nat) : State × Nat :=
  if 16382 < chip then (s, St.notPresent)
  else if v < s.epochOf chip then (s, St.refused)
  else if v = s.epochOf chip then (s, St.ok)
  else (s.raiseEpoch chip v, St.ok)

/-- EPOCH_VALUE_WRITE (R337). -/
def execEpochValueWrite (who : Who) (chip v : Nat) (s : State) : Outcome :=
  rowWrite s who O.EPOCH_VALUE v (·.epochValue chip v)

end Sys2Proof.Machine
end

