-- ==== Sys2Proof/Machine/Stop.lean ====
section
/-! DEFINITION. Stop.lean: what stops the whole module: a supply stop, a rail fault, a thermal trip (R452, R453, R455, R468),
and bring-up's end in reset-hold (R561), with their records. -/

namespace Sys2Proof.Machine

/-- The work, the links and the core rails of the module are taken down (R452 steps 1 to 5): sequencers and engines stop,
no packet and no beat symbol goes out, every link is down, and the core rails and clock are off. -/
def State.powerDown (s : State) : State :=
  let s := s.linkList.foldl (fun (s : State) n => if s.lstate n = LS.disabled then s else (s.stopOutput n).setLstate n LS.down) s
  let s := { s with beat.placed := none, beat.second := [], net.waiting := [], net.localQ := [] }
  let s := [0, 1, 2, 3].foldl (fun (s : State) d => s.put (O.at O.CORE_RAIL_MV d) 0) s
  s.put O.CLOCK_MHZ 0

/-- Stop record (Table 16.2). -/
def stopRecord (cause die sensor value beat cal ns : Nat) : Nat :=
  fld 0 cause + fld 1 die + fld 2 sensor + fld 4 value + fld 8 beat + fld 16 cal + fld 24 ns

/-- The event of a stop by its cause (Table 16.11). -/
def stopEvent (cause : Nat) : Nat :=
  if cause = 1 then 0x3203 else if cause = 2 then 0x3204 else if cause = 3 then 0x320B else 0x3206

/-- A stop is applied (R452, R453, R455, R468): the module is taken down, the stop record is written and the event raised. A
module already stopped stays as it is; cause 0 marks a module whose 1.8 V stage the analog cutoff removed. -/
def State.stopModule (s : State) (cause value die sensor : Nat) : State :=
  if s.boot.stopCause ≠ none ∧ s.boot.stopCause ≠ some 0 then s
  else
    let rec_ := stopRecord cause die sensor value (if s.onBeat then s.obj O.BEAT_COUNT else 0) s.calNs s.refNs
    let s := (s.powerDown).put O.STOP_RECORD rec_
    let s := { s with boot.stopCause := some cause, boot.tripEnd := if cause = 3 then some (s.now + 480000000000) else s.boot.tripEnd,
                      boot.resetAt := if cause = 3 then none else s.boot.resetAt, power.stopPending := false, power.holdPending := false, power.goodSince := none }
    s.raise (stopEvent cause) { kind := if die = 0xFF then 0 else 3, subj := if die = 0xFF then 0 else die, pay := rec_, len := 32 }

/-- Milliseconds from the start of S0 or reset entry (Table 20.6). -/
def State.elapsedMs (s : State) : Nat := (s.boot.before + s.now) / 8000000 % 2 ^ 32

/-- BIST record (Table 20.6). -/
def bistRecord (cause stage die unit wave tile expected found ms cal : Nat) : Nat :=
  fld 0 cause + fld 1 stage + fld 2 die + fld 3 unit + fld 4 wave + fld 8 tile + fld 12 expected + fld 16 found + fld 20 ms
    + fld 24 cal

/-- What a BIST record names of a failure (Table 20.6), at its defaults. -/
structure BistAt where
  die : Nat := 0xFF
  unit : Nat := 0xFF
  wave : Nat := 0xFF
  tile : Nat := 0xFFFF
  expected : Nat := 0
  found : Nat := 0
deriving DecidableEq, Repr

/-- Bring-up ends in reset-hold (R561). -/
def State.enterHold (s : State) (cause : Nat) (a : BistAt) : State :=
  let stage := s.obj O.BRINGUP_STAGE
  let rec_ := bistRecord cause stage (a.die % 256) (a.unit % 256) (a.wave % 256) (a.tile % 65536) (a.expected % 2 ^ 32)
    (a.found % 2 ^ 32) s.elapsedMs s.calNs
  let s := (((s.powerDown.put O.BRINGUP_STAGE 10).put O.RESET_HOLD_CAUSE cause).put O.BIST_RECORD rec_).put O.MODULE_READY 0
  let s := { s with boot.scanLatch := false, boot.paused := none, boot.ifUp := false }
  s.raise 0x3051 { pay := rec_, len := 32 }

end Sys2Proof.Machine
end

