-- ==== Sys2Proof/Machine/Power.lean ====
section
/-! DEFINITION. Power.lean: supply thresholds, the governor, ballast, clock modes and thermal control (chapter 16). -/

namespace Sys2Proof.Machine

/-- Order of two F32 patterns. -/
abbrev fLt (a b : Nat) : Bool := (f32 a).lt (f32 b)

/-- The F32 nearest to a natural number times 2^e over d. -/
def f32Of (m : Nat) (e : Int) (d : Nat) : Nat := (Fmt.fp32.enc ((Num.fin false m e).div (.fin false d 0)).1).1

/-- A measured power as an exact number of units of 2^-149 W; a reading below zero counts as zero (log entry 41). -/
def wattU (p : Nat) : Nat :=
  match f32 p with
  | .fin false m e => m * 2 ^ (e + 149).toNat
  | _ => 0

/-- The F32 in joules of an energy in units of 2^-149 W times 0.125 ns. -/
def joules (e : Nat) : Nat := f32Of e (-149) 8000000000

/-- The smallest integer not below a finite value. -/
def Num.ceil : Num → Int
  | .fin n m e => if 0 ≤ e then sgn n m * 2 ^ e.toNat else -((-(sgn n m)) / (2 ^ (-e).toNat : Nat))
  | _ => 0

/-- Whether a hazard acts: the module is past S2, not in reset-hold and not stopped (R549). -/
def State.running (s : State) : Bool :=
  3 ≤ s.obj O.BRINGUP_STAGE && s.obj O.BRINGUP_STAGE ≤ 9 && s.boot.stopCause.isNone && s.boot.alwaysOn

/-- SUPPLY_STATE by what is in force (R451, R452, R454). -/
def State.supplyState (s : State) : State :=
  s.put O.SUPPLY_STATE (if s.power.ovOpen then 3 else if s.power.stopPending then 2 else if s.power.alert then 1 else 0)

/-- Core rail of a compute die at a clock, within 0.55 to 0.80 V (R456, Table 16.3). -/
def railOf (d mhz : Nat) : Nat :=
  let p := if mhz = 1800 then 620 else if mhz = 2000 then 680 else if mhz = 2050 then 700 else if mhz = 2100 then 730
    else if mhz = 2150 then 750 else if mhz = 2200 then 780 else 570 + Config.railBetween mhz % 211
  p + Config.railOffset d % 41 - 20

/-- The applied trim of a compute die (R458). -/
def State.trimOf (s : State) (d : Nat) : Nat := min (s.obj O.TRIM_POWER) (s.obj (O.at O.TRIM_THERMAL_CAP d))

/-- Whether a slot of a frame of 64 cycles is open to matrix rows under a trim (R458). -/
def slotOpen (t k : Nat) : Bool := k * t / 64 < (k + 1) * t / 64

/-- The slots of a frame that a trim withholds (R458). -/
def slotsHeld (t : Nat) : Nat := ((List.range 64).filter (fun k => !slotOpen t k)).length

/-- The regulator domain of a tile of a die (R456). -/
def domainOf (t : Nat) : Nat := t / 8 / 3 * 4 + t % 8 / 2

/-- The ballast levels of a die's tiles, added up: each tile of a domain has the domain's (R456, R457). -/
def State.ballastOf (s : State) (d : Nat) : Nat :=
  if s.power.ballast.isEmpty then 0
  else ((List.range 96).map (fun t => (s.power.ballast.get (16 * d + domainOf t) {}).level)).foldl (· + ·) 0

/-- The cause of Table 2.5 that a die's withheld trim slots have (R460). -/
def State.trimCause (s : State) (d : Nat) : Nat :=
  if s.obj (O.at O.TRIM_THERMAL_CAP d) < s.obj O.TRIM_POWER then 3
  else if s.power.alert && s.power.pAllow = f32Of (s.obj O.HOLDUP_BUDGET_W) 0 1 then 4 else 2

/-- What accrues while time passes: limited and boosted time, and the slots that trim and ballast withhold, in all and in this beat by
cause (R457 to R460, Table 16.7). Called before anything it depends on changes. -/
def State.accountPower (s : State) : State :=
  let dt := s.now - s.power.acctAt
  let mhz := s.obj O.CLOCK_MHZ
  let lim := s.power.limitedFrac + (if s.obj O.TRIM_POWER < 64 then dt else 0)
  let bst := s.power.boostFrac + (if 2000 < mhz then dt else 0)
  let s := { (s.add O.LIMITED_MS (lim / 8000000)).add O.BOOST_MS (bst / 8000000) with
             power.limitedFrac := lim % 8000000, power.boostFrac := bst % 8000000, power.acctAt := s.now }
  [0, 1, 2, 3].foldl (fun (s : State) d =>
    let wNew := dt * mhz * 96 * slotsHeld (s.trimOf d)
    let bNew := dt * mhz * s.ballastOf d
    let w := s.power.trimFrac.get d 0 + wNew
    let b := s.power.ballastFrac.get d 0 + bNew
    let c := s.trimCause d
    let m := s.power.slots.set 1 (s.power.slots.get 1 0 + 4 * bNew)
    let s := { s with power.trimFrac := s.power.trimFrac.set d (w % 512000), power.ballastFrac := s.power.ballastFrac.set d (b % 128000),
                      power.slots := m.set c (m.get c 0 + wNew) }
    (s.add (O.at O.TRIM_WITHHELD_SLOTS d) (w / 512000)).add (O.at O.BALLAST_SLOTS d) (b / 128000)) s

/-- The compute dies take a clock, and with it their core rails (R456): the rails move first when the clock rises, last when it falls. -/
def State.setClock (s : State) (mhz : Nat) : State :=
  let rails := fun (s : State) => [0, 1, 2, 3].foldl (fun (s : State) d => s.put (O.at O.CORE_RAIL_MV d) (railOf d mhz)) s
  let s := s.accountPower
  if s.obj O.CLOCK_MHZ < mhz then (rails s).put O.CLOCK_MHZ mhz else rails (s.put O.CLOCK_MHZ mhz)

/-- A clock move ends when the target is reached (R462). -/
def State.moveEnd (s : State) : State :=
  if s.power.moving && s.obj O.CLOCK_MHZ = s.power.target then
    { s with power.moving := false }.raise 0x120E { pay := s.power.mode, len := 1 }
  else s

/-- Boost is withdrawn (R451, R461): a boosted clock returns to 2,000 MHz whatever mode is pending or moving, and the millisecond of
margin starts again. -/
def State.boostDrop (s : State) : State :=
  let s := { s with power.marginAt := s.now }
  if 2000 < s.obj O.CLOCK_MHZ then (s.setClock 2000).moveEnd else s

/-- TRIM_APPLIED of every compute die, and the withdrawal of boost when a trim is below 64 (R458, R461). A trim that has only now
come back to 64 begins the millisecond of margin. -/
def State.retrim (s : State) : State :=
  let s := if [0, 1, 2, 3].any (fun d => s.obj (O.at O.TRIM_APPLIED d) < 64) then { s with power.marginAt := s.now } else s
  let s := [0, 1, 2, 3].foldl (fun (s : State) d => s.put (O.at O.TRIM_APPLIED d) (s.trimOf d)) s
  if [0, 1, 2, 3].any (fun d => s.trimOf d < 64) then s.markCond.boostDrop else s

/-- Completed 10 ms buckets move on as reference time does (R459). -/
def State.rollBuckets (s : State) : State :=
  let i := s.now / 80000000
  if i ≤ s.power.bucketIdx then s
  else
    let gap := List.replicate (min 6000 (i - s.power.bucketIdx - 1)) 0
    { s with power.buckets := (gap ++ s.power.eNow :: s.power.buckets).take 6000, power.eNow := 0, power.bucketIdx := i }

/-- One input power sample: energy since the sample before it, ENERGY_J and the 1 ms average (R448, R459). -/
def State.takePower (s : State) (power : Nat) : State :=
  let dt := match s.power.sampleAt with | some t => s.now - t | none => 8000
  let u := wattU power
  let e := u * dt
  let s := s.rollBuckets
  let f := s.power.eFrac + e
  let unit := 2 ^ 149 * 8000000000
  let rec_ := ((s.now, u) :: s.power.recent).filter (fun x => s.now < x.1 + 8000000)
  let avg := f32Of ((rec_.map (·.2)).foldl (· + ·) 0) (-149) (max 1 rec_.length)
  let s := { s with power.sampleAt := some s.now, power.recent := rec_, power.eFrac := f % unit,
                    power.eNow := s.power.eNow + e, power.tickE := s.power.tickE + e, power.tickT := s.power.tickT + dt }
  (s.add O.ENERGY_J (f / unit)).put O.INPUT_POWER_W avg

/-- A condition that must last: since when it has held. -/
def sinceOf (was : Option Nat) (holds : Bool) (now : Nat) : Option Nat :=
  if holds then (match was with | some t => some t | none => some now) else none

/-- The input switch opens on overvoltage (R454). -/
def State.openSwitch (s : State) : State :=
  if s.power.ovOpen then s
  else
    let s := { s with power.ovOpen := true, boot.switchClosed := false,
                      power.busOkSince := if fLt 0x42780000 s.power.bus then none else some s.now }
    ((s.inc O.OVERVOLTAGE_EVENTS).raise 0x2205 { pay := s.power.bus, len := 4 }).supplyState

/-- The lowest VIN of the disturbance, for the stop record. -/
def State.lowVin (s : State) : Nat := s.power.lowestVin.getD (s.obj O.VIN_V)

/-- A power alert starts (R451). -/
def State.powerAlert (s : State) : State :=
  ((({ s.accountPower with power.alert := true }.markCond.inc O.POWER_ALERTS).raise 0x2201 { pay := s.obj O.VIN_V, len := 4 }).boostDrop).supplyState

/-- The rail lies outside 1.70 to 1.90 V (R455). -/
def railOut (v : Nat) : Bool :=
  let x := ((f32 v).mul (.fin false 10 0)).1
  x.lt (.fin false 17 0) || (Num.fin false 19 0).lt x || x.isNan

/-- VIN judged by Table 16.1 (R448, R451, R453, R549). -/
def State.judgeVin (s : State) (vin : Nat) : State :=
  let now := s.now
  let s := { s with power.okSince := sinceOf s.power.okSince (!fLt vin 0x423C0000) now,
                    power.lowSince := sinceOf s.power.lowSince (fLt vin 0x42300000) now,
                    power.goodSince := sinceOf s.power.goodSince (!fLt vin 0x42380000) now,
                    power.lowestVin :=
                      if !s.power.alert && !fLt vin 0x42380000 then none
                      else match s.power.lowestVin with
                        | some l => some (if fLt vin l then vin else l)
                        | none => some vin }
  let s := if 2 ≤ s.obj O.BRINGUP_STAGE && fLt vin 0x42380000 && !s.power.alert && s.boot.stopCause.isNone then s.powerAlert else s
  let s := if s.running && fLt vin 0x42180000 then (s.stopModule 2 s.lowVin 0xFF 0xFF).supplyState else s
  if fLt vin 0x42100000 then { s.powerDown with boot.alwaysOn := false } else s

/-- SUPPLY_SAMPLE (R448): VIN, the bus side, input power, and the 1.8 V rail with its current, as F32 values. -/
def execSupplySample (at_ vin bus power railV railA : Nat) (s : State) : Outcome :=
  let s := s.upTo at_
  if !s.boot.alwaysOn then ok s
  else
    let s := (((s.put O.VIN_V vin).put O.RAIL_1V8_V railV).put O.RAIL_1V8_A railA).takePower power
    let s := { s with power.bus := bus,
                      power.highSince := sinceOf s.power.highSince (fLt 0x42700000 bus) s.now,
                      power.busOkSince := sinceOf s.power.busOkSince (s.power.ovOpen && !fLt 0x42780000 bus) s.now,
                      power.railBadSince := sinceOf s.power.railBadSince (railOut railV && !fLt vin 0x42300000) s.now }
    let s := if fLt 0x42840000 bus then s.openSwitch else s
    let s := if !fLt s.power.pAllow (V.add power 0x42C80000).1 then s else { s with power.marginAt := s.now }
    ok (s.judgeVin vin)

/-- STOP_PENDING (R452): VIN below 44.0 V for 200 µs. Off the beat the stop is applied at once. -/
def execStopPending (s : State) : Outcome :=
  match s.power.lowSince with
  | some t =>
    if s.running && !s.power.stopPending then
      let s := { s.upTo (t + 1600000) with power.stopPending := true }
      ok (if s.onBeat then s else s.stopModule 1 s.lowVin 0xFF 0xFF).supplyState
    else ok s
  | none => ok s

/-- OVERVOLTAGE_SUSTAINED (R454): the bus above 60.0 V for 100 ms. -/
def execOvervoltageSustained (s : State) : Outcome :=
  match s.power.highSince with
  | some t => if s.boot.alwaysOn && !s.power.ovOpen then ok (s.upTo (t + 800000000)).openSwitch else ok s
  | none => ok s

/-- INPUT_SWITCH_RECLOSE (R454): the bus at or below 62.0 V for 1 ms. -/
def execInputSwitchReclose (s : State) : Outcome :=
  match s.power.busOkSince with
  | some t =>
    if s.power.ovOpen then
      let s := s.upTo (t + 8000000)
      ok ({ s with power.ovOpen := false, power.busOkSince := none, power.highSince := none,
                   boot.switchClosed := s.boot.engageLow }).supplyState
    else ok s
  | none => ok s

/-- RAIL_FAULT (R455): the rail outside 1.70 to 1.90 V for 10 µs. -/
def execRailFault (s : State) : Outcome :=
  match s.power.railBadSince with
  | some t =>
    let st := s.obj O.BRINGUP_STAGE
    if 3 ≤ st && st ≤ 9 && s.boot.alwaysOn && (s.boot.stopCause = none || s.boot.stopCause = some 0) then
      let s := s.upTo (t + 80000)
      ok ((s.stopModule 4 (s.obj O.RAIL_1V8_V) 0xFF 0xFF).supplyState)
    else ok s
  | none => ok s

/-- DROOP_SAMPLE (R457): the rail of a regulator domain in µV sets the ballast level it computes. -/
def execDroopSample (die : Fin 4) (domain : Fin 16) (rail at_ : Nat) (s : State) : Outcome :=
  let s := s.upTo at_
  if !s.running then ok s
  else
    let k := 16 * die.val + domain.val
    let e := s.obj (O.at O.CORE_RAIL_MV die.val) * 1000 - s.obj O.DROOP_THRESHOLD_MV * 1000 - rail
    let n := min 16 (cdiv e 6000)
    let b := s.power.ballast.get k {}
    let s := s.accountPower
    if b.level < n then
      let s := if b.level = 0 then s.inc (O.at O.BALLAST_ENGAGES die.val) else s
      ok { s.markCond with power.ballast := s.power.ballast.set k { level := n, computed := n, below := s.now } }
    else
      let below := if n < b.level && b.computed < b.level then b.below else s.now
      ok { s with power.ballast := s.power.ballast.set k { b with computed := n, below := below } }

/-- BALLAST_DECAY (R457): 32 cycles with the computed level below the present one. -/
def execBallastDecay (die : Fin 4) (domain : Fin 16) (s : State) : Outcome :=
  let k := 16 * die.val + domain.val
  let b := s.power.ballast.get k {}
  let mhz := s.obj O.CLOCK_MHZ
  if b.computed < b.level && 0 < mhz then
    let s := (s.upTo (b.below + cdiv (32 * 8000) mhz)).accountPower
    ok { s with power.ballast := s.power.ballast.set k { b with level := b.level - 1, below := s.now } }
  else ok s

/-- The power the governor allows (R459). -/
def State.powerAllow (s : State) : Nat :=
  let w := s.obj O.AVG_WINDOW_S
  let ceil := f32Of (s.obj O.POWER_CEILING_W) 0 1
  let lim := f32Of (min (s.obj O.AVG_LIMIT_W) (s.obj O.POWER_CEILING_W)) 0 1
  let used := (V.add (joules ((s.power.buckets.take (w * 100 - 1)).foldl (· + ·) 0)) (joules s.power.eNow)).1
  let left := (V.sub (V.mul lim (f32Of w 0 1)).1 used).1
  let p := (V.minMax false ceil (V.div left (f32Of (80000000 - s.now % 80000000) 0 8000000000)).1).1
  if s.power.alert then (V.minMax false p (f32Of (s.obj O.HOLDUP_BUDGET_W) 0 1)).1 else p

/-- GOVERNOR_TICK (R459). -/
def execGovernorTick (at_ : Nat) (s : State) : Outcome :=
  let s := s.upTo at_
  if !s.running then ok s
  else
    let s := s.rollBuckets.accountPower
    let s := s.put O.POWER_CEILING_W (s.obj O.POWER_CEILING_SET_W)
    let w := s.obj O.AVG_WINDOW_S
    let pMeas := if s.power.tickT = 0 then s.obj O.INPUT_POWER_W else f32Of s.power.tickE (-149) s.power.tickT
    let pAllow := s.powerAllow
    let beyond := (V.sub pMeas pAllow).1
    let t := s.obj O.TRIM_POWER
    let since := s.power.sinceRaise + 20
    let (t', since) :=
      if fLt 0 beyond then (max 4 (t - (Num.ceil (f32 (V.div beyond 0x41A00000).1)).toNat), 0)
      else if !fLt (V.neg beyond).1 0x42200000 && 100 ≤ since then (min 64 (t + 1), 0)
      else (t, since)
    let win := f32Of ((s.power.buckets.take (w * 100)).foldl (· + ·) 0) (-149) (8000000000 * w)
    let s := { (s.put O.TRIM_POWER t').put O.WINDOW_POWER_W win with
               power.pAllow := pAllow, power.sinceRaise := since, power.tickE := 0, power.tickT := 0,
               power.limitedSince := sinceOf s.power.limitedSince (t' < 64) s.now,
               power.limitedDone := s.power.limitedDone && t' < 64 }
    let s := s.retrim
    match s.power.limitedSince with
    | some t0 =>
      if t0 + 8 * sec1 ≤ s.now && !s.power.limitedDone then
        ok ({ s with power.limitedDone := true }.raiseEvery 0x220F 0 (60 * sec1) { pay := t', len := 1 })
      else ok s
    | none => ok s

/-- BOOST_STEP (R461): one 50 MHz rise after a millisecond of margin, in the mode in force. -/
def execBoostStep (s : State) : Outcome :=
  let mhz := s.obj O.CLOCK_MHZ
  let waited := match s.power.lastRise with | some t => t + 8000000 ≤ s.now | none => true
  if s.running && s.power.mode = 1 && !s.power.moving && 2000 ≤ mhz && mhz + 50 ≤ s.obj O.BOOST_MAX_MHZ && waited
      && s.power.marginAt + 8000000 ≤ s.now && !s.power.alert then
    ok ({ s with power.lastRise := some s.now }.setClock (mhz + 50))
  else ok s

/-- The clock a mode starts from (Table 16.4): a boosted clock within the limit stays as it is. -/
def State.modeClock (s : State) : Nat :=
  let m := s.obj O.CLOCK_MODE
  if m = 2 then 1800
  else if m = 1 && 2000 ≤ s.obj O.CLOCK_MHZ && s.obj O.CLOCK_MHZ ≤ s.obj O.BOOST_MAX_MHZ then s.obj O.CLOCK_MHZ
  else 2000

/-- A clock move begins (R462). A module whose clock is off moves nothing. -/
def State.beginMove (s : State) : State :=
  let s := { s with power.pendingMode := false, power.marginAt := s.now, power.mode := s.obj O.CLOCK_MODE }
  if s.obj O.CLOCK_MHZ = 0 then s
  else ({ s with power.target := s.modeClock, power.moving := true }).moveEnd

/-- CLOCK_MODE takes a value (R238, R462). -/
def State.clockMode (s : State) (v : Nat) : State × Nat :=
  if 2 < v then (s.put O.CLOCK_MODE_RESULT 1, St.refused)
  else if v = 2 && [0, 1, 2, 3].any (fun p => match (s.job p).image with
      | some im => s.obj O.BEAT_PERIOD_NS < im.stage.minFixed
      | none => false) then
    (s.put O.CLOCK_MODE_RESULT 2, St.refused)
  else
    let s := (s.put O.CLOCK_MODE_RESULT 0).store O.CLOCK_MODE v
    (if s.onBeat then { s with power.pendingMode := true } else s.beginMove, St.ok)

/-- CLOCK_MODE_WRITE (R462): a value above 2 gives CLOCK_MODE_RESULT 1. -/
def execClockModeWrite (who : Who) (v : Nat) (s : State) : Outcome :=
  if !s.served who then ok s
  else
  match s.gate who O.CLOCK_MODE v with
  | some st => ok ((if st = St.refused then s.put O.CLOCK_MODE_RESULT 1 else s).send (.status who O.CLOCK_MODE st))
  | none => ok ((s.clockMode v).1.send (.status who O.CLOCK_MODE (s.clockMode v).2))

/-- CLOCK_STEP (R462): one 50 MHz step towards the target. -/
def execClockStep (s : State) : Outcome :=
  let mhz := s.obj O.CLOCK_MHZ
  if s.power.moving && s.running && mhz ≠ s.power.target then
    ok ((s.setClock (if mhz < s.power.target then min s.power.target (mhz + 50) else max s.power.target (mhz - 50))).moveEnd)
  else ok s

/-- THERMAL_STATE of every die and of the module (R466, R467). -/
def State.thermalStates (s : State) (caps : List Nat) : State :=
  let st := fun (d : Nat) =>
    if s.power.holdOn && s.power.holders.contains d then 2
    else if (if d < 4 then s.obj (O.at O.TRIM_THERMAL_CAP d) else caps.getD d 64) < 64 then 1 else 0
  let s := [0, 1, 2, 3].foldl (fun (x : State) d => x.put (O.at O.THERMAL_STATE d) (st d)) s
  let s := [0, 1].foldl (fun (x : State) i => x.put (O.at O.THERMAL_STATE_IO i) (st (4 + i))) s
  s.put O.MODULE_THERMAL_STATE (if s.power.holdOn then 2 else if caps.any (· < 64) then 1 else 0)

/-- The thermal cap of a die's reading (R466). -/
def thermalCap (t : Int) : Nat := if t ≤ 880 then 64 else max 24 (64 - 8 * ((t - 880 + 7) / 8).toNat)

/-- The thermal caps of the newest readings. -/
def State.caps (s : State) : List Nat := s.power.temps.map thermalCap

/-- A thermal hold is applied (R467). -/
def State.applyHold (s : State) : State :=
  (({ s with power.holdOn := true, power.holdPending := false }.inc O.THERMAL_HOLDS).raise 0x3209
    { pay := s.power.holders.foldl (fun a d => setBit a d true) 0, len := 1 }).thermalStates s.caps

/-- A thermal hold is released (R467): work goes on, and the module catches up. -/
def State.releaseHold (s : State) : State :=
  let io := s.power.holders.any (4 ≤ ·)
  let t := ({ s with power.holdOn := false, power.holders := [], power.releasePending := false, power.catchUp := s.onBeat }.raise 0x120A
    { pay := s.power.holders.foldl (fun a d => setBit a d true) 0, len := 1 }).thermalStates s.caps
  if io then [0, 1, 2, 3].foldl State.issueAll (t.tryWaiting 0) else t

/-- A hold at an edge, step E1 (R467): a pending hold is applied, a release takes effect, and an edge that stays held counts on
the compute dies that set it, for an I/O die on the two it serves. The Boolean tells that the hold lasts. -/
def State.holdAtEdge (s : State) : State × Bool :=
  let s := if s.power.holdPending then s.applyHold else if s.power.holdOn && s.power.releasePending then s.releaseHold else s
  if s.power.holdOn then
    ([0, 1, 2, 3].foldl (fun (s : State) d =>
      if s.power.holders.contains d || s.power.holders.contains (4 + d / 2) then s.inc (O.at O.HOLD_EDGES d) else s) s, true)
  else (s, false)

/-- Powers that differ by 20 W or more. -/
def moved20 (a b : Nat) : Bool := !((f32 a).add (f32 b).neg).1.abs.lt (.fin false 20 0)

/-- A sensor takes its next reading (R464). -/
def Sensor.next (o : Option Sensor) (r : Int) (pw now : Nat) : Sensor :=
  let rng := (-320 ≤ r && r ≤ 1200 : Bool)
  match o with
  | none => { value := r, valid := rng, ref := r, since := now, power := pw, moved := false, faulted := false }
  | some x =>
    if r ≠ x.ref then { x with value := r, valid := rng, ref := r, since := now, power := pw, moved := false }
    else
      let mv := x.moved || moved20 pw x.power
      { x with value := r, valid := rng && !(mv && x.since + 80 * sec1 ≤ now), moved := mv }

/-- Sensors of a die and the least number that must be valid (R464). -/
def sensorCount (d : Nat) : Nat := if d < 4 then 24 else 8

/-- One die's sensors are sampled (R464): the readings, the objects, and how the die reads: its temperature, its hottest sensor,
and whether any sensor is valid. -/
def State.sampleDie (s : State) (d : Nat) (rs : List Int) (pw : Nat) : State × (Int × Nat × Bool) :=
  let s := (List.range (sensorCount d)).foldl (fun (s : State) i =>
    let x := Sensor.next (s.power.sensors.find (32 * d + i)) (rs.getD i (-2000)) pw s.now
    let bad := !x.valid && !x.faulted
    let s := { s with power.sensors := s.power.sensors.set (32 * d + i) { x with faulted := x.faulted || bad } }
    if bad then s.raise 0x220C { kind := 3, subj := d, pay := i, len := 1 } else s) s
  let good := (List.range (sensorCount d)).filterMap (fun i =>
    match s.power.sensors.find (32 * d + i) with
    | some x => if x.valid then some (x.value, i) else none
    | none => none)
  let hot : Int × Nat := match good with
    | [] => (0, 0)
    | g :: gs => gs.foldl (fun (a b : Int × Nat) => if a.1 < b.1 then b else a) g
  let hotF := (Fmt.fp32.enc (.fin (hot.1 < 0) hot.1.natAbs (-3))).1
  let s :=
    if d < 4 then
      (((s.put (O.at O.HOTTEST_C d) hotF).put (O.at O.HOTTEST_SENSOR d) hot.2).put (O.at O.VALID_SENSORS d) good.length).put
        (O.at O.DIE_POWER_W d) pw
    else ((s.put (O.at O.HOTTEST_C_IO (d - 4)) hotF).put (O.at O.HOTTEST_SENSOR_IO (d - 4)) hot.2).put
      (O.at O.VALID_SENSORS_IO (d - 4)) good.length
  let t := if good.length < (if d < 4 then 20 else 6) then max hot.1 896 else hot.1
  (s, (t, hot.2, !good.isEmpty))

/-- The caps and events of the newest temperatures (R461, R465, R466). -/
def State.thermalCaps (s : State) : State :=
  let ts := s.power.temps
  let s := s.accountPower
  let s := [0, 1, 2, 3, 4, 5].foldl (fun (s : State) d =>
    let t := ts.getD d 0
    let s := if 880 < t && !s.power.above110.contains d then s.raiseEvery 0x2208 d sec1 { kind := 3, subj := d, pay := ofInt 16 t, len := 2 } else s
    let hs := match sinceOf (s.power.hotSince.find d) (840 < t) s.now with
      | some x => s.power.hotSince.set d x
      | none => s.power.hotSince.del d
    { s with power.hotSince := hs, power.hotDone := s.power.hotDone.filter (fun x => x ≠ d || 840 < t) }) s
  let s := { s with power.above110 := [0, 1, 2, 3, 4, 5].filter (fun d => 880 < ts.getD d 0) }
  let s := [0, 1, 2, 3].foldl (fun (s : State) d =>
    s.put (O.at O.TRIM_THERMAL_CAP d) (min (thermalCap (ts.getD d 0)) (thermalCap (ts.getD (4 + d / 2) 0)))) s
  let s := s.retrim
  if ts.any (800 ≤ ·) then s.boostDrop else s

/-- What the newest temperatures do to a thermal hold (R467): off the beat a hold is applied and released at once. -/
def State.judgeHold (s : State) : State :=
  let ts := s.power.temps
  let beyond := [0, 1, 2, 3, 4, 5].filter (fun d => 920 ≤ ts.getD d 0)
  let holders := s.power.holders ++ beyond.filter (fun d => !s.power.holders.contains d)
  let s := { s with power.holders := holders,
                    power.holdPending := s.power.holdPending || (!beyond.isEmpty && !s.power.holdOn),
                    power.releasePending := !holders.isEmpty && holders.all (fun d => ts.getD d 0 ≤ 896) }
  if s.onBeat then s
  else if s.power.holdPending then s.applyHold
  else if s.power.holdOn && s.power.releasePending then s.releaseHold
  else s

/-- THERMAL_SAMPLE (R464 to R468, R549): 24 readings of each compute die, then 8 of each I/O die, in units of 0.125 °C, and the
power of the six dies as F32 values. -/
def execThermalSample (at_ : Nat) (readings : List Int) (powers : List Nat) (s : State) : Outcome :=
  let s := s.upTo at_
  if !s.running then ok s
  else
    let (s, rs) := [0, 1, 2, 3, 4, 5].foldl (fun (a : State × List (Int × Nat × Bool)) d =>
      let base := if d < 4 then 24 * d else 96 + 8 * (d - 4)
      let (s, r) := a.1.sampleDie d (readings.drop base) (powers.getD d 0)
      (s, a.2 ++ [r])) (s, [])
    let s := { s with power.temps := rs.map (fun (r : Int × Nat × Bool) => r.1) }
    let f32T := fun (t : Int) => (Fmt.fp32.enc (.fin (t < 0) t.natAbs (-3))).1
    match [0, 1, 2, 3, 4, 5].find? (fun d => let r := rs.getD d (0, 0, true); !r.2.2 || 1000 ≤ r.1) with
    | some d =>
      let r := rs.getD d (0, 0, true)
      ok ((s.stopModule 3 (f32T r.1) d (if r.2.2 then r.2.1 else 0xFF)).supplyState)
    | none =>
      match (if s.obj O.BRINGUP_STAGE < 9 then [0, 1, 2, 3, 4, 5].find? (fun d => 920 ≤ (rs.getD d (0, 0, true)).1) else none) with
      | some d => ok (s.enterHold 7 { die := d, unit := (rs.getD d (0, 0, true)).2.1 })
      | none => ok (s.thermalCaps.judgeHold.thermalStates s.caps)

/-- THERMAL_MARGIN (R465): a die above 105.0 °C for 1 s. -/
def execThermalMargin (die : Fin 6) (s : State) : Outcome :=
  match s.power.hotSince.find die.val with
  | some t =>
    if s.running && !s.power.hotDone.contains die.val then
      let s := s.upTo (t + 8 * sec1)
      ok ({ s with power.hotDone := die.val :: s.power.hotDone }.raiseEvery 0x220D 0 (60 * sec1) { kind := 3, subj := die.val })
    else ok s
  | none => ok s

/-- ANALOG_THERMAL_CUTOFF (R468): at 130 °C a die's comparator removes the 1.8 V stage; the rail then reads 0. -/
def execAnalogThermalCutoff (_die : Fin 6) (s : State) : Outcome :=
  if s.boot.stopCause.isSome then ok (s.put O.RAIL_1V8_V 0)
  else
    let s := s.powerDown.put O.RAIL_1V8_V 0
    ok { s with boot.stopCause := some 0, power.railBadSince := sinceOf s.power.railBadSince (!fLt (s.obj O.VIN_V) 0x42300000) s.now }

end Sys2Proof.Machine
end

