-- ==== Sys2Proof/Machine/Optics.lean ====
section
/-! DEFINITION. Optics.lean: the light source, fade and switchover, the heater loops and their calibration, and the express
switch (chapter 13). None of it is fitted in SV1-E (R4). -/

namespace Sys2Proof.Machine

/-- LASER_STATE of a laser (Table 13.3). -/
def State.laser (s : State) (l : Nat) : Nat := s.obj (O.LASER_STATE_0 + l)

/-- A laser takes a state. -/
def State.setLaser (s : State) (l v : Nat) : State := s.put (O.LASER_STATE_0 + l) v

/-- The laser on the main feed of a wavelength (R374, R391): ACTIVE_SELECT's, or the other one once the selector has crossed. -/
def State.feedLaser (s : State) (k : Nat) : Nat :=
  2 * k + b2n (bit (s.obj O.ACTIVE_SELECT) k != (s.optics.crossed.find k).isSome)

/-- The other laser of the pair. -/
def partnerOf (l : Nat) : Nat := if l % 2 = 0 then l + 1 else l - 1

/-- Whether the spare of a wavelength is SPARE_READY. -/
def State.spareReady (s : State) (k : Nat) : Bool := s.laser (partnerOf (s.feedLaser k)) = 3

/-- A laser can be used: neither RETIRED nor FAILED. -/
def State.laserUsable (s : State) (l : Nat) : Bool := s.laser l ≠ 6 && s.laser l ≠ 7

/-- Since when every laser to be used has been SPARE_READY or ACTIVE (R376). -/
def State.readyMark (s : State) : State :=
  let all := (List.range 8).all (fun l => !s.laserUsable l || s.laser l = 3 || s.laser l = 4)
  { s with optics.readySince := sinceOf s.optics.readySince (all && s.obj O.LSM_PRESENT = 1) s.now }

/-- The channels of a wavelength. -/
def waveChans (k : Nat) : List Nat := (List.range 16).map (fun n => 4 * n + k)

/-- Supply of a present LSM turns on every laser that can be used; a pair with one usable laser uses it (R374). -/
def State.supplyLsm (s : State) : State :=
  if s.obj O.LSM_PRESENT = 1 && !s.optics.supplied then
    let s := { s with optics.supplied := true }
    let s := (List.range 8).foldl (fun (s : State) l => if s.laserUsable l then s.setLaser l 2 else s) s
    let sel := [0, 1, 2, 3].foldl (fun a k =>
      let l := 2 * k + b2n (bit a k)
      if !s.laserUsable l && s.laserUsable (partnerOf l) then setBit a k (!bit a k) else a) (s.obj O.ACTIVE_SELECT)
    s.put O.ACTIVE_SELECT sel
  else s

/-- LSM_INSERTED (R374): the serial number the LSM reports as the object's value, and the nominal powers of its lasers. -/
def execLsmInserted (serial : Nat) (nominal : List Nat) (s : State) : Outcome :=
  if !s.fullConfig || s.obj O.LSM_PRESENT = 1 then ok s
  else
    let fresh := serial ≠ s.optics.serial
    let s := if fresh then
        (List.range 8).foldl (fun (s : State) l => s.put (O.LASER_REF_DBM_0 + l) 0)
          ({ (s.put O.ACTIVE_SELECT 0).put O.REFERENCE_SOURCE 1 with optics.serial := serial, optics.retired := 0 })
      else s
    let s := { (s.put O.LSM_PRESENT 1).put O.LSM_SERIAL serial with optics.nominal := nominal, optics.supplied := false }
    let s := (List.range 8).foldl (fun (s : State) l => s.setLaser l (if bit s.optics.retired l then 6 else 1)) s
    let s := s.raise 0x1F09
    ok (if s.obj O.BRINGUP_STAGE = 8 || s.obj O.BRINGUP_STAGE = 9 then s.supplyLsm else s)

/-- LSM_REMOVED (R375): power is removed, the lasers are ABSENT, and no switchover stays pending. Every lane of a class O link
loses its light, so a link that is UP retrains (R315). -/
def execLsmRemoved (s : State) : Outcome :=
  if !s.fullConfig || s.obj O.LSM_PRESENT = 0 then ok s
  else
    let s := (List.range 8).foldl (fun (s : State) l => s.setLaser l 0) ((s.put O.LSM_PRESENT 0).put O.LSM_SERIAL 1)
    let s := { s with optics.supplied := false, optics.pending := [], optics.crossed := [], optics.readySince := none,
                      optics.lost := 0, optics.hist := s.optics.hist.filter (fun e => 8 ≤ e.1) }
    let s := ((List.range 16).map (· + 8)).foldl (fun (s : State) n => if s.isUp n then s.startRetrain n else s) s
    ok (s.raise 0x3F08)

/-- The selector of a wavelength takes its other laser (R374): the wavelength is there again. -/
def State.selectOther (s : State) (k : Nat) : State :=
  let sel := s.obj O.ACTIVE_SELECT
  { s.put O.ACTIVE_SELECT (setBit sel k (!bit sel k)) with optics.lost := setBit s.optics.lost k false }

/-- LASER_WARMED (R373, R374): the selected laser of its pair becomes ACTIVE, the other SPARE_READY; the one usable laser of a pair
is selected and becomes ACTIVE. -/
def execLaserWarmed (laser : Fin 8) (s : State) : Outcome :=
  let l := laser.val
  let k := l / 2
  if s.laser l ≠ 2 then ok s
  else if s.feedLaser k = l then ok (s.setLaser l 4).readyMark
  else if s.laserUsable (s.feedLaser k) then ok (s.setLaser l 3).readyMark
  else ok ((s.setLaser l 4).selectOther k).readyMark

/-- The light of a wavelength crosses to its spare (R387, R391): the spare feeds every transmit bus, its modulator loops take
the spare codes, or go back to the operating point before a sweep, and calibrations of its channels are abandoned. -/
def State.crossOver (s : State) (k : Nat) : State :=
  let sp := partnerOf (s.feedLaser k)
  let s := (waveChans k).foldl (fun (s : State) c =>
    let x := s.chan c
    let point := match s.optics.wins.find c with
      | some w => w.prev
      | none => x.modHeater
    s.setChan c { x with modHeater := if bit x.flags 4 then x.spareHeater else point, flags := setBit x.flags 4 false }) s
  let s := { s with optics.pending := s.optics.pending.del k, optics.crossed := s.optics.crossed.set k s.now,
                    optics.wins := s.optics.wins.map (fun (e : Nat × CalWin) =>
                      if e.1 % 4 = k then (e.1, { e.2 with abandoned := true, sweeping := false }) else e) }
  s.setLaser sp 4

/-- A wavelength is lost (R392): its lane leaves all outbound directions, by a planned removal when this module can still send
on it; with fewer than two lanes left a link retrains. -/
def State.waveLost (s : State) (k : Nat) (planned : Bool) : State :=
  if bit s.optics.lost k then s
  else
    let s := { s with optics.lost := setBit s.optics.lost k true, optics.pending := s.optics.pending.del k }
    let s := if planned then
        ((List.range 16).map (· + 8)).foldl (fun (s : State) n =>
          let l := s.link n
          if !s.isUp n || !bit l.pendMap k then s
          else if popcount (setBit l.pendMap k false) 4 < 2 then s.startRetrain n
          else s.setLink n (l.planSwitch (setBit · k false) false)) s
      else s
    s.raise 0x3F07 { kind := 12, subj := k }

/-- A loss or failure of the feed (R392): the spare takes over at once, outside any sub-slot, or the wavelength is lost. -/
def State.feedLost (s : State) (k : Nat) : State :=
  if s.spareReady k then s.crossOver k else s.waveLost k false

/-- LASER_FAULT_REPORT (R373, R374, R392). A spare that fails while its switchover is pending leaves an active laser at −3.0 dB
without a partner. A selected laser that fails before it was ACTIVE leaves its pair to the other, if that one can be used. -/
def execLaserFaultReport (laser : Fin 8) (s : State) : Outcome :=
  let l := laser.val
  let k := l / 2
  if s.laser l = 0 || s.laser l = 6 || s.laser l = 7 then ok s
  else
    let feed : Bool := s.feedLaser k = l
    let was := s.laser l
    let s := (s.setLaser l 7).readyMark
    if feed && was < 3 && s.laserUsable (partnerOf l) then
      ok (if s.laser (partnerOf l) = 3 then (s.setLaser (partnerOf l) 4).selectOther k else s.selectOther k).readyMark
    else if feed then ok (s.feedLost k)
    else
      let s := s.raise 0x2F06 { kind := 12, subj := k }
      ok (if (s.optics.pending.find k).isSome then s.waveLost k true else s)

/-- SWITCHOVER_OLD_LASER_OFF (R391, R392): 20 µs after the crossing the old laser is off and RETIRED. -/
def execSwitchoverOldLaserOff (wave : Fin 4) (s : State) : Outcome :=
  let k := wave.val
  match s.optics.crossed.find k with
  | none => ok s
  | some t =>
    let s := s.upTo (t + 160000)
    let old := partnerOf (s.feedLaser k)
    let sel := s.obj O.ACTIVE_SELECT
    let s := if s.laser old = 7 then s else s.setLaser old 6
    let s := { (s.put O.ACTIVE_SELECT (setBit sel k (!bit sel k))).inc O.SWITCHOVERS with
               optics.crossed := s.optics.crossed.del k, optics.retired := setBit s.optics.retired old true }
    ok ((s.raise 0x1F05 { kind := 12, subj := k }).raise 0x2F06 { kind := 12, subj := k }).readyMark

/-- The reference of a laser by REFERENCE_SOURCE (R376). -/
def State.laserRef (s : State) (l : Nat) : Option Nat :=
  if s.obj O.REFERENCE_SOURCE = 0 then some (s.obj (O.LASER_REF_DBM_0 + l))
  else if s.obj O.REFERENCE_SOURCE = 1 then s.optics.nominal[l]? else none

/-- References are taken (R376): from each laser that is SPARE_READY or ACTIVE, and from every channel. -/
def State.takeRefs (s : State) : State :=
  let good := fun (l : Nat) => s.laser l = 3 || s.laser l = 4
  let s' := (List.range 8).foldl (fun (x : State) l =>
    if good l then x.put (O.LASER_REF_DBM_0 + l) (s.obj (O.LASER_POWER_DBM_0 + l)) else x) s
  let s' := (List.range 64).foldl (fun (x : State) c =>
    x.setChan c { x.chan c with txRef := (x.chan c).txPower }) s'
  (s'.put O.REFERENCE_SOURCE 0).raise 0x1F0D

/-- COMMISSION (R376). -/
def execCommission (who : Who) (v : Nat) (s : State) : Outcome :=
  rowWrite s who O.COMMISSION v fun s => (s.takeRefs, St.ok)

/-- AUTO_REFERENCE (R376): 600 s with every laser to be used SPARE_READY or ACTIVE. -/
def execAutoReference (s : State) : Outcome :=
  match s.optics.readySince with
  | some t => if s.obj O.REFERENCE_SOURCE = 1 then ok (s.upTo (t + 4800 * sec1)).takeRefs else ok s
  | none => ok s

/-- Whether a channel is due for forcing (R379, R381, R384). -/
def Channel.force (x : Channel) : Bool := bit x.flags 2 || bit x.flags 5

/-- Whether a lane of a link is due for forcing, with no calibration of it under way. -/
def State.forceDue (s : State) (n lane : Nat) : Bool :=
  (s.chan (chanNo n lane)).force && (s.optics.wins.find (chanNo n lane)).isNone

/-- The rank of a channel in the choice of R382; the lowest is chosen. -/
def State.calRank (s : State) (n lane : Nat) : Nat :=
  let x := s.chan (chanNo n lane)
  if s.forceDue n lane then 0 else if bit x.flags 3 then 1 else if !bit x.flags 4 && s.spareReady lane then 2 else 3

/-- The lane that a window of a link calibrates (R382). -/
def State.calChoice (s : State) (n : Nat) : Nat :=
  let age := fun (k : Nat) => match (s.chan (chanNo n k)).modAt with | some t => s.now - t | none => 2 ^ 80
  [1, 2, 3].foldl (fun b k =>
    if s.calRank n k < s.calRank n b || (s.calRank n k = 3 && s.calRank n b = 3 && age b < age k) then k else b) 0

/-- A calibration window of a link is open (R382). -/
def State.winOpen (s : State) (n : Nat) : Bool := s.optics.wins.any (fun (e : Nat × CalWin) => 8 + e.1 / 4 = n && e.2.kind ≠ 3)

/-- A window does not open on a link (R386); `blocked` tells of a switchover at the same edge. -/
def State.noWindow (s : State) (n : Nat) (blocked : Bool) : Bool :=
  !s.isUp n || (s.link n).express || (s.link n).outMap ≠ 15 || (s.link n).pendMap ≠ 15 || s.winOpen n || blocked

/-- A calibration window opens (R382 to R386), or is skipped; either meets an idle window that was due. A forced window that is
skipped stays due and is counted once (log entry 125). -/
def State.openWindow (s : State) (n kind closeBeat : Nat) (forced blocked : Bool) : State :=
  let k := s.calChoice n
  let c := chanNo n k
  let s := { s with optics.idleDue := s.optics.idleDue.filter (· ≠ n) }
  if s.noWindow n blocked then
    if !forced then s.inc O.WINDOWS_SKIPPED
    else if (s.chan c).tried then s
    else (s.setChan c { s.chan c with tried := true }).inc O.WINDOWS_SKIPPED
  else
    let w : CalWin := { kind := kind, openedAt := s.now, closeBeat := closeBeat, prev := (s.chan c).modHeater }
    let s := { s.setLink n ((s.link n).planSwitch (setBit · k false) true) with
               optics.wins := s.optics.wins.set c w }
    if kind = 1 then (s.inc O.CAL_FORCED).markCond else s

/-- The machine is held: the present beat is a hold beat (R385). -/
def State.inHold (s : State) : Bool := s.onBeat && s.beat.holdOn

/-- Forcing arises (R384, R385): without a beat an idle window opens at once; with one, step E6 opens it. -/
def State.forceNow (s : State) (n : Nat) : State :=
  if s.onBeat || !([0, 1, 2, 3].any (s.forceDue n)) then s else s.openWindow n 2 0 true false

/-- LANE_DROP_REQ_RX (R316 to R318): the partner asks for lanes of this module's outbound direction to leave. A request
that would leave fewer than two lanes, an announced switch reckoned in, retrains the link; lock lost is answered with LANE_SET on every
remaining lane at once, and an announced switch goes on without the lane; a
calibration request marks its channels for forcing (R381, R385), and every other cause is met by a planned switch announced 16
codewords ahead. -/
def execLaneDropReqRx (link : Fin 24) (blk : Nat) (s : State) : Outcome :=
  let n := link.val
  if !(s.linkPresent n && s.isUp n) then ok s
  else
    match s.ctlRx n blk 2 4 (2 ^ 56 - 1) with
    | (none, s) => ok s
    | (some p, s) =>
      let lanes := bits p 63 60
      let cause := bits p 59 56
      let l := s.link n
      let keep := 15 ^^^ lanes
      let new := l.outMap &&& keep
      let pend := l.pendMap &&& keep
      if cause = 0 || cause > 4 then ok (s.inc (O.at O.MALFORMED_CTRL n))
      else if cause = 3 then
        ok (if reachClass n = 2 then ((setBits lanes 4).foldl (fun (s : State) k => s.chanFlag (chanNo n k) 2 true) s).forceNow n else s)
      else if (if cause = 2 then new = l.outMap else pend = l.pendMap) then ok s
      else if popcount pend 4 < 2 || (cause = 2 && popcount new 4 < 2) then ok (s.startRetrain n)
      else if cause = 2 then
        let s := s.sendAll ((setBits new 4).mapIdx (fun i _ => Out.block n 2 5 (new * 2 ^ 60) i))
        ok ((s.setLink n ((s.link n).dropLanes keep)).lanesChanged n l.outMap new false).markCond
      else ok (s.setLink n (l.planSwitch (· &&& keep) false)).markCond

/-- A drop filter due for forcing asks its transmitter once (R381). -/
def State.askDrop (s : State) (c : Nat) : State :=
  let n := 8 + c / 4
  let x := s.chan c
  if x.asked || !s.isUp n then s
  else (s.setChan c { x with asked := true }).send (dropReq n (2 ^ (c % 4)) 3 0)

/-- A channel's ring loses lock (R378): it is due, and a modulator's lane is sent on no more. -/
def State.ringLost (s : State) (c : Nat) (drop : Bool) : State :=
  let x := s.chan c
  let f := setBit (setBit x.flags (if drop then 0 else 1) false) 3 true
  let s := s.setChan c (if drop then { x with flags := f, lostDrop := some s.now } else { x with flags := f, lostMod := some s.now })
  let s := if drop then s else s.send (.laneOff (8 + c / 4) (c % 4))
  (s.inc O.LOCK_LOSSES).raise 0x2F01 { kind := 5, subj := c }

/-- RING_LOCK_LOST (R378): a modulator ring, or a drop filter, loses lock. -/
def execRingLockLost (chan : Fin 64) (drop : Bool) (s : State) : Outcome :=
  let c := chan.val
  if !s.fullConfig then ok s
  else
    let s := s.ringLost c drop
    ok (if drop then s.laneLost (8 + c / 4) (c % 4) else s)

/-- RING_REACQUIRE_TIMEOUT (R378): 10 ms without lock the channel is calibrated at once; its lane is already out. -/
def execRingReacquireTimeout (chan : Fin 64) (drop : Bool) (s : State) : Outcome :=
  let c := chan.val
  let x := s.chan c
  match (if drop then x.lostDrop else x.lostMod) with
  | none => ok s
  | some t =>
    let s := s.upTo (t + 80000000)
    if drop then ok { s.setChan c { x with lostDrop := none } with optics.rxs := s.optics.rxs.set c { t0 := s.now } }
    else
      ok { s.setChan c { x with lostMod := none } with
           optics.wins := s.optics.wins.set c { kind := 3, openedAt := s.now, closeBeat := 0, phase := 1, t0 := s.now, prev := x.modHeater } }

/-- A heater code within 5% of either end of its range (R379). -/
def nearEnd (code : Nat) : Bool := code * 20 ≤ 65535 || (65535 - code) * 20 ≤ 65535

/-- Whether two temperatures differ by at least `d` degrees. -/
def tempOff (a b d : Nat) : Bool := !((f32 a).add (f32 b).neg).1.abs.lt (.fin false d 0)

/-- ENGINE_TEMP_SAMPLE (R377, R379): the four engine temperatures, and the present heater codes of every channel. A channel never
calibrated is judged against its default CAL_TEMP, 0 °C. -/
def execEngineTempSample (at_ : Nat) (temps : List Nat) (heaters : List (Nat × Nat)) (s : State) : Outcome :=
  let s := s.upTo at_
  if !s.fullConfig then ok s
  else
    let s := [0, 1, 2, 3].foldl (fun (s : State) e => s.put (O.ENGINE_TEMP_OE0 + e) (temps.getD e 0)) s
    ok ((List.range 64).foldl (fun (s : State) c =>
      let x := s.chan c
      let h := heaters.getD c (x.modHeater, x.dropHeater)
      let t := temps.getD (c / 16) 0
      let due := nearEnd h.1 || nearEnd h.2 || tempOff t x.calTemp (s.obj O.CAL_TEMP_DELTA_C)
      let force := tempOff t x.calTemp (s.obj O.CAL_TEMP_FORCE_C)
      let f := setBit (setBit x.flags 3 (bit x.flags 3 || due)) 5 (bit x.flags 5 || force)
      let s := s.setChan c { x with modHeater := h.1 % 65536, dropHeater := h.2 % 65536, flags := f }
      if force then (s.askDrop c).forceNow (8 + c / 4) else s) s)

/-- CAL_FORCE_DUE (R379, R381): a ring's age reaches CAL_FORCE_AGE_S; a ring never calibrated has the greatest age. -/
def execCalForceDue (chan : Fin 64) (drop : Bool) (s : State) : Outcome :=
  let c := chan.val
  if !s.fullConfig then ok s
  else
    let x := s.chan c
    let s := match (if drop then x.dropAt else x.modAt) with
      | some t => s.upTo (t + s.obj O.CAL_FORCE_AGE_S * 8 * sec1)
      | none => s
    if drop then ok (s.askDrop c) else ok ((s.chanFlag c 5 true).forceNow (8 + c / 4))

/-- CAL_OVERDUE (R388): a ring of a channel that cannot be calibrated passes 600 s; raised once. A modulator's link is degraded
outbound, a drop filter's inbound; a ring never calibrated has the greatest age. -/
def execCalOverdue (chan : Fin 64) (drop : Bool) (s : State) : Outcome :=
  let c := chan.val
  let n := 8 + c / 4
  let x := s.chan c
  let lanes := if drop then s.obj (O.at O.ACTIVE_LANES n) else (s.link n).outMap
  let stuck := !s.isUp n || (s.link n).express || lanes ≠ 15
  if !s.fullConfig || !stuck || x.overdue then ok s
  else
    let s := match (if drop then x.dropAt else x.modAt) with | some t => s.upTo (t + 4800 * sec1) | none => s
    ok (((s.setChan c { x with overdue := true }).put O.CHANNELS_OVERDUE (s.obj O.CHANNELS_OVERDUE + 1)).raise 0x2F03 { kind := 5, subj := c })

/-- A power sample joins its history (R389). -/
def State.sampled (s : State) (key v : Nat) : State :=
  { s with optics.hist := s.optics.hist.set key ((s.now, v) :: (s.optics.hist.get key []).filter (fun e => s.now < e.1 + 8000000)) }

/-- The 1 ms average of what a history holds: the mean of its readings, each rounding to FP32 (R389, log entry 69). -/
def State.average (s : State) (key : Nat) : Nat :=
  let l := (s.optics.hist.get key []).map (·.2)
  (V.div (l.foldl (fun a v => (V.add a v).1) 0) (Fmt.fp32.enc (.fin false l.length 0)).1).1

/-- One wavelength's feed is judged (R390, R392): its 1 ms average and its newest sample against the reference. -/
def State.judgeFeed (s : State) (k sample : Nat) : State :=
  let l := s.feedLaser k
  let st := s.laser l
  match s.laserRef l with
  | none => s
  | some r =>
    let d := (V.sub (s.obj (O.LASER_POWER_DBM_0 + l)) r).1
    let s := s.put (O.FEED_POWER_DB_L0 + k) d
    if bit s.optics.lost k || (st ≠ 4 && st ≠ 5) then s
    else if !fLt 0xC0C00000 (V.sub sample r).1 then s.feedLost k
    else
      let s :=
        if st = 4 && !fLt 0xBFC00000 d then
          (waveChans k).foldl (fun (s : State) c => s.chanFlag c 3 true) ((s.setLaser l 5).readyMark.raise 0x2F04 { kind := 6, subj := l })
        else if st = 5 && !fLt d 0xBF800000 then (s.setLaser l 4).readyMark
        else s
      if fLt 0xC0400000 d then s
      else if s.spareReady k then
        (if (s.optics.pending.find k).isSome || (s.optics.crossed.find k).isSome then s
         else if s.onBeat then { s with optics.pending := s.optics.pending.set k s.now }
         else s.crossOver k)
      else if (s.optics.crossed.find k).isSome then s
      else s.waveLost k true

/-- One channel is judged (R389): 3.0 dB or more below its reference while its feed is not. -/
def State.judgeChan (s : State) (c : Nat) : State :=
  let x := s.chan c
  let feed := s.obj (O.FEED_POWER_DB_L0 + c % 4)
  let low := s.obj O.REFERENCE_SOURCE = 0 && !fLt 0xC0400000 (V.sub x.txPower x.txRef).1 && fLt 0xC0400000 feed
  if low && !x.low then (s.setChan c { x with low := true }).raise 0x2F0A { kind := 5, subj := c }
  else s.setChan c { x with low := x.low && low }

/-- OPTICAL_POWER_SAMPLE (R389, R393, R398): the 10 µs samples of each wavelength's main feed and calibration path, of each channel's
transmit bus and drop filter, the light that arrives on each class O link and leaves it in a circuit, and what the LSM reports:
its power, then its lasers' hours. The laser that a selector puts on the main feed is measured there, its partner on the
calibration path. -/
def execOpticalPowerSample (at_ : Nat) (feeds paths tx rx : List Nat) (express : List (Nat × Nat)) (lsm : List Nat) (s : State) :
    Outcome :=
  let s := s.upTo at_
  if !s.fullConfig then ok s
  else
    let s := (List.range 8).foldl (fun (s : State) l =>
      let s := s.sampled l ((if s.feedLaser (l / 2) = l then feeds else paths).getD (l / 2) 0)
      (s.put (O.LASER_POWER_DBM_0 + l) (s.average l)).put (O.LASER_HOURS_0 + l) (lsm.getD (l + 1) 0)) s
    let s := s.put O.LSM_POWER_W (lsm.getD 0 0)
    let s := (List.range 64).foldl (fun (s : State) c =>
      let s := s.sampled (8 + c) (tx.getD c 0)
      s.setChan c { s.chan c with txPower := s.average (8 + c), rxPower := rx.getD c 0 }) s
    let s := { s with optics.express := express.mapIdx (fun i (p : Nat × Nat) => (i, p.1 + fld 4 p.2)) }
    let s := [0, 1, 2, 3].foldl (fun (s : State) k => s.judgeFeed k (feeds.getD k 0)) s
    ok ((List.range 64).foldl State.judgeChan s)

/-- Whether the step of a channel's timeline may use the calibration path of its engine (R382): a calibration of a lower link that
reached the step in the same cycle goes first. -/
def State.pathFree (s : State) (c : Nat) : Bool :=
  s.optics.wins.all (fun (e : Nat × CalWin) =>
    e.1 = c || e.1 / 16 ≠ c / 16 || !e.2.sweeping || (e.2.t0 + 4800000 = s.now && c < e.1))

/-- The other calibrations of an engine lose the path (R382). -/
def State.takePath (s : State) (c : Nat) : State :=
  s.optics.wins.foldl (fun (s : State) (e : Nat × CalWin) =>
    if e.1 ≠ c && e.1 / 16 = c / 16 && e.2.sweeping then
      { s.chanFlag e.1 4 false with optics.wins := s.optics.wins.set e.1 { e.2 with sweeping := false } }
    else s) s

/-- CAL_TIMELINE_PHASE (R380, Table 13.5): a side of a channel's calibration reaches the next fixed time. `code` is the heater code
that the sweep ending at that time has set. -/
def execCalTimelinePhase (chan : Fin 64) (transmit : Bool) (code : Nat) (s : State) : Outcome :=
  let c := chan.val
  if transmit then
    match s.optics.wins.find c with
    | none => ok s
    | some w =>
      let set := fun (s : State) (w : CalWin) => { s with optics.wins := s.optics.wins.set c w }
      if w.abandoned then ok s
      else if w.phase = 0 then
        if bit (s.link (8 + c / 4)).outMap (c % 4) then ok s else ok (set s { w with phase := 1 })
      else if w.phase = 1 then ok (set (s.upTo (w.t0 + 2400000)) { w with phase := 2 })
      else if w.phase = 2 then
        let s := s.upTo (w.t0 + 4800000)
        let s := s.setChan c { s.chan c with modHeater := code % 65536 }
        if s.spareReady (c % 4) && s.pathFree c then ok (set (s.takePath c) { w with phase := 3, sweeping := true })
        else ok (set (s.chanFlag c 4 false) { w with phase := 3, sweeping := false })
      else if w.phase = 3 then
        let s := s.upTo (w.t0 + 7200000)
        let s := if w.sweeping then s.setChan c { s.chan c with spareHeater := code % 65536, flags := setBit (s.chan c).flags 4 true } else s
        ok (set s { w with phase := 4, sweeping := false })
      else if w.phase = 4 then ok (set (s.upTo (w.t0 + 9200000)) { w with phase := 5 })
      else ok s
  else
    match s.optics.rxs.find c with
    | none => ok s
    | some r =>
      if r.phase = 1 then
        let s := s.upTo (r.t0 + 2400000)
        ok { s.setChan c { s.chan c with dropHeater := code % 65536 } with optics.rxs := s.optics.rxs.set c { r with phase := 2 } }
      else ok s

/-- A ring was calibrated (R380): CAL_TEMP, age and due marks. -/
def State.calDone (s : State) (c : Nat) (transmit : Bool) : State :=
  let x := s.chan c
  let f := if transmit then setBit (setBit (setBit x.flags 2 false) 3 false) 5 false else x.flags
  let s := if x.overdue then s.put O.CHANNELS_OVERDUE (s.obj O.CHANNELS_OVERDUE - 1) else s
  s.setChan c { x with flags := f, calTemp := s.obj (O.ENGINE_TEMP_OE0 + c / 16), overdue := false,
                       modAt := if transmit then some s.now else x.modAt,
                       dropAt := if transmit then x.dropAt else some s.now,
                       asked := x.asked && transmit, tried := x.tried && !transmit }

/-- A calibration of an outbound channel ends (R387): complete, or abandoned. A lane that is not back stays out as one that has
lost lock. -/
def State.closeWindow (s : State) (c : Nat) (w : CalWin) : State :=
  let n := 8 + c / 4
  let back := bit (s.link n).outMap (c % 4)
  let s := { s with optics.wins := s.optics.wins.del c }
  if back && 4 ≤ w.phase && !w.abandoned then (s.calDone c true).inc O.CAL_COMPLETED
  else
    let x := s.chan c
    let s := s.setChan c { x with modHeater := if w.abandoned then x.modHeater else w.prev, flags := setBit x.flags 3 true }
    let s := s.inc O.CAL_ABANDONED
    if back then (if w.phase = 0 then s.setLink n ((s.link n).planSwitch (setBit · (c % 4) true) false) else s)
    else (s.ringLost c false).raise 0x2F02 { kind := 5, subj := c }

/-- CALIBRATION_COMPLETE (R380, R387): the lane is back; a window without a beat that has lasted 2 ms closes as it stands. -/
def execCalibrationComplete (chan : Fin 64) (transmit : Bool) (s : State) : Outcome :=
  let c := chan.val
  let n := 8 + c / 4
  if transmit then
    match s.optics.wins.find c with
    | none => ok s
    | some w =>
      let back := bit (s.link n).outMap (c % 4) && 1 ≤ w.phase
      if back || (w.kind ≠ 3 && w.openedAt + 16000000 ≤ s.now) then ok (s.closeWindow c w) else ok s
  else
    match s.optics.rxs.find c with
    | none => ok s
    | some r =>
      if bit (s.obj (O.at O.ACTIVE_LANES n)) (c % 4) && 2 ≤ r.phase then
        ok ({ s with optics.rxs := s.optics.rxs.del c }.calDone c false)
      else ok s

/-- Whether SCHEDULE_BEAT advances (R32, R385). -/
def State.scheduling (s : State) : Bool := s.onBeat && s.beat.scheduleOn

/-- The next slot of a link's idle windows (R385): REF_NS 5 s apart at offset (n − 8) × 312.5 ms, at or after the present, and after
the last one that came. -/
def State.idleSlotAt (s : State) (n : Nat) : Nat :=
  let off := (n - 8) * 2500000000
  let at_ := fun (t : Nat) => off + cdiv (t - off) (40 * sec1) * (40 * sec1)
  match s.optics.idleAt.find n with
  | some l => if l < s.now then at_ s.now else at_ (l + 1)
  | none => at_ s.now

/-- IDLE_CAL_WINDOW (R385): the next slot of a link comes, while SCHEDULE_BEAT does not advance; without a beat the window opens at
once. -/
def execIdleCalWindow (link : Fin 24) (s : State) : Outcome :=
  let n := link.val
  if !s.fullConfig || n < 8 || (s.scheduling && !s.inHold) then ok s
  else
    let t := s.idleSlotAt n
    let s := { s.upTo t with optics.idleAt := s.optics.idleAt.set n t }
    if s.onBeat then ok { s with optics.idleDue := n :: s.optics.idleDue.filter (· ≠ n) }
    else ok (s.openWindow n 2 0 false false)

/-- No partition is RUNNING. -/
def State.noneRunning (s : State) : Bool := [0, 1, 2, 3].all (fun p => s.obj (O.at O.IMAGE_STATE p) ≠ 3)

/-- Whether a window length lies within 1.25 to 2.0 ms (R383). -/
def State.planFits (s : State) (beats : Nat) : Bool :=
  let t := beats * s.obj O.BEAT_PERIOD_NS
  1250000 ≤ t && t ≤ 2000000

/-- The objects of the calibration plan (R383): CAL_WINDOW_BEATS, CAL_STRIDE_BEATS, and the offset of each class O link. -/
def planKey (i : Nat) : Nat :=
  if i = 0 then O.CAL_WINDOW_BEATS else if i = 1 then O.CAL_STRIDE_BEATS else O.CAL_OFFSET_TL8 + (i - 2)

/-- A calibration plan object takes a value (R383, Table 13.8). -/
def State.calPlan (s : State) (i v : Nat) : State × Nat :=
  if !s.noneRunning then (s, St.refused)
  else if i = 0 && !s.planFits v then (s, St.refused)
  else if i = 1 && v < 4 * s.obj O.CAL_WINDOW_BEATS then (s, St.refused)
  else if 2 ≤ i && s.obj O.CAL_STRIDE_BEATS ≤ v then (s, St.refused)
  else (s.put (planKey i) v, St.ok)

/-- CAL_PLAN_WRITE (R383). -/
def execCalPlanWrite (who : Who) (which : Fin 18) (v : Nat) (s : State) : Outcome :=
  rowWrite s who (planKey which.val) v (·.calPlan which.val v)

/-- The partner byte of a class O link in an express map (R399). -/
def mapByte (m n : Nat) : Nat := recF m (n - 8) 1

/-- The class O links. -/
def classO : List Nat := (List.range 16).map (· + 8)

/-- The links whose partner differs between two maps (R394). -/
def touched (a b : Nat) : List Nat := classO.filter (fun n => mapByte a n ≠ mapByte b n)

/-- A valid express map: every byte 8 to 23 or 0xFF, no link paired with itself, symmetric (Table 13.7). -/
def mapValid (m : Nat) : Bool :=
  classO.all (fun n =>
    let p := mapByte m n
    p = 0xFF || (8 ≤ p && p ≤ 23 && p ≠ n && mapByte m p = n))

/-- The first failing check of a reshape (Table 13.7). -/
def State.reshapeCheck (s : State) : Nat :=
  let pend := s.obj O.EXPRESS_PENDING
  let ts := touched (s.obj O.EXPRESS_ACTIVE) pend
  if !mapValid pend then 1
  else if s.obj O.RESHAPE_STATE ≠ 0 then 2
  else if [0, 1, 2, 3].any (fun p =>
      match (s.job p).image with
      | some im => (s.imageState p = IS.loaded || s.imageState p = IS.running) && im.colls.any (fun c => ts.any (fun n => bit c.mask n))
      | none => false) then 3
  else if s.net.route.any (fun (e : Nat × Nat) => bit e.2 0 && ts.any (fun n => (Route.cands e.2).contains n)) then 4
  else if ts.any (fun n => s.obj O.UPSTREAM_PRIMARY = n || s.obj O.UPSTREAM_SECONDARY = n || bit (s.obj O.DOWNSTREAM_MASK) n) then 5
  else 0

/-- A reshape is applied (R396): the switch moves. -/
def State.reshapeApply (s : State) : State := { s.put O.RESHAPE_STATE 2 with optics.slipAsk := false }

/-- RESHAPE_ARM takes 1 (R394, R395). -/
def State.reshapeArm (s : State) : State × Nat :=
  let r := s.reshapeCheck
  let s' := s.put O.RESHAPE_RESULT r
  let ts := touched (s.obj O.EXPRESS_ACTIVE) (s.obj O.EXPRESS_PENDING)
  if r ≠ 0 then (s'.raise 0x2F0C { pay := ts.foldl (fun a n => setBit a n true) 0, len := 4 }, St.refused)
  else
    let s' := { s'.put O.RESHAPE_STATE 1 with optics.armed := some (s.obj O.EXPRESS_PENDING), optics.slipAsk := !s.noneRunning,
                                              optics.slipAsked := !s.noneRunning }
    (if s.noneRunning && !s.onBeat then s'.reshapeApply else s', St.ok)

/-- RESHAPE_ARM (R394). -/
def execReshapeArm (who : Who) (v : Nat) (s : State) : Outcome :=
  rowWrite s who O.RESHAPE_ARM v (·.reshapeArm)

/-- RESHAPE_SWITCH_COMPLETE (R396): touched links take their new roles. -/
def execReshapeSwitchComplete (s : State) : Outcome :=
  match s.optics.armed with
  | none => ok s
  | some m =>
    if s.obj O.RESHAPE_STATE ≠ 2 then ok s
    else
      let ts := touched (s.obj O.EXPRESS_ACTIVE) m
      let s := { (s.put O.EXPRESS_ACTIVE m).put O.RESHAPE_STATE 0 with optics.armed := none }
      let s := ts.foldl (fun (s : State) n =>
        if mapByte m n = 0xFF then
          let s := s.setLink n { s.link n with express := false, fails := 0 }
          if s.obj (O.at O.LINK_ENABLE n) = 1 then s.startTraining n else s.judge n
        else (s.setLink n { s.link n with express := true }).setLstate n LS.disabled) s
      ok ((s.inc O.EXPRESS_CHANGES).raise 0x1F0B { pay := ts.foldl (fun a n => setBit a n true) 0, len := 4 })

/-- Step E5 (R391, R395): at most one pending switchover, lowest wavelength first, that became pending at least 1,000 ns before
the edge, and an armed reshape: without a running partition at any edge, otherwise at a slip or hold beat's, for which this module
asks once, at the next edge after it arms or a job starts. The
Boolean tells that a switchover took place. -/
def State.opticsE5 (s : State) (edge : Nat) (slipOrHold : Bool) : State × Bool :=
  let s :=
    if s.obj O.RESHAPE_STATE ≠ 1 then s
    else if s.noneRunning || slipOrHold then s.reshapeApply
    else if s.optics.slipAsked then s
    else { s with optics.slipAsk := true, optics.slipAsked := true }
  match [0, 1, 2, 3].find? (fun k => match s.optics.pending.find k with | some t => t + 8000 ≤ edge | none => false) with
  | some k => (s.crossOver k, true)
  | none => (s, false)

/-- Step E6 (R64, R383 to R387): windows that end close; plan windows of a new schedule beat open, then forced windows, then idle
ones. A slip beat opens none; a hold beat no plan window. -/
def State.opticsE6 (s : State) (period : Nat) (slip hold switched : Bool) : State :=
  if !s.fullConfig then s
  else
    let sb := s.obj O.SCHEDULE_BEAT
    let s := s.optics.wins.foldl (fun (s : State) (e : Nat × CalWin) =>
      let beyond := e.2.kind ≠ 3 && ((e.2.kind = 0 && !slip && !hold && e.2.closeBeat ≤ sb) || e.2.openedAt + 16000000 < s.now + period)
      if beyond then s.closeWindow e.1 e.2 else s) s
    if slip then s
    else
      let plan := !hold && s.beat.scheduleOn && s.planFits (s.obj O.CAL_WINDOW_BEATS)
      classO.foldl (fun (s : State) n =>
        let off := s.obj (O.CAL_OFFSET_TL8 + (n - 8))
        let stride := s.obj O.CAL_STRIDE_BEATS
        let force := [0, 1, 2, 3].any (s.forceDue n)
        if plan && off % stride = sb % stride then s.openWindow n 0 (sb + s.obj O.CAL_WINDOW_BEATS) false switched
        else if force then s.openWindow n (if s.beat.scheduleOn then 1 else 2) 0 true switched
        else if s.optics.idleDue.contains n && (hold || !s.beat.scheduleOn) then s.openWindow n 2 0 false switched
        else s) s

end Sys2Proof.Machine
end

