-- ==== Sys2Proof/Machine/Run.lean ====
section
/-! DEFINITION. Run.lean: the meanings of the operations of an image, of their completion, and of collective starts and
completions (R204, R226, R246, R247 to R267, R355). -/

namespace Sys2Proof.Machine

/-- A release whose operations have all been issued and completed is done with (R226); one with tagged operations is kept
for the vote. -/
def Job.purge (j : Job) : Job :=
  { j with rels := j.rels.filter (fun r =>
      let n := match j.image.bind (fun im => im.lists[r.list]?) with | some l => l.ops.length | none => 0
      r.next < n || r.tagAt.isSome || j.shares.any (fun x => x.rel = r.id)) }

/-- A released entry that is bound to a grain at or beyond its micro-batch's grain count is empty (R226): it posts a null
completion for each of its operations that posts, one from each tile where the operation runs on tiles (Table 8.9), and nothing
of it issues. The re-run after a squash does not post it again (R354). -/
def State.nullEntry (s : State) (p : Nat) (r : Rel) : State :=
  match (s.job p).image.bind (fun im => im.lists[r.list]?) with
  | none => s
  | some l =>
    let s := (l.ops.zipIdx).foldl (fun (s : State) (x : Op × Nat) =>
      let k := (r.list, x.2, r.step, r.mb, r.grain)
      if x.1.post = 0xFFFF || bit x.1.flags 3 || (s.job p).stood.contains k then s
      else
        let s := s.setJob p { s.job p with stood := k :: (s.job p).stood }
        let n := if Chk.isOnce x.1.opcode then 1 else ((((s.job p).image.map (fun im => (im.tiles l.sheaf).length)).getD 1))
        (List.range n).foldl (fun s _ => (s.inc (O.at O.NULL_COMPLETIONS p)).post p x.1.post r.step false) s) s
    let s := s.inc (O.at O.EMPTY_ENTRIES p)
    s.setJob p { s.job p with rels := (s.job p).rels.filter (fun x => x.id ≠ r.id) }

/-- The empty entries among a partition's releases. -/
def State.nullEntries (s : State) (p : Nat) : State :=
  let j := s.job p
  (j.rels.filter (fun r => r.planned && r.next = 0 && r.mb ≠ 0xFFFF && r.grain ≠ 0xFFFF &&
    (match j.mbs.find (mbKey r.step r.mb) with
     | some (g, _) => g ≤ r.grain
     | none => false))).foldl (fun (s : State) r => s.nullEntry p r) s

/-- After work of a partition: empty entries, what its completions release, and the releases that are done with. -/
def State.afterWork (s : State) (p : Nat) : State :=
  let s := (s.nullEntries p).settle p
  s.setJob p (s.job p).purge

/-- An operation command: when the release's next operation is due and of this kind it issues; one whose untagged completion
stands is passed over (R354). -/
def State.runOp (s : State) (p rel opcode : Nat) (issue : State → OpCtx → Rel → State) : State :=
  match s.findOp p rel opcode with
  | none => s
  | some (s, c, r) =>
    (if s.stands c then s.setJob p ((s.job p).advance r.id false) else issue s c r).afterWork p

/-- An operation that runs on tiles (R244). -/
def State.runTiles (s : State) (p rel opcode waited : Nat) : State :=
  s.runOp p rel opcode (fun s c r => s.issueTiles c r waited)

/-- Cycles by which an operation's lane-ops delayed matrix work of its tiles, and its lane-ops in issue slots that the trim
withheld from matrix work (R132, R134). -/
def State.slots (s : State) (p stalled trimmed : Nat) : State :=
  (s.add (O.at O.VECTOR_STALL_CYCLES p) stalled).add (O.at O.TRIM_SLOTS_USED p) trimmed

/-- An operation of the vector engine. -/
def State.runVector (s : State) (p rel opcode waited stalled trimmed : Nat) : State :=
  s.runOp p rel opcode (fun s c r => (s.slots c.p stalled trimmed).issueTiles c r waited)

/-- MATMUL (R249). -/
def execMatmul (part : Fin 4) (rel waited : Nat) (s : State) : Outcome := ok (s.runTiles part.val rel 0x0101 waited)
/-- EMBED_GRAD (R251). -/
def execEmbedGrad (part : Fin 4) (rel waited : Nat) (s : State) : Outcome := ok (s.runTiles part.val rel 0x0102 waited)
/-- EW_CHAIN (R253). -/
def execEwChain (part : Fin 4) (rel waited stalled trimmed : Nat) (s : State) : Outcome :=
  ok (s.runVector part.val rel 0x0201 waited stalled trimmed)
/-- REDUCE_ROW (R258). -/
def execReduceRow (part : Fin 4) (rel waited stalled trimmed : Nat) (s : State) : Outcome :=
  ok (s.runVector part.val rel 0x0301 waited stalled trimmed)
/-- REDUCE_COLS (R258). -/
def execReduceCols (part : Fin 4) (rel waited stalled trimmed : Nat) (s : State) : Outcome :=
  ok (s.runVector part.val rel 0x0302 waited stalled trimmed)
/-- LAYERNORM (R255). -/
def execLayernorm (part : Fin 4) (rel waited stalled trimmed : Nat) (s : State) : Outcome :=
  ok (s.runVector part.val rel 0x0311 waited stalled trimmed)
/-- LAYERNORM_GRAD (R255). -/
def execLayernormGrad (part : Fin 4) (rel waited stalled trimmed : Nat) (s : State) : Outcome :=
  ok (s.runVector part.val rel 0x0312 waited stalled trimmed)
/-- RMSNORM (R255). -/
def execRmsnorm (part : Fin 4) (rel waited stalled trimmed : Nat) (s : State) : Outcome :=
  ok (s.runVector part.val rel 0x0313 waited stalled trimmed)
/-- RMSNORM_GRAD (R255). -/
def execRmsnormGrad (part : Fin 4) (rel waited stalled trimmed : Nat) (s : State) : Outcome :=
  ok (s.runVector part.val rel 0x0314 waited stalled trimmed)
/-- SOFTMAX (R255). -/
def execSoftmax (part : Fin 4) (rel waited stalled trimmed : Nat) (s : State) : Outcome :=
  ok (s.runVector part.val rel 0x0321 waited stalled trimmed)
/-- SOFTMAX_GRAD (R255). -/
def execSoftmaxGrad (part : Fin 4) (rel waited stalled trimmed : Nat) (s : State) : Outcome :=
  ok (s.runVector part.val rel 0x0322 waited stalled trimmed)
/-- XENT (R257). -/
def execXent (part : Fin 4) (rel waited stalled trimmed : Nat) (s : State) : Outcome :=
  ok (s.runVector part.val rel 0x0323 waited stalled trimmed)
/-- GATHER (R259). -/
def execGather (part : Fin 4) (rel waited stalled trimmed : Nat) (s : State) : Outcome :=
  ok (s.runVector part.val rel 0x0401 waited stalled trimmed)
/-- CAST (R260). -/
def execCast (part : Fin 4) (rel waited stalled trimmed : Nat) (s : State) : Outcome :=
  ok (s.runVector part.val rel 0x0501 waited stalled trimmed)
/-- REQUANTIZE (R260). -/
def execRequantize (part : Fin 4) (rel waited stalled trimmed : Nat) (s : State) : Outcome :=
  ok (s.runVector part.val rel 0x0502 waited stalled trimmed)
/-- LOSS_SEED (R96, R261). -/
def execLossSeed (part : Fin 4) (rel waited stalled trimmed : Nat) (s : State) : Outcome :=
  ok (s.runVector part.val rel 0x0503 waited stalled trimmed)
/-- OPT_STEP (R201, R262, R263). -/
def execOptStep (part : Fin 4) (rel waited stalled trimmed : Nat) (s : State) : Outcome :=
  ok (s.runVector part.val rel 0x0601 waited stalled trimmed)
/-- FOLD (R180, R264). -/
def execFold (part : Fin 4) (rel waited stalled trimmed : Nat) (s : State) : Outcome :=
  ok (s.runVector part.val rel 0x0701 waited stalled trimmed)

/-- The slice of a collective entry's tensor that a COLLECTIVE operation's operand bit binds (R245, R265). -/
def OpCtx.collSlice (c : OpCtx) (k t : Nat) : Option Nat := (c.im.operand c.op k t c.mb c.grain 0).pre

/-- COLLECTIVE issues (R265): the entry starts, bound to the release's step, micro-batch and grain, once its previous start
has completed, and the operation posts at once. -/
def State.issueCollective (s : State) (c : OpCtx) (r : Rel) (waited : Nat) : State :=
  let p := c.p
  let e := Chk.at' c.op 8 2
  match (s.job p).coll e with
  | none => s
  | some k =>
    let w : CWait :=
      { entry := e, step := c.step, mb := c.mb, grain := c.grain, tagged := c.tagged, held := false,
        srcPre := c.collSlice 0 k.src, dstPre := c.collSlice 3 k.dst }
    if (s.job p).collBusy e || (s.job p).collWait.any (fun x => x.entry = e) || s.collCkHeld p w then s
    else
      let posts := s.opPosts p c
      let s := (s.noteWaits c waited).add (O.at O.COLLECTIVE_START_WAIT_CYCLES p) waited
      let s := if waited = 0 then s else s.oncePerStep p 0x2B02 c.step 0x2B02 { part := p, kind := 9, subj := e }
      let s := s.inc (O.at O.OPS_ISSUED p)
      let s := s.setJob p (((s.job p).advance r.id c.tagged).noteStood c (s.stepNo p) true)
      let s := s.collStart p w
      if posts then s.post p c.op.post c.step c.tagged else s

/-- COLLECTIVE (R265). -/
def execCollective (part : Fin 4) (rel waited : Nat) (s : State) : Outcome :=
  ok (s.runOp part.val rel 0x0801 (fun s c r => s.issueCollective c r waited))

/-- TRANSFER (R177, R266): `data` is what the offload region holds, for a transfer that reads one. -/
def execTransfer (part : Fin 4) (rel waited : Nat) (data : List Byte) (s : State) : Outcome :=
  ok (s.runOp part.val rel 0x0901 (fun s c r =>
    (s.noteWaits c waited).issueTransfer c r data))

/-- A checkpoint or digest operation issues: `act` is what it does, or none where it moves nothing and posts a null
completion (R423). -/
def State.issueCkpt (s : State) (c : OpCtx) (r : Rel) (act : Option State) : State :=
  let p := c.p
  let posts := s.opPosts p c
  match act with
  | none =>
    let s := s.inc (O.at O.NULL_COMPLETIONS p)
    let s := s.setJob p (((s.job p).ckRelease c.li c.oi).advance r.id false)
    if posts then s.post p c.op.post c.step false else s
  | some s =>
    let j := s.job p
    let x := { c.share r onceTile posts with record := false }
    (s.setJob p ((({ j with shares := j.shares ++ [x] } : Job).advance r.id false).noteStood c (s.stepNo p) posts)).inc (O.at O.OPS_ISSUED p)

/-- CHECKPOINT_COPY (R267, R423). -/
def execCheckpointCopy (part : Fin 4) (rel : Nat) (s : State) : Outcome :=
  ok (s.runOp part.val rel 0x0A01 (fun s c r => s.issueCkpt c r (s.ckCopy c)))

/-- DIGEST (R267, R423, R428). -/
def execDigest (part : Fin 4) (rel : Nat) (s : State) : Outcome :=
  ok (s.runOp part.val rel 0x0A02 (fun s c r => s.issueCkpt c r (s.ckDigest c)))

/-! ### Completion -/

/-- A share's flags, taps and first non-finite record reach the bank of its step (R144, R148, R151). Recompute feeds no
tap and writes no record; its flags are ORed like any others (R178). -/
def State.shareFlags (s : State) (p : Nat) (x : Share) : State :=
  let s := if x.record then s.addTaps p x.step x.tagged x.taps else s
  if x.flags = 0 then s
  else
    let s := if x.tile = onceTile then s.orSheaf p x.step x.sheaf x.flags x.tagged else s.orTile p x.step x.sheaf x.tile x.flags x.tagged
    if !(x.record && Fl.fails x.flags) then s
    else
      let tile := if x.tile = onceTile then (((s.job p).image.map (fun im => (im.tiles x.sheaf).headD 0)).getD 0) else x.tile
      s.firstNf p x.step x.tagged (nfRecord x.step tile x.sheaf (Fl.close x.flags) x.layer x.op x.lane)

/-- VOTE_FAIL of an in-place optimizer operation of a step already committed reaches the next step's bank; event 0x3905 comes once
for the operation, with its first non-finite record (R204). -/
def State.inplaceFault (s : State) (p : Nat) (x : Share) : State :=
  let s := (s.enterStep p (x.step + 1)).orSheaf p (x.step + 1) lowSheaf (x.flags &&& 0x127) false
  let j := s.job p
  let s := s.setJob p { j with ckpt := { j.ckpt with tainted := true } }
  s.oncePerStep p (2 ^ 61 + x.list * 65536 + x.op) x.step 0x3905
    { part := p, kind := 11, subj := x.tile, pay := nfRecord x.step x.tile x.sheaf (Fl.close x.flags) x.layer x.op x.lane, len := 16 }

/-- The sum-length record that a share's operation leaves (R109, R125); a tagged one keeps the value from before the
run-ahead (R126). -/
def Job.shareSum (j : Job) (x : Share) : Job :=
  match x.lens with
  | none => j
  | some (t, b, q, sat) =>
    let old := j.sums.get t {}
    { j with sums := j.sums.set t { blocks := b, pass := q, sat := sat,
                                    saved := if x.tagged then (old.saved <|> some (old.blocks, old.pass, old.sat)) else none } }

/-- A fold pass releases the accumulators of uses 1 on (R172, R180). -/
def State.foldFrees (s : State) (p : Nat) (o : Op) : State :=
  let j := s.job p
  let accs := (((j.image.bind (fun im => im.folds[Chk.at' o 8 2]?)).map (·.2)).getD []).drop 1
  s.setJob p { j with accOpen := j.accOpen.filter (fun a => !accs.contains a), freedAt := accs.foldl (fun t a => t.set a s.now) j.freedAt }

/-- The next operation of a list goes on with an operation's sum: it accumulates into the same output. The rows stay open for it (R125). -/
def Image.goesOn (im : Image) (li oi : Nat) : Bool :=
  match im.lists[li]? with
  | none => false
  | some l =>
    match l.ops[oi]?, l.ops[oi + 1]? with
    | some a, some b => Chk.isMat a && Chk.isMat b && bit b.flags 0 && a.out = b.out
    | _, _ => false

/-- The collector rows of a tile's share that completes have drained and are no longer open, unless the next operation goes on with
their sum (R125). -/
def Job.drained (j : Job) (x : Share) : Job :=
  match j.image with
  | none => j
  | some im =>
    if (((im.lists[x.list]?).bind (fun l => l.ops[x.op]?)).map Chk.isMat) = some true && !im.goesOn x.list x.op then
      { j with rows := j.rows.map (fun e => if e.1 / 512 = x.tile then (e.1, { e.2 with flags := setBit e.2.flags 0 false }) else e) }
    else j

/-- A tile's share of an operation completes (R246): its bytes, flags and taps are in place, and it posts. -/
def State.completeShare (s : State) (p : Nat) (x : Share) : State :=
  let o := (s.job p).image.bind (fun im => (im.lists[x.list]?).bind (fun l => (l.ops[x.op]?).map (fun o => (l.phase, o))))
  let j := s.job p
  let j := { j with shares := j.shares.filter (fun y => !(y.rel = x.rel && y.tile = x.tile)) }
  let j := if x.tagged then { j with bufTags := x.outs ++ j.bufTags } else j
  let j := if x.tile = onceTile then { j with backAt := x.outs.foldl (fun t v => t.set (sliceKey v) s.now) j.backAt } else j
  let s := (s.setJob p ((j.shareSum x).drained x)).applyWrites x.writes
  let s := (s.add (O.at O.NAN_BLOCKS_WRITTEN p) x.nan).add (O.at O.SATURATED_ELEMENTS p) x.sat
  let s := x.poison.foldl State.poisonUnit s
  let s := s.shareFlags p x
  let s := s.offloadDone p
  match o with
  | none => s
  | some (phase, o) =>
    let last := !(s.job p).shares.any (fun y => y.rel = x.rel)
    let s := if o.opcode = 0x0601 && bit o.flags 2 && last then s.ratioCheck p x.step x.layer else s
    let s := if o.opcode = 0x0701 && last then s.foldFrees p o else s
    let s := if phase = 7 && Fl.fails x.flags then s.inplaceFault p x else s
    let s := if 0x0A01 ≤ o.opcode then (s.setJob p ((s.job p).ckRelease x.list x.op)).ckProgress p else s
    if x.posts then s.post p o.post x.step x.tagged else s

/-- Work under way does not go on: after a stop it is abandoned (R452), and a tile's stays where it stopped while a thermal hold
lasts (R467). -/
def State.workStopped (s : State) (tile : Nat) : Bool := s.boot.stopCause.isSome || (s.power.holdOn && tile != onceTile)

/-- OPERATION_COMPLETE (R235, R246): the share of a tile, or of an operation that runs once (tile 384), completes. The last one of a
partition in UNLOADING ends the unload. -/
def execOperationComplete (part : Fin 4) (rel tile : Nat) (s : State) : Outcome :=
  let p := part.val
  if s.workStopped tile then ok s
  else
  match (s.job p).shares.find? (fun x => x.rel = rel && x.tile = tile) with
  | none => ok s
  | some x =>
    let s := s.completeShare p x
    if s.imageState p = IS.unloading then ok (if (s.job p).shares.isEmpty then s.unloadDone p else s) else ok (s.afterWork p)

/-- COLLECTIVE_START (R355): a start of an entry that waited for the previous one begins. -/
def execCollectiveStart (part : Fin 4) (entry waited : Nat) (s : State) : Outcome :=
  ok (if s.boot.stopCause.isSome then s else (s.collNext part.val entry waited).afterWork part.val)

/-- COLLECTIVE_COMPLETE (R175, R355): an entry whose reads, packets and results are all done posts to its POST_PAIR. -/
def execCollectiveComplete (part : Fin 4) (entry : Nat) (s : State) : Outcome :=
  let p := part.val
  let j := s.job p
  if s.boot.stopCause.isSome then ok s
  else
  match j.coll entry, j.colls.find? (fun r => r.entry = entry) with
  | some c, some r =>
    if s.collDone p c r then
      let s := s.setJob p { j with colls := j.colls.erase r, collTagged := if r.tagged && !r.own then r :: j.collTagged else j.collTagged }
      let s :=
        match j.image with
        | some im => if c.kind = 5 && r.dstPre.isSome then s.spillGrain p r.step im c.dst r.grain else s
        | none => s
      ok (((((s.collFreed p entry).inc (O.at O.COLL_ENTRIES_COMPLETED p)).post p c.post r.step r.tagged).normSend p).afterWork p)
    else ok s
  | _, _ => ok s

end Sys2Proof.Machine
end

