-- ==== Sys2Proof/Machine/Program.lean ====
section
/-! DEFINITION. Program.lean: the start of a job, the beginning of each step's program, and the release of its schedule
(R58, R225 to R228, R234). -/

namespace Sys2Proof.Machine

/-- The partitions that begin their job at the edge at which BEAT_COUNT becomes `count` (R234, R235): armed, loaded, without
an unload waiting, and not RESTORING, throughout which IMAGE_STATE reads LOADED (R438). -/
def State.starting (s : State) (count : Nat) : List Nat :=
  [0, 1, 2, 3].filter (fun p =>
    let j := s.job p
    s.imageState p = IS.loaded && j.armed && j.startAt = count && !j.unload && s.obj (O.at O.RESTORE_STATE p) ≠ 1)

/-- A partition enters RUNNING (R234). -/
def State.startJob (s : State) (p : Nat) : State :=
  (((s.setJob p { s.job p with armed := false }).setImageState p IS.running).put (O.at O.VOTE_STATE p) 1).raise 0x1A03 { part := p }

/-- The program of a step begins at a schedule beat, with its pairs' timeouts (R225, R348). -/
def State.beginProg (s : State) (p step beat : Nat) : State :=
  let j := s.job p
  (s.setJob p { j with progs := j.progs ++ [{ step := step, base := beat, ns := s.refNs }] }).syncArm p step beat s.refNs

/-- The programs that begin at a released schedule beat (R225): the first step's at the first such beat of the job; each later
one STEP_STRIDE beats after the one before, or at the first released beat after that, and after a skip not before the first beat
released at or after the skip's edge. A program is forgotten when its beats and its step are over. -/
def State.beginProgs (s : State) (p beat : Nat) : State :=
  let j := s.job p
  match j.image with
  | none => s
  | some im =>
    let n := s.stepNo p
    let s :=
      match j.progs.getLast? with
      | none => s.beginProg p n beat
      | some g => if max (g.base + im.stage.stride) j.progFrom ≤ beat then s.beginProg p (g.step + 1) beat else s
    let j := s.job p
    let last := (j.progs.getLast?.map (·.step)).getD 0
    (s.setJob p { j with progs := j.progs.filter (fun g => n ≤ g.step + 1 || beat < g.base + im.stage.stepBeats || g.step = last) }).showBase p

/-- A partition begins a schedule beat (R226, R228): it releases the entries of its programs for that beat, in schedule order. -/
def State.releaseBeat (s : State) (p beat : Nat) : State :=
  let s := s.beginProgs p beat
  let j := s.job p
  match j.image with
  | none => s
  | some im =>
    let ents := (j.progs.map (fun g => (im.sched.filter (fun e => g.base + e.beat = beat)).map (fun e => (g.step, e)))).flatten
    let s := ents.foldl (fun (s : State) (x : Nat × Sched) =>
      let j := s.job p
      let r : Rel := { id := j.relNext, list := x.2.oplist, step := x.1, mb := x.2.mb, grain := x.2.grain, beat := beat,
                       planned := true, tagged := false, next := 0, tagAt := none }
      let late := x.2.mb ≠ 0xFFFF && (j.mbs.find (mbKey x.1 x.2.mb)).isNone && !j.mbLate.contains x.1
      let s := s.setJob p { j with relNext := j.relNext + 1, rels := j.rels ++ [r], mbLate := if late then x.1 :: j.mbLate else j.mbLate }
      if late then s.raise 0x2A05 { part := p, pay := x.1 + fld 8 x.2.mb, len := 10 } else s) s
    let s := s.setJob p { s.job p with relBeat := beat }
    s.afterWork p

/-- Planned work released for a schedule beat up to the one given is not complete (R58). -/
def State.unfinished (s : State) (p beat : Nat) : Bool := (s.job p).rels.any (fun r => r.planned && r.beat ≤ beat)

/-- A partition that may begin schedule beats: RUNNING with the beat it started under, its vote neither lost nor stopped (R49,
R172, R209, R210). -/
def State.releases (s : State) (p : Nat) : Bool :=
  let vs := s.obj (O.at O.VOTE_STATE p)
  s.imageState p = IS.running && !(s.job p).beatLost && vs ≠ 5 && vs ≠ 6

/-- Begin the schedule beats that a partition has not yet begun, each when the one before it is finished, up to the module's
schedule beat (R58). -/
def State.catchUp : Nat → Nat → State → State
  | 0, _, s => s
  | fuel + 1, p, s =>
    let j := s.job p
    if !s.releases p || s.obj O.SCHEDULE_BEAT ≤ j.relBeat || s.unfinished p j.relBeat then s
    else State.catchUp fuel p (s.releaseBeat p (j.relBeat + 1))

/-- Step E7 of a partition for the present schedule beat: the first released beat of a job is the module's own, later ones follow
one by one. -/
def State.releaseStep (s : State) (p : Nat) (advanced : Bool) : State :=
  if !s.releases p then s
  else
    let j := s.job p
    let sb := s.obj O.SCHEDULE_BEAT
    let s := if j.progs.isEmpty && advanced then s.setJob p { j with relBeat := sb - 1 } else s
    let s := if (s.job p).progs.isEmpty && !advanced then s else State.catchUp 64 p s
    s.setJob p { s.job p with late := (s.job p).relBeat < sb && !(s.job p).progs.isEmpty }

/-- A partition that is behind begins the schedule beats it still owes (R58). -/
def State.resumeLate (s : State) (p : Nat) : State :=
  if (s.job p).late && !s.power.holdOn then
    let s := State.catchUp 64 p s
    s.setJob p { s.job p with late := (s.job p).relBeat < s.obj O.SCHEDULE_BEAT }
  else s

/-- LATE_BEAT_RESUME (R58): a partition that is behind begins the next schedule beat as soon as the late one is finished. -/
def execLateBeatResume (s : State) : Outcome := ok ([0, 1, 2, 3].foldl State.resumeLate s)

end Sys2Proof.Machine
end

