-- ==== Sys2Proof/Machine/Beat.lean ====
section
/-! DEFINITION. Beat.lean: edges, acquisition, slack, slip and hold, and the sequence of steps at an edge (chapter 2). -/

namespace Sys2Proof.Machine

/-- The beat period in units of 0.125 ns (R30). -/
def State.period8 (s : State) : Nat := s.obj O.BEAT_PERIOD_NS * 8

/-- The nanoseconds of a slack of N sixty-fourths (R37). -/
def State.slackNs (s : State) (n : Nat) : Nat := n * s.obj O.BEAT_PERIOD_NS / 64

/-- The nominal time of the next edge (R33). -/
def State.nominal (s : State) : Nat := s.beat.lastEdge + s.period8

/-- The count that the next edge begins. -/
def State.nextCount (s : State) : Nat :=
  if s.beat.firstEdge then s.beat.nextCount else (s.obj O.BEAT_COUNT + 1) % 2 ^ 64

/-- Fields of an EDGE payload (Table 2.3). -/
abbrev Edge.low (w : Nat) : Nat := bits w 63 48
/-- SLACK_N. -/
abbrev Edge.slack (w : Nat) : Nat := bits w 47 43
/-- SLIP. -/
abbrev Edge.slip (w : Nat) : Bool := bit w 42
/-- HOLD. -/
abbrev Edge.hold (w : Nat) : Bool := bit w 41
/-- REMAIN. -/
abbrev Edge.remain (w : Nat) : Nat := bits w 15 0

/-- An EDGE payload (Table 2.3). -/
def edgeWord (low slack : Nat) (slip hold : Bool) (remain : Nat) : Nat :=
  low % 65536 * 2 ^ 48 + slack * 2 ^ 43 + b2n slip * 2 ^ 42 + b2n hold * 2 ^ 41 + remain

/-- The links that edges go down on (R38, R45). -/
def State.downLinks (s : State) : List Nat := (setBits (s.obj O.DOWNSTREAM_MASK) 24).filter s.usable

/-- A BEATNUM goes before an EDGE on a link when it is owed there, or when BEAT_LOW16 is 0, once (R47). -/
def State.beatnum (s : State) (n count : Nat) : State :=
  if bit s.beat.beatnumDue n || (count % 65536 = 0 && s.beat.numSent ≠ some count) then
    { s with beat.beatnumDue := setBit s.beat.beatnumDue n false }.send (.block n 1 4 count 0)
  else s

/-- An EDGE goes down (R36, R38, R39, R47): `remain` gives REMAIN on a link; a copy that would be below 0 is not sent. -/
def State.sendEdge (s : State) (word count : Nat) (remain : Nat → Int) : State :=
  let s := s.downLinks.foldl (fun (s : State) n =>
    let r := remain n
    if r < 0 then s
    else
      let w := word - word % 65536 + r.toNat % 65536
      let s := (s.beatnum n count).send (.block n 1 1 w 0)
      if r < 512 then s
      else { s with beat.second := s.beat.second ++ [{ link := n, word := w - 512, due := s.now + 512 }] }) s
  { s with beat.numSent := some count }

/-- EDGE_SECOND_COPY (R39): 64 ns after the first copy, on the next lane (R308). -/
def execEdgeSecondCopy (s : State) : Outcome :=
  match s.beat.second with
  | [] => ok s
  | c :: cs =>
    let s := s.upTo c.due
    let out := (c :: cs).filter (fun (x : SecondCopy) => x.due ≤ c.due)
    ok ({ s with beat.second := (c :: cs).filter (fun (x : SecondCopy) => c.due < x.due) }.sendAll
      ((out.filter (fun (x : SecondCopy) => s.usable x.link)).map (fun (x : SecondCopy) => Out.block x.link 1 1 x.word 1)))

/-- What waited for an edge that will not come (R235, R391, R452, R462, R467): it is done at once. -/
def State.offBeat (s : State) : State :=
  let s := [0, 1, 2, 3].foldl (fun (s : State) p => if (s.job p).unload then s.unloadNow p else s) s
  let s := [0, 1, 2, 3].foldl (fun (s : State) k => if (s.optics.pending.find k).isSome then s.crossOver k else s) s
  let s := if s.obj O.RESHAPE_STATE = 1 && s.noneRunning then s.reshapeApply else s
  let s := if s.power.pendingMode then s.beginMove else s
  let s := if s.power.holdPending then s.applyHold else s
  if s.power.stopPending then (s.stopModule 1 s.lowVin 0xFF 0xFF).supplyState else s

/-- An upstream link or the mask takes its written value (R47, R48, R50). -/
def State.applyLink (s : State) (which v : Nat) : State :=
  if which = 0 then
    let s := s.put O.UPSTREAM_PRIMARY v
    let s := if s.obj O.BEAT_STATE = BeatState.acquiring then { s with beat.acqCount := none, beat.acqRun := 0 } else s
    if v < 24 then s.checkAcquire v else s
  else if which = 1 then s.put O.UPSTREAM_SECONDARY v
  else
    let added := (setBits v 24).filter (fun n => !bit (s.obj O.DOWNSTREAM_MASK) n)
    { s.put O.DOWNSTREAM_MASK v with beat.beatnumDue := added.foldl (fun a n => setBit a n true) s.beat.beatnumDue }

/-- The writes that waited for the edge take effect (R50). -/
def State.applyStaged (s : State) : State :=
  let f := fun (s : State) (w : Nat) (o : Option Nat) => match o with | some v => s.applyLink w v | none => s
  let b := s.beat
  f (f (f { s with beat.stagedP := none, beat.stagedS := none, beat.stagedMask := none } 0 b.stagedP) 1 b.stagedS) 2 b.stagedMask

/-- The module enters LOST (R49): every running job stops and does not resume. A release that waited for the edge goes on waiting
for one (log entry 115), and MACHINE_HOLD keeps its value (log entry 116). -/
def State.enterLost (s : State) : State :=
  let s := { s.put O.BEAT_STATE BeatState.lost with beat.placed := none, beat.early := none, beat.firstEdge := false, beat.second := [] }
  let s := [0, 1, 2, 3].foldl (fun (s : State) p =>
    if s.imageState p = IS.running then s.setJob p { s.job p with beatLost := true } else s) s
  (s.raise 0x3401).endLoads.offBeat.applyStaged

/-- The release acts (R51). MACHINE_HOLD then reads 0 (log entry 116). -/
def State.doRelease (s : State) : State :=
  let s := ((s.put O.UPSTREAM_PRIMARY 0xFF).put O.UPSTREAM_SECONDARY 0xFF).put O.DOWNSTREAM_MASK 0
  let s := (s.put O.SCHEDULE_BEAT 0).put O.BEAT_STATE BeatState.unlocked
  let s := (s.put O.MACHINE_HOLD 0)
  let s := { s with beat := { lastEdge := s.beat.lastEdge, ring := s.beat.ring, periodRec := s.beat.periodRec,
                              slackWin := s.beat.slackWin, slackLatched := s.beat.slackLatched, slackSince := s.beat.slackSince } }
  (s.raise 0x1409).endLoads.offBeat

/-- BEAT_RELEASE (R51). -/
def State.beatRelease (s : State) : State × Nat :=
  if !(s.allEmpty && s.noRestore) then (s, St.refused)
  else if s.obj O.BEAT_STATE = BeatState.unlocked then (s, St.ok)
  else if s.onBeat then ({ s with beat.releasePending := true }, St.ok)
  else (s.doRelease, St.ok)

/-- BEAT_RELEASE (R51). -/
def execBeatRelease (who : Who) (v : Nat) (s : State) : Outcome :=
  rowWrite s who O.BEAT_RELEASE v (·.beatRelease)

/-- BEAT_PERIOD_NS_WRITE (R30). -/
def execBeatPeriodNsWrite (who : Who) (v : Nat) (s : State) : Outcome :=
  rowWrite s who O.BEAT_PERIOD_NS v fun s =>
    if s.obj O.BEAT_STATE = BeatState.unlocked then (s.store O.BEAT_PERIOD_NS v, St.ok) else (s, St.refused)

/-- BEAT_ROLE_WRITE (R51). -/
def execBeatRoleWrite (who : Who) (v : Nat) (s : State) : Outcome :=
  rowWrite s who O.BEAT_ROLE v fun s =>
    if s.obj O.BEAT_STATE = BeatState.unlocked then
      let s := s.store O.BEAT_ROLE v
      (if s.obj O.UPSTREAM_PRIMARY < 24 then s.checkAcquire (s.obj O.UPSTREAM_PRIMARY) else s, St.ok)
    else (s, St.refused)

/-- BEAT_START_COUNT (R48): a root in UNLOCKED enters ROOT and emits its first BEATNUM and EDGE. -/
def State.startCount (s : State) (v : Nat) : State × Nat :=
  if s.obj O.BEAT_ROLE = 0 then (s.put O.BEAT_START_COUNT v, St.ok)
  else if s.obj O.BEAT_STATE ≠ BeatState.unlocked then (s, St.refused)
  else
    let w := edgeWord v 0 false false 12000
    let s := (s.put O.BEAT_START_COUNT v).put O.BEAT_STATE BeatState.root
    let s := { s with beat.firstEdge := true, beat.nextCount := v, beat.decided := true, beat.reqMax := 0, beat.consec := 0,
                      beat.slipPending := false, beat.holdReleased := false, beat.rootHold := false, beat.beatnumDue := 2 ^ 24 - 1, beat.slipTotal := 0,
                      beat.placed := some { time := s.now + 12000, word := w, fromSecondary := false } }
    (s.sendEdge w v (fun _ => 12000), St.ok)

/-- BEAT_START_COUNT_WRITE (R48). -/
def execBeatStartCountWrite (who : Who) (v : Nat) (s : State) : Outcome :=
  rowWrite s who O.BEAT_START_COUNT v (·.startCount v)

/-- The three objects of the edge tree (R50). -/
def treeKey (which : Nat) : Nat :=
  if which = 0 then O.UPSTREAM_PRIMARY else if which = 1 then O.UPSTREAM_SECONDARY else O.DOWNSTREAM_MASK

/-- An upstream link or the mask is written (R50, R73): in LOCKED and ROOT it waits for the next edge. -/
def State.upstreamLink (s : State) (which v : Nat) : State × Nat :=
  let lim := if s.fullConfig then 24 else 8
  if (which < 2 && lim ≤ v && v ≠ 0xFF) || (which = 2 && 2 ^ lim ≤ v) then (s, St.refused)
  else if s.onBeat then
    (if which = 0 then { s with beat.stagedP := some v } else if which = 1 then { s with beat.stagedS := some v }
      else { s with beat.stagedMask := some v }, St.ok)
  else (s.applyLink which v, St.ok)

/-- UPSTREAM_LINK_WRITE (R50): 0 UPSTREAM_PRIMARY, 1 UPSTREAM_SECONDARY, 2 DOWNSTREAM_MASK. -/
def execUpstreamLinkWrite (who : Who) (which : Fin 3) (v : Nat) (s : State) : Outcome :=
  rowWrite s who (treeKey which.val) v (·.upstreamLink which.val v)

/-- HOLD_RELEASE (R61): it acts on a root only. -/
def execHoldRelease (who : Who) (v : Nat) (s : State) : Outcome :=
  rowWrite s who O.HOLD_RELEASE v fun s =>
    if s.obj O.BEAT_ROLE = 1 then ({ s with beat.consec := 0, beat.holdReleased := true, beat.slipPending := false }, St.ok)
    else (s, St.ok)

/-- Slack has placed the next edge past the 2 ms of a calibration window, so that the last edge before has gone by: the window ends
now (R64, log entry 119). -/
def State.closeLate (s : State) : State :=
  match s.beat.placed with
  | none => s
  | some pl =>
    s.optics.wins.foldl (fun (s : State) (e : Nat × CalWin) =>
      if e.2.kind ≠ 3 && e.2.openedAt + 16000000 < pl.time then s.closeWindow e.1 e.2 else s) s

/-- ROOT_EDGE_EMIT (R36, R56, R60, R61): at the decision point the root emits the next EDGE and places its own. -/
def execRootEdgeEmit (s : State) : Outcome :=
  if s.obj O.BEAT_STATE ≠ BeatState.root || s.beat.decided || s.boot.stopCause.isSome then ok s
  else
    let b := s.beat
    let n := min b.reqMax (s.obj O.SLACK_MAX_N)
    let beyond := s.obj O.CONSEC_SLIP_LIMIT < b.consec + 1
    let hold : Bool := !b.holdReleased && (b.rootHold || (b.slipPending && beyond))
    let slip : Bool := !b.holdReleased && !hold && b.slipPending
    let nom := s.nominal
    let s := s.upTo (nom - 12000)
    let w := edgeWord s.nextCount n slip hold 12000
    let s := { s with beat.decided := true, beat.rootHold := hold, beat.holdReleased := false,
                      beat.slipPending := b.holdReleased && b.slipPending,
                      beat.consec := if slip then b.consec + 1 else if hold then b.consec else 0,
                      beat.placed := some { time := nom + s.slackNs n * 8, word := w, fromSecondary := false } }.closeLate
    ok (s.sendEdge w s.nextCount (fun _ => 12000))

/-- A beat symbol that breaks R45 is dropped and counted as malformed. -/
def State.badSymbol (s : State) (n : Nat) : State := s.inc (O.at O.MALFORMED_CTRL n)

/-- The two copies of an EDGE are compared, once for each beat (R50). -/
def State.compareEdge (s : State) (a : Placed) (word time : Nat) (secondary : Bool) : State :=
  if a.fromSecondary = secondary || s.beat.compared = some (Edge.low a.word) then s
  else
    let s := { s with beat.compared := some (Edge.low a.word) }
    if a.word / 65536 ≠ word / 65536 || 64 < (max a.time time) - (min a.time time) then
      (s.inc O.EDGE_PATH_MISMATCH).raise 0x2402
    else s

/-- An EDGE in ACQUIRING (R48): counted toward three consistent ones; the third enters LOCKED and is the first that is placed
and passed on. -/
def State.acquireEdge (s : State) (word time : Nat) (remain : Nat → Int) : State :=
  let low := Edge.low word
  match s.beat.acqCount with
  | none => s
  | some c =>
    if low = c % 65536 then
      let want := s.period8 + s.slackNs (Edge.slack word) * 8
      let fits := 0 < s.beat.acqRun && (time : Int) - s.beat.acqEdge - want ≤ 64 && -64 ≤ (time : Int) - s.beat.acqEdge - want
      let run := if fits then s.beat.acqRun + 1 else 1
      let s := { s with beat.acqCount := some ((c + 1) % 2 ^ 64), beat.acqRun := run, beat.acqEdge := time }
      if run < 3 then s
      else
        let s := { s.put O.BEAT_STATE BeatState.locked with
                   beat.firstEdge := true, beat.nextCount := c, beat.beatnumDue := 2 ^ 24 - 1, beat.slipTotal := 0,
                   beat.acqCount := none, beat.acqRun := 0, beat.prev := none, beat.compared := none,
                   beat.placed := some { time := time, word := word, fromSecondary := false } }
        s.sendEdge word c remain
    else if low = (c + 65535) % 65536 && 0 < s.beat.acqRun then s
    else { s with beat.acqCount := none, beat.acqRun := 0 }

/-- An edge computed at `time` from an EDGE that arrived at `arrive` breaks R49: it lies before the arrival, or its interval from
the edge at `last` is not the period plus the granted slack within 8 ns. -/
def State.edgeBad (s : State) (last word time arrive : Nat) : Bool :=
  let want := last + s.period8 + s.slackNs (Edge.slack word) * 8
  time < arrive || want + 64 < time || time + 64 < want

/-- The primary's copy of an edge placed from the secondary's is here before that edge: it places the edge, when R49 lets it (R50). -/
def State.replaceEdge (s : State) (pl : Placed) (word time arrive : Nat) : State :=
  if s.edgeBad s.beat.lastEdge word time arrive then s.enterLost
  else { s with beat.placed := some { pl with time := time, word := word, fromSecondary := false } }.closeLate

/-- An EDGE in LOCKED (R37, R38, R49, R50). A copy of the last edge is only compared. The EDGE after the placed one follows on, and
waits until that edge has come; any other ends the lock, and counts as a mismatch when it stands for the other link's copy of
the placed edge. -/
def State.lockedEdge (s : State) (word time : Nat) (arrive : Nat) (secondary : Bool) (remain : Nat → Int) : State :=
  let low := Edge.low word
  let mine : Placed := { time := time, word := word, fromSecondary := secondary }
  let stray := fun (s : State) =>
    match s.beat.prev with
    | some pv => if low = Edge.low pv.word then s.compareEdge pv word time secondary else s.enterLost
    | none => s.enterLost
  match s.beat.placed with
  | some pl =>
    if low = Edge.low pl.word then
      let s := s.compareEdge pl word time secondary
      if pl.fromSecondary && !secondary && arrive < pl.time then s.replaceEdge pl word time arrive else s
    else if low = (Edge.low pl.word + 1) % 65536 then
      if s.edgeBad pl.time word time arrive then (s.compareEdge pl word time secondary).enterLost
      else if s.beat.early.isSome then s
      else ({ s with beat.early := some mine }).sendEdge word ((s.nextCount + 1) % 2 ^ 64) remain
    else if s.beat.prev.any (fun pv => low = Edge.low pv.word) then stray s
    else (s.compareEdge pl word time secondary).enterLost
  | none =>
    if low = s.nextCount % 65536 then
      if s.edgeBad s.beat.lastEdge word time arrive then s.enterLost
      else ({ s with beat.placed := some mine }.closeLate).sendEdge word s.nextCount remain
    else stray s

/-- EDGE_RX (R37 to R39, R43, R45, R48 to R50): `at_` is the arrival, `residences` the units until the symbol leaves again on each
link, and `err` the placement error, six units off zero. -/
def execEdgeRx (link : Fin 24) (blk at_ : Nat) (residences : List Nat) (err : Fin 13) (s : State) : Outcome :=
  let n := link.val
  if !s.hears n || s.boot.stopCause.isSome then ok s
  else
    match (s.upTo at_).ctlRx n blk 1 1 (2 ^ 41 - 2 ^ 16) with
    | (none, s) => ok s
    | (some w, s) =>
      let prim : Bool := s.obj O.UPSTREAM_PRIMARY = n
      if !s.usable n || !(prim || s.obj O.UPSTREAM_SECONDARY = n) || 16 < Edge.slack w || (Edge.slip w && Edge.hold w) then
        ok (s.badSymbol n)
      else
        let delay := s.obj (O.EDGE_DELAY_TL0 + n)
        let t := ((at_ + Edge.remain w + s.slackNs (Edge.slack w) * 8 + err.val : Nat) : Int) - delay - 6
        let fwd := fun (d : Nat) => (Edge.remain w : Int) - delay - residences.getD d 0
        let st := s.obj O.BEAT_STATE
        if st = BeatState.lost && prim then
          ok { s.put O.BEAT_STATE BeatState.acquiring with beat.acqCount := none, beat.acqRun := 0 }
        else if st = BeatState.acquiring && prim then ok (s.acquireEdge w t.toNat fwd)
        else if st = BeatState.locked then
          (if t < at_ && s.beat.placed.isNone && Edge.low w = s.nextCount % 65536 then ok s.enterLost
           else ok (s.lockedEdge w t.toNat at_ (!prim) fwd))
        else ok s

/-- BEATNUM_RX (R38, R45, R47 to R49): in LOCKED it is passed on once; in ACQUIRING it starts the count again unless it names the
count expected. -/
def execBeatnumRx (link : Fin 24) (blk at_ : Nat) (s : State) : Outcome :=
  let n := link.val
  if !s.hears n || s.boot.stopCause.isSome then ok s
  else
    match (s.upTo at_).ctlRx n blk 1 4 0 with
    | (none, s) => ok s
    | (some c, s) =>
      let prim : Bool := s.obj O.UPSTREAM_PRIMARY = n
      if !s.usable n || !(prim || s.obj O.UPSTREAM_SECONDARY = n) then ok (s.badSymbol n)
      else
        let st := s.obj O.BEAT_STATE
        if st = BeatState.lost && prim then
          ok { s.put O.BEAT_STATE BeatState.acquiring with beat.acqCount := some c, beat.acqRun := 0 }
        else if st = BeatState.acquiring && prim then
          ok (if s.beat.acqCount = some c then s else { s with beat.acqCount := some c, beat.acqRun := 0 })
        else if st = BeatState.locked && s.beat.numSent ≠ some c then
          ok { s.sendAll (s.downLinks.map (fun d => Out.block d 1 4 c 0)) with
               beat.numSent := some c, beat.beatnumDue := s.downLinks.foldl (fun a d => setBit a d false) s.beat.beatnumDue }
        else ok s

/-- BEAT_LOST_TIMEOUT (R49): no good EDGE by the nominal edge plus sixteen sixty-fourths of the period. -/
def execBeatLostTimeout (s : State) : Outcome :=
  if s.obj O.BEAT_STATE = BeatState.locked && s.beat.placed.isNone && s.boot.stopCause.isNone then
    ok ((s.upTo (s.nominal + s.slackNs 16 * 8)).enterLost)
  else ok s

/-- A request payload (Table 2.4). -/
def reqWord (low n cause chip epoch : Nat) : Nat :=
  low % 65536 * 2 ^ 48 + n * 2 ^ 43 + cause * 2 ^ 40 + chip * 2 ^ 24 + epoch * 2 ^ 8

/-- The link that requests go up on: the primary, or the secondary when the primary is down (R54). -/
def State.upLink (s : State) : Option Nat :=
  let p := s.obj O.UPSTREAM_PRIMARY
  let q := s.obj O.UPSTREAM_SECONDARY
  if p < 24 && s.usable p then some p else if q < 24 && s.usable q then some q else none

/-- A SLACK_REQ for the next edge is accepted here: by the root before its decision point, or to go upstream when it asks for
more than what went before (R55, R56). -/
def State.slackTaken (s : State) (word : Nat) : Bool :=
  if s.obj O.BEAT_STATE = BeatState.root then !s.beat.decided
  else s.upLink.isSome && !(s.beat.sentLow = some (bits word 63 48) && bits word 47 43 ≤ s.beat.sentN)

/-- A SLACK_REQ for the next edge reaches the root, or goes upstream (R55, R56); a FENCED module sends none (R417). -/
def State.slackReq (s : State) (word : Nat) : State :=
  if s.obj O.CHIP_STATE = 2 && s.obj O.BEAT_STATE ≠ BeatState.root then s
  else if s.obj O.BEAT_STATE = BeatState.root then
    (if s.slackTaken word then { s with beat.reqMax := max s.beat.reqMax (bits word 47 43) } else s.inc O.LATE_REQ_DROPPED)
  else
    match s.upLink with
    | some n =>
      if s.slackTaken word then
        { s with beat.sentLow := some (bits word 63 48), beat.sentN := bits word 47 43 }.send (.block n 1 2 word 0)
      else s
    | none => s

/-- The full count of the beat that 16 low bits name: the one nearest to BEAT_COUNT. -/
def State.beatOf (s : State) (low : Nat) : Nat :=
  let b := s.obj O.BEAT_COUNT + 65536
  let d := (low + 65536 - b % 65536) % 65536
  if d < 32768 then b + d else b + d - 65536

/-- A SLIP_REQ is accepted here: by the root, or to go upstream as the first for its beat (R60). -/
def State.slipTaken (s : State) (word : Nat) : Bool :=
  s.obj O.BEAT_STATE = BeatState.root || (s.upLink.isSome && !s.beat.slipPassed.contains (s.beatOf (bits word 63 48)))

/-- A SLIP_REQ reaches the root, which drops it during a hold that is not released, or goes upstream when it is the first for its
beat (R60, R61); a FENCED module sends none (R417). -/
def State.slipReq (s : State) (word : Nat) : State :=
  if s.obj O.CHIP_STATE = 2 && s.obj O.BEAT_STATE ≠ BeatState.root then s
  else if s.obj O.BEAT_STATE = BeatState.root then
    (if s.beat.rootHold && !s.beat.holdReleased then s else { s with beat.slipPending := true })
  else
    match s.upLink with
    | some n =>
      if s.slipTaken word then
        { s with beat.slipPassed := s.beatOf (bits word 63 48) ::
            s.beat.slipPassed.filter (fun b => s.obj O.BEAT_COUNT < b + 65536) }.send (.block n 1 3 word 0)
      else s
    | none => s

/-- The checks of R45 and R46 on a request: its link, its fields, and its epoch. The state with a word that passed them. A CHIP
above 16,382 counts as malformed (log entry 117). -/
def State.reqRx (s : State) (n blk kind resv causes : Nat) : Option Nat × State :=
  if !s.hears n then (none, s)
  else
    match s.ctlRx n blk 1 kind resv with
    | (none, s) => (none, s)
    | (some w, s) =>
      let cause := bits w 42 40
      if !s.usable n || !bit (s.obj O.DOWNSTREAM_MASK) n || cause = 0 || causes < cause || 16382 < bits w 37 24 then (none, s.badSymbol n)
      else if !s.onBeat || s.boot.stopCause.isSome then (none, s)
      else if bits w 23 8 < s.epochOf (bits w 37 24) then
        (none, (s.inc O.STALE_REQ_DROPPED).raise 0x2408 { kind := 2, subj := bits w 37 24 })
      else (some w, s)

/-- SLACK_REQ_RX (R45, R46, R55, R56). A SLACK_N outside 1 to 16 counts as malformed, after the epoch's test (log entry 117). -/
def execSlackReqRx (link : Fin 24) (blk : Nat) (s : State) : Outcome :=
  match s.reqRx link.val blk 2 (3 * 2 ^ 38 + 255) 5 with
  | (none, s) => ok s
  | (some w, s) =>
    let n := bits w 47 43
    if n = 0 || 16 < n then ok (s.badSymbol link.val)
    else if bits w 63 48 ≠ s.nextCount % 65536 then ok (s.inc O.LATE_REQ_DROPPED)
    else ok (s.slackReq w)

/-- SLIP_REQ_RX (R45, R46, R60, R61). -/
def execSlipReqRx (link : Fin 24) (blk : Nat) (s : State) : Outcome :=
  match s.reqRx link.val blk 3 (31 * 2 ^ 43 + 3 * 2 ^ 38 + 255) 2 with
  | (none, s) => ok s
  | (some w, s) => ok (s.slipReq w)

/-- Whether a cause of Table 2.5 stands at this moment: ballast, issue trim, a thermal cap, a power alert; a degraded link, a retry
burst or a forced calibration window. -/
def State.causeNow (s : State) (cause : Nat) : Bool :=
  if cause = 1 then s.power.ballast.any (fun (e : Nat × Ballast) => 0 < e.2.level)
  else if cause = 2 then [0, 1, 2, 3].any (fun d => s.trimOf d < 64)
  else if cause = 3 then [0, 1, 2, 3].any (fun d => s.obj (O.at O.TRIM_THERMAL_CAP d) < 64)
  else if cause = 4 then s.power.alert
  else if cause = 5 then
    s.linkList.any (fun n => (s.link n).degradedAt.isSome || s.inBurst n) ||
      s.optics.wins.any (fun (e : Nat × CalWin) => e.2.kind = 1)
  else false

/-- The conditions of Table 2.5 that stand at this moment or were present in this beat (R58); a thermal hold, and the catch-up after
it, count as the thermal cause (R467). -/
def State.condNow (s : State) : Bool := s.beat.cond || s.power.holdOn || s.power.catchUp || [1, 2, 3, 4, 5].any s.causeNow

/-- The cause that a SLACK_REQ for withheld slots names (R460): of those enabled, the one that withholds the most in this beat, over
all dies (log entry 148); 0 when none withholds any. -/
def State.heldCause (s : State) : Nat :=
  let n := fun (c : Nat) => if bit (s.obj O.SLACK_CAUSE_ENABLE) (c - 1) then s.power.slots.get c 0 else 0
  let c := [2, 3, 4].foldl (fun b c => if n b < n c then c else b) 1
  if n c = 0 then 0 else c

/-- The cause of a SLACK_REQ (R54, R460): the module's own choice for withheld slots, a degraded link or a forced window otherwise. -/
def State.slackCause (s : State) (cause : Nat) : Nat :=
  if cause = 5 then (if s.causeNow 5 && bit (s.obj O.SLACK_CAUSE_ENABLE) 4 then 5 else 0) else s.heldCause

/-- SLACK_REQ_SEND (R53, R54, R61, R460, R467): the forecast passes the nominal edge by `excessNs`, the guard not counted, because of
a link (`cause` 5) or of withheld slots (any other), and a cause is active. A request that no upstream link took was not sent. -/
def execSlackReqSend (cause : Nat) (excessNs : Int) (s : State) : Outcome :=
  let s := s.accountPower
  let cause := s.slackCause cause
  let x := excessNs + s.obj O.SLACK_GUARD_NS
  let n := min 16 (cdiv (64 * x.toNat) (s.obj O.BEAT_PERIOD_NS))
  if !s.onBeat || s.beat.firstEdge || cause = 0 || x ≤ 0 || s.boot.stopCause.isSome || s.nominal < s.now + 24000 || s.beat.holdOn || s.power.holdOn ||
      s.obj O.CHIP_STATE ≠ 1 || n ≤ s.beat.ownN then ok s
  else
    let w := reqWord s.nextCount n cause (s.obj O.CHIP_NUMBER) (s.obj O.CHIP_EPOCH)
    let s := if s.slackTaken w then { s.inc O.SLACK_REQ_SENT with beat.ownN := n } else s
    ok (s.slackReq w)

/-- The module overruns at this edge (R58, in VOTE_LOST too by R59): planned work of a schedule beat up to the closing one is not complete. -/
def State.overruns (s : State) : Bool :=
  [0, 1, 2, 3].any (fun p =>
    s.imageState p = IS.running && !(s.job p).beatLost && s.obj (O.at O.VOTE_STATE p) ≠ 6 && !(s.job p).unload && !(s.job p).progs.isEmpty &&
    (s.unfinished p (s.obj O.SCHEDULE_BEAT) || (s.job p).relBeat < s.obj O.SCHEDULE_BEAT))

/-- Step E1 (R58, R59, R209, R395, R467): the overrun and its counting, a hold, and the one SLIP_REQ of this module. Only an edge
that advances the schedule closes a schedule beat (Table 2.8). A module without a chip number names 0x3FFF (log entry 118). -/
def State.edgeE1 (s : State) (advances : Bool) : State :=
  let beyond := advances && s.overruns
  let s := if beyond && !s.condNow then (s.inc O.UNPLANNED_OVERRUN).raise 0x2404 else s
  let s := if advances && !beyond then { s with power.catchUp := false } else s
  let (s, held) := s.holdAtEdge
  let lost := [0, 1, 2, 3].any (fun p => s.imageState p = IS.running && s.obj (O.at O.VOTE_STATE p) = 5)
  let cause := if held || lost || s.optics.slipAsk then 2 else if beyond then 1 else 0
  if cause = 0 || s.obj O.CHIP_STATE = 2 then s
  else
    let w := reqWord s.nextCount 0 cause (s.obj O.CHIP_NUMBER) (s.obj O.CHIP_EPOCH)
    let s := if s.slipTaken w then s.inc O.SLIP_REQ_SENT else s
    { s with optics.slipAsk := false }.slipReq w

/-- Step E2 (R207, R421): the votes accepted in the closing beat apply. -/
def State.edgeE2 (s : State) : State :=
  [0, 1, 2, 3].foldl (fun (s : State) p =>
    if (s.job p).final.isSome && s.imageState p = IS.running then ((s.applyVote p).boundary p).afterWork p else s) s

/-- The length of a core cycle in units of 0.125 ns, rounded up. -/
def State.cycle8 (s : State) : Nat := cdiv 8000 (max 1 (s.obj O.CLOCK_MHZ))

/-- Timeouts that an arrival in the edge cycle has cancelled (R66, R67). -/
def State.nearMissEdge (s : State) (edge beat : Nat) : State :=
  s.net.sync.foldl (fun (s : State) (e : Nat × SyncObj) =>
    let x := s.syncObj e.1
    if x.state = Sy.complete && x.deadlineSet && x.timeoutKind = 1 && x.deadline ≤ beat then
      let s := s.setSync e.1 { x with deadlineSet := false }
      match x.lastArrival with
      | some t => if edge < t + s.cycle8 && t ≤ edge then s.inc O.NEAR_MISS_EDGE else s
      | none => s
    else s) s

/-- Step E3 (R65): beat deadlines of the schedule beat that begins; none at a slip or hold beat. -/
def State.edgeE3 (s : State) (edge beat : Nat) : State :=
  let s := (s.nearMissEdge edge beat).beatDeadlines beat
  [0, 1, 2, 3].foldl (fun (s : State) p => s.afterWork p) s

/-- Mapping record (Table 2.9). -/
def mapRecord (beat sched ns cal period slack slips reason flags : Nat) : Nat :=
  fld 0 beat + fld 8 sched + fld 16 ns + fld 24 cal + fld 32 period + fld 36 (sat32 slack) + fld 40 (sat32 slips) + fld 44 reason +
    fld 45 flags

/-- The cause of a mapping record at an edge, when one is due (R70). -/
def State.mapReason (s : State) (first slip hold : Bool) : Nat :=
  if first then 4 else if s.beat.periodRec ≠ s.obj O.BEAT_PERIOD_NS then 5 else if hold then 3 else if slip then 2
  else if s.obj O.BEAT_COUNT % 2 ^ 20 = 0 then 1 else 0

/-- A mapping record is written when one is due (R70). -/
def State.writeMap (s : State) (first slip hold : Bool) : State :=
  let reason := s.mapReason first slip hold
  if reason = 0 then s
  else
    let flags := b2n (s.obj O.PTP_STATE = 3) + 2 * b2n (s.obj O.LEAP_PENDING ≠ 0)
    let r := mapRecord (s.obj O.BEAT_COUNT) (s.obj O.SCHEDULE_BEAT) s.refNs s.calNs (s.obj O.BEAT_PERIOD_NS) s.beat.slackSince
      s.beat.slipTotal reason flags
    { s with beat.ring := (r :: s.beat.ring).take 4096, beat.slackSince := 0, beat.periodRec := s.obj O.BEAT_PERIOD_NS }

/-- Slack granted to the beat that closes (R57). -/
def State.countSlack (s : State) (n : Nat) : State :=
  let ns := s.slackNs n
  let s := if n = 0 then s else (s.inc O.SLACK_GRANTED_BEATS).add O.SLACK_TOTAL_NS ns
  let win := ((0 < n : Bool) :: s.beat.slackWin).take 1024
  let beyond := s.obj O.SLACK_EVENT_THRESHOLD < (win.filter id).length
  let s' := { s with beat.slackWin := win, beat.slackLatched := beyond, beat.slackSince := s.beat.slackSince + ns }
  if beyond && !s.beat.slackLatched then s'.raise 0x2403 else s'

/-- Step E4 (R31, R32, R57, R61, R70, R234): the counts, the schedule beat, jobs that start, and the mapping record. -/
def State.edgeE4 (s : State) (pl : Placed) : State :=
  let slip := Edge.slip pl.word
  let hold := Edge.hold pl.word
  let first := s.beat.firstEdge
  let count := s.nextCount
  let start := s.starting count
  let on := s.beat.scheduleOn || !start.isEmpty
  let s := s.put O.BEAT_COUNT count
  let s := if on && !slip && !hold then s.add O.SCHEDULE_BEAT 1 else s
  let s := start.foldl State.startJob s
  let s := if first then s else s.countSlack (Edge.slack pl.word)
  let s := if slip then (s.inc O.SLIP_BEATS).raise 0x1402 else s
  let s := if hold then s.inc O.HOLD_BEATS else s
  let s := if hold && !s.beat.holdOn && s.obj O.BEAT_STATE = BeatState.root then s.raise 0x3406 else s
  let s := { (s.put O.MACHINE_HOLD (b2n hold)).accountPower with power.slots := [] }
  let s := { s with beat.scheduleOn := on, beat.holdOn := hold, beat.firstEdge := false, beat.lastEdge := pl.time,
                    beat.slipTotal := s.beat.slipTotal + b2n (slip || hold), beat.placed := s.beat.early, beat.early := none,
                    beat.prev := some pl, beat.decided := false, beat.reqMax := 0, beat.ownN := 0, beat.sentLow := none,
                    beat.sentN := 0, beat.cond := [1, 2, 3, 4, 5].any s.causeNow }
  let s := s.writeMap first slip hold
  let s := if first then s.raise 0x1401 else s
  s.applyStaged

/-- Step E7 (R127, R226, R234, R235, R354, R462): unloads in place of the release, the new schedule beat's lists, what a squash
releases again, debug entry and a clock move that waited for the edge. -/
def State.edgeE7 (s : State) (advanced : Bool) : State :=
  let s := [0, 1, 2, 3].foldl (fun (s : State) p =>
    if (s.job p).unload && s.imageState p ≠ IS.loading then s.unloadNow p
    else
      let s := s.releaseStep p advanced
      let j := s.job p
      if j.refire.isEmpty then s
      else (s.setJob p { j with refire := [], fired := j.fired ++ j.refire.map (fun x => (x.1, x.2, false)) }).afterWork p) s
  let s := if s.dbg.entering then { s with dbg := { entering := false, on := true } }.raise 0x2604 { part := s.debugPart } else s
  if s.power.pendingMode then s.beginMove else s

/-- The steps of an edge in order (R63, Table 2.7). A stop ends the module at E1; a release ends the edge after E4. -/
def State.localEdge (s : State) : State :=
  match s.beat.placed with
  | none => s
  | some pl =>
    if !s.onBeat || s.boot.stopCause.isSome then s
    else
      let s := s.upTo pl.time
      if s.power.stopPending then (s.stopModule 1 s.lowVin 0xFF 0xFF).supplyState
      else
        let slip := Edge.slip pl.word
        let hold := Edge.hold pl.word
        let live : Bool := s.beat.scheduleOn || !(s.starting s.nextCount).isEmpty
        let adv := live && !slip && !hold
        let s := (s.edgeE1 adv).edgeE2
        let s := if adv then s.edgeE3 pl.time (s.obj O.SCHEDULE_BEAT + 1) else s
        let s := s.edgeE4 pl
        if s.beat.releasePending then s.doRelease
        else
          let (s, sw) := s.opticsE5 pl.time (slip || hold)
          (s.opticsE6 s.period8 slip hold sw).edgeE7 adv

/-- LOCAL_EDGE (R63). -/
def execLocalEdge (s : State) : Outcome := ok s.localEdge

/-- ROOT_FIRST_EDGE (R48): the first edge of a root. -/
def execRootFirstEdge (s : State) : Outcome :=
  if s.obj O.BEAT_STATE = BeatState.root && s.beat.firstEdge then ok s.localEdge else ok s

/-- Whether an object's nanosecond deadline stands (R65). -/
def SyncObj.nsDue (x : SyncObj) : Bool := x.deadlineSet && (x.timeoutKind = 2 || x.pair = 0xFFFF)

/-- The nanosecond deadlines that stand (R65). -/
def State.nsStanding (s : State) : List Nat :=
  (s.net.sync.filter (fun (e : Nat × SyncObj) => e.2.nsDue && (e.2.state = Sy.armed || e.2.state = Sy.complete))).map
    (fun (e : Nat × SyncObj) => e.2.deadline)

/-- A deadline of REF_NS that completion has met first is cancelled, and counted when the last arrival fell in the cycle in which
REF_NS reaches it (R66, R67). -/
def State.nsCancel (s : State) (t k : Nat) : State :=
  let x := s.syncObj k
  if x.state = Sy.complete && x.nsDue && x.deadline ≤ t then
    let s := s.setSync k { x with deadlineSet := false }
    (if x.lastArrival.any (fun a => x.deadline * 8 ≤ a && a < x.deadline * 8 + s.cycle8) then s.inc O.NEAR_MISS_NS else s)
  else s

/-- REF_NS reaches t: completed objects' deadlines are cancelled, the others fire, and what that releases goes on (R65 to R67). -/
def State.nsFire (s : State) (t : Nat) : State :=
  let s := s.upTo (t * 8)
  let s := s.net.sync.foldl (fun (s : State) (e : Nat × SyncObj) => s.nsCancel t e.1) s
  [0, 1, 2, 3].foldl (fun (s : State) p => s.afterWork p) s.nsDeadlines

/-- NS_DEADLINE_DUE (R65 to R67): REF_NS reaches the earliest nanosecond deadline; an arrival in that nanosecond has won. -/
def execNsDeadlineDue (s : State) : Outcome :=
  match s.nsStanding with
  | [] => ok s
  | d :: ds => ok (s.nsFire (ds.foldl min d))

end Sys2Proof.Machine
end

