-- ==== Sys2Proof/Machine/Eject.lean ====
section
/-! DEFINITION. Eject.lean: the tests every packet meets, forwarding, ejection, and what each packet type does (R206, R227,
R275, R280, R330 to R346, R350, R424, R440, R584). -/

namespace Sys2Proof

open Machine

/-- ACK_REQ of FLAGS. -/
def Packet.ackReq (p : Packet) : Bool := bit p.flags 5
/-- POST of FLAGS. -/
def Packet.hasPost (p : Packet) : Bool := bit p.flags 4
/-- PAIRED of FLAGS. -/
def Packet.paired (p : Packet) : Bool := bit p.flags 3

/-- A request status that an answer may carry (Table 12.5). -/
def reqStatus (v : Nat) : Bool := v ≤ 9 || (0x10 ≤ v && v ≤ 0x13)

/-- LENGTH, ADDRESS, TAG, ARG, class and flags by type (Tables 12.3 and 12.4). -/
def Packet.typeOk (p : Packet) : Bool :=
  let c := p.cls
  let long := 64 ≤ p.len && p.len ≤ 4096 && p.len % 64 = 0
  let noTag := p.tag = 0
  let plain := !p.ackReq && !p.hasPost
  match p.typ with
  | 1 => 2 ≤ c && long && (p.addr / 2 ^ 50 = p.dstChip || p.addr / 2 ^ 50 = 0x3FFF) && (p.ackReq || noTag) &&
         (if p.hasPost then 1 ≤ p.arg else p.arg = 0)
  | 2 => (c = 5 || c = 7) && p.len = 0 && 1 ≤ p.arg && p.arg ≤ 64 && plain
  | 3 => c = 1 && p.addr = 0 && reqStatus p.arg && (if p.arg = 0 then long else p.len = 0) && plain
  | 4 => c = 0 && p.len = 0 && p.addr = 0 && (p.ackReq || noTag) && 1 ≤ p.arg && p.hasPost
  | 5 => c = 0 && p.len = 0 && p.addr = 0 && reqStatus p.arg && plain
  | 6 => (c = 2 || c = 3 || c = 4 || c = 6) && long && noTag && plain && bits p.addr 63 62 ≤ 1 && bits p.addr 61 58 = 0 &&
         p.addr % 64 = 0
  | 7 => c = 0 && 128 ≤ p.len && p.len ≤ 128 + 80 * 32 && (p.len - 128) % 80 = 0 && p.addr = 0 && noTag && plain
  | 8 => c = 0 && p.len = 16 && p.addr = 0 && noTag && plain
  | 9 => c = 0 && p.len = 16 && p.addr = 0 && noTag && plain && p.arg = 0 && p.dstChip = 0x3FFF
  | _ => false

/-- The header follows R9, Tables 12.1 and 12.3 and the class rule (test 1). -/
def Packet.headerOk (p : Packet) : Bool :=
  p.typeOk && bits p.flags 2 0 = 0 && p.spec ≠ 1 && (p.hasPost || !p.paired) && !bit p.route 3 && p.sync < 8192 &&
  p.srcChip < 2 ^ 14 && p.dstChip < 2 ^ 14 && (p.typ = 9 || (p.srcChip ≠ 0x3FFF && p.dstChip ≠ 0x3FFF))

end Sys2Proof

namespace Sys2Proof.Machine

/-- What becomes of a packet after tests 1 to 4. -/
inductive Fate where
  | drop
  | eject
  | forward (out : Nat)
deriving DecidableEq, Repr

/-- The answer of the module that drops or completes a request (R336, R346): READ_RSP for a READ_REQ, RESPONSE otherwise. -/
def State.answer (s : State) (k : Packet) (status : Nat) (data : List Byte) : State :=
  let isRead : Bool := k.typ = 2
  s.sendAnswer k.dstPart
    (s.mkPacket (if isRead then 3 else 5) 0 k.srcChip k.tag (if isRead then 1 else 0) k.dstPart k.srcPart 0 0 0 status data)

/-- A packet dropped at test 4, 6 or 8 is answered when it is a READ_REQ or asks for it (R336). -/
def State.answerDrop (s : State) (k : Packet) (status : Nat) : State :=
  if k.typ = 2 || ((k.typ = 1 || k.typ = 4) && k.ackReq) then s.answer k status [] else s

/-- The FENCED notice for a stale packet goes back on the arrival link, at most once per 100 µs (R339). -/
def State.fencedPacket (s : State) (n : Nat) (k : Packet) : State :=
  let recent : Bool := match s.net.noticeAt.find n with | some t => s.now < t + 800000 | none => false
  if recent || s.obj O.CHIP_STATE ≠ 1 then s
  else
    let pay := toLE 16 (fld 0 k.srcChip + fld 2 k.srcEpoch + fld 4 (s.epochOf k.srcChip))
    (({ s with net.noticeAt := s.net.noticeAt.set n s.now }).originate n 0xFF (s.mkPacket 9 0 0x3FFF 0 0 0 0 0 0 0 0 pay)).inc
      O.FENCED_NOTICES_SENT

/-- Tests 1 to 4 of Table 12.6 on the header of a packet that arrives on link n. A fenced module forwards nothing (R417),
as if no candidate were usable (DEDUCED). -/
def State.headTests (s : State) (n : Nat) (k : Packet) : State × Fate :=
  if !k.headerOk then (s.inc O.MALFORMED_PKT, .drop)
  else
    let a : EvArgs := { kind := 2, subj := k.srcChip }
    if k.typ ≠ 9 && k.srcEpoch < s.epochOf k.srcChip then
      (((s.inc O.STALE_EPOCH_DROPPED).raiseEvery 0x2E01 k.srcChip sec1 a).fencedPacket n k, .drop)
    else if k.typ ≠ 9 && s.epochOf k.srcChip < k.srcEpoch then ((s.inc O.EPOCH_AHEAD_DROPPED).raise 0x2E02 a, .drop)
    else if k.typ = 9 || s.ownChip k.dstChip then (s, .eject)
    else if k.hops = 0 then
      (((s.inc O.HOP_EXPIRED_DROPS).raiseEvery 0x2E04 0 sec1 { kind := 2, subj := k.dstChip }).answerDrop k 0x12, .drop)
    else
      match (if s.obj O.CHIP_STATE = 2 then none else s.chooseOut k.dstChip k.cls (some n) anyLink) with
      | none => (((s.inc O.NO_ROUTE_DROPPED).noRouteEvent k.dstChip).answerDrop k 0x10, .drop)
      | some o => ((s.inc O.PACKETS_FORWARDED).add O.BYTES_FORWARDED (48 + k.len), .forward o)

/-- Test 5 on the trailer (Table 12.2). END_CRC is formed by the sender over the header with HOPS as it sent it, and each
forwarding lowers HOPS and leaves the trailer alone, so it is correct when it matches the header with HOPS at its present
or a higher value (DEDUCED). -/
def Packet.crcOk (k : Packet) (crc : Nat) : Bool :=
  (List.range (256 - k.hops)).any (fun i => crc32c (({ k with hops := k.hops + i } : Packet).header ++ k.payload) = crc)

/-- Test 5 in its order: the counter of the failure, or none. -/
def trailerBad (k : Packet) (trailer : List Byte) : Option Nat :=
  let t := ofLE trailer
  if recF t 4 1 = 1 then some O.ABORTED_RX
  else if recF t 4 1 ≠ 0 || recF t 5 11 ≠ 0 then some O.MALFORMED_PKT
  else if !Packet.crcOk k (recF t 0 4) then some O.END_CRC_FAIL
  else none

/-- The source of a packet is in the member table of a partition that is LOADED or RUNNING (R280). -/
def State.memberOf (s : State) (p : Nat) (k : Packet) : Bool :=
  (s.imageState p = IS.loaded || s.imageState p = IS.running) && (s.job p).members.contains (k.srcChip, k.srcPart)

/-- A packet of a job from no member of it is refused (test 8). -/
def State.notMember (s : State) (n : Nat) (k : Packet) : State :=
  (s.refuseAt (.remote n k.srcChip k.srcPart) k.dstPart k.addr Acc.notMember).answerDrop k Acc.notMember

/-- The sync object of an arrival gets its increment (R350, R351). -/
def State.deliver (s : State) (k : Packet) (tagged : Bool) : State × Nat :=
  let r := if k.paired then s.arrivePair k.dstPart k.sync k.step k.arg tagged else s.arrivePlain k.dstPart k.sync k.arg
  (r.1, if r.2 then 0 else 0x13)

/-- A stretch of bytes lies in a tensor bank that a checkpoint has still to read (R424). -/
def State.ckTouches (s : State) (p a n : Nat) : Bool :=
  let j := s.job p
  match j.image with
  | none => false
  | some im =>
    j.ckpt.hold.any (fun h => im.pieces.any (fun x => x.logical = h.tensor &&
      [0, 1].any (fun pl => let b := x.base pl h.bank; b < a + n && a < b + x.planeBytes pl)))

/-- An accepted WRITE is applied, posts and is answered (R285, R286, R346). -/
def State.applyWrite (s : State) (k : Packet) (tagged : Bool) : State :=
  let s := s.writeMem (k.addr % 2 ^ 50) k.payload
  let r := if k.hasPost then s.deliver k tagged else (s, 0)
  if k.ackReq then r.1.answer k r.2 [] else r.1

/-- A WRITE at its target (test 8, R424). -/
def State.writeIn (s : State) (n : Nat) (k : Packet) (tagged : Bool) : State :=
  let who : Requester := .remote n k.srcChip k.srcPart
  let st := s.access who k.addr k.len true false
  if st ≠ 0 then (s.refuse who k.addr st).answerDrop k st
  else
    let a := k.addr % 2 ^ 50
    let p := (s.ownerOf a).getD 4
    if s.ckTouches p a k.len then
      let j := s.job p
      s.setJob p { j with ckpt := { j.ckpt with held := j.ckpt.held ++ [k] } }
    else s.applyWrite k tagged

/-- A read of the partner-copy reserve by the member that MEMBER_INDEX (Table 15.4) of every slot it reads names, while the holder is
LOADED or RUNNING (R440). -/
def State.reserveRead (s : State) (k : Packet) (len : Nat) : Bool :=
  let a := k.addr % 2 ^ 50
  match s.ownerOf a with
  | none => false
  | some p =>
    let j := s.job p
    match j.image with
    | none => false
    | some im =>
      match im.reserve with
      | none => false
      | some t =>
        (s.imageState p = IS.loaded || s.imageState p = IS.running) && inPieces im.pieces (·.logical = t) a len &&
          (List.range ((im.shape t).getD 0 0)).any (fun slot =>
            let as := im.planeAddrs (im.sliceView t 0 (some slot)) 0
            as.any (fun x => match x with | some b => a ≤ b && b < a + len | none => false)) &&
          (List.range ((im.shape t).getD 0 0)).all (fun slot =>
            let v := im.sliceView t 0 (some slot)
            !(im.planeAddrs v 0).any (fun x => match x with | some b => a ≤ b && b < a + len | none => false) ||
              j.members[ofLE (s.readPlane im v 0 24 2)]? = some (k.srcChip, k.srcPart))

/-- A READ_REQ at its target (R346). -/
def State.readIn (s : State) (n : Nat) (k : Packet) : State :=
  let who : Requester := .remote n k.srcChip k.srcPart
  let len := 64 * k.arg
  let inReserve := s.touchesReserve ((s.ownerOf (k.addr % 2 ^ 50)).getD 4) (k.addr % 2 ^ 50) len
  let st := s.access who k.addr len false false
  let st := if st = 0 && inReserve && !s.reserveRead k len then Acc.notMember else st
  if st ≠ 0 then (s.refuse who k.addr st).answerDrop k st
  else (s.engineRead ((s.ownerOf (k.addr % 2 ^ 50)).getD 4) (k.addr % 2 ^ 50) len).answer k 0 (s.readMem (k.addr % 2 ^ 50) len)

/-- The request of a tag is the checkpoint engine's. -/
def State.reqCkpt (s : State) (t : Tag) : Bool := ((s.net.reqs.find t.req).map (·.ckpt)).getD false

/-- An answer is taken: its data is written to memory, or kept for the restore that reads it (R439), and its tag completes. -/
def State.takeAnswer (s : State) (ti : Nat) (t : Tag) (k : Packet) : State :=
  let s :=
    if !(t.isRead && k.arg = 0) then s
    else if s.reqCkpt t then
      let j := s.job t.owner
      match j.ckpt.restore with
      | some r => s.setJob t.owner { j with ckpt := { j.ckpt with restore := some { r with buf := r.buf.set t.off k.payload } } }
      | none => s
    else s.writeMem (t.dst % 2 ^ 50) k.payload
  s.tagDone ti k.arg

/-- READ_RSP and RESPONSE complete their tag, or are late (R345, R346). Data for bytes that a checkpoint has still to read waits, and its
tag with it (R424). -/
def State.answerIn (s : State) (k : Packet) : State :=
  let ti := k.tag % 8192
  match s.net.tags.find ti with
  | none => s.inc O.LATE_RESPONSES
  | some t =>
    if t.gen ≠ k.tag / 8192 || t.chip ≠ k.srcChip || t.isRead ≠ (k.typ = 3 : Bool) then s.inc O.LATE_RESPONSES
    else if t.isRead && k.arg = 0 && k.payload.length ≠ t.len then s.inc O.MALFORMED_PKT
    else if t.isRead && k.arg = 0 && !s.reqCkpt t && s.ckTouches t.owner (t.dst % 2 ^ 50) t.len then
      let j := s.job t.owner
      s.setJob t.owner { j with ckpt := { j.ckpt with held := j.ckpt.held ++ [k] } }
    else s.takeAnswer ti t k

/-- A SYNC_POST at its target. -/
def State.syncIn (s : State) (n : Nat) (k : Packet) (tagged : Bool) : State :=
  if !s.memberOf k.dstPart k then s.notMember n k
  else
    let r := s.deliver k tagged
    if k.ackReq then r.1.answer k r.2 [] else r.1

/-- An entry of another kind than PARTNER_COPY would write the partner-copy reserve (R281). -/
def State.collInReserve (s : State) (p : Nat) (c : Coll) : Bool :=
  match (s.job p).image.bind Image.reserve with
  | some t => c.dst = t || (c.kind = 3 && c.src = t)
  | none => false

/-- A COLL packet at its partition (R281, R356, R431). -/
def State.collIn (s : State) (n : Nat) (k : Packet) (tagged : Bool) : State :=
  let p := k.dstPart
  if !s.memberOf p k then s.notMember n k
  else
    match (s.job p).coll k.arg with
    | none => s.notMember n k
    | some c =>
      if c.kind = 7 then
        let r := s.partnerRx p k
        if r.2 = Acc.ok then r.1 else r.1.refuseAt (.remote n k.srcChip k.srcPart) p k.addr r.2
      else if s.collInReserve p c then s.notMember n k
      else s.collRx p k tagged

/-- A micro-batch record of the previous stage (R227): it comes on the entry of a RECV. -/
def State.mbIn (s : State) (n : Nat) (k : Packet) : State :=
  let p := k.dstPart
  if !s.memberOf p k then s.notMember n k
  else
    match (s.job p).coll k.arg with
    | some c =>
      if c.kind = 5 then
        let r := s.takeMb p (ofLE k.payload)
        if r.2 then r.1.collOffer p k.arg else r.1
      else s.inc (O.at O.MB_REJECTED p)
    | none => s.inc (O.at O.MB_REJECTED p)

/-- What a packet that passed tests 1 to 7 does. -/
def State.handle (s : State) (n : Nat) (k : Packet) (tagged : Bool) : State :=
  let p := k.dstPart
  match k.typ with
  | 1 => (s.writeIn n k tagged).afterWork p
  | 2 => s.readIn n k
  | 3 => (s.answerIn k).afterWork p
  | 4 => (s.syncIn n k tagged).afterWork p
  | 5 => (s.answerIn k).afterWork p
  | 6 => (s.collIn n k tagged).afterWork p
  | 7 => if s.memberOf p k then (s.voteRx p k).afterWork p else s.notMember n k
  | 8 => (s.mbIn n k).afterWork p
  | _ => s.fenceBy 2 n (recF (ofLE k.payload) 0 2) (recF (ofLE k.payload) 2 2) (recF (ofLE k.payload) 4 2)

/-- Tests 6 to 8 at the ejection stage. An access to memory that is being zeroed is held (R279). A FENCED packet meets neither test 6 nor test 7 (DEDUCED: it names the neighbour,
whose epoch its sender need not know). -/
def State.ejectGood (s : State) (n : Nat) (k : Packet) : State :=
  if k.typ = 9 then
    (if recF (ofLE k.payload) 6 10 ≠ 0 then s.inc O.MALFORMED_PKT else s.handle n k false)
  else if k.dstEpoch ≠ (if s.obj O.CHIP_STATE = 1 then s.obj O.CHIP_EPOCH else 0) then
    (s.inc O.STALE_DEST_DROPPED).answerDrop k 0x11
  else
    let p := k.dstPart
    let tagged := s.pktTagged p k
    if 2 ≤ k.spec && !tagged && (s.job p).lastVote.get (k.spec % 2) 0 = 2 then s.inc (O.at O.SPEC_DROPPED p)
    else if (k.typ = 1 || k.typ = 2) && s.beingZeroed (k.addr % 2 ^ 50) (if k.typ = 1 then k.len else 64 * k.arg) then
      { s with net.zeroHeld := s.net.zeroHeld ++ [(n, k, tagged)] }
    else s.handle n k tagged

/-- A packet meets the ejection tests after its last flit. -/
def State.ejectPkt (s : State) (n : Nat) (k : Packet) (trailer : List Byte) : State :=
  match trailerBad k trailer with
  | some c => s.inc c
  | none => s.ejectGood n k

/-- Whether a link takes packets, and whether it is quarantined (R321, R323, R408). -/
def State.packetsOn (s : State) (n : Nat) : Bool := s.usable n && !(s.link n).encMismatch

/-- A link under quarantine (R408). -/
def State.quarantined (s : State) (n : Nat) : Bool :=
  s.linkPresent n && s.isUp n && ((s.link n).outcome = 3 || (s.link n).outcome = 4)

/-- A whole packet with a good trailer arrives on a link. -/
def State.packetIn (s : State) (n : Nat) (k : Packet) : State :=
  if s.quarantined n then s.inc O.QUARANTINE_DROPPED
  else if !s.packetsOn n then s
  else if k.payload.length ≠ k.len then s.inc O.MALFORMED_PKT
  else
    match s.headTests n k with
    | (s, .drop) => s
    | (s, .eject) => s.ejectGood n k
    | (s, .forward o) =>
      s.enqueue o { src := none, cls := k.cls, bytes := k.forwarded, done := true, sent := 0, part := 0xFF, rank := n }

/-- A packet command is due for its own packet type only. -/
def State.rxCmd (s : State) (typ n : Nat) (k : Packet) : State := if k.typ = typ then s.packetIn n k else s

/-- WRITE_RX (R346). -/
def execWriteRx (link : Fin 24) (pkt : Packet) (s : State) : Outcome := ok (s.rxCmd 1 link.val pkt)
/-- READ_REQ_RX (R346). -/
def execReadReqRx (link : Fin 24) (pkt : Packet) (s : State) : Outcome := ok (s.rxCmd 2 link.val pkt)
/-- READ_RSP_RX (R346). -/
def execReadRspRx (link : Fin 24) (pkt : Packet) (s : State) : Outcome := ok (s.rxCmd 3 link.val pkt)
/-- SYNC_POST_RX (R350). -/
def execSyncPostRx (link : Fin 24) (pkt : Packet) (s : State) : Outcome := ok (s.rxCmd 4 link.val pkt)
/-- RESPONSE_RX (R345). -/
def execResponseRx (link : Fin 24) (pkt : Packet) (s : State) : Outcome := ok (s.rxCmd 5 link.val pkt)
/-- COLL_RX (R356). -/
def execCollRx (link : Fin 24) (pkt : Packet) (s : State) : Outcome := ok (s.rxCmd 6 link.val pkt)
/-- VOTE_PACKET_RX (R362). -/
def execVotePacketRx (link : Fin 24) (pkt : Packet) (s : State) : Outcome := ok (s.rxCmd 7 link.val pkt)
/-- MB_RECORD_RX (R227). -/
def execMbRecordRx (link : Fin 24) (pkt : Packet) (s : State) : Outcome := ok (s.rxCmd 8 link.val pkt)
/-- FENCED_RX (R339). -/
def execFencedRx (link : Fin 24) (pkt : Packet) (s : State) : Outcome := ok (s.rxCmd 9 link.val pkt)

/-- LOCAL_PACKET_ACCEPT (R584): the oldest packet that an engine handed to the ejection stage meets tests 5 to 8 there. -/
def execLocalPacketAccept (s : State) : Outcome :=
  match (if s.boot.stopCause.isSome then [] else s.net.localQ) with
  | [] => ok s
  | (k, _) :: rest => ok (({ s with net.localQ := rest }).ejectGood 0xFF k)

/-- The held writes and read data of a partition that no checkpoint holds any longer proceed in the order they came (R424). -/
def State.resumeHeld (s : State) (p : Nat) : State :=
  let j := s.job p
  let free := fun (k : Packet) =>
    if k.typ = 3 then (match s.net.tags.find (k.tag % 8192) with | some t => !s.ckTouches p (t.dst % 2 ^ 50) t.len | none => true)
    else !s.ckTouches p (k.addr % 2 ^ 50) k.len
  let s := s.setJob p { j with ckpt := { j.ckpt with held := j.ckpt.held.filter (fun k => !free k) } }
  (j.ckpt.held.filter free).foldl (fun s k => if k.typ = 3 then s.answerIn k else s.applyWrite k (s.pktTagged k.dstPart k)) s

/-- The collective starts that waited only for a checkpoint's reads begin, and the packets kept for running starts are taken (R355,
R424). -/
def State.resumeColls (s : State) (p : Nat) : State :=
  let s := (((s.job p).colls.map (·.entry)).eraseDups).foldl (fun s e => s.collOffer p e) s
  (((s.job p).collWait.map (·.entry)).eraseDups).foldl (fun s e =>
    let j := s.job p
    match j.collWait.find? (fun w => w.entry = e && !w.held) with
    | none => s
    | some w =>
      if j.collBusy e || s.collCkHeld p w then s
      else (s.setJob p { j with collWait := j.collWait.erase w }).collStart p w) s

end Sys2Proof.Machine
end

