-- ==== Sys2Proof/Machine/Restore.lean ====
section
/-! DEFINITION. Restore.lean: restoring a partition from a checkpoint (R438 to R444). -/

namespace Sys2Proof.Machine

/-! ### The request -/

/-- Restore results (Table 15.6): RESTORED. -/
abbrev Rr.restored : Nat := 1
/-- WRONG_STATE. -/
abbrev Rr.wrongState : Nat := 2
/-- BAD_REQUEST. -/
abbrev Rr.badRequest : Nat := 3
/-- NO_VALID_COPY. -/
abbrev Rr.noCopy : Nat := 4

/-- n entries of w bytes at a global address. -/
def State.entries (s : State) (addr n w : Nat) : List Nat := (List.range n).map (fun i => s.readLE (addr % 2 ^ 50 + w * i) w)

/-- A table of a restore block lies in HBM of the partition, 64-byte aligned (Table 15.5). -/
def State.tableOk (s : State) (p addr len : Nat) : Bool :=
  len = 0 || (s.access (.ckpt p) addr (upTo' 64 len) false false = Acc.ok && addr % 2 ^ 50 < 2 ^ 48)

/-- What the access check says of the block and its two tables, in this order: the first range that it refuses and the status (R275,
R277). -/
def State.blockRefused (s : State) (p addr b : Nat) : Option (Nat × Nat) :=
  ([(addr, 64), (recF b 16 8, 20 * recF b 10 2), (recF b 24 8, 40 * recF b 12 4)].filterMap (fun (x : Nat × Nat) =>
    if x.2 = 0 then none
    else
      let st := s.access (.ckpt p) x.1 (upTo' 64 x.2) false false
      if st = Acc.ok then none else some (x.1, st))).head?

/-- A restore block breaks Table 15.5, R9 or R438. -/
def State.badBlock (s : State) (p b : Nat) (im : Image) : Bool :=
  let kc := recF b 10 2
  let rc := recF b 12 4
  let keys := s.entries (recF b 16 8) kc 20
  let streams := keys.map (fun e => recF e 0 4)
  16 ≤ recF b 8 1 || 2 ≤ recF b 9 1 || 1024 < kc || 65535 < rc || recF b 32 32 ≠ 0 || recF b 0 8 < im.commit.stepStart ||
    (kc ≠ 0 && !bit (recF b 9 1) 0) || !s.tableOk p (recF b 16 8) (20 * kc) || !s.tableOk p (recF b 24 8) (40 * rc) ||
    streams.eraseDups.length ≠ streams.length || streams.any (fun x => (im.grist.find x).isNone) ||
    (s.entries (recF b 24 8) rc 40).any (fun e => recF e 2 6 ≠ 0)

/-- WRONG_STATE of a restore request (R438). -/
def State.restoreWrong (s : State) (p : Nat) : Bool :=
  let vs := s.obj (O.at O.VOTE_STATE p)
  let st := s.imageState p
  s.obj O.CHIP_STATE ≠ 1 || !s.onBeat || (s.job p).ckpt.restore.isSome ||
    !(st = IS.loaded || (st = IS.running && (vs = 5 || vs = 6)))

/-- Restore result record (Table 15.6). -/
def restoreRecord (code source tried failed c bytes ms absent : Nat) : Nat :=
  fld 0 code + fld 1 source + fld 2 tried + fld 4 failed + fld 8 c + fld 16 bytes + fld 24 (ms % 2 ^ 32) + fld 28 absent

/-- The descriptor of a restore completes: OK, or REFUSED, with the result code (Tables 17.7 and 17.8). -/
def State.restoreAnswer (s : State) (who : Option (Nat × Nat × Nat)) (code : Nat) : State :=
  match who with
  | some w => s.finishDesc w (if code = Rr.restored then 0 else 0x43) code
  | none => s

/-- The partition's own memory can serve as a source: no work of OPTIMIZER_INPLACE is unfinished, and no committed result
has been non-finite since the boundary (R204, R439). -/
def State.liveOk (s : State) (p : Nat) : Bool :=
  let j := s.job p
  let inplace := fun (l : Nat) => match j.image.bind (fun im => im.lists[l]?) with | some x => x.phase = 7 | none => false
  !j.ckpt.tainted && !j.rels.any (fun r => inplace r.list) && !j.shares.any (fun x => inplace x.list)

/-- Placements are zeroed apart from RESERVE_TENSOR, the INIT pieces that no layer copies, and the tensors to keep (R441
step 2). -/
def State.zeroForRestore (s : State) (im : Image) (keep : List Nat) : State :=
  let copied := ([1, 2, 3].map im.copied).flatten
  let stays := fun (x : Piece) =>
    im.reserve = some x.logical || (bit x.flags 3 && !copied.contains x.logical) || keep.contains x.logical
  ((im.pieces.filter (fun x => !stays x)).map Piece.ranges).flatten.foldl (fun s r => s.zeroMem r.1 r.2) s

/-- Every placement of a partition is zeroed but its RESERVE_TENSOR, which a holder keeps while it restores (R440, R441). -/
def State.zeroAllPlaced (s : State) (im : Image) : State :=
  ((im.pieces.filter (fun x => im.reserve ≠ some x.logical)).map Piece.ranges).flatten.foldl (fun s r => s.zeroMem r.1 r.2) s

/-- A restore ends without a valid copy (R441): the partition stays RESTORING with its placements zeroed. -/
def State.restoreFail (s : State) (p : Nat) (im : Image) (r : Restore) : State :=
  let rec_ := restoreRecord Rr.noCopy 0 r.tried r.failed r.boundary r.bytes ((s.now - r.since) / 8000000) 0
  let j := s.job p
  let s := (s.zeroAllPlaced im).setJob p { j with ckpt := { j.ckpt with restore := none } }
  ((s.put (O.at O.RESTORE_RECORD p) rec_).raise 0x3106 { part := p, pay := rec_, len := 32 }).restoreAnswer r.who Rr.noCopy

/-- The result of a source (Table 15.6 TRIED). -/
def Restore.mark (r : Restore) (source code : Nat) : Restore := { r with tried := r.tried + code * 16 ^ (source - 1) }

/-- The next source of LAYER_MASK, in order; sources that the mask leaves out are marked so (R439). -/
def Restore.next : Nat → Restore → Restore
  | 0, r => { r with source := 5 }
  | f + 1, r =>
    let k := r.source + 1
    if 4 < k then { r with source := 5 }
    else if bit r.mask (k - 1) then { r with source := k }
    else Restore.next f ({ r with source := k }.mark k 1)

/-- The checkpoint engine reads the partner's slot of the boundary, header and copy, with READ_REQs in class 7 (R439, R444). Where the slot
lies in the partner's memory the spec does not say: its address is a free value (log entry 126). -/
def State.partnerRead (s : State) (p : Nat) (im : Image) (r : Restore) : State :=
  match im.ckpt with
  | none => s.restoreRead p 0
  | some c =>
    match (s.job p).members[c.partner]? with
    | none => s.restoreRead p 0
    | some m =>
      s.startReq { owner := (0, 0, 0), post := 0xFFFF, part := p, chip := m.1, cls := 7, isRead := true, loc := 0,
                   rem := m.1 * 2 ^ 50 + Config.partnerSlot (s.obj (O.at O.IMAGE_DIGEST p)) c.partner r.boundary % 2 ^ 36 / 64 * 64,
                   total := 64 + im.copyLen 1, ckpt := true }

/-- Go on with the next source, or end. -/
def State.restoreNext (s : State) (p : Nat) (im : Image) (r : Restore) : State :=
  let r := Restore.next 5 r
  if r.source = 5 then s.restoreFail p im r
  else
    let r := { r with rd := if r.source = 2 then 1 else 0, buf := [] }
    let j := s.job p
    let s := s.setJob p { j with ckpt := { j.ckpt with restore := some r } }
    if r.source = 2 then s.partnerRead p im r else s

/-- A restore request (R438): refused, or the partition stops, its pending vote and its checkpoints end, and the first
source is tried. -/
def State.restoreStart (s : State) (p addr : Nat) (who : Option (Nat × Nat × Nat)) : State × Nat :=
  let j := s.job p
  let b := if s.tableOk p addr 64 then s.readLE (addr % 2 ^ 50) 64 else 0
  let refuse := fun (code : Nat) =>
    ((s.put (O.at O.RESTORE_RECORD p) (restoreRecord code 0 0 0xFFFF (recF b 0 8) 0 0 0)).restoreAnswer who code, St.refused)
  if s.restoreWrong p then refuse Rr.wrongState
  else
    match j.image with
    | none => refuse Rr.wrongState
    | some im =>
      if !s.tableOk p addr 64 || s.badBlock p b im then
        let t := match s.blockRefused p addr b with | some x => s.refuse (.ckpt p) x.1 x.2 | none => s
        ((t.put (O.at O.RESTORE_RECORD p) (restoreRecord Rr.badRequest 0 0 0xFFFF (recF b 0 8) 0 0 0)).restoreAnswer who Rr.badRequest, St.refused)
      else
        let r : Restore :=
          { boundary := recF b 0 8, mask := recF b 8 1, since := s.now, who := who, source := 0, liveOk := s.liveOk p,
            keys := (s.entries (recF b 16 8) (recF b 10 2) 20).foldl (fun (t : Tab Nat) e => t.set (recF e 0 4) (recF e 4 16)) [],
            refs := (s.entries (recF b 24 8) (recF b 12 4) 40).foldl (fun (t : Tab Nat) e => t.set (recF e 0 2) (recF e 8 32)) [] }
        let s := (s.dropWaiting p).setImageState p IS.loaded
        let s := (s.put (O.at O.RESTORE_STATE p) 1).put (O.at O.RESTORE_BYTES p) 0
        let s := (s.job p).ckpt.runs.foldl (fun s x => s.abandon p x 6) s
        let j := s.job p
        let s := s.setJob p
          { j with rels := [], shares := [], progs := [], colls := [], collWait := [], collHeld := [], fired := [], refire := [],
                   formed := none, final := none, voteDeadline := none, armed := false, sampled := [], frozen := [], accOpen := [], bufTags := [],
                   tagOps := 0, collTagged := [], voteOwed := [], finalStep := none,
                   ckpt := { j.ckpt with hold := [], dirs := [] } }
        (((s.offloadDone p).resumeHeld p).restoreNext p im r, St.ok)

/-- RESTORE_REQUEST (R438). -/
def execRestoreRequest (who : Who) (part : Fin 4) (addr : Nat) (s : State) : Outcome :=
  rowWrite s who (O.at O.RESTORE_REQUEST part.val) addr fun s => s.restoreStart part.val addr none

/-! ### A source -/

/-- A field of a byte string. -/
def field (bs : List Byte) (off n : Nat) : Nat := ofLE ((bs.drop off).take n)

/-- A manifest agrees with its slot and the image (R441 step 1). -/
def manifestOk (im : Image) (layer c me crc : Nat) (m : List Byte) : Bool :=
  field m 0 4 = 0x4D4B4356 && field m 4 2 = 1 && field m 6 1 = layer && crc32c m = crc && field m 16 8 = c && field m 80 2 = me &&
  field m 88 2 = im.stage.runahead && field m 90 2 = im.grist.length && field m 92 2 = im.slots.length &&
  field m 94 2 = (im.copied layer).length + (im.rebuilt layer).length

/-- A slot holds this member's VALID copy of the boundary for the loaded image's job (R439). -/
def slotServes (h layer c me job : Nat) : Bool :=
  recF h 0 4 = 0x534B4356 && recF h 4 1 = 2 && recF h 5 1 = layer && recF h 8 8 = c && recF h 24 2 = me && recF h 16 8 = job

/-- The flash slot that serves a restore (R439). -/
def State.flashSource (s : State) (p : Nat) (r : Restore) (im : Image) : Option CkSlot :=
  ((List.range 8).find? (fun k =>
    slotServes (s.flashCk.get (8 * p + k) { header := 0 }).header 2 r.boundary (s.job p).memberIx im.jobId)).map
      (fun k => s.flashCk.get (8 * p + k) { header := 0 })

/-- The slot of a layer whose header and copy the source has: what the partner's READ_RSPs brought, the partition's own flash, or what the
store answered. -/
def State.sourceSlot (s : State) (p : Nat) (r : Restore) (im : Image) (header : Nat) (copy : List Byte) : Nat × List Byte :=
  if r.source = 2 then
    let bs := (r.buf.vals).flatten
    (ofLE (bs.take 64), bs.drop 64)
  else if r.source = 3 then
    match s.flashSource p r im with
    | some x => (x.header, x.copy)
    | none => (0, [])
  else (header, copy)

/-- Units of a flash slot that cannot be read (R296): those that the device ECC gives up, listed by their place in the slot, and those whose
CRC-32C is not that of their bytes. -/
def CkSlot.unreadable (x : CkSlot) (bad : List Nat) : Nat :=
  ((List.range x.crcs.length).filter (fun i => bad.contains i || x.crcs[i]? ≠ (slotCrcs x.header x.copy)[i]?)).length

/-- Flash units that the source being tried finds unreadable (R296, R441). -/
def State.flashUnread (s : State) (p : Nat) (r : Restore) (im : Image) (bad : List Nat) : Nat :=
  if r.source = 3 then ((s.flashSource p r im).map (fun x => x.unreadable bad)).getD 0 else 0

/-- A read of the source has failed (R441): the partner's tags ended with another status, a flash unit is unreadable, or the store failed
to answer. -/
def State.sourceErr (s : State) (p : Nat) (r : Restore) (im : Image) (bad : List Nat) : Bool :=
  if r.source = 2 then r.rd = 3 else if r.source = 3 then s.flashUnread p r im bad ≠ 0 else bad ≠ []

/-- The tensors that a restore from the partition's own memory names: those that any layer copies, and every working
weight. -/
def Image.named (im : Image) : List Nat :=
  (([1, 2, 3].map im.copied).flatten ++ (im.opts.map (·.working)).filter (· ≠ 0xFFFF)).eraseDups

/-- Whether the source can be read and its manifest is good: 0, or its TRIED code. -/
def State.openSource (s : State) (p : Nat) (r : Restore) (im : Image) (h : Nat) (copy : List Byte) (readErr : Bool) : Nat :=
  let me := (s.job p).memberIx
  if r.source = 1 then
    if !r.liveOk || s.stepNo p ≠ r.boundary then 2
    else if im.named.any (fun t => (im.digestRanges t (bankAt im (s.job p).live t)).any (fun x => s.poisoned x.1 x.2)) then 4
    else 0
  else
    let layer := r.source - 1
    if r.source = 2 && readErr then 4
    else if r.source = 4 && (s.obj (O.at O.STORE_TARGET p) = 0 || s.obj (O.at O.STORE_STATUS p) ≠ 1) then 2
    else if !slotServes h layer r.boundary me im.jobId then 2
    else if readErr then 4
    else
      let m := copy.take (im.manifestLen layer)
      if field m 96 32 ≠ s.obj (O.at O.IMAGE_DIGEST p) then 2
      else if !manifestOk im layer r.boundary me (recF h 48 4) m then 3
      else 0

/-- LIVE bits of a manifest as the bank of every BANKED tensor (Table 15.2). -/
def liveOf (im : Image) (m : List Byte) : Tab Nat :=
  let w := field m 256 (cdiv im.stage.runahead 8)
  ((im.pieces.filter (fun x => bit x.flags 2)).map (fun x => (x.logical, x.layer))).foldl
    (fun (t : Tab Nat) x => t.set x.1 (b2n (bit w (x.2 - im.stage.layerFirst)))) []

/-- Write a tensor's planes into a bank from their place in a copy (R441 step 3). -/
def State.putTensor (s : State) (im : Image) (t bank off : Nat) (copy : List Byte) : State :=
  ((im.digestRanges t bank).foldl (fun (a : State × Nat) x =>
    (a.1.writeMem x.1 ((copy.drop a.2).take x.2), a.2 + upTo' 64 x.2)) (s, off)).1

/-- Rebuild a working weight from its MASTER by the conversion of its recipe (R427). -/
def State.rebuild (s : State) (im : Image) (live : Tab Nat) (t : Nat) : State :=
  match im.opts.find? (fun e => e.working = t) with
  | none => s
  | some e =>
    let shape := im.shape e.master
    let v := im.view e.master (bankAt im live e.master)
    let cells : Array Cell := ((List.range (prod shape)).map (fun k => ({ val := s.val im v (ixOf shape k) } : Cell))).toArray
    s.applyWrites (((s.writeCells im (im.view t (bankAt im live t)) false (fun _ => none) cells).map (fun x => x.2.ws)).flatten)

/-- The directory that a source's bytes are compared with: tensor, DIGEST_INDEX and digest. -/
def State.sourceDir (s : State) (p : Nat) (r : Restore) (im : Image) (copy : List Byte) : List (Nat × Nat × Nat) :=
  if r.source = 1 then
    im.named.map (fun t => (t, im.digestIx t, shaNat (s.tensorBytes im t (bankAt im (s.job p).live t)).1))
  else
    (List.range ((im.copied (r.source - 1)).length + (im.rebuilt (r.source - 1)).length)).map (fun i =>
      let o := im.headLen + 64 * i
      (field copy o 2, field copy (o + 2) 2, field copy (o + 32) 32))

/-- Steps 2 to 4 of R441: the state with the source's tensors in their placements, and the bytes written. -/
def State.fromSource (s : State) (p : Nat) (r : Restore) (im : Image) (copy : List Byte) (live : Tab Nat) : State × Nat :=
  if r.source = 1 then (s.zeroForRestore im im.named, 0)
  else
    let layer := r.source - 1
    let s := s.zeroForRestore im []
    let s := (im.offsets layer).foldl (fun s x => s.putTensor im x.1 (bankAt im live x.1) x.2 copy) s
    let s := (im.rebuilt layer).foldl (fun s t => s.rebuild im live t) s
    let n := ((im.copied layer ++ im.rebuilt layer).map im.digestLen).foldl (· + ·) 0
    (s.add (O.at O.RESTORE_BYTES p) n, n)

/-- The first mismatch of the digests (R441 step 5): its TRIED code and DIGEST_INDEX. -/
def State.mismatch (s : State) (im : Image) (r : Restore) (live : Tab Nat) (dir : List (Nat × Nat × Nat)) : Option (Nat × Nat) :=
  let got := fun (t : Nat) => shaNat (s.tensorBytes im t (bankAt im live t)).1
  match dir.find? (fun e => got e.1 ≠ e.2.2) with
  | some e => some (5, e.2.1)
  | none =>
    match dir.find? (fun e => match r.refs.find e.2.1 with | some d => d ≠ got e.1 | none => false) with
    | some e => some (6, e.2.1)
    | none => none

/-! ### Setting the state -/

/-- The ring of a manifest section: its count, then entries of w bytes. -/
def ringOf (m : List Byte) (off w : Nat) : List Nat := (List.range (field m off 4)).map (fun i => field m (off + 64 + w * i) w)

/-- The partition's objects and rings take the manifest's values (R442). -/
def State.takeManifest (s : State) (p : Nat) (im : Image) (r : Restore) (m : List Byte) : State :=
  let a1 := 256 + upTo' 64 (cdiv im.stage.runahead 8)
  let a2 := a1 + upTo' 64 (20 * im.grist.length)
  let a3 := a2 + 2112
  let a4 := a3 + upTo' 64 (272 * im.slots.length)
  let s := [(O.STEP_NUMBER, field m 16 8), (O.OPT_T, field m 32 8), (O.GRAD_SHIFT, field m 48 4), (O.SKIP_RUN, field m 52 4),
    (O.CLEAN_RUN, field m 56 4), (O.CONSEC_SKIPS, field m 60 4)].foldl (fun s e => s.put (O.at e.1 p) e.2) s
  let keys := ((List.range im.grist.length).map (fun i => (field m (a1 + 20 * i) 4, field m (a1 + 20 * i + 4) 16))).foldl
    (fun (t : Tab Nat) e => t.set e.1 e.2) []
  let keys := r.keys.foldl (fun (t : Tab Nat) e => t.set e.1 e.2) keys
  let rings := (List.range im.slots.length).foldl (fun (t : Tab (List Nat)) i =>
    let o := a3 + 272 * i
    t.set (field m o 2) ((List.range (field m (o + 2) 1)).map (fun k => field m (o + 16 + 16 * k) 16))) []
  let lp := field m 64 16
  let cur := fld 0 r.boundary + fld 8 (field m 87 1) + fld 16 (field m 128 128)
  let j := s.job p
  let s := s.setJob p
    { j with image := some { im with grist := keys }, b1pow := field m 40 4, b2pow := field m 44 4, live := liveOf im m,
             lastParam := if lp = 0 then none else some { step := recF lp 0 8, lr := recF lp 8 4, wd := recF lp 12 4 },
             records := ringOf m a2 32, rings := rings,
             ckpt := { j.ckpt with map := ringOf m a4 48, tainted := false } }
  s.put (O.at O.RESTORED_CURSORS p) (if bit (field m 7 1) 0 then cur else fld 0 r.boundary)

/-- What a restore clears and begins afresh (R442). -/
def State.restoreClear (s : State) (p : Nat) (im : Image) (c : Nat) : State :=
  let s := ((s.clearBanks p).releaseXport p).syncInit p c
  let j := s.job p
  let s := (flows im.colls j.members j.memberIx (s.obj O.CHIP_NUMBER)).foldl (fun s f => s.openCtx p f.1 f.2 1) s
  let j := s.job p
  (s.setJob p
    { j with rows := [], sums := [], hops := [], norms := [], lastNorm := [], sentRound := 0, vetoes := [], lastVote := [],
             tagOps := 0, collTagged := [], voteOwed := [], finalStep := none, progFrom := 0, beatLost := false, stood := [], mbs := [], mbLate := [], stepCtrs := [], once := [], fired := [], params := j.params.filter (fun x => c ≤ x.step) }).put
    (O.at O.VOTE_STATE p) 1

/-- A source verifies (R442). -/
def State.restoreDone (s : State) (p : Nat) (im : Image) (r : Restore) (m : List Byte) (dir : List (Nat × Nat × Nat)) : State :=
  let absent := (((dir.map (fun e => e.2.1)).eraseDups).filter (fun i => (r.refs.find i).isNone)).length
  let rec_ := restoreRecord Rr.restored r.source (r.mark r.source 7).tried r.failed r.boundary r.bytes ((s.now - r.since) / 8000000) absent
  let s := (s.takeManifest p im r m).restoreClear p im r.boundary
  let j := s.job p
  let s := s.setJob p { j with ckpt := { j.ckpt with restore := none } }
  let s := (s.put (O.at O.RESTORE_STATE p) 2).put (O.at O.RESTORE_RECORD p) rec_
  (s.raise 0x1105 { part := p, pay := rec_, len := 32 }).restoreAnswer r.who Rr.restored

/-- A source fails (R441): one that was there raises SOURCE_REJECTED with its code. -/
def State.rejectSource (s : State) (p : Nat) (im : Image) (r : Restore) (code ix bytes : Nat) : State :=
  let s := if code = 2 then s else s.ckEvent 0x2107 p r.source code r.boundary
  s.restoreNext p im { (r.mark r.source code) with failed := if code = 2 then r.failed else ix, bytes := r.bytes + bytes }

/-- RESTORE_SOURCE_DONE (R439 to R442): the source being tried has been read. `header` and `copy` are what the store answered, and `bad`
lists the units of a flash slot that the device ECC gives up, or for the store the reads that failed (the PDUs are not modelled, log
entry 139). While READ_REQs to the partner are outstanding nothing is done yet. -/
def execRestoreSourceDone (part : Fin 4) (header : Nat) (copy : List Byte) (bad : List Nat) (s : State) : Outcome :=
  let p := part.val
  let j := s.job p
  match j.ckpt.restore, j.image with
  | some r, some im =>
    if r.source = 2 && r.rd = 1 then ok s
    else
    let (h, bs) := s.sourceSlot p r im header copy
    let readErr := s.sourceErr p r im bad
    let code := s.openSource p r im h bs readErr
    if code ≠ 0 then
      ok ((s.add O.FLASH_UNREADABLE_UNITS (s.flashUnread p r im bad)).rejectSource p im r code 0xFFFF 0)
    else
      let head := s.manifestHead p 0 r.boundary 0 (j.ckpt.cursors.find? (fun x => recF x 0 8 = r.boundary)) im
      let m := if r.source = 1 then head else bs
      let live := if r.source = 1 then j.live else liveOf im m
      let dir := s.sourceDir p r im bs
      let (t, n) := s.fromSource p r im bs live
      match t.mismatch im r live dir with
      | some (code, ix) => ok (t.rejectSource p im r code ix n)
      | none => ok (t.restoreDone p im { r with bytes := r.bytes + n } m dir)
  | _, _ => ok s

end Sys2Proof.Machine
end

