-- ==== Sys2Proof/Machine/Sec.lean ====
section
/-! DEFINITION. Sec.lean: firmware update, keys, random numbers, limited-write settings and return-to-vendor mode (R530 to
R540). -/

namespace Sys2Proof.Machine

/-! ### Sessions that end -/

/-- A requester uses the mailbox of port n. -/
def Who.isMbx (w : Who) (n : Nat) : Bool :=
  match w.path with
  | .mailbox m => m.val = n
  | _ => false

/-- Every session ends but the requester's (R534), or every one of them (R540): a mailbox's session 0 starts afresh. -/
def State.endSessions (s : State) (keep : Option Who) : State :=
  let isKept := fun (n : Nat) => match keep with
    | some w => (match w.path with | .mailbox _ => false | _ => w.session = n)
    | none => false
  let mbxKept := fun (n : Nat) => match keep with | some w => Who.isMbx w n | none => false
  { s with mgmt.sessions := s.mgmt.sessions.drop (fun n => !isKept n), mgmt.mbx := s.mgmt.mbx.drop (fun n => !mbxKept n) }

/-! ### Firmware -/

/-- A firmware slot's images verify (R530): their signatures against a vendor root slot that is not revoked, and their version
against the floor. -/
def State.fwGood (s : State) (x : FwSlot) : Bool :=
  x.valid && !bit (s.obj O.VENDOR_KEY_REVOKED) x.keySlot && s.obj O.SECURITY_VERSION_FLOOR ≤ x.version

/-- FW_UPDATE_OFFSET (R532). -/
def execFwUpdateOffset (who : Who) (v : Nat) (s : State) : Outcome :=
  rowWrite s who O.FW_UPDATE_OFFSET v fun s => (s.put O.FW_UPDATE_OFFSET v, St.ok)

/-- The end of the staged firmware bytes. -/
def State.stageEnd (s : State) : Nat := (s.sec.stage.keys.foldl (fun m k => max m (k + 1)) 0) * 1024

/-- A chunk is staged (R532): at a multiple of 1,024, at increasing offsets; offset 0 begins a package anew. -/
def State.fwChunk (s : State) (v : Nat) : State × Nat :=
  let off := s.obj O.FW_UPDATE_OFFSET
  if off % 1024 ≠ 0 || (off ≠ 0 && off < s.stageEnd) || 2 ^ 32 ≤ off + 1024 then (s, St.refused)
  else
    let t : Tab Nat := if off = 0 then [] else s.sec.stage
    ({ s with sec.stage := t.set (off / 1024) v }.put O.FW_UPDATE_OFFSET (off + 1024), St.ok)

/-- FW_UPDATE_CHUNK (R532). -/
def execFwUpdateChunk (who : Who) (v : Nat) (s : State) : Outcome := rowWrite s who O.FW_UPDATE_CHUNK v (·.fwChunk v)

/-- The staged bytes. -/
def State.stagedFw (s : State) : List Byte := (s.sec.stage.vals.map (toLE 1024)).flatten

/-- The result of a commit (R532): 3 INCOMPLETE, 1 SIGNATURE, 2 VERSION, 0 ACCEPTED. -/
def State.fwResult (s : State) : Nat :=
  let b := s.stagedFw
  if s.sec.stage.length * 1024 ≠ s.stageEnd || !Config.fwComplete b then 3
  else if !Config.fwSigned b || bit (s.obj O.VENDOR_KEY_REVOKED) (Config.fwKeySlot b % 4) then 1
  else if Config.fwVersion b % 2 ^ 32 < s.obj O.SECURITY_VERSION_FLOOR then 2
  else 0

/-- The staged package is committed to the inactive slot (R532), or refused with both slots unchanged. -/
def State.fwCommit (s : State) (who : Who) : State × Nat :=
  let r := s.fwResult
  let s := s.put O.FW_UPDATE_RESULT r
  if r ≠ 0 then (s, St.refused)
  else
    let b := s.stagedFw
    let x : FwSlot := { version := Config.fwVersion b % 2 ^ 32, keySlot := Config.fwKeySlot b % 4, valid := true }
    let a := s.obj O.FW_ACTIVE_SLOT
    let s := s.audit who 8 O.FW_UPDATE_COMMIT 0xFF a (1 - a)
    let s := if a = 0 then { s with sec.slotB := x } else { s with sec.slotA := x }
    ((s.put O.FW_ACTIVE_SLOT (1 - a)).raise 0x1087, St.ok)

/-- FW_UPDATE_COMMIT (R532). -/
def execFwUpdateCommit (who : Who) (v : Nat) (s : State) : Outcome := rowWrite s who O.FW_UPDATE_COMMIT v (·.fwCommit who)

/-! ### Keys -/

/-- The key-encryption key (R534): HMAC-SHA-256 of the owner key over the ASCII bytes "svkek". -/
def State.kek (s : State) : List Nat :=
  (Sha.hmac (toLE 32 s.sec.ownerKey) [0x73#8, 0x76#8, 0x6b#8, 0x65#8, 0x6b#8]).map (·.toNat)

/-- Unwrap n wrapped bytes under the KEK (RFC 3394). -/
def State.unwrapKey (s : State) (n v : Nat) : Option Nat :=
  (Aes.unwrap s.kek ((toLE n v).map (·.toNat))).map (fun bs => ofLE (bs.map (BitVec.ofNat 8)))

/-- OWNER_KEY_INIT takes the first owner key (R534), through a host mailbox only. -/
def State.ownerInit (s : State) (who : Who) (v : Nat) : State × Nat :=
  let mbx := match who.path with | .mailbox _ => true | _ => false
  if !mbx || s.obj O.OWNER_KEY_STATE ≠ 0 || s.obj O.RTV_MODE = 1 then (s, St.refused)
  else
    let s := s.audit who 4 O.OWNER_KEY_INIT 0xFF 0 0
    (({ s with sec.ownerKey := v }.put O.OWNER_KEY_STATE 1).raise 0x108C, St.ok)

/-- OWNER_KEY_INIT (R534). -/
def execOwnerKeyInit (who : Who) (v : Nat) (s : State) : Outcome := rowWrite s who O.OWNER_KEY_INIT v (·.ownerInit who v)

/-- OWNER_KEY_NEXT takes a wrapped key (R534): every other session ends. -/
def State.ownerNext (s : State) (who : Who) (v : Nat) : State × Nat :=
  match s.unwrapKey 40 v with
  | none => (s, St.refused)
  | some k =>
    let s := s.audit who 4 O.OWNER_KEY_NEXT 0xFF 0 0
    (({ s with sec.ownerKey := k }.endSessions (some who)).raise 0x108C, St.ok)

/-- OWNER_KEY_NEXT (R534). -/
def execOwnerKeyNext (who : Who) (v : Nat) (s : State) : Outcome := rowWrite s who O.OWNER_KEY_NEXT v (·.ownerNext who v)

/-- The first 16 bytes of SHA-256 of a public key, 0 for an empty slot (Table 19.5). -/
def keyHash (v : Nat) : Nat := if v = 0 then 0 else ofLE ((Sha.sha256 (toLE 97 v)).take 16)

/-- IMAGE_KEY takes a value in a slot (R533); all zero empties it. -/
def State.imageKey (s : State) (who : Who) (slot v : Nat) : State × Nat :=
  let old := s.sec.imageKeys.get slot 0
  let s := s.audit who 5 O.IMAGE_KEY 0xFF (keyHash old) (keyHash v)
  let s := { s with sec.imageKeys := if v = 0 then s.sec.imageKeys.del slot else s.sec.imageKeys.set slot v }
  (if old = v then s else s.storeInst O.IMAGE_KEY (slot + 1) v, St.ok)

/-- IMAGE_KEY_WRITE (R533). -/
def execImageKeyWrite (who : Who) (slot : Fin 8) (v : Nat) (s : State) : Outcome :=
  rowWrite s who O.IMAGE_KEY v (·.imageKey who slot.val v)

/-- LINK_KEY takes a wrapped key block for a link, direction and phase (R322, R535): a transmit key of the phase not in use
toggles the transmitter at its next data flit; one of the present phase replaces its key, and the flit counter of that direction goes on
at its SEQ (R321, log entry 120). -/
def State.linkKeyPut (s : State) (who : Who) (sel v : Nat) : State × Nat :=
  let n := sel / 4
  if !s.linkPresent n || (s.link n).express then (s, St.refused)
  else
    match s.unwrapKey 48 v with
    | none => (s, St.refused)
    | some b =>
      if recF b 36 4 ≠ 0 then (s, St.refused)
      else
        let s := s.audit who 6 O.LINK_KEY 0xFF 0 0
        let s := { s with sec.linkKeys := s.sec.linkKeys.set sel (b % 256 ^ 36) }
        let l := s.link n
        if sel / 2 % 2 = 1 then
          (if sel % 2 = l.rxPhase % 2 then s.setLink n { l with rxCtr := l.rxNext } else s, St.ok)
        else
          let s := { s with sec.keyNeeded := s.sec.keyNeeded.filter (· ≠ n) }
          if sel % 2 = l.txPhase % 2 then (s.setLink n { l with txCtr := l.txNext, keyStop := false }, St.ok)
          else (s.togglePhase n, St.ok)

/-- LINK_KEY_WRITE (R535): `sel` is laid out as LINK_KEY_SELECT. -/
def execLinkKeyWrite (who : Who) (sel : Fin 128) (v : Nat) (s : State) : Outcome :=
  rowWrite s who O.LINK_KEY v (·.linkKeyPut who sel.val v)

/-- VENDOR_KEY_REVOKED takes bits (R537). -/
def State.revoke (s : State) (who : Who) (v : Nat) : State × Nat :=
  let old := s.obj O.VENDOR_KEY_REVOKED
  if old &&& v ≠ old || v % 16 = 15 || !s.sec.slotA.valid || !s.sec.slotB.valid || bit v s.sec.slotA.keySlot || bit v s.sec.slotB.keySlot
  then (s, St.refused)
  else ((s.audit who 7 O.VENDOR_KEY_REVOKED 0xFF old v).put O.VENDOR_KEY_REVOKED v, St.ok)

/-- VENDOR_KEY_REVOKED (R537). -/
def execVendorKeyRevoked (who : Who) (v : Nat) (s : State) : Outcome := rowWrite s who O.VENDOR_KEY_REVOKED v (·.revoke who v)

/-- RNG_HEALTH_FAIL (R536). -/
def execRngHealthFail (s : State) : Outcome := ok ((s.put O.SC_STATE 1).raise 0x308A)

/-- RNG_RESTART_TEST (R536): a stopped generator attempts its restart test. -/
def execRngRestartTest (pass : Bool) (s : State) : Outcome := if pass then ok (s.put O.SC_STATE 0) else ok s

/-! ### Limited-write settings -/

/-- The count of changes left beside a limited setting (Tables 19.4 and 19.6). -/
def leftKey (k : Nat) : Nat := k + 4

/-- The value a limited setting has once the writes under way are done. -/
def State.limitedNow (s : State) (k : Nat) : Nat :=
  match s.sec.intents.reverse.find? (·.key = k) with
  | some x => x.val
  | none => s.obj k

/-- RTV_MODE may be entered (R540). -/
def State.rtvOpen (s : State) : Bool := s.allEmpty && s.noRestore && s.obj O.CHIP_STATE ≠ 1

/-- Return-to-vendor mode is entered (R540): keys with their stored copies, checkpoint areas and HBM are zeroed and every session
ends. -/
def State.enterRtv (s : State) (who : Who) : State :=
  let s := s.audit who 13 O.RTV_MODE 0 0 1
  let s := { s with sec.ownerKey := 0, sec.imageKeys := [], sec.linkKeys := [], flashCk := [], beat.ring := [],
                    mgmt.stored := s.mgmt.stored.drop (fun k => k % 2 ^ 24 = O.IMAGE_KEY),
                    mgmt.persistQ := s.mgmt.persistQ.map (fun (j : PersistJob) => if j.key = O.IMAGE_KEY then { j with val := 0 } else j),
                    jobs := s.jobs.map (fun (e : Nat × Job) => (e.1, { e.2 with records := [] })) }
  let s := (s.zeroMem 0 (2 ^ 48)).put O.OWNER_KEY_STATE 0
  (s.endSessions none).raise 0x308E

/-- A limited setting's new value is stored and its done entry written (R539 steps 4 and 5); a value that acts elsewhere acts
from now on. -/
def State.finishLimited (s : State) (x : LimitIntent) (who : Who) : State :=
  let left := s.obj (leftKey x.key)
  let s := (s.audit who 2 x.key left (s.obj x.key) x.val).put x.key x.val
  let s := if x.key = O.RTV_MODE && x.val = 1 then s.enterRtv who else s
  let s := s.raise 0x1088
  if left = 2 then s.raise 0x2089 else s

/-- A write to a limited setting (R539, Table 19.4): checks, intent entry, fuse, then the stored value. Within a dictionary
message the value is stored at its turn in the flash stage. -/
def State.limitedWrite (s : State) (who : Who) (k v : Nat) : State × Nat :=
  let now := s.limitedNow k
  let bad :=
    if k = O.SECURITY_VERSION_FLOOR then v < now || min s.sec.slotA.version s.sec.slotB.version < v
    else if k = O.RTV_MODE then v ≠ 1 || !s.rtvOpen
    else false
  if v = now then (s, St.ok)
  else if bad then (s, St.refused)
  else if s.obj (leftKey k) = 0 then (s, St.limitSpent)
  else if !s.auditRoom 1 then (s, St.refused)
  else
    let left := s.obj (leftKey k) - 1
    let s := (s.audit who 1 k left now v).put (leftKey k) left
    let x : LimitIntent := { key := k, val := v, who := who }
    match s.mgmt.defer with
    | none => (s.finishLimited x who, St.ok)
    | some _ => ({ s with sec.intents := s.sec.intents ++ [x] }.storeInst k 0 v, St.ok)

/-- POWER_CEILING_SET_W (R539). -/
def execPowerCeilingSetW (who : Who) (v : Nat) (s : State) : Outcome :=
  rowWrite s who O.POWER_CEILING_SET_W v (·.limitedWrite who O.POWER_CEILING_SET_W v)

/-- PARTITION_LAYOUT_LOCK (R539). -/
def execPartitionLayoutLock (who : Who) (v : Nat) (s : State) : Outcome :=
  rowWrite s who O.PARTITION_LAYOUT_LOCK v (·.limitedWrite who O.PARTITION_LAYOUT_LOCK v)

/-- SECURITY_VERSION_FLOOR (R539). -/
def execSecurityVersionFloor (who : Who) (v : Nat) (s : State) : Outcome :=
  rowWrite s who O.SECURITY_VERSION_FLOOR v (·.limitedWrite who O.SECURITY_VERSION_FLOOR v)

/-- RTV_MODE (R540). -/
def execRtvMode (who : Who) (v : Nat) (s : State) : Outcome := rowWrite s who O.RTV_MODE v (·.limitedWrite who O.RTV_MODE v)

/-- A limited setting's stored value is in flash: the oldest write of it under way is done. -/
def State.limitedStored (s : State) (k : Nat) : State :=
  match s.sec.intents.find? (·.key = k) with
  | none => s
  | some x => { s with sec.intents := s.sec.intents.erase x }.finishLimited x x.who

/-- The MP finishes at its start what it had begun (R539): the fuse counts show the burns, so the values are stored and done
entries written with PATH 7. -/
def State.finishIntents (s : State) : State :=
  s.sec.intents.foldl (fun (s : State) x => s.finishLimited x { x.who with path := .internal }) { s with sec.intents := [] }

end Sys2Proof.Machine
end

