-- ==== Sys2Proof/Machine/HostPort.lean ====
section
/-! DEFINITION. HostPort.lean: queue pairs, descriptors, interrupts and resets of the host ports (R480 to R490), and the patrol
scrub (R293 to R295). -/

namespace Sys2Proof.Machine

/-! ### Queue pairs -/

/-- The fields of a queue pair are good (R480, Table 17.5). -/
def QPair.good (x : QPair) : Bool :=
  x.sqBase % 64 = 0 && x.cqBase % 64 = 0 && 2 ≤ x.sqSize && x.sqSize ≤ 4096 && 2 ≤ x.cqSize && x.cqSize ≤ 4096 &&
    x.vec < 2048 && x.resv = 0

/-- A pair that is being disabled is DISABLED once nothing it has fetched is left (R480). -/
def State.settleQp (s : State) (n q : Nat) : State :=
  let x := s.qp n q
  if !x.enable && x.waiting.isEmpty && x.running.isEmpty && x.done.isEmpty then s.setQp n q { x with state := 0 } else s

/-- CONTROL of a pair is written (R480). -/
def State.queueControl (s : State) (n q v : Nat) : State :=
  let x := s.qp n q
  if bit v 0 then
    if 2 ≤ v || !x.good then (s.setQp n q { x with enable := true }).queueError n q
    else
      let s := s.setQp n q
        { x with enable := true, state := 1, sqHead := 0, sqTail := 0, cqHead := 0, cqTail := 0, phase := true }
      State.drainCq n q x.held.length s
  else (s.setQp n q { x with enable := false }).settleQp n q

/-- QUEUE_ENABLE_WRITE (R480). -/
def execQueueEnableWrite (port : Fin 4) (q : Fin 64) (v : Nat) (s : State) : Outcome := ok (s.queueControl port.val q.val v)

/-- An SQ tail doorbell (R480, R481): what it makes the module fetch comes with the descriptor commands. -/
def State.sqBell (s : State) (n q v : Nat) : State :=
  let x := s.qp n q
  if x.state ≠ 1 || x.sqSize ≤ v then s.queueError n q else s.setQp n q { x with sqTail := v }

/-- SQ_DOORBELL (R480): [15:0] of what is written. -/
def execSqDoorbell (port : Fin 4) (q : Fin 64) (v : Nat) (s : State) : Outcome := ok (s.sqBell port.val q.val (v % 65536))

/-- A CQ head doorbell (R480, R481). -/
def State.cqBell (s : State) (n q v : Nat) : State :=
  let x := s.qp n q
  if x.state ≠ 1 || x.cqSize ≤ v then s.queueError n q
  else State.drainCq n q x.held.length (s.setQp n q { x with cqHead := v })

/-- CQ_DOORBELL (R481). -/
def execCqDoorbell (port : Fin 4) (q : Fin 64) (v : Nat) (s : State) : Outcome := ok (s.cqBell port.val q.val (v % 65536))

/-! ### Descriptors -/

/-- Completion statuses (Table 17.8): MALFORMED. -/
abbrev Ds.malformed : Nat := 0x40
/-- WRONG_STATE. -/
abbrev Ds.wrongState : Nat := 0x41
/-- NOT_PLAIN. -/
abbrev Ds.notPlain : Nat := 0x42
/-- HANDLE. -/
abbrev Ds.handle : Nat := 0x44

/-- The descriptor opcodes (Table 17.7). -/
def descOps : List Nat := [0x01, 0x02, 0x03, 0x10, 0x11, 0x12, 0x20, 0x21, 0x30, 0x31]

/-- Bytes of a descriptor that its opcode uses, from byte 8 on, as (offset, length); the others are reserved. -/
def descUsed (op : Nat) : List (Nat × Nat) :=
  match op with
  | 0x01 => [(8, 24)]
  | 0x02 => [(8, 16)]
  | 0x03 => [(8, 4)]
  | 0x10 => [(8, 8)]
  | 0x12 => [(8, 8)]
  | 0x20 => [(8, 36)]
  | 0x21 => [(8, 16)]
  | 0x30 => [(8, 4), (16, 16)]
  | 0x31 => [(8, 4)]
  | _ => []

/-- A reserved field of a descriptor is set (R483). -/
def descResv (r : Nat) : Bool :=
  let used := (descUsed (recF r 0 1)).foldl (fun a u => a + fld u.1 (recF r u.1 u.2)) 0
  2 ≤ recF r 1 1 || recF r 4 4 ≠ 0 || r / 256 ^ 8 % 256 ^ 56 * 256 ^ 8 ≠ used

/-- A global address is remote (R271). -/
def State.isRemote (s : State) (a : Nat) : Bool := !s.isLocal a

/-- A descriptor breaks a range of Table 17.7 or 12.10, or R484. -/
def State.descRange (s : State) (r : Nat) : Bool :=
  match recF r 0 1 with
  | 0x01 =>
    let k := recF r 28 1
    let srcR := !bit k 0 && s.isRemote (recF r 8 8)
    let dstR := !bit k 1 && s.isRemote (recF r 16 8)
    let c := recF r 29 1
    4 ≤ k || k = 3 || (bit k 0 && dstR) || (bit k 1 && srcR) || (srcR && dstR) || recF r 24 4 = 0 || recF r 24 4 % 64 ≠ 0 ||
      (if srcR || dstR then c < 2 || 7 < c else c ≠ 0)
  | 0x02 =>
    let a := recF r 10 2
    3 ≤ bits a 15 14 || 2 ≤ bits a 13 12 || (if bits a 13 12 = 1 then 2048 ≤ bits a 11 0 else bits a 11 0 ≠ 0) || recF r 12 4 = 0
  | 0x03 => recF r 10 2 = 0
  | 0x20 => recF r 40 4 % 64 ≠ 0
  | 0x30 => recF r 8 4 = 0 || recF r 24 8 = 0
  | _ => false

/-- The transfer engine copies n bytes from one key to another, poison with them (R292). -/
def State.copyBytes (s : State) (p src dst n : Nat) : State :=
  let bad := (s.poison.filter (fun u => src ≤ u && u < src + n)).map (fun u => u - src + dst)
  let bs := s.readMem src n
  let s := (s.engineRead p src n).writeMem dst bs
  bad.foldl State.poisonUnit s

/-- The access check of one local side of a transfer (R275, R281, R484). -/
def State.sideCheck (s : State) (p addr n : Nat) (write : Bool) : Nat :=
  let st := s.access (.transfer p) addr n write false
  if st = Acc.ok && write && s.touchesReserve p (addr % 2 ^ 50) n then Acc.notOwner else st

/-- Post the object of a finished transfer (R286, R346) and end its descriptor. -/
def State.transferDone (s : State) (p post n : Nat) (who : Nat × Nat × Nat) : State :=
  let s := if post = 0xFFFF then s else (s.arrivePlain p post 1).1
  (s.finishDesc who 0 n).afterWork p

/-- TRANSFER runs (R484): `data` is what the port read from host memory. -/
def State.descTransfer (s : State) (p : Nat) (who : Nat × Nat × Nat) (r : Nat) (data : List Byte) : State :=
  let k := recF r 28 1
  let src := recF r 8 8
  let dst := recF r 16 8
  let n := recF r 24 4
  let post := recF r 30 2
  let srcHere := !bit k 0 && s.isLocal src
  let dstHere := !bit k 1 && s.isLocal dst
  let st1 := if srcHere then s.sideCheck p src n false else 0
  let st2 := if dstHere then s.sideCheck p dst n true else 0
  let toHost := bit k 1 && s.poisoned (src % 2 ^ 50) n
  if post ≠ 0xFFFF && !s.plainObj p post then s.finishDesc who Ds.notPlain 0
  else if st1 ≠ 0 then (s.refuse (.transfer p) src st1).finishDesc who st1 0
  else if st2 ≠ 0 then (s.refuse (.transfer p) dst st2).finishDesc who st2 0
  else if toHost then (s.refuse (.transfer p) src Acc.poisoned).finishDesc who Acc.poisoned 0
  else if srcHere && dstHere then (s.copyBytes p (src % 2 ^ 50) (dst % 2 ^ 50) n).transferDone p post n who
  else if bit k 0 then
    ((s.writeMem (dst % 2 ^ 50) (data.take n)).add (O.at O.HOST_BYTES_WRITTEN who.1) n).transferDone p post n who
  else if bit k 1 then
    (((s.engineRead p (src % 2 ^ 50) n).send (.hostWrite (fin4 who.1) dst (s.readMem (src % 2 ^ 50) n))).add
      (O.at O.HOST_BYTES_READ who.1) n).transferDone p post n who
  else if s.obj O.CHIP_STATE ≠ 1 then (s.refuse (.transfer p) (if srcHere then dst else src) Acc.chip).finishDesc who Acc.chip 0
  else
    let far := if srcHere then dst else src
    s.startReq { owner := who, post := post, part := p, chip := far / 2 ^ 50, cls := recF r 29 1, isRead := !srcHere,
                 loc := (if srcHere then src else dst) % 2 ^ 50, rem := far, total := n }

/-- SYNC_ARM runs (R485). -/
def State.descSyncArm (s : State) (p : Nat) (who : Nat × Nat × Nat) (r : Nat) : State :=
  let ix := recF r 8 2
  if !s.plainObj p ix then s.finishDesc who Ds.notPlain 0
  else
    let t := recF r 16 8
    let x : SyncObj :=
      { target := recF r 12 4, action := recF r 10 2, state := Sy.armed, timeoutKind := if t = 0 then 0 else 2, timeout := t,
        deadlineSet := t ≠ 0, deadline := if t = 0 then 0 else s.refNs + t, owner := p }
    (s.setSync (s.syncBase p + ix) x).finishDesc who 0 0

/-- SYNC_POST runs (R485). -/
def State.descSyncPost (s : State) (p : Nat) (who : Nat × Nat × Nat) (r : Nat) : State :=
  let ix := recF r 8 2
  if !s.plainObj p ix then s.finishDesc who Ds.notPlain 0
  else ((s.arrivePlain p ix (recF r 10 2)).1).finishDesc who 0 0

/-- The check of a table that a load request names: in an HBM stack of the partition, 64-byte aligned (Table 8.15). -/
def State.stagedCheck (s : State) (p addr n : Nat) : Nat :=
  let st := s.access (.transfer p) addr (max 64 (cdiv n 64 * 64)) false false
  if st = Acc.ok && 2 ^ 48 ≤ addr % 2 ^ 50 then Acc.unmapped else st

/-- LOAD runs (R233): the parameter block, the image and the member table are read. -/
def State.descLoad (s : State) (p : Nat) (who : Nat × Nat × Nat) (r : Nat) : State :=
  let a := recF r 8 8
  let st := s.access (.host who.1 p) a 32 false false
  if st ≠ 0 then (s.refuse (.host who.1 p) a st).finishDesc who st 0
  else
    let b := s.readLE (a % 2 ^ 50) 32
    let img := recF b 0 8
    let tab := recF b 16 8
    let st1 := s.stagedCheck p img (recF b 8 4)
    let st2 := s.stagedCheck p tab (4 * recF b 14 2)
    if recF b 24 8 ≠ 0 then s.finishDesc who Ds.malformed 0
    else if st1 ≠ 0 then (s.refuse (.transfer p) img st1).finishDesc who st1 0
    else if st2 ≠ 0 then (s.refuse (.transfer p) tab st2).finishDesc who st2 0
    else s.loadRequest p b (s.readLE (img % 2 ^ 50) (recF b 8 4)) (s.readLE (tab % 2 ^ 50) (4 * recF b 14 2)) who

/-- MICROBATCH runs (R486): the bytes are written before the record is offered. -/
def State.descMicrobatch (s : State) (p : Nat) (who : Nat × Nat × Nat) (r : Nat) (data : List Byte) : State :=
  let n := recF r 40 4
  let dst := recF r 32 8
  match (s.job p).image with
  | none => s.finishDesc who Ds.wrongState 0
  | some im =>
    if im.stage.index ≠ 0 then s.finishDesc who Ds.wrongState 0
    else
      let st := if n = 0 then 0 else s.sideCheck p dst n true
      if st ≠ 0 then (s.refuse (.transfer p) dst st).finishDesc who st 0
      else
        let s := if n = 0 then s else (s.writeMem (dst % 2 ^ 50) (data.take n)).add (O.at O.HOST_BYTES_WRITTEN who.1) n
        let t := s.takeMb p (recF r 8 16)
        if t.2 then (t.1.finishDesc who 0 0).afterWork p else t.1.finishDesc who Ds.malformed 0

/-- STEP_PARAM runs (R197, R486). -/
def State.descStepParam (s : State) (p : Nat) (who : Nat × Nat × Nat) (r : Nat) : State :=
  if s.imageState p ≠ IS.loaded && s.imageState p ≠ IS.running then s.finishDesc who Ds.wrongState 0
  else
    let t := s.stepParam p (recF r 8 16)
    if t.2 = St.ok then t.1.finishDesc who 0 0 else s.finishDesc who Ds.malformed 0

/-- Two block ranges overlap. -/
def overlap (a n b m : Nat) : Bool := a < b + m && b < a + n

/-- OFFLOAD_REGISTER runs (R487). -/
def State.descRegister (s : State) (p : Nat) (who : Nat × Nat × Nat) (r : Nat) : State :=
  let h := recF r 8 4
  let a := recF r 16 8
  let n := recF r 24 8
  let hs := s.host.offload.get p []
  let t := s.obj (O.at O.STORE_TARGET p)
  if hs.any (·.handle = h) || 64 ≤ hs.length || overlap a n (recF t 24 8) (recF t 32 8) || hs.any (fun x => overlap a n x.start x.count)
  then s.finishDesc who Ds.handle 0
  else
    let x : Offload := { handle := h, start := a, count := n, releasing := none }
    ({ s with host.offload := s.host.offload.set p (hs ++ [x]) }).finishDesc who 0 0

/-- OFFLOAD_RELEASE runs (R487): it completes once no transfer uses the handle. -/
def State.descRelease (s : State) (p : Nat) (who : Nat × Nat × Nat) (r : Nat) : State :=
  let h := recF r 8 4
  let hs := s.host.offload.get p []
  if !hs.any (fun x => x.handle = h && x.releasing.isNone) then s.finishDesc who Ds.handle 0
  else
    let hs := hs.map (fun (x : Offload) => if x.handle = h then { x with releasing := some who } else x)
    ({ s with host.offload := s.host.offload.set p hs }).offloadDone p

/-- A descriptor starts (R483). -/
def State.runDesc (s : State) (n q : Nat) (d : Desc) : State :=
  let x := s.qp n q
  let r := d.raw
  let who := (n, q, d.seq)
  let s := s.setQp n q { x with running := x.running ++ [(d.seq, recF r 2 2, recF r 0 1)] }
  if !descOps.contains (recF r 0 1) || descResv r || s.descRange r then s.finishDesc who Ds.malformed 0
  else
    match s.portPart n with
    | none => s.finishDesc who Ds.wrongState 0
    | some p =>
      if s.obj O.CHIP_STATE = 2 && recF r 0 1 ≠ 0x10 then s.finishDesc who Ds.wrongState 0
      else
        match recF r 0 1 with
        | 0x01 => s.descTransfer p who r d.data
        | 0x02 => s.descSyncArm p who r
        | 0x03 => s.descSyncPost p who r
        | 0x10 => s.descLoad p who r
        | 0x11 => s.requestUnload p (some who)
        | 0x12 => (s.restoreStart p (recF r 8 8) (some who)).1
        | 0x20 => s.descMicrobatch p who r d.data
        | 0x21 => s.descStepParam p who r
        | 0x30 => s.descRegister p who r
        | _ => s.descRelease p who r

/-- MICROBATCH and STEP_PARAM are accepted in submission order (R482). -/
def Desc.ordered (d : Desc) : Bool := recF d.raw 0 1 = 0x20 || recF d.raw 0 1 = 0x21

/-- A fetched descriptor of a queue pair may start (R482): a FENCE waits for every earlier one, and MICROBATCH and STEP_PARAM
keep their order. -/
def QPair.ready (x : QPair) (d : Desc) : Bool :=
  (!bit (recF d.raw 1 1) 0 ||
    (!x.waiting.any (·.seq < d.seq) && !x.running.any (·.1 < d.seq) && !x.done.any (·.seq < d.seq))) &&
  (!d.ordered || !x.waiting.any (fun e => e.seq < d.seq && e.ordered))

/-- A descriptor waits while memory that it names is being zeroed (R279): a local side of a TRANSFER, the destination of a
MICROBATCH, or what a LOAD reads; and while it would write what a checkpoint has still to read (R424). -/
def State.descHeld (s : State) (n : Nat) (d : Desc) : Bool :=
  let r := d.raw
  let ck := fun (a n' : Nat) => match s.portPart n with | some p => s.ckTouches p (a % 2 ^ 50) n' | none => false
  let at_ := fun (a n : Nat) => s.beingZeroed (a % 2 ^ 50) n
  s.obj O.CHIP_STATE ≠ 2 &&
    match recF r 0 1 with
    | 0x01 =>
      let k := recF r 28 1
      let n := recF r 24 4
      (!bit k 0 && s.isLocal (recF r 8 8) && at_ (recF r 8 8) n) || (!bit k 1 && s.isLocal (recF r 16 8) && (at_ (recF r 16 8) n || ck (recF r 16 8) n))
    | 0x10 =>
      let a := recF r 8 8
      let b := s.readLE (a % 2 ^ 50) 32
      at_ a 32 || at_ (recF b 0 8) (recF b 8 4) || at_ (recF b 16 8) (4 * recF b 14 2)
    | 0x20 => recF r 40 4 ≠ 0 && (at_ (recF r 32 8) (recF r 40 4) || ck (recF r 32 8) (recF r 40 4))
    | _ => false

/-- Start the waiting descriptors that may start, oldest first. -/
def State.startWaiting (n q : Nat) : Nat → State → State
  | 0, s => s
  | f + 1, s =>
    let x := s.qp n q
    match x.waiting.find? (fun d => x.ready d && !s.descHeld n d) with
    | none => s
    | some d => State.startWaiting n q f ((s.setQp n q { x with waiting := x.waiting.erase d }).runDesc n q d)

/-- A descriptor is fetched (R481): the pair fetches while it is ENABLED, has entries, holds no record, and its CQ is not full. -/
def State.fetchDesc (s : State) (n q op raw : Nat) (data : List Byte) : State :=
  let x := s.qp n q
  let is := recF raw 0 1
  if x.state ≠ 1 || !x.enable || x.sqHead = x.sqTail || !x.held.isEmpty || x.full || (is ≠ op && descOps.contains is) then s
  else
    let d : Desc := { seq := x.seqNext, raw := raw, data := data }
    let s := s.setQp n q { x with sqHead := (x.sqHead + 1) % max 1 x.sqSize, seqNext := x.seqNext + 1, waiting := x.waiting ++ [d] }
    State.startWaiting n q (x.waiting.length + 1) s

/-- DESC_TRANSFER (R484): a TRANSFER descriptor is fetched; `data` is the host memory that it names as its source. -/
def execDescTransfer (port : Fin 4) (q : Fin 64) (raw : Nat) (data : List Byte) (s : State) : Outcome :=
  ok (s.fetchDesc port.val q.val 0x01 raw data)

/-- DESC_SYNC_ARM (R485). -/
def execDescSyncArm (port : Fin 4) (q : Fin 64) (raw : Nat) (s : State) : Outcome := ok (s.fetchDesc port.val q.val 0x02 raw [])

/-- DESC_SYNC_POST (R485). -/
def execDescSyncPost (port : Fin 4) (q : Fin 64) (raw : Nat) (s : State) : Outcome := ok (s.fetchDesc port.val q.val 0x03 raw [])

/-- DESC_LOAD (R233). -/
def execDescLoad (port : Fin 4) (q : Fin 64) (raw : Nat) (s : State) : Outcome := ok (s.fetchDesc port.val q.val 0x10 raw [])

/-- DESC_UNLOAD (R235). -/
def execDescUnload (port : Fin 4) (q : Fin 64) (raw : Nat) (s : State) : Outcome := ok (s.fetchDesc port.val q.val 0x11 raw [])

/-- DESC_RESTORE (R438). -/
def execDescRestore (port : Fin 4) (q : Fin 64) (raw : Nat) (s : State) : Outcome := ok (s.fetchDesc port.val q.val 0x12 raw [])

/-- DESC_MICROBATCH (R486): `data` is the host memory that it names. -/
def execDescMicrobatch (port : Fin 4) (q : Fin 64) (raw : Nat) (data : List Byte) (s : State) : Outcome :=
  ok (s.fetchDesc port.val q.val 0x20 raw data)

/-- DESC_STEP_PARAM (R197). -/
def execDescStepParam (port : Fin 4) (q : Fin 64) (raw : Nat) (s : State) : Outcome := ok (s.fetchDesc port.val q.val 0x21 raw [])

/-- DESC_OFFLOAD_REGISTER (R487). -/
def execDescOffloadRegister (port : Fin 4) (q : Fin 64) (raw : Nat) (s : State) : Outcome := ok (s.fetchDesc port.val q.val 0x30 raw [])

/-- DESC_OFFLOAD_RELEASE (R487). -/
def execDescOffloadRelease (port : Fin 4) (q : Fin 64) (raw : Nat) (s : State) : Outcome := ok (s.fetchDesc port.val q.val 0x31 raw [])

/-- The waiting descriptors of every queue pair that may start do, in port and pair order. -/
def State.startAllWaiting (s : State) : State :=
  [0, 1, 2, 3].foldl (fun s n =>
    ((s.port n).qs.map (·.1)).foldl (fun s q => (State.startWaiting n q (s.qp n q).waiting.length s).settleQp n q) s) s

/-- CKPT_HOLD_RESUME (R424): what waited for checkpoint reads goes on, descriptors among it; `cycles` is how long it waited. -/
def execCkptHoldResume (part : Fin 4) (cycles : Nat) (s : State) : Outcome :=
  let p := part.val
  ok ((((s.add (O.at O.CKPT_HOLD_WAIT_CYCLES p) cycles).resumeHeld p).resumeColls p).afterWork p).startAllWaiting

/-- A packet that waits while memory is zeroed names some that still is. -/
def State.pktHeld (s : State) (x : Nat × Packet × Bool) : Bool :=
  s.beingZeroed (x.2.1.addr % 2 ^ 50) (if x.2.1.typ = 1 then x.2.1.len else 64 * x.2.1.arg)

/-- DIE_ZEROING_COMPLETE (R279): accesses to the die's memory are held no longer. The packets that waited proceed in the order
they came, and then the descriptors. -/
def execDieZeroingComplete (die : Fin 4) (s : State) : Outcome :=
  let s := { s with host.zeroing := setBit s.host.zeroing die.val false }
  let s' := { s with net.zeroHeld := s.net.zeroHeld.filter s.pktHeld }
  ok ((s.net.zeroHeld.filter (fun x => !s.pktHeld x)).foldl (fun s x => s.handle x.1 x.2.1 x.2.2) s').startAllWaiting

/-- The completion record of a descriptor whose work has ended (Table 17.6). -/
def doneRecord (q : Nat) (d : Done) : Nat := fld 0 d.cid + fld 2 q + fld 4 d.status + fld 8 (d.info % 2 ^ 64)

/-- DESCRIPTOR_COMPLETE (R481, R482): the record of the oldest ended descriptor of a pair is written, or held, and what waited
for it starts. -/
def execDescriptorComplete (port : Fin 4) (q : Fin 64) (s : State) : Outcome :=
  let n := port.val
  let x := s.qp n q.val
  match x.done with
  | [] => ok s
  | d :: t =>
    let s := (s.setQp n q.val { x with done := t }).record n q.val (doneRecord q.val d) x.vec
    ok ((State.startWaiting n q.val x.waiting.length s).settleQp n q.val)

/-! ### Port resets and interrupts -/

/-- A port is reset (R490): every pair is disabled and what it had fetched leaves no record. Its mailbox is cleared, and the
mailbox's session ends (R507, R508). -/
def State.portReset (s : State) (n : Nat) : State :=
  let x := s.port n
  let qs := x.qs.map (fun (e : Nat × QPair) =>
    (e.1, { e.2 with enable := false, state := 0, waiting := [], running := [], done := [], held := [] }))
  let s := s.setPort n { x with qs := qs, msix := [], pending := [], heldSync := [] }
  let s := { s with host.heldAcc := s.host.heldAcc.filter (fun h => h.port ≠ n), mgmt.mbx := s.mgmt.mbx.del n,
                    mgmt.mbxWords := s.mgmt.mbxWords.drop (fun k => k / 1024 = n), mgmt.mbxSeq := s.mgmt.mbxSeq.del n,
                    mgmt.mbxOut := s.mgmt.mbxOut.del n, mgmt.held := s.mgmt.held.filter (fun h => !Who.isMbx h.who n) }
  (s.inc (O.at O.PORT_RESETS n)).raise 0x2003 { kind := 7, subj := n, part := (s.portPart n).getD 0xFF }

/-- The port's link goes down. -/
def State.portDown (s : State) (n : Nat) : State := (s.put (O.at O.PCIE_RATE n) 0).put (O.at O.PCIE_WIDTH n) 0

/-- PORT_RESET (R490): 0 Function Level Reset, 1 hot reset, 2 PERST_N, 3 link-down. -/
def execPortReset (port : Fin 4) (kind : Fin 4) (s : State) : Outcome :=
  let s := s.portReset port.val
  let s := if 2 ≤ kind.val then s.portDown port.val else s
  ok (if kind.val = 2 then { s with boot.perst := setBit s.boot.perst port.val false } else s)

/-- A vector's mask bit is cleared: an interrupt that is pending is sent (R489). -/
def State.unmask (s : State) (n v : Nat) : State :=
  let x := s.port n
  let e := x.entry v
  let s := s.setPort n { x with msix := x.msix.set v (setBit e 96 false), pending := x.pending.filter (· ≠ v) }
  if x.pending.contains v then s.interrupt n v else s

/-- MSIX_UNMASK (R489). -/
def execMsixUnmask (port : Fin 4) (vector : Fin 2048) (s : State) : Outcome := ok (s.unmask port.val vector.val)

/-! ### The patrol scrub -/

/-- Set the entries of a list that a unit of bytes covers to zero: entries of w bytes, the unit from a byte offset on. -/
def zeroEntries {α : Type} (z : α) (l : List α) (w off : Nat) : List α :=
  l.zipIdx.map (fun e => if off < w * e.2 + w && w * e.2 < off + 64 then z else e.1)

/-- An event record that reads as zero. -/
def Event.zero : Event :=
  { seq := 0, code := 0, part := 0, payLen := 0, kind := 0, subj := 0, refNs := 0, cal := 0, beat := 0, supp := 0, payload := 0 }

/-- The partition whose lowest die is d. -/
def State.lowDiePart (s : State) (d : Nat) : Option Nat :=
  (s.dieOwner d).bind (fun p => if (s.diesOf p).head? = some d then some p else none)

/-- An uncorrectable error in the checkpoint staging of CDd (R293): of the digest directories that the partition whose lowest die this is
keeps there (R446), the affected entry reads as zero. Which record a unit holds the spec does not say: a free value picks it. -/
def State.stagingUe (s : State) (d off : Nat) : State :=
  match s.lowDiePart d with
  | none => s
  | some p =>
    let j := s.job p
    let hit := Config.resvRecord d off
    s.setJob p { j with ckpt := { j.ckpt with dirs := j.ckpt.dirs.zipIdx.map (fun e =>
      { e.1 with ents := e.1.ents.map (fun x => if hit = e.2 * 65536 + x.1 then (x.1, (0, 0)) else x) }) } }

/-- An uncorrectable error in the working memory of CDd's bridle cores (R293): of the speculation-tag tables and the sync objects'
rollback counts of the die's partition, the affected record reads as zero, which is untagged (Table 7.5) and a count of 0. A free value
picks the record. -/
def State.workingUe (s : State) (d off : Nat) : State :=
  match s.dieOwner d with
  | none => s
  | some p =>
    let j := s.job p
    let hit := Config.resvRecord d off
    let s := s.setJob p { j with bufTags := (j.bufTags.zipIdx.filter (fun e => e.2 ≠ hit)).map (·.1) }
    { s with net.sync := s.net.sync.map (fun e =>
        if e.2.owner = p && hit = j.bufTags.length + e.1 then (e.1, { e.2 with spec := 0, earlySpec := 0 }) else e) }

/-- An uncorrectable error in the reserved region of stack h, at an offset of Table 10.7 (R293). -/
def State.reservedUe (s : State) (h off : Nat) : State :=
  let s := s.raise 0x3C03 { kind := 10, subj := h, pay := fld 0 h + fld 8 (hbmAddr h (resvBase + off)), len := 16 }
  if h % 2 = 0 then
    let d := h / 2
    if off < 0x4010000 then
      match s.lowDiePart d with
      | some p => if s.imageState p = IS.loaded || s.imageState p = IS.running then s.requestUnload p none else s
      | none => s
    else if off < 0x4050000 then
      let slot := d * 1024 + (off - 0x4010000) / 256
      match s.dieOwner d with
      | none => s
      | some p =>
        let j := s.job p
        let r := j.rings.get slot []
        if r.isEmpty then s else s.setJob p { j with rings := j.rings.set slot (zeroEntries 0 r 16 (off % 256)) }
    else if off < 0x4050800 then
      match s.lowDiePart d with
      | some p => let j := s.job p; s.setJob p { j with records := zeroEntries 0 j.records 32 (off - 0x4050000) }
      | none => s
    else if 0x8000000 ≤ off then s.stagingUe (h / 2) off
    else s
  else if 0x8000000 ≤ off then s.stagingUe (h / 2) off
  else if 0x2000000 ≤ off && off < 0x6000000 then s.workingUe (h / 2) off
  else if h = 1 && off < 0x30000 then { s with beat.ring := zeroEntries 0 s.beat.ring 48 off }
  else if h = 1 && 0x40000 ≤ off && off < 0x1040000 then
    { s with mgmt.buffer := zeroEntries Event.zero s.mgmt.buffer 128 (off - 0x40000) }
  else s

/-- An error in a unit of an on-chip store (R289, R290): corrected and counted, or the unit becomes poisoned. -/
def State.sramError (s : State) (store b : Nat) (err : Nat) : State :=
  if err = 1 then s.inc O.SRAM_CE_TOTAL
  else if err = 2 then ((s.inc O.SRAM_UE_TOTAL).put O.LAST_UE (fld 0 store + fld 8 (storeAddr store b))).poisonUnit (storeAddr store b)
  else s

/-- PATROL_SCRUB (R289, R290, R293 to R295): a unit of a store is read, with what the error correction
finds, and `row` the row of the stack that holds the unit. `found.scrub` tells that the patrol scrub read it; otherwise it is another
read of the module that meets an error, in a stack or in an on-chip store (stores 8 to 11 activation stores, 12 to 395 tiles), which the
scrub does not read (log entry 106). A pass ends with the last unit of H7. -/
def execPatrolScrub (store : Fin 396) (unit : Nat) (found : EccRead) (row : Nat) (s : State) : Outcome :=
  let err := found.err.val
  let h := store.val
  let b := unit % (storeSize h / 64) * 64
  if 8 ≤ h then ok (if found.scrub then s else s.sramError h b err)
  else
  let s := if found.scrub && h = 7 && b + 64 = stackSize then s.inc O.SCRUB_PASSES else s
  if err = 1 then ok ((s.inc O.HBM_CE_TOTAL).inc (O.at O.CE_COUNT h))
  else if err = 2 then
    let s := ((s.inc O.HBM_UE_TOTAL).inc (O.at O.UE_COUNT h)).put O.LAST_UE (fld 0 h + fld 8 (hbmAddr h b))
    let k := h * 2 ^ 32 + row % 2 ^ 32
    let s := if s.boot.repairs.contains k then s else { s with boot.repairs := s.boot.repairs ++ [k] }
    let s := s.poisonUnit (hbmAddr h b)
    ok (if resvBase ≤ b then s.reservedUe h (b - resvBase) else s)
  else ok s

end Sys2Proof.Machine
end

