-- ==== Sys2Proof/Machine/Layout.lean ====
section
/-! DEFINITION. Layout.lean: the partition layout (R475, R279). -/

namespace Sys2Proof.Machine

/-- The staged link sets. -/
def State.stagedLinks (s : State) : List Nat := (List.range 4).map (fun p => s.obj (O.LINK_SET_P0 + p))

/-- The values of a layout word, four bits each. -/
def nibbles (w : Nat) : List Nat := (List.range 4).map (fun i => bits w (4 * i + 3) (4 * i))

/-- Each partition with a die has exactly one port, and each port's partition has a die (Table 17.4). -/
def portsFit (dies ports : List Nat) : Bool :=
  [0, 1, 2, 3].all (fun p =>
    let n := (ports.filter (· = p)).length
    if dies.contains p then n = 1 else n = 0)

/-- Two link sets share no link. -/
def linksApart (ls : List Nat) : Bool :=
  (List.range 24).all (fun n => (ls.filter (fun m => bit m n)).length ≤ 1)

/-- A staged layout is INVALID (Table 17.4). -/
def State.layoutBad (s : State) : Bool :=
  let dies := nibbles (s.obj O.DIE_OWNER)
  let ports := nibbles (s.obj O.PORT_PARTITION)
  let ls := s.stagedLinks
  (dies ++ ports).any (fun v => 4 ≤ v && v ≠ 15) || !portsFit dies ports || !linksApart ls ||
    ls.any (fun m => (if s.fullConfig then 2 ^ 24 else 2 ^ 8) ≤ m)

/-- The result of a layout request, in the order of Table 17.4. -/
def State.layoutResult (s : State) : Nat :=
  if s.obj O.PARTITION_LAYOUT_LOCK = 1 then 1
  else if !s.allEmpty || !s.noRestore || s.obj O.DEBUG_ENABLE = 1 || s.net.fenceZeroing then 2
  else if s.layoutBad then 3
  else 0

/-- The dies whose partition a new layout word changes. -/
def State.movedDies (s : State) (w : Nat) : List Nat :=
  (List.range 4).filter (fun d => bits w (4 * d + 3) (4 * d) ≠ bits s.layout.dieOwner (4 * d + 3) (4 * d))

/-- A staged layout takes effect (R475): memory that changes owner is zeroed, checkpoint areas with it (R279, R296), and the
handles and sync objects of the old shares are released (R477, R487). -/
def State.layoutTake (s : State) : State :=
  let w := s.obj O.DIE_OWNER
  let ds := s.movedDies w
  let parts := (ds.map (fun d => bits s.layout.dieOwner (4 * d + 3) (4 * d))) ++ ds.map (fun d => bits w (4 * d + 3) (4 * d))
  let s := ds.foldl State.zeroDie s
  let s := s.releaseOffloads
  let s := { s with layout := { dieOwner := w, portPart := s.obj O.PORT_PARTITION, links := s.stagedLinks },
                    flashCk := s.flashCk.drop (fun k => parts.contains (k / 8)),
                    host.zeroing := ds.foldl (fun m d => m ||| 2 ^ d) s.host.zeroing, net.sync := [] }
  (s.inc O.LAYOUT_CHANGES).raise 0x1001

/-- LAYOUT_APPLY takes 1 (R475). -/
def State.layoutApply (s : State) : State × Nat :=
  let r := s.layoutResult
  let s := s.put O.LAYOUT_RESULT r
  if r = 0 then (s.layoutTake, St.ok) else (s, St.refused)

/-- LAYOUT_APPLY (R475). -/
def execLayoutApply (who : Who) (v : Nat) (s : State) : Outcome := rowWrite s who O.LAYOUT_APPLY v (·.layoutApply)

end Sys2Proof.Machine
end

