-- ==== Sys2Proof/Machine/Read.lean ====
section
/-! DEFINITION. Read.lean: reading the object dictionary: the stored objects, the ones that are views of other state, and the
windows that selectors open (R502, R507 and the object tables of every chapter). -/

namespace Sys2Proof.Machine

/-! ### Records that windows show -/

/-- A flow context (Table 12.8). -/
def Ctx.bytes (c : Ctx) : Nat :=
  fld 0 c.chip + fld 2 c.epoch + fld 4 c.cls + fld 5 c.state + fld 6 c.owner + fld 8 c.tagsOut + fld 12 c.bytesOut +
    fld 16 c.packetsTx + fld 24 c.lastUseNs

/-- A sync object (Table 12.9). -/
def SyncObj.bytes (x : SyncObj) : Nat :=
  fld 0 x.count + fld 4 x.target + fld 8 x.action + fld 10 x.state +
    fld 11 (b2n x.deadlineSet + 2 * b2n x.taggedDone + 4 * x.timeoutKind) + fld 12 x.owner + fld 13 x.role + fld 14 x.pair +
    fld 16 (x.step % 2 ^ 32) + fld 20 x.spec + fld 24 x.early + fld 28 x.earlySpec + fld 32 (x.deadline % 2 ^ 64) + fld 40 x.completeNs

/-- Whole seconds since a time, or 0xFFFFFFFF for never (Table 13.9). -/
def State.ageS (s : State) (t : Option Nat) : Nat :=
  match t with
  | some t => min 0xFFFFFFFE ((s.now - t) / 8000000000)
  | none => 0xFFFFFFFF

/-- A channel record (Table 13.9); a channel of an express link reads the defaults. -/
def State.chanRecord (s : State) (c : Nat) : Nat :=
  let x := s.chan c
  if (s.link (8 + c / 4)).express then fld 20 0xFFFFFFFF + fld 24 0xFFFFFFFF
  else
    fld 0 x.txPower + fld 4 x.txRef + fld 8 x.rxPower + fld 12 x.modHeater + fld 14 x.dropHeater + fld 16 x.spareHeater +
      fld 18 x.flags + fld 20 (s.ageS x.modAt) + fld 24 (s.ageS x.dropAt) + fld 28 x.calTemp

/-- A collector row's 64 entries, column 0 first (Table 4.6). -/
def CRow.data (r : CRow) : Nat := ofLE ((r.entries.map (toLE 4)).flatten)

/-- A collector row's state (Table 4.7). -/
def CRow.state (r : CRow) : Nat :=
  fld 0 r.blocks + fld 4 (r.pass % 2 ^ 32) + fld 8 (r.kop % 2 ^ 32) + fld 12 r.flags + fld 13 r.stream

/-! ### The event log as a requester sees it -/

/-- What a requester sees of other partitions' entries (R518). -/
def Priv.seesEvent (p : Priv) (e : Event) : Bool :=
  e.part = 0xFF ||
  match p with
  | .owner => true
  | .host q => e.part = q
  | .read => false

/-- An event log entry (Table 18.8) as a privilege sees it (R518). -/
def Event.bytes (e : Event) (p : Priv) : Nat :=
  let see := p.seesEvent e
  let v := fun (n : Nat) => if see then n else 0
  fld 0 e.seq + fld 8 e.code + fld 10 e.part + fld 11 (v e.payLen) + fld 12 (v e.kind) + fld 14 (v e.subj) + fld 16 e.refNs +
    fld 24 e.cal + fld 32 e.beat + fld 40 (e.supp % 2 ^ 32) + fld 64 (v (e.payload % 256 ^ 64))

/-- EVENT_SEQ_NEWEST: the newest entry's SEQ, 0 when the log is empty. -/
def State.eventNewest (s : State) : Nat := (s.mgmt.log.head?.map (·.seq)).getD 0

/-- EVENT_SEQ_OLDEST: SEQ is gapless (R518). -/
def State.eventOldest (s : State) : Nat := if s.mgmt.log = [] then 0 else s.eventNewest + 1 - s.mgmt.log.length

/-! ### Views -/

/-- Whether a requester is the owner, or a host of a partition. -/
def State.isPartOf (s : State) (who : Who) (p : Nat) : Bool :=
  match s.priv who with
  | .owner => true
  | .host q => p = q
  | .read => false

/-- Whether a requester came through the port of a partition (R160). -/
def State.belongs (s : State) (who : Who) (p : Nat) : Bool :=
  match who.path with
  | .mailbox n => s.portPart n.val = some p
  | _ => false

/-- The sequencers of the debug partition have stopped at an operation boundary (R127). -/
def State.debugHalted (s : State) : Bool := s.halted s.debugPart && (s.job s.debugPart).shares.isEmpty

/-- The sessions over UDP hold this many subscriptions (R514). -/
def State.subCount (s : State) : Nat := (s.mgmt.sessions.vals.map (fun x => x.subs.length)).foldl (· + ·) 0

/-- The answer of a read that names nothing (R507). -/
abbrev oor : Nat × Nat := (St.outOfRange, 0)

/-- The answer of a read that its window's rule forbids. -/
abbrev noAcc : Nat × Nat := (St.access, 0)

/-- A value with status OK. -/
abbrev got (v : Nat) : Nat × Nat := (St.ok, v)

/-- The answer of a window: its value, or out of range. -/
def gotOr (o : Option Nat) : Nat × Nat :=
  match o with
  | some v => got v
  | none => oor

/-- Norm-slot window objects (R160). -/
def State.readSlot (s : State) (who : Who) (sub : Nat) : Nat × Nat :=
  let n := s.selOf who O.NORM_SLOT_SELECT
  match s.dieOwner (n / 1024) with
  | none => noAcc
  | some p =>
    let j := s.job p
    match j.image with
    | none => noAcc
    | some im =>
      let ring := j.rings.get n []
      if !s.belongs who p then noAcc
      else if sub = 3 then
        got ((((j.banks.get (s.selOf who O.NORM_SLOT_BANK) {}).main.slots.get n {})).readout (im.slots.find? (·.slot = n)))
      else if sub = 4 then got ring.length
      else gotOr (ring[s.selOf who O.NORM_HISTORY_SELECT]?)

/-- Digest directory objects of partition p (Table 15.8): a boundary has one once something of it is digested (R446). -/
def State.readDigest (s : State) (who : Who) (p sub : Nat) : Nat × Nat :=
  let d := ((s.job p).ckpt.dirs.filter (fun d => d.ents ≠ []))[s.selOf who (O.at O.DIGEST_BOUNDARY_SELECT p)]?
  match d, (s.job p).image with
  | some d, some im =>
    if sub = 2 then got d.boundary
    else if sub = 3 then got d.ents.length
    else gotOr ((d.ents[s.selOf who (O.at O.DIGEST_SELECT p)]?).map (fun (e : Nat × Nat × Nat) => dirEntry im e.2.1 e.1 0 e.2.2 false))
  | _, _ => if sub = 5 then oor else got 0

/-- An audit entry by SEQ (R542). -/
def State.auditEntry (s : State) (n : Nat) : Option Audit := (s.sec.auditPerm ++ s.sec.auditRing).find? (·.seq = n)

/-- Objects of partition p that are views of its job, transport share or checkpoint state; `i` is the index without p. Of the
objects of Table 3.8, those that give recipe parameters in force, GRAD_SHIFT among them, read zero while no job runs, and
SKIP_RUN and CLEAN_RUN, which count, do not (R98 does not list them: DESIGN CHOICE, log entry 137). -/
def State.readPart (s : State) (who : Who) (i p sub : Nat) : Option (Nat × Nat) :=
  let j := s.job p
  let bank := fun b => j.banks.get b {}
  let sel := fun k => s.selOf who (O.at k p)
  if i = 0x5100 then (if sub ≤ 5 && s.imageState p ≠ 3 then some (got 0) else none)
  else if i = 0x5120 then
    if sub = 5 then some (got ((bank 0).main.allFlags % 65536))
    else if sub = 6 then some (got ((bank 1).main.allFlags % 65536))
    else if sub = 7 then some (got ((bank 0).main.nf.getD 0))
    else if sub = 8 then some (got ((bank 1).main.nf.getD 0))
    else if sub = 10 then
      let n := sel O.SHEAF_SELECT
      match j.image with
      | some im => if n < im.sheaves.length then some (got ((bank 0).main.sheaf.get n 0 % 65536 + (bank 1).main.sheaf.get n 0 % 65536 * 65536))
                   else some oor
      | none => some oor
    else none
  else if i = 0x5150 then
    if sub = 0x0F then some (got j.records.length)
    else if sub = 0x11 then some (gotOr (j.records[sel O.STEP_RECORD_SELECT]?))
    else if sub = 0x13 then
      let n := sel O.LAYER_NORM_SELECT
      if n < (j.image.map (·.commit.trailers)).getD 0 then some (got (j.lastNorm.getD n 0)) else some oor
    else none
  else if i = 0x3110 then
    if sub = 1 then some (got (s.ctxShare p))
    else if sub = 2 then some (got (s.tagShare p))
    else if sub = 3 then some (got (s.syncShare p))
    else if sub = 4 then some (got (s.syncBase p))
    else if sub = 0x12 then some (got (bank 0).coll)
    else if sub = 0x13 then some (got (bank 1).coll)
    else none
  else if i = 0x4024 then
    let ds := s.diesOf p
    if sub = 1 then some (got ((ds.map (2 ^ ·)).foldl (· + ·) 0))
    else if sub = 2 then some (got ((ds.map (3 * 4 ^ ·)).foldl (· + ·) 0))
    else if sub = 3 then some (got (102005473280 * ds.length))
    else none
  else if i = 0x6010 then
    if sub = 0x0D then some (gotOr (s.slotView p (sel O.SLOT_LAYER) (sel O.SLOT_SELECT)))
    else if sub = 0x17 then some (got (j.ckpt.map.getD (sel O.RESTORED_MAP_SELECT) 0))
    else none
  else if i = 0x6020 then (if sub = 2 || sub = 3 || sub = 5 then some (s.readDigest who p sub) else none)
  else none

/-- Objects of a tensor link that are views: REACH_CLASS, whether both directions are encrypted (R321), and DEGRADED_NS with the
time that still runs (R316). -/
def State.readLink (s : State) (n sub : Nat) : Option (Nat × Nat) :=
  if sub = O.REACH_CLASS % 256 then some (got (reachClass n))
  else if sub = O.ENCRYPT_ACTIVE % 256 then some (got (b2n (s.txEnc n && s.rxEnc n)))
  else if sub = O.DEGRADED_NS % 256 then
    let run := match (s.link n).degradedAt with
      | some t => (s.now - t) / 8
      | none => 0
    some (got ((s.obj (O.at O.DEGRADED_NS n) + run) % 2 ^ 64))
  else none

/-- Module-wide objects that are views of other state, by key. UPSTREAM_PRIMARY, UPSTREAM_SECONDARY and DOWNSTREAM_MASK read as
last written while a write waits for its edge (R50 does not say what they read then: DESIGN CHOICE, log entry 136). -/
def State.readModule (s : State) (who : Who) (k : Nat) : Option (Nat × Nat) :=
  let sel := s.selOf who
  let link := sel O.DISC_SELECT
  if k = O.REF_NS then some (got s.refNs)
  else if k = O.UPSTREAM_PRIMARY then some (got (s.beat.stagedP.getD (s.obj k)))
  else if k = O.UPSTREAM_SECONDARY then some (got (s.beat.stagedS.getD (s.obj k)))
  else if k = O.DOWNSTREAM_MASK then some (got (s.beat.stagedMask.getD (s.obj k)))
  else if k = O.MAP_RECORD_COUNT then some (got s.beat.ring.length)
  else if k = O.MAP_RECORD then some (gotOr (s.beat.ring[sel O.MAP_RECORD_SELECT]?))
  else if k = O.DEBUG_HALTED then some (got (b2n s.debugHalted))
  else if k = O.COLLECTOR_ROW_DATA || k = O.COLLECTOR_ROW_STATE then
    let t := sel O.COLLECTOR_TILE
    if !s.dbg.on || s.dieOwner (t / 96) ≠ some s.debugPart || !s.debugHalted then some noAcc
    else
      let r := (s.job s.debugPart).rows.get (t * 512 + sel O.COLLECTOR_ROW) {}
      some (got (if k = O.COLLECTOR_ROW_DATA then r.data else r.state))
  else if k / 256 = 0x5140 && (k % 256 = 3 || k % 256 = 4 || k % 256 = 6) then some (s.readSlot who (k % 256))
  else if k = O.CONTEXTS_OPEN then some (got s.net.ctxs.length)
  else if k = O.TAGS_IN_USE then some (got s.net.tags.length)
  else if k = O.ROUTE_ENTRY then some (got (s.routeOf (sel O.ROUTE_SELECT)))
  else if k = O.EPOCH_VALUE then some (got (s.epochOf (sel O.EPOCH_SELECT)))
  else if k = O.CONTEXT then
    let c : Ctx := s.net.ctxs.get (sel O.CONTEXT_SELECT) {}
    some (if c.owner < 4 && !s.isPartOf who c.owner then noAcc else got c.bytes)
  else if k = O.SYNC_OBJECT then
    let o := sel O.SYNC_SELECT
    let x := s.syncObj o
    let p := (([0, 1, 2, 3].find? (fun q => s.syncBase q ≤ o && o < s.syncBase q + s.syncShare q)).getD x.owner)
    some (if p < 4 && !s.isPartOf who p then noAcc else got x.bytes)
  else if k = O.CHANNEL_RECORD then some (got (s.chanRecord (sel O.CHANNEL_SELECT)))
  else if k = O.EXPRESS_POWER then some (got (s.optics.express.get (sel O.EXPRESS_SELECT - 8) 0))
  else if k = O.WIRING_ENTRY then some (if s.linkPresent link then got (s.wiring link) else oor)
  else if k = O.OUTCOME then some (if s.linkPresent link then got (s.link link).outcome else oor)
  else if k = O.NEIGHBOUR then some (if s.linkPresent link then got (s.neighbour link) else oor)
  else if k = O.SENSOR_C || k = O.SENSOR_VALID then
    let d := sel O.SENSOR_DIE
    let i := sel O.SENSOR_INDEX
    if sensorCount d ≤ i then some oor
    else
      match s.power.sensors.find (32 * d + i) with
      | some x => some (got (if k = O.SENSOR_VALID then b2n x.valid else (Fmt.fp32.enc (.fin (x.value < 0) x.value.natAbs (-3))).1))
      | none => some (got 0)
  else if k = O.EVENT_SEQ_NEWEST then some (got s.eventNewest)
  else if k = O.EVENT_SEQ_OLDEST then some (got s.eventOldest)
  else if k = O.EVENT_ENTRY then
    some (gotOr ((s.mgmt.log.find? (·.seq = sel O.EVENT_SELECT)).map (·.bytes (s.priv who))))
  else if k = O.MP_UPTIME_MS then some (got ((s.now - s.mgmt.startAt) / 8000000))
  else if k = O.QUEUE_DEPTH then some (got s.mgmt.queue.length)
  else if k = O.SESSIONS_OPEN then some (got s.mgmt.sessions.length)
  else if k = O.SUBSCRIPTIONS then some (got s.subCount)
  else if k = O.CALENDAR_TIME then some (got s.calNs)
  else if k = O.IMAGE_KEY then some (got (s.sec.imageKeys.get (sel O.IMAGE_KEY_SELECT) 0))
  else if k = O.AUDIT_SEQ_NEWEST then some (got (s.sec.auditNext - 1))
  else if k = O.AUDIT_SEQ_OLDEST_RING then some (got ((s.sec.auditRing.getLast?.map (·.seq)).getD 0))
  else if k = O.AUDIT_PERMANENT_COUNT then some (got s.sec.auditPerm.length)
  else if k = O.AUDIT_ENTRY then some (gotOr ((s.auditEntry (sel O.AUDIT_SELECT)).map Audit.bytes))
  else if k / 256 - 0x4030 < 8 && 0x4030 ≤ k / 256 then
    let h := k / 256 - 0x4030
    if k % 256 = 3 then some (got (s.poison.filter (fun u => storeOf u = some h)).length)
    else if k % 256 = 6 then some (got ((s.dieOwner (h / 2)).getD 0xFF))
    else if k % 256 = 7 then some (got (s.boot.repairs.filter (fun r => r / 2 ^ 32 = h)).length)
    else none
  else if k / 256 - 0x4041 < 4 && 0x4041 ≤ k / 256 && k % 256 = 3 then
    some (got ((s.port (k / 256 - 0x4041)).qs.filter (fun e => e.2.state = 1)).length)
  else if k / 256 - 0x3001 < 24 && 0x3001 ≤ k / 256 then s.readLink (k / 256 - 0x3001) (k % 256)
  else none

/-- What a read leaves behind: a read of AUDIT_ENTRY reports the check of its MAC (R542), and the window reads of a debug
session are counted (R127). -/
def State.afterRead (s : State) (who : Who) (k : Nat) : State :=
  if k = O.AUDIT_ENTRY then s.put O.AUDIT_ENTRY_OK (b2n (s.auditEntry (s.selOf who O.AUDIT_SELECT)).isSome)
  else if k = O.COLLECTOR_ROW_DATA || k = O.COLLECTOR_ROW_STATE then { s with dbg.reads := s.dbg.reads + 1 }
  else s

/-- The value of an object whose presence and access have passed: a selector of the session, a view, or the stored value. -/
def State.view (s : State) (who : Who) (r : ObjRow) (k : Nat) : Nat × Nat :=
  if r.sel then got (s.selOf who k)
  else
    let v := match r.partOf k with
      | some p => s.readPart who r.idx p (k % 256)
      | none => s.readModule who k
    v.getD (got (s.obj k))

/-- Read an object (R502): NOT_PRESENT, ACCESS, OUT_OF_RANGE, in that order. -/
def State.readObj (s : State) (who : Who) (k : Nat) : State × Nat × Nat :=
  match Dict.row k with
  | none => (s, St.notPresent, 0)
  | some r =>
    if !s.fullConfig && Dict.absentE k then (s, St.notPresent, 0)
    else if s.holdDenies k false then (s, St.access, 0)
    else if !(s.priv who).canRead r k then (s, St.access, 0)
    else
      let (st, v) := s.view who r k
      (if st = St.ok then s.afterRead who k else s, st, v)

end Sys2Proof.Machine
end

