-- ==== Sys2Proof/Machine/Time.lean ====
section
/-! DEFINITION. Time.lean: calendar time, its backup, UTC, and the IEEE 1588 servo (R524 to R529). -/

namespace Sys2Proof.Machine

/-- PTP states (Table 19.1). -/
abbrev Ptp.disabled : Nat := 0
/-- LISTENING. -/
abbrev Ptp.listening : Nat := 1
/-- ACQUIRING. -/
abbrev Ptp.acquiring : Nat := 2
/-- LOCKED. -/
abbrev Ptp.locked : Nat := 3
/-- HOLDOVER. -/
abbrev Ptp.holdover : Nat := 4

/-- PTP_STATE; a module that has not yet run with an enabled port listens. -/
def State.ptpState (s : State) : Nat :=
  if s.obj O.PTP_ENABLE = 0 then Ptp.disabled else max Ptp.listening (s.obj O.PTP_STATE)

/-- The PTP port of EPn is in use: enabled, with the module's EP ports up (R526, R561). -/
def State.ptpOn (s : State) (port : Nat) : Bool := bit (s.obj O.PTP_ENABLE) port && s.portsUp

/-- The calendar counter in ns. -/
def State.cal (s : State) : Nat := s.time.cal8 / 8

/-- The calendar counter steps to a value (R527, R528): CALENDAR_VALID is set, the step counted and logged. -/
def State.stepCal (s : State) (v : Nat) : State :=
  let old := s.calNs
  let s := { s with time.cal8 := v * 8, time.slew := 0, time.reqPending := false, time.haveSync := false }
  ((s.put O.CALENDAR_VALID 1).inc O.CALENDAR_STEPS).raise 0x2082 { pay := old + fld 8 (v % 2 ^ 64), len := 16 }

/-- The better of two masters (R526). -/
def betterMaster (a b : PtpMaster) : PtpMaster := if b.vec < a.vec then b else a

/-- The master selected by the best master clock algorithm among the usable ones. -/
def State.bestMaster (s : State) : Option PtpMaster :=
  match s.time.masters.filter (fun m => m.usable && s.ptpOn m.port) with
  | [] => none
  | m :: t => some (t.foldl betterMaster m)

/-- The source that the module follows: the master named by PTP_PORT and GRANDMASTER_ID. -/
def State.follows (s : State) (port source : Nat) : Bool :=
  match s.bestMaster with
  | some m => m.port = port && m.source = source
  | none => false

/-- PTP_STATE takes a value. -/
def State.setPtp (s : State) (v : Nat) : State := s.put O.PTP_STATE v

/-- Selection is run again (R526, R527): a master that is selected anew leads to ACQUIRING; without a usable master ACQUIRING
falls back to LISTENING, and LOCKED runs into the loss of Syncs. -/
def State.reselect (s : State) (was : Option PtpMaster) : State :=
  if s.obj O.PTP_ENABLE = 0 then
    let s := { s with time.masters := [], time.slew := 0 }
    ((s.setPtp Ptp.disabled).put O.PTP_PORT 0xFF).put O.GRANDMASTER_ID 0
  else
    match s.bestMaster with
    | some m =>
      let s := (s.put O.PTP_PORT m.port).put O.GRANDMASTER_ID m.gm
      let same := match was with | some w => w.port = m.port && w.source = m.source | none => false
      let st := s.ptpState
      if same && (st = Ptp.acquiring || st = Ptp.locked) then s.setPtp st
      else ({ s with time.goodRun := 0, time.badRun := 0, time.syncPending := false, time.haveSync := false }).setPtp Ptp.acquiring
    | none =>
      let s := (s.put O.PTP_PORT 0xFF).put O.GRANDMASTER_ID 0
      if s.ptpState = Ptp.acquiring then s.setPtp Ptp.listening else s.setPtp s.ptpState

/-- The vector that the best master clock algorithm compares, most significant first. -/
def annVec (a : Announce) : Nat :=
  ((((((a.priority1 * 256 + a.clockClass) * 256 + a.accuracy) * 65536 + a.variance) * 256 + a.priority2) * 2 ^ 64 + a.grandmaster)
    * 65536 + a.stepsRemoved) * 2 ^ 80 + a.source

/-- PTP_ANNOUNCE_RX (R526, R529). -/
def execPtpAnnounceRx (port : Fin 2) (ann : Announce) (s : State) : Outcome :=
  if !s.ptpOn port.val || ann.domain ≠ s.obj O.PTP_DOMAIN then ok s
  else
    let was := s.bestMaster
    let m : PtpMaster :=
      { port := port.val, source := ann.source, gm := ann.grandmaster, vec := annVec ann,
        usable := -7 ≤ ann.logSyncInterval && ann.logSyncInterval ≤ 0 }
    let s := { s with time.masters := m :: s.time.masters.filter (fun x => !(x.port = m.port && x.source = m.source)) }
    let s := s.reselect was
    if !s.follows port.val ann.source then ok s
    else
      let s := s.put O.LEAP_PENDING (if ann.leap61 then 1 else if ann.leap59 then 2 else 0)
      ok (if ann.utcValid then s.store O.UTC_OFFSET_S (ofInt 32 ann.utcOffset) else s)

/-- HOLDOVER is entered (R527): the last disciplined frequency is kept, and a master must be heard again. -/
def State.enterHoldover (s : State) : State :=
  let s := { s with time.slew := 0, time.masters := [], time.holdSince := s.now, time.goodRun := 0, time.badRun := 0 }
  (((s.setPtp Ptp.holdover).put O.PTP_PORT 0xFF).inc O.PTP_LOCK_LOSSES).raise 0x2081

/-- One second in units of 0.125 ns. -/
abbrev sec8 : Nat := 8000000000

/-- A Sync result acts on the servo (R527): `t1` is the origin time, `t2` the receipt by the calendar counter. -/
def State.syncResult (s : State) (t1 t2 : Nat) : State :=
  let off : Int := (t2 : Int) - t1 - s.obj O.PTP_MEAN_PATH_NS
  let a := off.natAbs
  let s := s.put O.PTP_OFFSET_NS (ofInt 32 (max (-2147483648) (min 2147483647 off)))
  let s := { s with time.lastSync := s.now, time.lastOrigin := t1, time.lastRx := t2, time.haveSync := true }
  let st := s.ptpState
  if st = Ptp.acquiring then
    let far := 1000000 < a || s.obj O.CALENDAR_VALID = 0
    let s := if far then s.stepCal ((s.cal : Int) - off).toNat else { s with time.slew := -off * 8 }
    let good := if a ≤ 250 && !far then s.time.goodRun + 1 else 0
    if 16 ≤ good then (({ s with time.goodRun := 0, time.badRun := 0 }).setPtp Ptp.locked).raise 0x1080
    else { s with time.goodRun := good }
  else if st = Ptp.locked then
    let bad := if 10000 < a then s.time.badRun + 1 else 0
    if 4 ≤ bad then s.enterHoldover else { s with time.slew := -off * 8, time.badRun := bad }
  else s

/-- PTP_SYNC_RX (R526, R527): a one-step Sync carries its origin time; a two-step one waits for its Follow_Up. -/
def execPtpSyncRx (port : Fin 2) (domain source seq at_ origin : Nat) (twoStep : Bool) (s : State) : Outcome :=
  let s := s.upTo at_
  if !s.ptpOn port.val || domain ≠ s.obj O.PTP_DOMAIN || !s.follows port.val source then ok s
  else if twoStep then ok { s with time.syncSeq := seq, time.syncRx := s.cal, time.syncPending := true }
  else ok (({ s with time.syncPending := false }).syncResult origin s.cal)

/-- PTP_FOLLOW_UP_RX (R526): the precise origin time of the last two-step Sync. -/
def execPtpFollowUpRx (port : Fin 2) (domain source seq origin : Nat) (s : State) : Outcome :=
  if !s.ptpOn port.val || domain ≠ s.obj O.PTP_DOMAIN || !s.follows port.val source || !s.time.syncPending || s.time.syncSeq ≠ seq then ok s
  else ok (({ s with time.syncPending := false }).syncResult origin s.time.syncRx)

/-- PTP_DELAY_REQ_SEND (R526): toward the selected master. -/
def execPtpDelayReqSend (s : State) : Outcome :=
  match s.bestMaster with
  | none => ok s
  | some m =>
    let q := (s.time.reqSeq + 1) % 65536
    ok (({ s with time.reqSeq := q, time.reqTx := s.cal, time.reqPending := true }).send (.delayReq m.port q))

/-- PTP_DELAY_RESP_RX (R526): half the round trip of the last Sync and this Delay_Req is the mean path. -/
def execPtpDelayRespRx (port : Fin 2) (domain source seq received : Nat) (s : State) : Outcome :=
  if !s.ptpOn port.val || domain ≠ s.obj O.PTP_DOMAIN || !s.follows port.val source || !s.time.reqPending || s.time.reqSeq ≠ seq
      || !s.time.haveSync then ok s
  else
    let t := s.time
    let sum : Int := ((t.lastRx : Int) - t.lastOrigin) + ((received : Int) - t.reqTx)
    ok (({ s with time.reqPending := false }).put O.PTP_MEAN_PATH_NS (min 0xFFFFFFFF (sum / 2).toNat))

/-- PTP_SYNC_LOSS (R527): 4 s without a usable Sync in LOCKED. -/
def execPtpSyncLoss (s : State) : Outcome :=
  if s.ptpState = Ptp.locked then ok ((s.upTo (s.time.lastSync + 4 * sec8)).enterHoldover) else ok s

/-- PTP_HOLDOVER_EXPIRY (R527): 24 h in HOLDOVER without a usable master. -/
def execPtpHoldoverExpiry (s : State) : Outcome :=
  if s.ptpState = Ptp.holdover then ok ((s.upTo (s.time.holdSince + 86400 * sec8)).setPtp Ptp.listening) else ok s

/-- CALENDAR_SET takes a value (R528). -/
def State.calendarSet (s : State) (who : Who) (v : Nat) : State × Nat :=
  if v = 0 || s.ptpState = Ptp.locked then (s, St.refused)
  else ((s.audit who 9 O.CALENDAR_SET 0xFF s.calNs v).stepCal v, St.ok)

/-- CALENDAR_SET (R528). -/
def execCalendarSet (who : Who) (v : Nat) (s : State) : Outcome := rowWrite s who O.CALENDAR_SET v (·.calendarSet who v)

/-- LEAP_SECOND (R529): the end of the UTC day, at a given reference time. -/
def execLeapSecond (at_ : Nat) (s : State) : Outcome :=
  let s := s.upTo at_
  let l := s.obj O.LEAP_PENDING
  if l = 0 || s.obj O.CALENDAR_VALID = 0 then ok s
  else
    let off := toInt 32 (s.obj O.UTC_OFFSET_S) + (if l = 1 then 1 else -1)
    ok (((s.store O.UTC_OFFSET_S (ofInt 32 off)).put O.LEAP_PENDING 0).raise 0x1085)

/-- BACKUP_LOW (R525): the backup's voltages are read, as F32 patterns; the coin cell reads 0 when it is absent. -/
def execBackupLow (supercap coin : Nat) (s : State) : Outcome :=
  let s := (s.put O.SUPERCAP_V supercap).put O.COIN_CELL_V coin
  if fLt coin 0x40266666 then ok (s.raiseEvery 0x2083 0 (86400 * sec1)) else ok s

end Sys2Proof.Machine
end

