-- ==== Sys2Proof/Machine/Mgmt.lean ====
section
/-! DEFINITION. Mgmt.lean: the management processor apart from its requests: messages it sends, its queue, publications, the
event log, persistent values, its restart, factory initialisation, enumeration and the field network (R493 to R496, R504,
R510 to R519). -/

namespace Sys2Proof.Machine

/-! ### Messages -/

/-- The 16 header bytes of a message (Table 18.2). -/
def Msg.header (m : Msg) (op : Nat) : List Byte :=
  toLE 16 (fld 0 m.version + fld 1 op + fld 2 m.status + fld 3 m.flags + fld 4 m.seq + fld 6 m.session + fld 8 m.count +
    fld 10 m.bodyLen + fld 12 m.retry + fld 14 m.resv)

/-- Type codes (Table 18.5). -/
def ObjTy.code : ObjTy → Nat
  | .bool => 1
  | .u8 => 2
  | .u16 => 3
  | .u32 => 4
  | .u64 => 5
  | .i32 => 6
  | .f32 => 7
  | .time => 8
  | .str => 9
  | .bytes => 10

/-- Bytes of a string that is held with its end mark. -/
def strLen : Nat → Nat → Nat
  | 0, _ => 0
  | f + 1, v => if v < 256 then 0 else strLen f (v / 256) + 1

/-- LEN of an object's value. -/
def ObjRow.valLen (r : ObjRow) (v : Nat) : Nat := if r.ty = .str then strLen 256 v else r.len

/-- n bytes of a value padded with zeros to a multiple of 8 (R499). -/
def padded (n v : Nat) : List Byte := toLE (cdiv n 8 * 8) (v % 256 ^ n)

/-- An item header (R499). -/
def itemHeader (k action ty status len : Nat) : List Byte :=
  toLE 8 (fld 0 (k / 256) + fld 2 (k % 256) + fld 3 action + fld 4 ty + fld 5 status + fld 6 len)

/-- The answer of a read item (R499). -/
def readAnswer (k st v : Nat) : List Byte :=
  match Dict.row k with
  | some r =>
    if st = St.ok then itemHeader k 0 (ObjTy.code r.ty) st (r.valLen v) ++ padded (r.valLen v) v else itemHeader k 0 0 st 0
  | none => itemHeader k 0 0 st 0

/-- 8-byte words of a byte string. -/
def words8 : Nat → List Byte → List Nat
  | 0, _ => []
  | n + 1, bs => ofLE (bs.take 8) :: words8 n (bs.drop 8)

/-- Write words into a mailbox area from a word on. -/
def putWords (t : Tab Nat) (at_ : Nat) (ws : List Nat) : Tab Nat :=
  (ws.zipIdx).foldl (fun (t : Tab Nat) e => t.set (at_ + e.2) e.1) t

/-- The port of a mailbox path. -/
def Who.mbx (w : Who) : Option Nat :=
  match w.path with
  | .mailbox n => some n.val
  | _ => none

/-- A frame of the field network. -/
def Who.isField (w : Who) : Bool := w.path = .field

/-- A message leaves (R497, R508): as a datagram, or, for a request that came through a mailbox's request area, into the
response area, with MBX_RSP_CTRL and the vector after it. -/
def State.sendMsg (s : State) (who : Who) (op : Nat) (m : Msg) (ctrl : Option Nat) : State :=
  match ctrl, Who.mbx who with
  | some c, some n =>
    let bs := Msg.header m op ++ m.body
    let t := putWords s.mgmt.mbxWords (1024 * n + 520) (words8 (cdiv bs.length 8) bs)
    let t := t.set (1024 * n + 512) (fld 2 bs.length + bits c 15 0)
    let s := { s with mgmt.mbxWords := t, mgmt.mbxOut := s.mgmt.mbxOut.del n }
    if bits c 47 32 < 2048 then s.interrupt n (bits c 47 32) else s
  | _, _ => (if Who.isField who then s.inc O.FIELD_FRAMES_TX else s).send (.message who op m)

/-- A message of the MP. -/
def mkMsg (status flags seq session count retry : Nat) (body : List Byte) : Msg :=
  { version := 1, status := status, flags := flags, seq := seq, session := session, count := count, bodyLen := body.length,
    retry := retry, resv := 0, body := body, mac := 0 }

/-! ### The queue -/

/-- Entries below which a class is admitted (Table 18.6). -/
def admitLimit (cls : Nat) : Nat := if cls = 0 then 64 else if cls = 1 then 56 else if cls = 2 then 48 else 32

/-- Remove the newest entry of a class from a queue. -/
def dropNewest (cls : Nat) (q : List QEntry) : List QEntry := (q.reverse.eraseP (·.cls = cls)).reverse

/-- Room for an item of a class (R511): a class 0 item takes the place of the newest entry of the lowest class below it in a
full queue. -/
def State.makeRoom (s : State) (cls : Nat) : Option State :=
  let q := s.mgmt.queue
  if q.length < admitLimit cls then some s
  else if cls ≠ 0 then none
  else
    match [3, 2, 1].find? (fun c => q.any (·.cls = c)) with
    | some c => some ({ s with mgmt.queue := dropNewest c q }.inc O.PUBLISHES_DROPPED)
    | none => none

/-- QUEUE_HIGH_WATER follows the depth. -/
def State.highWater (s : State) (depth : Nat) : State := s.put O.QUEUE_HIGH_WATER (max (s.obj O.QUEUE_HIGH_WATER) depth)

/-- Put an entry into the queue, when it is admitted. -/
def State.enqueueMp (s : State) (e : QEntry) : Option State :=
  (s.makeRoom e.cls).map (fun s => { s with mgmt.queue := s.mgmt.queue ++ [e] }.highWater (s.mgmt.queue.length + 1))

/-- The requester of a session. -/
def Session.who (n : Nat) (x : Session) : Who := { path := x.path, session := n, addr := x.addr, port := x.port }

/-- The MP serves a publication or notification (R514, R519): it is sent with DEGRADED while TELEMETRY_LEVEL is above 0. -/
def State.serveEntry (s : State) (e : QEntry) : State :=
  let n := match e.item with | .publish n _ => n | .notify n _ => n
  match s.mgmt.sessions.find n with
  | none => s
  | some x =>
    let who := Session.who n x
    match e.item with
    | .publish _ k =>
      let (s, st, v) := s.readObj who k
      s.sendMsg who 0x40 (mkMsg 0 (if s.obj O.TELEMETRY_LEVEL = 0 then 0 else 2) 0 n 1 0 (readAnswer k st v)) none
    | .notify _ ev => s.sendMsg who 0x41 (mkMsg 0 0 0 n 1 0 (toLE 128 (ev.bytes (s.priv who)))) none

/-- The next entry of the queue up to a class (R512). -/
def State.nextEntry (s : State) (cls : Nat) : Option QEntry :=
  (List.range (cls + 1)).findSome? (fun c => s.mgmt.queue.find? (·.cls = c))

/-- Serve what the queue holds up to a class, at most `fuel` entries. -/
def State.serveUpTo (cls : Nat) : Nat → State → State
  | 0, s => s
  | f + 1, s =>
    match s.nextEntry cls with
    | none => s
    | some e => State.serveUpTo cls f ({ s with mgmt.queue := s.mgmt.queue.erase e }.serveEntry e)

/-! ### Publications -/

/-- TELEMETRY_LEVEL stretches a period (R514). -/
def State.effPeriod (s : State) (ms : Nat) : Nat := ms * 2 ^ min (s.obj O.TELEMETRY_LEVEL) 3 * 1000000

/-- PUBLISH_TICK (R514): a subscription's effective period is over. -/
def execPublishTick (session key : Nat) (s : State) : Outcome :=
  match s.mgmt.sessions.find session with
  | none => ok s
  | some x =>
    match x.subs.find? (·.key = key) with
    | none => ok s
    | some u =>
      let s := s.upTo (u.next * 8)
      let subs := x.subs.map (fun (y : Sub) => if y.key = key then { y with next := u.next + s.effPeriod u.period } else y)
      let s := { s with mgmt.sessions := s.mgmt.sessions.set session { x with subs := subs } }
      match s.enqueueMp { cls := 3, item := .publish session key } with
      | some t => ok t
      | none =>
        let s := if s.obj O.TELEMETRY_LEVEL = 4 then s.inc O.PUBLISHES_DROPPED else s
        ok { s with mgmt.lossInWindow := true }

/-- TELEMETRY_LEVEL_TICK (R514): the end of 100 ms, at a reference time. -/
def execTelemetryLevelTick (at_ : Nat) (s : State) : Outcome :=
  let s := s.upTo at_
  let l := s.obj O.TELEMETRY_LEVEL
  if s.mgmt.lossInWindow then
    let s := { s with mgmt.lossInWindow := false, mgmt.lastLoss := s.now }
    ok (if l = 0 then (s.put O.TELEMETRY_LEVEL 1).raise 0x2043 else s.put O.TELEMETRY_LEVEL (min 4 (l + 1)))
  else if l ≠ 0 && s.mgmt.lastLoss + sec8 ≤ s.now then
    let s := { s with mgmt.lastLoss := s.now }.put O.TELEMETRY_LEVEL (l - 1)
    ok (if l = 1 then s.raise 0x1044 else s)
  else ok s

/-- SESSION_EXPIRY (R506): a UDP session has sent no request for 60 s. -/
def execSessionExpiry (session : Nat) (s : State) : Outcome :=
  match s.mgmt.sessions.find session with
  | none => ok s
  | some x =>
    let s := s.upTo ((x.lastReq + 60 * sec1) * 8)
    ok (if x.lastReq + 60 * sec1 ≤ s.refNs then { s with mgmt.sessions := s.mgmt.sessions.del session } else s)

/-! ### The event log -/

/-- A notification of a logged entry (R519): class 0 for the fault class, class 3 otherwise. -/
def State.notify (s : State) (n : Nat) (e : Event) : State :=
  let cls := if e.code / 4096 = 3 then 0 else 3
  match s.enqueueMp { cls := cls, item := .notify n e } with
  | some t => t
  | none => { s.inc O.PUBLISHES_DROPPED with mgmt.lossInWindow := s.mgmt.lossInWindow || cls = 3 }

/-- Entries that the flash log holds (R517). -/
abbrev logSize : Nat := 8388608

/-- An entry reaches the flash log (R517). -/
def State.logEvent (s : State) (e : Event) : State :=
  let e := { e with seq := s.mgmt.seqNext }
  let s := { s with mgmt.log := (e :: s.mgmt.log).take logSize, mgmt.seqNext := e.seq + 1 }.inc O.EVENTS_LOGGED
  s.mgmt.sessions.foldl (fun (s : State) x =>
    if bit x.2.classMask (e.code / 4096) && bit x.2.srcMask (e.code / 256 % 16) then s.notify x.1 e else s) s

/-- Every buffered event is logged, oldest first. -/
def State.flushEvents (s : State) : State := s.mgmt.buffer.foldl State.logEvent { s with mgmt.buffer := [] }

/-- EVENT_LOG_FLUSH (R517). -/
def execEventLogFlush (s : State) : Outcome := if s.boot.alwaysOn then ok s.flushEvents else ok s

/-! ### Persistent values -/

/-- The limited settings. -/
def limitedKeys : List Nat := [O.POWER_CEILING_SET_W, O.PARTITION_LAYOUT_LOCK, O.SECURITY_VERSION_FLOOR, O.RTV_MODE]

/-- The answer of a request whose persistent writes are all stored is delivered (R502). -/
def State.releaseAnswer (s : State) (req : Nat) : State :=
  match s.mgmt.held.find? (·.req = req) with
  | none => s
  | some h => { s with mgmt.held := s.mgmt.held.erase h }.sendMsg h.who h.op h.msg h.ctrl

/-- The oldest persistent write is stored in both copies (R504). -/
def State.persistDone (s : State) : State :=
  match s.mgmt.persistQ with
  | [] => s
  | j :: t =>
    let s := { s with mgmt.persistQ := t }
    let s :=
      if j.key = O.FACTORY_INIT then s.raise 0x104C
      else if limitedKeys.contains j.key then (s.inc O.PERSIST_WRITES).limitedStored j.key
      else { s with mgmt.stored := s.mgmt.stored.set (instKey j.key j.inst) j.val }.inc O.PERSIST_WRITES
    if t.any (·.req = j.req) then s else s.releaseAnswer j.req

/-- PERSIST_WRITE_COMPLETE (R504). -/
def execPersistWriteComplete (s : State) : Outcome := ok s.persistDone

/-- An object is persistent by its access code. -/
def isRwp (k : Nat) : Bool := match Dict.row k with | some r => r.acc = .rwp | none => false

/-- The instances of a windowed object that flash holds, by number. -/
def instances (t : Tab Nat) (k : Nat) : Tab Nat :=
  List.filterMap (fun (e : Nat × Nat) => if e.1 % 2 ^ 24 = k && 2 ^ 24 ≤ e.1 then some (e.1 / 2 ^ 24 - 1, e.2) else none) t

/-- RWP values are loaded from flash (R504): those whose two copies both fail, named by key, take their default. -/
def State.reloadRwp (s : State) (bad : List Nat) : State :=
  let bad := bad.eraseDups.filter isRwp
  let t := s.mgmt.stored.drop (fun k => bad.contains (k % 2 ^ 24))
  let dict := (t.filter (fun (e : Nat × Nat) => e.1 < 2 ^ 24)).foldl (fun (d : Tab Nat) e => d.set e.1 e.2) (s.dict.drop isRwp)
  let s := { s with dict := dict, mgmt.stored := t, sec.imageKeys := List.filter (fun (e : Nat × Nat) => e.2 ≠ 0) (instances t O.IMAGE_KEY),
                    net.wiring := instances t O.WIRING_ENTRY }
  bad.foldl (fun (s : State) k => (s.inc O.PERSIST_LOST_COUNT).raise 0x304B { pay := fld 0 (k / 256) + fld 2 (k % 256), len := 3 }) s

/-- What an MP that starts has lost: sessions, selectors, its queue, and persistent writes under way (R515). -/
def Mgmt.fresh (m : Mgmt) (now : Nat) : Mgmt :=
  { m with sessions := [], mbx := [], mbxOut := [], queue := [], persistQ := [], held := [], defer := none, tempSel := [],
           startAt := now }

/-- MP_WATCHDOG_EXPIRY (R515): the MP alone restarts; `bad` names the persistent values whose copies both fail. -/
def execMpWatchdogExpiry (bad : List Nat) (s : State) : Outcome :=
  if !s.boot.alwaysOn || !s.boot.mpUp then ok s
  else
    let s := { s with mgmt := s.mgmt.fresh s.now }
    ok ((((s.inc O.MP_RESTARTS).raise 0x2041).reloadRwp bad).finishIntents)

/-! ### Factory initialisation -/

/-- FACTORY_INIT is accepted (R510). -/
def State.factoryOpen (s : State) : Bool :=
  s.allEmpty && s.obj O.CHIP_STATE ≠ 1 && s.obj O.BEAT_STATE = BeatState.unlocked && s.noRestore

/-- The factory layout (R475). -/
def State.factoryLayout (s : State) : Layout := { links := [if s.fullConfig then 0xFFFFFF else 0xFF, 0, 0, 0] }

/-- The factory layout takes force: memory that it gives to another partition is zeroed (R279, R475), and a change of the layout
releases the offload handles (R487). -/
def State.layoutHome (s : State) : State :=
  let ds := s.movedDies s.factoryLayout.dieOwner
  let s := ds.foldl State.zeroDie s
  let s := if s.layout = s.factoryLayout then s else s.releaseOffloads
  { s with layout := s.factoryLayout, host.zeroing := ds.foldl (fun m d => m ||| 2 ^ d) s.host.zeroing,
           flashCk := if ds = [] then s.flashCk else [] }

/-- Every RWP object returns to its default, and what acts by its value follows (R510). -/
def State.rwpDefaults (s : State) : State :=
  let off := s.linkList.filter (fun n => s.lstate n = LS.disabled)
  let mode := s.obj O.CLOCK_MODE
  let was := s.bestMaster
  let jobs := s.mgmt.persistQ.map (fun (j : PersistJob) => if isRwp j.key then { j with val := Dict.dflt s.fullConfig j.key } else j)
  let s := { s with dict := s.dict.drop isRwp, mgmt.stored := [], mgmt.persistQ := jobs, sec.imageKeys := [], net.wiring := [] }
  let s := [0, 1, 2, 3].foldl (fun (s : State) p => s.put (O.at O.STORE_STATUS p) 0) s
  let s := off.foldl (fun (s : State) n => s.linkEnable n 1) s
  let s := if s.obj O.CLOCK_MODE = mode then s else s.beginMove
  ({ s with time.masters := [] }.reselect was).judgeAll

/-- FACTORY_INIT takes 1 (R510): the event follows when the flash writes are done. -/
def State.factoryInit (s : State) (who : Who) : State × Nat :=
  if !s.factoryOpen then (s, St.refused)
  else
    let s := ((s.audit who 12 O.FACTORY_INIT 0xFF 0 0).layoutHome.rwpDefaults).endSessions (some who)
    ({ s with mgmt.persistQ := s.mgmt.persistQ ++ [{ key := O.FACTORY_INIT, inst := 0, val := 1, req := 0 }] }, St.ok)

/-- FACTORY_INIT (R510). -/
def execFactoryInit (who : Who) (v : Nat) (s : State) : Outcome := rowWrite s who O.FACTORY_INIT v (·.factoryInit who)

/-! ### Enumeration and the field network -/

/-- An enumeration event with the received pulse count (R523). -/
def State.enumEvent (s : State) (code n : Nat) : State := s.raise code { pay := n % 256, len := 1 }

/-- A chain address is taken (R494, R496): PLCA runs with node ID address - 1, and address 1, the coordinator, sends the BEACON (log
entry 151). -/
def State.takeAddress (s : State) (a state n : Nat) : State :=
  let s := (((s.put O.CHAIN_ADDRESS a).put O.PLCA_NODE_ID (a - 1)).put O.ENUM_STATE state).put O.FIELD_LINK_STATE 1
  let s := if a = 1 then s.send .beacon else s
  { s with mgmt.enumRx := n }.enumEvent 0x1046 n

/-- The MP runs and has no chain address. -/
def State.unaddressed (s : State) : Bool := s.boot.alwaysOn && s.boot.mpUp && s.obj O.CHAIN_ADDRESS = 0

/-- ENUM_HEAD_DETECT (R494): ENUM_IN has been low for 100 ms. -/
def execEnumHeadDetect (s : State) : Outcome := if s.unaddressed then ok (s.takeAddress 1 1 0) else ok s

/-- ENUM_BURST_RX (R494, R495): a burst of n pulses. -/
def execEnumBurstRx (count : Nat) (s : State) : Outcome :=
  let n := count
  if !s.boot.alwaysOn || !s.boot.mpUp || n = 0 || 16 < n then ok s
  else if s.obj O.CHAIN_ADDRESS ≠ 0 then
    if n = s.mgmt.enumRx then ok s else ok ({ s with mgmt.enumRx := n }.enumEvent 0x2048 n)
  else if s.mgmt.enumCand ≠ n then ok { s with mgmt.enumCand := n }
  else if n = 16 then
    if s.obj O.ENUM_STATE = 4 then ok s else ok ((s.put O.ENUM_STATE 4).enumEvent 0x2049 n)
  else ok (s.takeAddress (n + 1) 2 n)

/-- ENUM_BURST_SEND (R494): every 1 s a module with an address sends its burst. -/
def execEnumBurstSend (s : State) : Outcome :=
  if !s.boot.alwaysOn || !s.boot.mpUp || s.obj O.CHAIN_ADDRESS = 0 then ok s else ok (s.send (.enumBurst (s.obj O.CHAIN_ADDRESS)))

/-- ENUM_FAILED (R494): 3 s after the MP's start without an address. Only a later pair of bursts gives one. -/
def execEnumFailed (s : State) : Outcome :=
  if s.unaddressed && !s.mgmt.enumLate then
    ok (({ (s.upTo (s.mgmt.startAt + 3 * sec8)).put O.ENUM_STATE 3 with mgmt.enumLate := true, mgmt.enumCand := 0 }).enumEvent 0x2047 s.mgmt.enumCand)
  else ok s

/-- The module follows a PLCA coordinator (R496). -/
def State.plcaFollower (s : State) : Bool := s.boot.alwaysOn && s.boot.mpUp && 2 ≤ s.obj O.CHAIN_ADDRESS

/-- PLCA_BEACON_TIMEOUT (R496): no BEACON for 4 ms. -/
def execPlcaBeaconTimeout (s : State) : Outcome :=
  if s.plcaFollower && s.obj O.FIELD_LINK_STATE = 1 then
    ok (((s.put O.FIELD_LINK_STATE 2).inc O.PLCA_FALLBACKS).raiseEvery 0x204A 0 (60 * sec1))
  else ok s

/-- PLCA_BEACON_RX (R496). -/
def execPlcaBeaconRx (s : State) : Outcome := if s.plcaFollower then ok (s.put O.FIELD_LINK_STATE 1) else ok s

end Sys2Proof.Machine
end

