-- ==== Sys2Proof/Machine/Reset.lean ====
section
/-! DEFINITION. Reset.lean: reset triggers and entry, bring-up stage by stage, self-test, and the sideband pins (R545 to R562, R451,
R450, R567 to R573). -/

namespace Sys2Proof.Machine

/-! ### Reset entry -/

/-- A condition that has held stays in force while reference time starts again. -/
def sinceReset (t : Option Nat) : Option Nat := t.map (fun _ => 0)

/-- A time still to come, in the reference time that starts again. -/
def rebaseEnd (t : Option Nat) (now : Nat) : Option Nat := t.map (· - now)

/-- An object keeps its value across module reset (R503, R547): the persistent ones, and the reference powers and selector of the
LSM (R376, R398). -/
def keptObj (k : Nat) : Bool :=
  (match Dict.row k with | some r => r.kept | none => false) || k = O.ACTIVE_SELECT || k = O.LSM_PRESENT || k = O.LSM_SERIAL ||
    (O.LASER_REF_DBM_0 ≤ k && k < O.LASER_REF_DBM_0 + 8)

/-- The links whose fibre pairs an express map joins (R393). -/
def expressLinks (m : Nat) : List Nat := classO.filter (fun n => mapByte m n ≠ 0xFF)

/-- Link state with nothing but the express circuits, which test 1 of Table 14.4 judges. -/
def freshLinks (m : Nat) : Tab LinkSt := (expressLinks m).map (fun n => (n, { express := true, reason := 10 }))

/-- What the module holds after a reset (R547, Table 20.2); every other field takes its default. -/
def State.kept (s : State) : State :=
  { dict := s.dict.drop (fun k => !keptObj k),
    fresh := s.fresh,
    out := s.out,
    fullConfig := s.fullConfig,
    layout := s.layout,
    mgmt := { stored := s.mgmt.stored, log := s.mgmt.log, seqNext := s.mgmt.seqNext },
    time := { cal8 := s.time.cal8, calLost := s.time.calLost },
    sec := { ownerKey := s.sec.ownerKey, imageKeys := s.sec.imageKeys, slotA := s.sec.slotA, slotB := s.sec.slotB,
             auditPerm := s.sec.auditPerm, auditRing := s.sec.auditRing, auditNext := s.sec.auditNext, ringPass := s.sec.ringPass,
             intents := s.sec.intents },
    boot := { tripEnd := rebaseEnd s.boot.tripEnd s.now, switchClosed := s.boot.switchClosed, engageLow := s.boot.engageLow,
              perst := s.boot.perst, repairs := s.boot.repairs, mpUp := false, ifUp := false },
    net := { wiring := s.net.wiring, links := freshLinks (s.obj O.EXPRESS_ACTIVE) },
    power := { ovOpen := s.power.ovOpen, bus := s.power.bus, okSince := sinceReset s.power.okSince, goodSince := sinceReset s.power.goodSince,
               lowSince := sinceReset s.power.lowSince, highSince := sinceReset s.power.highSince, busOkSince := sinceReset s.power.busOkSince },
    optics := { serial := s.optics.serial, nominal := s.optics.nominal, retired := s.optics.retired,
                chans := s.optics.chans.map (fun (e : Nat × Channel) => (e.1, { txRef := e.2.txRef })) },
    flashCk := s.flashCk,
    storeCk := s.storeCk,
    pending := s.pending }

/-- Bring-up starts anew at a stage (R545, R546): cause, count, and what is published of kept settings. -/
def State.startBringup (s : State) (cause stage : Nat) : State :=
  let s := s.kept.updCritical
  let s := (((s.put O.RESET_CAUSE cause).inc O.RESET_COUNT).put O.BRINGUP_STAGE stage).put O.POWER_CEILING_W (s.obj O.POWER_CEILING_SET_W)
  let s := s.put O.SUPPLY_STATE (if s.power.ovOpen then 3 else 0)
  (List.range 8).foldl (fun (s : State) l =>
    s.setLaser l (if s.obj O.LSM_PRESENT = 0 then 0 else if bit s.optics.retired l then 6 else 1)) s

/-- Reset entry (R546): the module is taken down, staged events reach flash, and bring-up starts at S1. -/
def State.resetEntry (s : State) (cause : Nat) : State := (s.powerDown.flushEvents).startBringup cause 1

/-- The 60 s after a thermal trip have not passed (R468). -/
def State.afterTrip (s : State) : Bool := match s.boot.tripEnd with | some t => s.now < t | none => false

/-- Time that the crystal has counted in whole steps of 1/32,768 s (R524), in units of 0.125 ns. -/
def crystal (t : Nat) : Nat := t * 8 / 1953125 * 1953125 / 8

/-- POWER_ON (R545, R525): VIN rises through 40.0 V after `unpowered` units of 0.125 ns without the always-on domain; `lost` tells
that the calendar's backup failed. -/
def execPowerOn (lost : Bool) (unpowered : Nat) (s : State) : Outcome :=
  if s.boot.alwaysOn then ok s
  else
    let s := s.flushEvents.startBringup 1 0
    if lost then ok ({ s with time.cal8 := 0, time.calLost := true }.put O.CALENDAR_VALID 0)
    else ok { s with time.cal8 := if s.time.cal8 = 0 then 0 else s.time.cal8 + crystal unpowered }

/-- MODULE_RESET_N_PIN (R545, R573): a low pulse of so many nanoseconds; between 2 µs and 10 µs the module may take or ignore it. -/
def execModuleResetNPin (lowNs : Nat) (s : State) : Outcome :=
  if !s.boot.alwaysOn || s.afterTrip || lowNs < 2000 then ok s
  else if 10000 ≤ lowNs then ok (s.resetEntry 2)
  else
    let c := s.drawChoice
    if c.1 then ok (c.2.resetEntry 2) else ok c.2

/-- MODULE_RESET takes 1 (R545, R562): the reset acts 10 ms after the answer. -/
def State.moduleReset (s : State) : State × Nat :=
  if s.afterTrip then (s, St.refused) else ({ s with boot.resetAt := some (s.now + 80000000) }, St.ok)

/-- MODULE_RESET (R545). -/
def execModuleReset (who : Who) (v : Nat) (s : State) : Outcome := rowWrite s who O.MODULE_RESET v (·.moduleReset)

/-- MODULE_RESET_DELAY (R545). -/
def execModuleResetDelay (s : State) : Outcome :=
  match s.boot.resetAt with
  | none => ok s
  | some t => if s.boot.alwaysOn then ok ((s.upTo t).resetEntry 3) else ok s

/-- SELF_RESET_AFTER_STOP (R453): VIN at or above 46.0 V for 1 s after a supply stop or rail fault. -/
def execSelfResetAfterStop (s : State) : Outcome :=
  match s.power.goodSince with
  | none => ok s
  | some t =>
    if s.boot.alwaysOn && (s.boot.stopCause = some 1 || s.boot.stopCause = some 2 || s.boot.stopCause = some 4) then
      ok ((s.upTo (t + sec8)).resetEntry 4)
    else ok s

/-- SELF_RESET_AFTER_TRIP (R468). -/
def execSelfResetAfterTrip (s : State) : Outcome :=
  match s.boot.tripEnd with
  | none => ok s
  | some t => if s.boot.alwaysOn && s.boot.stopCause = some 3 then ok ((s.upTo t).resetEntry 5) else ok s

/-- SC_WATCHDOG_EXPIRY (R545). -/
def execScWatchdogExpiry (s : State) : Outcome := if s.boot.alwaysOn then ok (s.resetEntry 6) else ok s

/-! ### Supply and pins -/

/-- POWER_ALERT_CLEAR (R451, R549): VIN at or above 47.0 V for 10 ms; a bring-up that the alert paused goes on, and the pause does
not count. -/
def execPowerAlertClear (s : State) : Outcome :=
  match s.power.okSince with
  | none => ok s
  | some t =>
    if !s.power.alert || s.power.stopPending || s.boot.stopCause.isSome || !s.boot.alwaysOn then ok s
    else
      let s := (s.upTo (t + 80000000)).accountPower
      let held := match s.boot.paused with | some p => s.now - p | none => 0
      let s := { s with power.alert := false, power.lowestVin := none, power.marginAt := s.now, boot.paused := none, boot.stageStart := s.boot.stageStart + held }
      ok ((s.inc O.ALERT_RIDE_THROUGHS).raise 0x1202 { pay := s.obj O.VIN_V, len := 4 }).supplyState

/-- ENGAGE_ASSERT (R568): ENGAGE_N has been low for 50 ms. -/
def execEngageAssert (s : State) : Outcome :=
  ok { s with boot.engageLow := true, boot.switchClosed := !s.power.ovOpen }

/-- ENGAGE_RELEASE (R569). -/
def execEngageRelease (s : State) : Outcome := ok { s with boot.engageLow := false, boot.switchClosed := false }

/-- PERST_N_RELEASE (R559, R567): PERST_N of a port is high; with its REFCLK the link trains to a rate in units of 0.1 GT/s and a
width, without it the port counts as down. -/
def execPerstNRelease (port : Fin 4) (refclk : Bool) (rate width : Nat) (s : State) : Outcome :=
  let s := { s with boot.perst := setBit s.boot.perst port.val true }
  if !s.portsUp then ok s
  else if refclk && [25, 50, 80, 160, 320, 640].contains rate && [1, 2, 4, 8].contains width then
    ok ((s.put (O.at O.PCIE_RATE port.val) rate).put (O.at O.PCIE_WIDTH port.val) width)
  else ok ((s.put (O.at O.PCIE_RATE port.val) 0).put (O.at O.PCIE_WIDTH port.val) 0)

/-! ### Self-test -/

/-- Bring-up is in a stage and goes on. -/
def State.inStage (s : State) (k : Nat) : Bool := s.obj O.BRINGUP_STAGE = k && s.boot.alwaysOn && s.boot.stopCause.isNone

/-- The supply condition of S2 has been met for 100 ms (Table 20.3). -/
def State.supplyMet (s : State) : Option Nat := s.power.goodSince.map (fun t => max (t + 800000000) s.boot.stageStart)

/-- CAPACITANCE_MEASURE (R450, R550): the test under 200 W for 2 ms began at a VIN and saw a fall, as F32 values. C = 200 W * 2 ms /
(V * dV). -/
def execCapacitanceMeasure (vStart fall : Nat) (s : State) : Outcome :=
  if !s.inStage 2 then ok s
  else
    let vd := ((f32 vStart).mul (f32 fall)).1
    let below := fun (uF : Nat) => (Num.fin false 400000 0).lt (((Num.fin false uF 0).mul vd).1)
    let uF := match (Num.fin false 400000 0).div vd with
      | (.fin n m e, _) => if n then 0 else min 0xFFFFFFFF (if 0 ≤ e then m * 2 ^ e.toNat else m / 2 ^ (-e).toNat)
      | _ => 0xFFFFFFFF
    let s := { s.put O.HOLDUP_CAP_UF uF with boot.capDone := true }
    let s := if below 4900 then s.raise 0x2207 { pay := uF, len := 4 } else s
    ok (if below 2500 then s.enterHold 2 {} else s)

/-- The scan partitions of a die in a wave (Table 20.4). -/
def inWave (w die part : Nat) : Bool := if die < 4 then part / 6 = w else die < 6 && part / 2 = w

/-- The earlier of two bad signatures: dies in order, then partitions (R556). -/
def firstBad (a b : BadSignature) : BadSignature := if 24 * b.die + b.part < 24 * a.die + a.part then b else a

/-- LBIST_WAVE_COMPLETE (R552, R556): the running wave ends with the signatures that differ. -/
def execLbistWaveComplete (bad : List BadSignature) (s : State) : Outcome :=
  let w := s.boot.wave
  if !s.inStage 5 || 4 ≤ w || !s.boot.scanLatch then ok s
  else
    match bad.filter (fun (b : BadSignature) => inWave w b.die b.part && b.expected ≠ b.found) with
    | [] => ok { s with boot.wave := w + 1, boot.waveHalved := false }
    | b :: t =>
      let f := t.foldl firstBad b
      ok (s.enterHold 4 { die := f.die, unit := f.part, wave := w, expected := f.expected, found := f.found })

/-- BIST_POWER_SAMPLE (R553): package power, an F32 value, above 680 W. -/
def execBistPowerSample (power : Nat) (s : State) : Outcome :=
  if s.inStage 5 && s.boot.wave < 4 && !s.boot.waveHalved && fLt 0x442A0000 power then
    ok (({ s with boot.waveHalved := true }.inc O.BIST_SLOWED_COUNT).raise 0x2053)
  else ok s

/-- ONCHIP_MBIST_COMPLETE (R554): the die and array with more faults than spares, if there is one. -/
def execOnchipMbistComplete (bad : Option (Fin 6 × Fin 256)) (s : State) : Outcome :=
  if !s.inStage 5 then ok s
  else
    match bad with
    | none => ok { s with boot.onchipDone := true }
    | some b => ok (s.enterHold 5 { die := b.1.val, unit := b.2.val })

/-- HBM_SELF_TEST_COMPLETE (R294, R555): the listed rows of a stack are repaired, then the rows that the test found failing, while
spare rows last. -/
def execHbmSelfTestComplete (stack : Fin 8) (found : List Nat) (spares : Nat) (s : State) : Outcome :=
  if !s.inStage 5 then ok s
  else
    let h := stack.val
    let mine := s.boot.repairs.filter (fun r => r / 2 ^ 32 = h)
    let want := (mine ++ (found.map (fun r => h * 2 ^ 32 + r % 2 ^ 32))).eraseDups
    let done := want.take spares
    let s := done.foldl (fun (s : State) _ => (s.inc O.HBM_ROWS_REPAIRED).raise 0x2052 { kind := 10, subj := h }) s
    let s := { s with boot.repairs := s.boot.repairs.filter (fun r => r / 2 ^ 32 ≠ h) ++ want.drop spares }
    if want.length ≤ spares then ok { s with boot.hbmDone := setBit s.boot.hbmDone h true }
    else ok (s.enterHold 5 { die := 8 + h })

/-! ### Stages -/

/-- Limits of the stages in units of 0.125 ns (Table 20.3). -/
def stageLimit (k : Nat) : Nat := 8000000 * ([10, 1500, 500, 100, 10, 4500, 500, 300, 100].getD k 0)

/-- When the limit of the present stage is counted from: S2 from its supply condition (R548). -/
def State.limitFrom (s : State) : Option Nat := if s.obj O.BRINGUP_STAGE = 2 then s.supplyMet else some s.boot.stageStart

/-- STAGE_TIMEOUT (R548, R549): a stage has passed its limit; a paused one does not. -/
def execStageTimeout (s : State) : Outcome :=
  let k := s.obj O.BRINGUP_STAGE
  match s.limitFrom with
  | none => ok s
  | some t =>
    if k ≤ 8 && s.inStage k && s.boot.paused.isNone then ok ((s.upTo (t + stageLimit k)).enterHold 8 {}) else ok s

/-- A stage ends and the next begins (R548): its duration is published. -/
def State.nextStage (s : State) (k : Nat) : State :=
  let ms := (s.now - s.boot.stageStart) / 8000000
  let s := (s.put (O.STAGE_MS_S0 + k) ms).put O.BRINGUP_STAGE (k + 1)
  { s with boot.stageStart := s.now }

/-- S0 ends: reference time starts with S1 (R68, R547). -/
def State.endS0 (s : State) : State :=
  let s := s.nextStage 0
  { s with boot.before := s.boot.before + s.now, boot.stageStart := 0, boot.tripEnd := rebaseEnd s.boot.tripEnd s.now, mgmt.lastRaise := [], now := 0,
           power.okSince := sinceReset s.power.okSince, power.goodSince := sinceReset s.power.goodSince }

/-- The MP starts (R494, R496, R504, R525, R539). -/
def State.startMp (s : State) (lost : List Nat) : State :=
  let s := { s with boot.mpUp := true, mgmt := s.mgmt.fresh s.now }
  let s := ((s.raise 0x1040).reloadRwp lost).put O.FIELD_LINK_STATE 2
  let s := if s.time.calLost then { s with time.calLost := false }.raise 0x3084 else s
  s.finishIntents

/-- S1 ends (R530): the SC boots the active slot, or the other when an image of it fails. -/
def State.endS1 (s : State) (obs : StageObs) : State :=
  let a := s.obj O.FW_ACTIVE_SLOT
  let good := fun (x : FwSlot) (f : Option (Fin 5)) => f.isNone && s.fwGood x
  let okA := good s.sec.slotA obs.slotA
  let okB := good s.sec.slotB obs.slotB
  let first := if a = 0 then okA else okB
  let image := fun (f : Option (Fin 5)) => match f with | some i => i.val | none => 0
  if okA || okB then
    let b := if first then a else 1 - a
    let s := if first then s else s.raise 0x3086
    ((s.put O.FW_SECURITY_VERSION (if b = 0 then s.sec.slotA.version else s.sec.slotB.version)).startMp obs.lost).nextStage 1
  else (s.raise 0x3086).enterHold 1 { unit := image (if a = 0 then obs.slotA else obs.slotB) }

/-- The 1.8 V stage stands between 1.746 V and 1.854 V (Table 20.3). -/
def State.railGood (s : State) : Bool :=
  let x := ((f32 (s.obj O.RAIL_1V8_V)).mul (.fin false 1000 0)).1
  !x.lt (.fin false 1746 0) && !(Num.fin false 1854 0).lt x

/-- S4 ends (R551): secrets are cleared, and the scan latch is set only over an all-zero read-back. -/
def State.endS4 (s : State) (obs : StageObs) : State :=
  let s := { s with sec.linkKeys := [] }.endSessions none
  if obs.readBack ≠ 0 then s.enterHold 3 {} else { s with boot.scanLatch := true }.nextStage 4

/-- The first die with fewer valid sensors than it needs (R464, R557). -/
def State.fewSensors (s : State) : Option Nat :=
  [0, 1, 2, 3, 4, 5].find? (fun d =>
    let n := ((List.range (sensorCount d)).filter (fun i => ((s.power.sensors.find (32 * d + i)).map (·.valid)).getD false)).length
    n < if d < 4 then 20 else 6)

/-- The output block of vector 1 of Table 4.5, as a little-endian number: what every tile's grist unit must give (R120). -/
def gristCheck : Nat := ofLE ((Aes.enc (Aes.roundKeys (List.replicate 16 0)) (List.replicate 16 0)).map (BitVec.ofNat 8))

/-- S6 ends (R557): stores are zeroed and the functional checks judged in their order. -/
def State.endS6 (s : State) (obs : StageObs) : State :=
  let s := { s with mem := [], poison := [] }
  match obs.grist.filter (fun x => x.2 ≠ gristCheck), s.fewSensors, obs.droop with
  | some (t, found), _, _ =>
    s.enterHold 6 { die := t.val / 96, tile := t.val, expected := gristCheck % 2 ^ 32, found := found % 2 ^ 32 }
  | none, some d, _ => s.enterHold 6 { die := d }
  | none, none, some (d, k) => s.enterHold 6 { die := d.val, unit := k.val }
  | none, none, none =>
    if !s.fullConfig then s.nextStage 6
    else if !mapValid obs.express then
      s.enterHold 6 { die := 0xFF, unit := (classO.find? (fun n =>
        let p := mapByte obs.express n
        !(p = 0xFF || (8 ≤ p && p ≤ 23 && p ≠ n && mapByte obs.express p = n)))).getD 0xFF }
    else { s.put O.EXPRESS_ACTIVE obs.express with net.links := freshLinks obs.express }.nextStage 6

/-- S8 begins (R559): the ports come up, links start training, and the LSM is supplied. -/
def State.startS8 (s : State) : State :=
  let s := { s with boot.ifUp := true }
  let s := s.linkList.foldl (fun (s : State) n =>
    let s := s.setLink n { s.link n with graceStart := s.now }
    if s.obj (O.at O.LINK_ENABLE n) = 1 && !(s.link n).express then s.startTraining n else s) s
  if s.fullConfig then s.supplyLsm else s

/-- S7 ends (R459, R462, R530): the bridle cores run, and the clock moves to its mode. -/
def State.endS7 (s : State) (obs : StageObs) : State :=
  if obs.bridleBad then s.enterHold 1 { unit := 2 }
  else
    let s := { (s.put O.TRIM_POWER 64).retrim with power.mode := s.obj O.CLOCK_MODE }
    (s.setClock s.modeClock).nextStage 7 |>.startS8

/-- S8 ends (R559): the module is ready. -/
def State.endS8 (s : State) : State :=
  let ms := s.elapsedMs
  let s := s.put O.BIST_RECORD (bistRecord 0 9 0xFF 0xFF 0xFF 0xFFFF 0 0 ms s.calNs)
  let s := ((s.put O.LAST_BRINGUP_MS ms).put O.MODULE_READY 1).nextStage 8
  s.raise 0x1050

/-- The work of a stage is done. -/
def State.endStage (s : State) (k : Nat) (obs : StageObs) : State :=
  match k with
  | 0 => s.endS0
  | 1 => s.endS1 obs
  | 2 =>
    match s.supplyMet with
    | some t => if t ≤ s.now && s.boot.capDone && s.railGood then s.nextStage 2 else s
    | none => s
  | 3 => (s.setClock 1800).nextStage 3
  | 4 => s.endS4 obs
  | 5 =>
    if s.boot.wave = 4 && s.boot.onchipDone && s.boot.hbmDone = 255 then { s with boot.scanLatch := false }.nextStage 5 else s
  | 6 => s.endS6 obs
  | 7 => s.endS7 obs
  | 8 => s.endS8
  | _ => s

/-- BRINGUP_STAGE_COMPLETE (R548, R549): the work of the present stage is done at a reference time, with what was found in it. A
power alert in S2 to S8 pauses bring-up at the end of the stage. -/
def execBringupStageComplete (at_ : Nat) (obs : StageObs) (s : State) : Outcome :=
  let k := s.obj O.BRINGUP_STAGE
  if 8 < k || !s.inStage k then ok s
  else
    let s := s.upTo at_
    if 2 ≤ k && s.power.alert then ok { s with boot.paused := some (s.boot.paused.getD s.now) } else ok (s.endStage k obs)

end Sys2Proof.Machine
end

