-- ==== Sys2Proof/Machine/Access.lean ====
section
/-! DEFINITION. Access.lean: dictionary requests: their form, sessions, admission, and what each operation does (R497 to R514, R518,
R519). -/

namespace Sys2Proof.Machine

/-! ### Items -/

/-- An access item of a request (R499). -/
structure Item where
  key : Nat
  write : Bool
  ty : Nat
  len : Nat
  val : Nat
deriving DecidableEq, Repr

/-- The items of a body, when it consists of exactly that many well-formed ones (R498, R499). -/
def parseItems : Nat → List Byte → Option (List Item)
  | 0, bs => if bs.isEmpty then some [] else none
  | n + 1, bs =>
    let h := ofLE (bs.take 8)
    let act := recF h 3 1
    let ty := recF h 4 1
    let len := recF h 6 2
    let v := if act = 1 then cdiv len 8 * 8 else 0
    let rest := bs.drop 8
    if bs.length < 8 || 1 < act || recF h 5 1 ≠ 0 || (act = 0 && (ty ≠ 0 || len ≠ 0)) || rest.length < v
        || ofLE ((rest.take v).drop len) ≠ 0 then none
    else
      (parseItems n (rest.drop v)).map (fun t =>
        { key := recF h 0 2 * 256 + recF h 2 1, write := act = 1, ty := ty, len := len, val := ofLE (rest.take (if act = 1 then len else 0)) } :: t)

/-! ### Writes -/

/-- The partition of a partition-indexed object, by its object of partition 0. -/
def partIx (base k : Nat) : Option (Fin 4) :=
  if base ≤ k && (k - base) % 256 = 0 && (k - base) / 256 < 4 then some (Fin.ofNat 4 ((k - base) / 256)) else none

/-- The link of a link object, by its object of TL0. -/
def linkIx (base k : Nat) : Option (Fin 24) :=
  if base ≤ k && (k - base) % 256 = 0 && (k - base) / 256 < 24 then some (Fin.ofNat 24 ((k - base) / 256)) else none

/-- Module-wide objects whose write is an operation of its own. -/
def State.ownModule (s : State) (who : Who) (k v : Nat) : Option Outcome :=
  let sel := s.selOf who
  if k = O.BEAT_RELEASE then some (execBeatRelease who v s)
  else if k = O.BEAT_PERIOD_NS then some (execBeatPeriodNsWrite who v s)
  else if k = O.BEAT_ROLE then some (execBeatRoleWrite who v s)
  else if k = O.BEAT_START_COUNT then some (execBeatStartCountWrite who v s)
  else if k = O.UPSTREAM_PRIMARY then some (execUpstreamLinkWrite who 0 v s)
  else if k = O.UPSTREAM_SECONDARY then some (execUpstreamLinkWrite who 1 v s)
  else if k = O.DOWNSTREAM_MASK then some (execUpstreamLinkWrite who 2 v s)
  else if k = O.HOLD_RELEASE then some (execHoldRelease who v s)
  else if k = O.DEBUG_ENABLE then some (execDebugEnableWrite who v s)
  else if k = O.DEBUG_HALT then some (execDebugHaltWrite who v s)
  else if k = O.ROUTE_ENTRY then some (execRouteEntryWrite who (sel O.ROUTE_SELECT) v s)
  else if k = O.EPOCH_VALUE then some (execEpochValueWrite who (sel O.EPOCH_SELECT) v s)
  else if k = O.WIRING_ENTRY then some (execWiringEntryWrite who (Fin.ofNat 24 (sel O.DISC_SELECT)) v s)
  else if k = O.ADOPT then some (execAdopt who v s)
  else if k = O.RELEASE then some (execReleaseChip who v s)
  else if k = O.COMMISSION then some (execCommission who v s)
  else if k = O.RESHAPE_ARM then some (execReshapeArm who v s)
  else if k = O.CLOCK_MODE then some (execClockModeWrite who v s)
  else if k = O.LAYOUT_APPLY then some (execLayoutApply who v s)
  else if k = O.FACTORY_INIT then some (execFactoryInit who v s)
  else if k = O.MODULE_RESET then some (execModuleReset who v s)
  else if k = O.CALENDAR_SET then some (execCalendarSet who v s)
  else if k = O.OWNER_KEY_INIT then some (execOwnerKeyInit who v s)
  else if k = O.OWNER_KEY_NEXT then some (execOwnerKeyNext who v s)
  else if k = O.IMAGE_KEY then some (execImageKeyWrite who (Fin.ofNat 8 (sel O.IMAGE_KEY_SELECT)) v s)
  else if k = O.LINK_KEY then some (execLinkKeyWrite who (Fin.ofNat 128 (sel O.LINK_KEY_SELECT)) v s)
  else if k = O.VENDOR_KEY_REVOKED then some (execVendorKeyRevoked who v s)
  else if k = O.FW_UPDATE_OFFSET then some (execFwUpdateOffset who v s)
  else if k = O.FW_UPDATE_CHUNK then some (execFwUpdateChunk who v s)
  else if k = O.FW_UPDATE_COMMIT then some (execFwUpdateCommit who v s)
  else if k = O.POWER_CEILING_SET_W then some (execPowerCeilingSetW who v s)
  else if k = O.PARTITION_LAYOUT_LOCK then some (execPartitionLayoutLock who v s)
  else if k = O.SECURITY_VERSION_FLOOR then some (execSecurityVersionFloor who v s)
  else if k = O.RTV_MODE then some (execRtvMode who v s)
  else ((List.range 18).find? (fun i => planKey i = k)).map (fun i => execCalPlanWrite who (Fin.ofNat 18 i) v s)

/-- Objects of a partition or link whose write is an operation of its own. A new store target's answer is a free value, since the
network gives it (R436). -/
def State.ownIndexed (s : State) (who : Who) (k v : Nat) : Option Outcome :=
  ((linkIx O.LINK_ENABLE k).map (fun n => execLinkEnableWrite who n v s)) <|>
  ((partIx O.STEP_PARAM k).map (fun p => execStepParamWrite who p v s)) <|>
  ((partIx O.START_BEAT k).map (fun p => execStartBeatWrite who p v s)) <|>
  ((partIx O.UNLOAD k).map (fun p => execUnload who p v s)) <|>
  ((partIx O.DATA_CURSORS k).map (fun p => execDataCursorsWrite who p v s)) <|>
  ((partIx O.STORE_TARGET k).map (fun p => let d := s.drawNat 2; execStoreTargetWrite who p v (1 + d.1) d.2)) <|>
  ((partIx O.RESTORE_REQUEST k).map (fun p => execRestoreRequest who p v s))

/-- The operation of its own that a write is. -/
def State.ownRow (s : State) (who : Who) (k v : Nat) : Option Outcome := s.ownModule who k v <|> s.ownIndexed who k v

/-- Write a selector of the requester's session, or of its message (R507). -/
def State.setSel (s : State) (who : Who) (k v : Nat) : State :=
  match s.sess who with
  | some x => s.setSess who { x with sel := x.sel.set k v }
  | none => { s with mgmt.tempSel := s.mgmt.tempSel.set k v }

/-- PTP_ENABLE, PTP_DOMAIN or PTP_TRANSPORT has taken a value (R526): masters that are heard no longer are forgotten. -/
def State.ptpChanged (s : State) (k : Nat) : State :=
  let was := s.bestMaster
  let ms := if k = O.PTP_ENABLE then s.time.masters.filter (fun m => bit (s.obj O.PTP_ENABLE) m.port) else []
  { s with time.masters := ms }.reselect was

/-- The effect of a write to an object without an operation of its own (R127, R397, R419, R459, R461, R470, R503, R507,
R526). -/
def State.plainWrite (s : State) (who : Who) (k v : Nat) : State × Nat :=
  match Dict.row k with
  | none => (s, St.notPresent)
  | some r =>
    if k = O.DISC_SELECT && !s.linkPresent v then (s, St.refused)
    else if k = O.SENSOR_INDEX && sensorCount (s.selOf who O.SENSOR_DIE) ≤ v then (s, St.refused)
    else if r.sel then (s.setSel who k v, St.ok)
    else if k = O.CAL_TEMP_FORCE_C && v < s.obj O.CAL_TEMP_DELTA_C then (s, St.refused)
    else if k = O.AVG_LIMIT_W && s.obj O.POWER_CEILING_W < v then (s, St.refused)
    else if k = O.BOOST_MAX_MHZ && v % 50 ≠ 0 then (s, St.refused)
    else if k = O.DEBUG_PARTITION && s.obj O.DEBUG_ENABLE = 1 then (s, St.refused)
    else if r.acc = .rwp then
      let s := s.store k v
      if k = O.PTP_ENABLE || k = O.PTP_DOMAIN || k = O.PTP_TRANSPORT then (s.ptpChanged k, St.ok)
      else if k = O.BOOST_MAX_MHZ && v < s.obj O.CLOCK_MHZ && 2000 < s.obj O.CLOCK_MHZ then (s.setClock v, St.ok)
      else (s, St.ok)
    else (s.put k v, St.ok)

/-- REGISTER_WRITE (R502): a write to an object without its own row; one to another object is that row's operation. -/
def execRegisterWrite (who : Who) (key v : Nat) (s : State) : Outcome :=
  match s.ownRow who key v with
  | some o => o
  | none => rowWrite s who key v (·.plainWrite who key v)

/-- A single write's state and status, the latter taken back from what was sent. -/
def writeResult (s : State) (o : Outcome) : State × Nat :=
  match o with
  | .next t =>
    match t.out with
    | .status _ _ st :: rest => ({ t with out := rest }, st)
    | _ => (t, St.ok)
  | _ => (s, St.refused)

/-- A write item runs (R501, R502). -/
def State.writeItem (s : State) (who : Who) (x : Item) : State × Nat :=
  match s.writeAccess who x.key, Dict.row x.key with
  | some st, _ => (s, st)
  | none, none => (s, St.notPresent)
  | none, some r =>
    if x.ty ≠ ObjTy.code r.ty || (r.ty ≠ .str && x.len ≠ r.len) then (s, St.type)
    else writeResult s (execRegisterWrite who x.key (if r.ty = .str then x.val + 256 ^ x.len else x.val) s)

/-- Bytes that an answer's body may have on a path (R498). -/
def bodyLimit (who : Who) : Nat := (if (Who.mbx who).isSome then 4032 else 1232) - 16

/-- The items of a message run in order (R499): the state, whether one has failed, the answer's body, and how many items are still to
come. A read whose value would take the answer past its largest size is REFUSED (R498, log entry 93). -/
def State.runItem (who : Who) (a : State × Bool × List Byte × Nat) (x : Item) : State × Bool × List Byte × Nat :=
  let (s, failed, body, left) := a
  let left := left - 1
  if failed then (s, true, body ++ itemHeader x.key (b2n x.write) x.ty St.notRun x.len, left)
  else if x.write then
    let (t, st) := s.writeItem who x
    (t, st ≠ 0, body ++ itemHeader x.key 1 x.ty st x.len, left)
  else
    let (t, st, v) := s.readObj who x.key
    let ans := body ++ readAnswer x.key st v
    if bodyLimit who < ans.length + 8 * left then (s, true, body ++ readAnswer x.key St.refused 0, left)
    else (t, st ≠ 0, ans, left)

/-! ### Sessions -/

/-- The owner key is at hand: installed, and unwrapped outside the self-test (R533, R551, R557). -/
def State.keysUp (s : State) : Bool :=
  s.obj O.OWNER_KEY_STATE ≠ 0 && s.obj O.BRINGUP_STAGE ≠ 5 && s.obj O.BRINGUP_STAGE ≠ 6

/-- The first 16 bytes of HMAC-SHA-256 under the owner key (R506). -/
def State.ownerMac (s : State) (bs : List Byte) : Nat := ofLE ((Sha.hmac (toLE 32 s.sec.ownerKey) bs).take 16)

/-- What a PROOF is computed over (R506). -/
def proofBytes (who : Who) (nonce : Nat) : List Byte :=
  toLE 16 nonce ++ toLE 2 who.session ++
  match Who.mbx who with
  | some n => toLE 1 n
  | none => toLE 16 who.addr ++ toLE 2 who.port

/-- A requester as a source of events. -/
def Who.source (w : Who) : Nat := Who.pathCode w + 8 * (w.port + 65536 * w.addr)

/-- A failed PROOF, MAC or SEQ is counted and logged (R506). -/
def State.authFailed (s : State) (who : Who) : State := (s.inc O.AUTH_FAILURES).raiseEvery 0x2045 (Who.source who) sec1

/-- End a session: a mailbox's starts afresh (R506). -/
def State.dropSess (s : State) (who : Who) : State :=
  match Who.mbx who with
  | some n => { s with mgmt.mbx := s.mgmt.mbx.del n }
  | none => { s with mgmt.sessions := s.mgmt.sessions.del who.session }

/-- The session of a request stands, and its MAC and SEQ with it (R506): none, or the answer's status. -/
def State.checkSess (s : State) (who : Who) (op : Nat) (m : Msg) : State × Option Nat :=
  let mac := bit m.flags 2
  match s.sess who with
  | none =>
    if who.session ≠ 0 || mac then (if mac then s.authFailed who else s, some St.session) else (s, none)
  | some x =>
    let s' := s.setSess who { x with lastReq := s.refNs }
    if !x.authed then (if mac then (s.authFailed who, some St.session) else (s', none))
    else
      let good := mac && s.keysUp && m.mac = s.ownerMac (toLE 16 (x.nonce.getD 0) ++ Msg.header m op ++ m.body) &&
        (let d := (m.seq + 65536 - x.lastSeq) % 65536; 1 ≤ d && d ≤ 1024)
      if good then (s.setSess who { x with lastReq := s.refNs, lastSeq := m.seq }, none) else (s.authFailed who, some St.session)

/-! ### Answers -/

/-- An answer goes to the requester. -/
def State.answerTo (s : State) (who : Who) (op : Nat) (m : Msg) (ctrl : Option Nat) (status count : Nat) (body : List Byte) : State :=
  s.sendMsg who op (mkMsg status 1 m.seq m.session count 0 body) ctrl

/-- A request is not admitted (R511, R513). -/
def State.busy (s : State) (who : Who) (op : Nat) (m : Msg) (ctrl : Option Nat) (cls : Nat) : State :=
  let retry := min 10000 (10 + 2 * s.mgmt.queue.length)
  ((s.inc (O.BUSY_CLASS0 + cls)).raiseEvery 0x2042 0 (60 * sec1)).sendMsg who op (mkMsg St.busy 1 m.seq m.session 0 retry []) ctrl

/-! ### Operations -/

/-- A number for a new UDP session (R506, R536): the generator's, or the next above it that no session has. -/
def State.newSession (s : State) : Option Nat × State :=
  let (r, s) := s.drawNat 64
  (((List.range 33).map (fun i => (r + i) % 65535 + 1)).find? (fun n => (s.mgmt.sessions.find n).isNone), s)

/-- OPEN_SESSION runs (R506, R536). -/
def State.openSess (s : State) (who : Who) (m : Msg) (ctrl : Option Nat) (cls : Nat) : State :=
  if s.obj O.SC_STATE = 1 then s.busy who 0x10 m ctrl cls
  else
    match Who.mbx who with
    | some n =>
      let (nonce, s) := s.drawNonce
      let s := { s with mgmt.mbx := s.mgmt.mbx.set n { path := who.path, nonce := some nonce, lastReq := s.refNs } }
      s.sendMsg who 0x10 (mkMsg 0 1 m.seq 0 0 0 (toLE 16 nonce)) ctrl
    | none =>
      let (nonce, t) := s.drawNonce
      match (if s.mgmt.sessions.length < 32 then t.newSession else (none, s)) with
      | (none, _) => s.busy who 0x10 m ctrl cls
      | (some n, s) =>
        let x : Session := { addr := who.addr, port := who.port, path := who.path, nonce := some nonce, lastReq := s.refNs }
        { s with mgmt.sessions := s.mgmt.sessions.set n x }.sendMsg who 0x10 (mkMsg 0 1 m.seq n 0 0 (toLE 16 nonce)) ctrl

/-- AUTH runs (R506): five failures close the session. -/
def State.auth (s : State) (who : Who) (m : Msg) (ctrl : Option Nat) : State :=
  match s.sess who with
  | none => (s.authFailed who).answerTo who 0x11 m ctrl St.session 0 []
  | some x =>
    let good := match x.nonce with
      | some n => s.keysUp && ofLE m.body = s.ownerMac (proofBytes who n)
      | none => false
    if good then
      (s.setSess who { x with authed := true, lastSeq := m.seq, failed := 0 }).answerTo who 0x11 m ctrl St.ok 0 []
    else
      let s := s.authFailed who
      let s := if 5 ≤ x.failed + 1 then s.dropSess who else s.setSess who { x with failed := x.failed + 1 }
      s.answerTo who 0x11 m ctrl St.session 0 []

/-- CLOSE_SESSION runs. -/
def State.closeSess (s : State) (who : Who) (m : Msg) (ctrl : Option Nat) : State :=
  if (s.sess who).isNone then s.answerTo who 0x12 m ctrl St.session 0 [] else (s.dropSess who).answerTo who 0x12 m ctrl St.ok 0 []

/-- The key that a subscription body names. -/
def subKey (b : List Byte) : Nat := let r := ofLE b; recF r 0 2 * 256 + recF r 2 1

/-- SUBSCRIBE runs (R514): a second one for the same object replaces the period. -/
def State.subscribe (s : State) (who : Who) (m : Msg) (ctrl : Option Nat) : State :=
  let k := subKey m.body
  let period := recF (ofLE m.body) 4 4
  let st := (s.readObj who k).2.1
  match Who.mbx who, s.sess who with
  | some _, _ => s.answerTo who 0x20 m ctrl St.refused 0 []
  | none, none => s.answerTo who 0x20 m ctrl St.session 0 []
  | none, some x =>
    let others := x.subs.filter (fun u => u.key ≠ k)
    if st = St.notPresent || st = St.access then s.answerTo who 0x20 m ctrl st 0 []
    else if period < 10 || 60000 < period || 8 ≤ others.length || (others.length = x.subs.length && 256 ≤ s.subCount) then
      s.answerTo who 0x20 m ctrl St.refused 0 []
    else
      let u : Sub := { key := k, period := period, next := s.refNs + s.effPeriod period }
      (s.setSess who { x with subs := others ++ [u] }).answerTo who 0x20 m ctrl St.ok 0 []

/-- UNSUBSCRIBE runs. -/
def State.unsubscribe (s : State) (who : Who) (m : Msg) (ctrl : Option Nat) : State :=
  match Who.mbx who, s.sess who with
  | some _, _ => s.answerTo who 0x21 m ctrl St.refused 0 []
  | none, none => s.answerTo who 0x21 m ctrl St.session 0 []
  | none, some x => (s.setSess who { x with subs := x.subs.filter (fun u => u.key ≠ subKey m.body) }).answerTo who 0x21 m ctrl St.ok 0 []

/-- EVENT_SUBSCRIBE runs (R519). -/
def State.eventSubscribe (s : State) (who : Who) (m : Msg) (ctrl : Option Nat) : State :=
  match Who.mbx who, s.sess who with
  | some _, _ => s.answerTo who 0x22 m ctrl St.refused 0 []
  | none, none => s.answerTo who 0x22 m ctrl St.session 0 []
  | none, some x =>
    let r := ofLE m.body
    let c := recF r 0 2
    let q := recF r 2 2
    (s.setSess who { x with classMask := c, srcMask := q }).answerTo who 0x22 m ctrl St.ok 0 []

/-- LOG_READ runs (R518): entries from FROM_SEQ on, at most MAX, the oldest first. -/
def State.logRead (s : State) (who : Who) (m : Msg) (ctrl : Option Nat) : State :=
  let r := ofLE m.body
  let from_ := recF r 0 8
  let mx := recF r 8 1
  if mx = 0 || (if (Who.mbx who).isSome then 31 else 8) < mx then s.answerTo who 0x30 m ctrl St.refused 0 []
  else
    let es := ((s.mgmt.log.takeWhile (fun e => from_ ≤ e.seq)).reverse).take mx
    s.answerTo who 0x30 m ctrl St.ok es.length ((es.map (fun e => toLE 128 (e.bytes (s.priv who)))).flatten)

/-- ACCESS runs (R499, R502, R504): the answer waits for the persistent writes of its items. -/
def State.accessMsg (s : State) (who : Who) (m : Msg) (ctrl : Option Nat) (items : List Item) : State :=
  let req := s.mgmt.reqNo + 1
  let s := { s with mgmt.reqNo := req, mgmt.defer := some req, mgmt.tempSel := [] }
  let r := items.foldl (State.runItem who) (s, false, [], items.length)
  let s := { r.1 with mgmt.defer := none, mgmt.tempSel := [] }
  let a := mkMsg St.ok 1 m.seq m.session items.length 0 r.2.2.1
  if s.mgmt.persistQ.any (·.req = req) then
    let h : HeldAnswer := { req := req, who := who, op := 0x01, msg := a, ctrl := ctrl }
    { s with mgmt.held := s.mgmt.held ++ [h] }
  else s.sendMsg who 0x01 a ctrl

/-! ### A request -/

/-- The body of an operation other than ACCESS keeps to Table 18.3. -/
def bodyOk (op : Nat) (b : List Byte) : Bool :=
  let r := ofLE b
  match op with
  | 0x10 => b.isEmpty
  | 0x11 => b.length = 16
  | 0x12 => b.isEmpty
  | 0x20 => b.length = 8 && recF r 3 1 = 0
  | 0x21 => b.length = 8 && recF r 3 5 = 0
  | 0x22 => b.length = 8 && recF r 4 4 = 0
  | 0x30 => b.length = 16 && recF r 9 7 = 0
  | _ => false

/-- A request breaks Table 18.2, R9, or its body does not match BODY_LEN, COUNT and Table 18.3 (R498). -/
def malformed (op : Nat) (m : Msg) : Bool :=
  m.status ≠ 0 || (m.flags ≠ 0 && m.flags ≠ 4) || m.retry ≠ 0 || m.resv ≠ 0 || m.bodyLen ≠ m.body.length ||
  if op = 0x01 then m.count = 0 || 32 < m.count || (parseItems m.count m.body).isNone
  else m.count ≠ 0 || !bodyOk op m.body

/-- An item belongs to class 0 (Table 18.6). -/
def Item.safety (x : Item) : Bool :=
  (0x2000 ≤ x.key / 256 && x.key / 256 ≤ 0x2FFF) ||
  (x.write && (x.key = O.EPOCH_VALUE || x.key = O.ROUTE_ENTRY || x.key = O.ADOPT || x.key = O.RELEASE || x.key = O.HOLD_RELEASE ||
    (partIx O.UNLOAD x.key).isSome || x.key = O.RESHAPE_ARM))

/-- The class of a request (Table 18.6). -/
def classOf (who : Who) (op : Nat) (items : List Item) : Nat :=
  if op = 0x01 && items.all Item.safety then 0 else if (Who.mbx who).isSome then 1 else 2

/-- Bytes of a message. -/
def Msg.size (m : Msg) : Nat := 16 + m.body.length + (if bit m.flags 2 then 16 else 0)

/-- An operation of an admitted request runs. -/
def State.runOpcode (s : State) (who : Who) (op : Nat) (m : Msg) (ctrl : Option Nat) (cls : Nat) (items : List Item) : State :=
  match op with
  | 0x01 => s.accessMsg who m ctrl items
  | 0x10 => s.openSess who m ctrl cls
  | 0x11 => s.auth who m ctrl
  | 0x12 => s.closeSess who m ctrl
  | 0x20 => s.subscribe who m ctrl
  | 0x21 => s.unsubscribe who m ctrl
  | 0x22 => s.eventSubscribe who m ctrl
  | _ => s.logRead who m ctrl

/-- An admitted request: what the queue holds up to its class is served first, then its session is checked and it runs (R506, R511,
R512). -/
def State.serveRequest (s : State) (who : Who) (op : Nat) (m : Msg) (ctrl : Option Nat) (cls : Nat) (items : List Item) : State :=
  let s := (s.inc (O.REQUESTS_CLASS0 + cls)).highWater (s.mgmt.queue.length + 1)
  let s := State.serveUpTo cls s.mgmt.queue.length s
  match s.checkSess who op m with
  | (s, some st) => s.answerTo who op m ctrl st 0 []
  | (s, none) => s.runOpcode who op m ctrl cls items

/-- The IPv6 link-local address of the field network (R497): fe80::/64 and the modified EUI-64 of FIELD_MAC; byte i of the address
is byte i of the number. -/
def State.linkLocal (s : State) : Nat :=
  let m := fun (i : Nat) => recF (s.obj O.FIELD_MAC) i 1
  fld 0 0xFE + fld 1 0x80 + fld 8 (m 0 ^^^ 2) + fld 9 (m 1) + fld 10 (m 2) + fld 11 0xFF + fld 12 0xFE + fld 13 (m 3) + fld 14 (m 4) + fld 15 (m 5)

/-- ff02::1. -/
def allNodes : Nat := fld 0 0xFF + fld 1 2 + fld 15 1

/-- A datagram reaches the dictionary's server (R497): port 5021 and a UDP checksum; on the field network the link-local address, or
ff02::1; on an EP its EP_MGMT_ADDR, or with that zero the autoconfigured one, which a router's prefix gives (log entry 150). -/
def State.reaches (s : State) (who : Who) (m : Msg) (multicast : Bool) : Bool :=
  if (Who.mbx who).isSome then !multicast
  else
    m.dport = 5021 && m.checksum ≠ 0 &&
    if multicast then Who.isField who && m.dest.getD allNodes = allNodes
    else match m.dest, who.path with
      | none, _ => true
      | some a, .ep _ => s.obj O.EP_MGMT_ADDR = a || s.obj O.EP_MGMT_ADDR = 0
      | some a, _ => a = s.linkLocal

/-- A request message reaches the MP, or the SC's ROM in its place (R497, R498, R511, R561). -/
def State.request (s : State) (who : Who) (op : Nat) (m : Msg) (ctrl : Option Nat) (multicast : Bool) : State :=
  let who := { who with session := m.session }
  let items := if op = 0x01 then (parseItems m.count m.body).getD [] else []
  if !s.served who || !s.reaches who m multicast then s
  else
    let s := if Who.isField who then s.inc O.FIELD_FRAMES_RX else s
    if (Who.mbx who).isNone && 1232 < Msg.size m then s
    else if multicast && (op ≠ 0x01 || items.any (·.write)) then s
    else if s.romServes && op ≠ 0x01 && op ≠ 0x10 && op ≠ 0x11 && op ≠ 0x12 then s
    else if m.version ≠ 1 then s.answerTo who op m ctrl St.version 0 []
    else if malformed op m || 4032 < Msg.size m then s.answerTo who op m ctrl St.malformed 0 []
    else
      let cls := classOf who op items
      match s.makeRoom cls with
      | none => s.busy who op m ctrl cls
      | some s => s.serveRequest who op m ctrl cls items

/-- ACCESS (R499): `multicast` tells that the request came to ff02::1 (R497). -/
def execAccess (who : Who) (msg : Msg) (multicast : Bool) (s : State) : Outcome := ok (s.request who 0x01 msg none multicast)

/-- OPEN_SESSION (R506). -/
def execOpenSession (who : Who) (msg : Msg) (s : State) : Outcome := ok (s.request who 0x10 msg none false)

/-- AUTH (R506). -/
def execAuth (who : Who) (msg : Msg) (s : State) : Outcome := ok (s.request who 0x11 msg none false)

/-- CLOSE_SESSION (R506). -/
def execCloseSession (who : Who) (msg : Msg) (s : State) : Outcome := ok (s.request who 0x12 msg none false)

/-- SUBSCRIBE (R514). -/
def execSubscribe (who : Who) (msg : Msg) (s : State) : Outcome := ok (s.request who 0x20 msg none false)

/-- UNSUBSCRIBE (R514). -/
def execUnsubscribe (who : Who) (msg : Msg) (s : State) : Outcome := ok (s.request who 0x21 msg none false)

/-- EVENT_SUBSCRIBE (R519). -/
def execEventSubscribe (who : Who) (msg : Msg) (s : State) : Outcome := ok (s.request who 0x22 msg none false)

/-- LOG_READ (R518). -/
def execLogRead (who : Who) (msg : Msg) (s : State) : Outcome := ok (s.request who 0x30 msg none false)

end Sys2Proof.Machine
end

