-- ==== Sys2Proof/Machine/Flit.lean ====
section
/-! DEFINITION. Flit.lean: the flit receiver and the start of packets at an output (R302 to R312, R320 to R323, R329, R335). -/

namespace Sys2Proof.Machine

/-! ### The byte stream of an input -/

/-- The packet that link n receives has ended: its buffer space is owed as credit, and the stream is at a boundary. -/
def State.rxEnd (s : State) (n cls : Nat) (owed : Bool) : State :=
  let l := s.link n
  let s := s.setLink n { l with rxBuf := [], rxMode := .idle, rxLeft := 0 }
  if owed then s.owe n cls l.rxTotal else s

/-- A whole header has come in: the packet is ejected, forwarded or dropped (R336). -/
def State.rxHeader (s : State) (n : Nat) (h : List Byte) : State :=
  let k := Packet.ofHeader (ofLE h) []
  let left := cdiv k.len 16 * 16 + 16
  let s := s.setLink n { s.link n with rxBuf := h, rxLeft := left, rxTotal := 32 + left }
  let mode := fun (s : State) (m : RxMode) => s.setLink n { s.link n with rxMode := m }
  if s.quarantined n then mode (s.inc O.QUARANTINE_DROPPED) .drop
  else if !s.packetsOn n then mode s .drop
  else
    match s.headTests n k with
    | (s, .drop) => mode s .drop
    | (s, .eject) => mode s .eject
    | (s, .forward o) =>
      mode (s.enqueue o { src := some n, cls := k.cls, bytes := ({ k with hops := k.hops - 1 } : Packet).header, done := false,
                          sent := 0, part := 0xFF, rank := n }) (.forward o)

/-- One 16-byte chunk of the stream of link n (R329): FILL only at a packet boundary. -/
def State.rxChunk (n : Nat) (s : State) (c : List Byte) : State :=
  let l := s.link n
  let cls := (Packet.ofHeader (ofLE (l.rxBuf.take 32)) []).cls
  let left := l.rxLeft - 16
  match l.rxMode with
  | .idle =>
    if !l.rxBuf.isEmpty then s.rxHeader n (l.rxBuf ++ c)
    else if c.headD 0 = 0 then s
    else s.setLink n { l with rxBuf := c }
  | .drop => if left = 0 then s.rxEnd n cls true else s.setLink n { l with rxLeft := left }
  | .forward o =>
    let s := s.setLink o ((s.link o).feed n c (left = 0) false)
    let s := if left = 0 then s.rxEnd n cls false else s.setLink n { s.link n with rxLeft := left }
    match (s.link o).cur with
    | some p => if p.src = some n then State.pump 2 o s else s
    | none => s
  | .eject =>
    let bs := l.rxBuf ++ c
    if left = 0 then
      let k := Packet.ofHeader (ofLE (bs.take 32)) []
      (s.rxEnd n cls true).ejectPkt n { k with payload := (bs.drop 32).take k.len } (bs.drop (bs.length - 16))
    else s.setLink n { l with rxBuf := bs, rxLeft := left }

/-- A byte string in chunks of 16. -/
def chunks16 : Nat → List Byte → List (List Byte)
  | 0, _ => []
  | f + 1, bs => bs.take 16 :: chunks16 f (bs.drop 16)

/-! ### Flits -/

/-- The header follows Table 11.2 (R304). -/
def flitHeaderOk (h : Nat) : Bool :=
  let typ := recF h 0 1
  typ ≤ 2 && recF h 1 1 < 4 && recF h 2 2 < 4096 && (typ ≠ 0 || recF h 2 2 = 0) && bits (recF h 4 2) 13 12 = 0 &&
  bits (recF h 6 2) 12 12 = 0 && recF h 8 1 ≤ 84 && recF h 9 1 ≤ 84 && recF h 11 1 < 16 && recF h 12 1 ≤ 64 && recF h 13 3 = 0

/-- A data flit cannot be accepted (R310): it and later ones are discarded, and NAK goes out once until accepting resumes
(DEDUCED); in the switchover sub-slot of a class O link no NAK is sent (R320). -/
def State.refuseFlit (s : State) (n : Nat) : State :=
  let l := s.link n
  if s.inSubslot n then s
  else if l.discarding then s
  else s.setLink n { l with nak := true, discarding := true }

/-- What a good flit says of the other direction: acknowledgement, NAK, credits and a lane switch (R310, R312, R317). -/
def State.flitControl (s : State) (n h : Nat) : State :=
  let l := s.link n
  let ack := recF h 4 2
  let cr := recF h 6 2
  let rp := if bit ack 15 then ackFlits (ack % 4096) l.replay else l.replay
  let sw := recF h 12 1
  let s := s.setLink n
    { l with replay := rp, lastAckAt := if rp.length < l.replay.length then s.now else l.lastAckAt,
             credTx := l.credTx.set (cr / 2 ^ 13) (l.credTx.get (cr / 2 ^ 13) 0 + cr % 4096),
             gapNext := some (recF h 9 1, bits (recF h 10 1) 7 4),
             switchIn := if sw = 0 then l.switchIn else some (recF h 11 1, sw) }
  let s := s.dropRetired n
  State.pump 16 n (if bit ack 15 && bit ack 14 then s.replayAll n else s.resumeReplay n)

/-- The flit counter of an inbound data flit of the present phase by its SEQ, around the next expected one (R321). -/
def LinkSt.rxCtrOf (l : LinkSt) (seq : Nat) : Nat :=
  let d := (seq + 4096 - l.rxNext) % 4096
  if d < 2048 then l.rxCtr + d else l.rxCtr + d - 4096

/-- Open the body of a data flit: plain, or decrypted under the key of its phase; none when its tag fails (R321). -/
def State.openBody (s : State) (n h : Nat) (flit : List Byte) : Option (List Byte) :=
  let l := s.link n
  let body := (flit.drop 16).take 320
  let enc := s.rxEnc n
  if recF h 0 1 = 1 then (if enc then none else some body)
  else if !enc then none
  else
    let ph := recF h 1 1 % 2
    match s.linkKey n 1 ph with
    | none => none
    | some key =>
      let ctr := if ph = l.rxPhase then l.rxCtrOf (recF h 2 2) else recF h 2 2
      Gcm.decrypt (toLE 32 key) (toLE 4 (key / 2 ^ 256) ++ toLE 8 ctr) ([flit.getD 0 0, flit.getD 2 0, flit.getD 3 0])
        (body.take 304) (body.drop 304)

/-- A tag failure (R322): more than 16 within a second raise LINK_AUTH, stop the direction and retrain. -/
def State.authFail (s : State) (n : Nat) : State :=
  let l := s.link n
  let ts := s.now :: l.tagFails.filter (fun t => s.now < t + 8000000000)
  let s := (s.setLink n { l with tagFails := ts }).inc (O.at O.AUTH_FAIL n)
  if 16 < ts.length then ((s.setLink n { s.link n with authStop := true, tagFails := [] }).raiseLink 0x3D07 n).startRetrain n
  else s.refuseFlit n

/-- A data flit with a good CRC: tag, then SEQ, then its bytes (R309, R310). A flit out of sequence whose key is gone is only
refused. Under a new phase the counter begins at SEQ, and the receive key of the old phase goes (R321). -/
def State.dataFlit (s : State) (n h : Nat) (flit : List Byte) : State :=
  let l := s.link n
  let ph := recF h 1 1 % 2
  let enc : Bool := recF h 0 1 = 2
  let next := recF h 2 2 = l.rxNext
  match s.openBody n h flit with
  | none => if next || (enc && (s.linkKey n 1 ph).isSome) || enc ≠ s.rxEnc n then s.authFail n else s.refuseFlit n
  | some bs =>
    if !next then s.refuseFlit n
    else
      let s := if enc && ph ≠ l.rxPhase then { s with sec.linkKeys := s.sec.linkKeys.del (4 * n + 2 + l.rxPhase) } else s
      let s := s.setLink n
        { l with rxNext := (l.rxNext + 1) % 4096, nak := false, discarding := false,
                 rxCtr := if !enc then l.rxCtr else if ph = l.rxPhase then l.rxCtr + 1 else l.rxNext + 1,
                 rxPhase := if enc then ph else l.rxPhase }
      let s := s.inc (O.at O.DATA_FLITS_RX n)
      (chunks16 (if enc then 19 else 20) bs).foldl (State.rxChunk n) s

/-- Symbols that the decoder corrected count for the link and for the lane that carried them (R302, R327). -/
def State.countFec (s : State) (n : Nat) (fixed : List Nat) : State :=
  let lanes := setBits (s.obj (O.at O.ACTIVE_LANES n)) 4
  let s := s.add (O.at O.FEC_CORRECTED n) fixed.length
  fixed.foldl (fun s i => s.inc (O.at (O.LANE0_CORRECTED + lanes.getD (i % max 1 lanes.length) 0) n)) s

/-- Whether a flit of link n is among what was sent since. -/
def sentFlit (n : Nat) (out : List Out) : Bool :=
  out.any (fun o => match o with | .flit m _ => m = n | _ => false)

/-- A codeword gives no flit: its gap announcements are not decoded, and when those before it were not either, the link has lost
codeword framing and retrains (R305, log entry 124). -/
def State.badCodeword (s : State) (n : Nat) : State :=
  if s.inSubslot n then s
  else if (s.link n).gapNext.isNone then (s.inc (O.at O.FRAMING_LOSS n)).askRetrain n 1
  else (s.setLink n { s.link n with gapNext := none }).refuseFlit n

/-- The effect of one received codeword. -/
def State.flitRx (s : State) (n : Nat) (cw : List Nat) : State :=
  match Fec.rsDecode cw with
  | none => (s.inc (O.at O.FEC_UNCORRECTABLE n)).badCodeword n
  | some (data, fixed) =>
    let s := s.countFec n fixed
    let flit := Fec.bytesOf data
    let h := ofLE (flit.take 16)
    if crc32c (flit.take 336) ≠ ofLE ((flit.drop 336).take 4) || !flitHeaderOk h then
      (s.inc (O.at O.CRC_FAIL n)).badCodeword n
    else
      let s := s.flitControl n h
      if recF h 0 1 = 0 || !s.isUp n then s else s.dataFlit n h flit

/-- FLIT_RX (R302 to R312): one codeword of 288 symbols on a link that is UP. What it makes the module acknowledge, NAK or
credit leaves with the next flit: an IDLE flit goes out when the command sends no other (DESIGN CHOICE: the module sends
flits without end, and this model sends those that say something new). -/
def execFlitRx (link : Fin 24) (cw : List Nat) (s : State) : Outcome :=
  let n := link.val
  if !(s.linkPresent n && s.isUp n) then ok s
  else
    let t := s.flitRx n cw
    let l := t.link n
    let news := l.nak || l.rxNext ≠ (s.link n).rxNext || l.credOwed.any (fun e => 0 < e.2)
    if t.isUp n && news && !sentFlit n (t.out.take (t.out.length - s.out.length)) then ok (t.sendIdle n)
    else ok t

/-! ### The output -/

/-- Classes by output priority (Table 12.4). -/
def classOrder : List Nat := [0, 1, 2, 3, 4, 5, 7, 6]

/-- The credits a waiting packet needs: those of its full length by its header (R333). -/
def OutPkt.need (p : OutPkt) : Nat := creditsOf (48 + recF (ofLE (p.bytes.take 16)) 2 2)

/-- The packet an output starts next: the first of the highest class that has credit for it (R335). -/
def LinkSt.nextPkt (l : LinkSt) : Option OutPkt :=
  (classOrder.filterMap (fun c =>
    match l.queue.find? (fun p => p.cls = c) with
    | some p => if p.need ≤ l.credTx.get c 0 then some p else none
    | none => none)).head?

/-- OUTPUT_PACKET_START (R323, R335): at a packet boundary an output starts the next packet; in the middle of one it sends
the bytes that are here. -/
def execOutputPacketStart (link : Fin 24) (s : State) : Outcome :=
  let n := link.val
  let l := s.link n
  if !s.packetsOn n || l.idleOnly then ok s
  else
    let s := s.resumeReplay n
    if !s.isUp n then ok s
    else
    match l.cur with
    | some _ => ok (State.pump 16 n s)
    | none =>
      match l.nextPkt with
      | none => ok s
      | some p =>
        let l := { s.link n with cur := some p, queue := l.queue.erase p, credTx := l.credTx.set p.cls (l.credTx.get p.cls 0 - p.need) }
        ok (State.pump 16 n (s.setLink n l))

end Sys2Proof.Machine
end

