-- ==== Sys2Proof/Machine/HostBar.lean ====
section
/-! DEFINITION. HostBar.lean: reads and writes through the BARs of the host ports: the control sub-window with its mailbox, and the
memory windows (R276, R279, R282, R474, R479, R508). -/

namespace Sys2Proof.Machine

/-! ### The control sub-window -/

/-- PORT_INFO (Table 17.3). -/
def State.portInfo (s : State) (n : Nat) : Nat :=
  match s.portPart n with
  | some p => n + fld 0 (p * 16) + fld 1 (s.imageState p)
  | none => n + 0xF0

/-- The queue configuration of a pair as its third 8-byte word shows it (Table 17.5). -/
def QPair.word2 (x : QPair) : Nat :=
  fld 0 x.sqSize + fld 2 x.cqSize + fld 4 x.vec + fld 6 (b2n x.enable) + fld 7 x.state

/-- 64 pending bits, from vector 64w on (R489). -/
def Port.pba (x : Port) (w : Nat) : Nat :=
  (x.pending.filter (fun v => v / 64 = w)).foldl (fun m v => m ||| 2 ^ (v % 64)) 0

/-- What lies at an offset of the control sub-window (Table 17.3). -/
inductive CtlReg where
  | portInfo
  | queue (q word : Nat)
  | sqBell (q : Nat)
  | cqBell (q : Nat)
  | mbx (word : Nat)
  | msix (v half : Nat)
  | pba (word : Nat)
deriving DecidableEq, Repr

/-- The 8-byte register at an offset of the control sub-window, by Table 17.3. -/
def ctlReg (o : Nat) : Option CtlReg :=
  if o = 0 then some .portInfo
  else if 0x1000 ≤ o && o < 0x1800 then some (.queue ((o - 0x1000) / 32) ((o - 0x1000) % 32 / 8))
  else if 0x10000 ≤ o && o < 0x10200 then some (.sqBell ((o - 0x10000) / 8))
  else if 0x10200 ≤ o && o < 0x10400 then some (.cqBell ((o - 0x10200) / 8))
  else if 0x20000 ≤ o && o < 0x22000 then some (.mbx ((o - 0x20000) / 8))
  else if 0x30000 ≤ o && o < 0x38000 then some (.msix ((o - 0x30000) / 16) ((o - 0x30000) % 16 / 8))
  else if 0x38000 ≤ o && o < 0x38100 then some (.pba ((o - 0x38000) / 8))
  else none

/-- The 8 bytes that a register of the control sub-window reads as. -/
def State.ctlWord (s : State) (n : Nat) (r : CtlReg) : Nat :=
  match r with
  | .portInfo => s.portInfo n
  | .queue q w =>
    let x := s.qp n q
    if w = 0 then x.sqBase else if w = 1 then x.cqBase else if w = 2 then x.word2 else x.resv
  | .sqBell q => (s.qp n q).sqTail
  | .cqBell q => (s.qp n q).cqHead
  | .mbx w => s.mgmt.mbxWords.get (1024 * n + w) 0
  | .msix v h => recF ((s.port n).entry v) (8 * h) 8
  | .pba w => (s.port n).pba w

/-- Replace n bytes of a number from a byte on. -/
def patch (old at_ n v : Nat) : Nat := old % 256 ^ at_ + fld at_ v + old / 256 ^ (at_ + n) * 256 ^ (at_ + n)

/-- A write to a queue pair's configuration (R480): while it is ENABLED only CONTROL is written, and a write of another field
is counted in QUEUE_ERRORS. -/
def State.queueWrite (s : State) (n q w at_ len v : Nat) : State :=
  let x := s.qp n q
  let new := patch (s.ctlWord n (.queue q w)) at_ len v
  let s :=
    if x.state = 1 then s.inc (O.at O.QUEUE_ERRORS n)
    else if w = 0 then s.setQp n q { x with sqBase := new }
    else if w = 1 then s.setQp n q { x with cqBase := new }
    else if w = 2 then s.setQp n q { x with sqSize := recF new 0 2, cqSize := recF new 2 2, vec := recF new 4 2 }
    else s.setQp n q { x with resv := new }
  if w = 2 && 4 < at_ + len then s.queueControl n q (recF new 6 1) else s

/-- The requester of a mailbox. -/
def mbxWho (n session : Nat) : Who := { path := .mailbox (fin4 n), session := session, addr := 0, port := 0 }

/-- The message in a request area, of a length, and whether the length holds it (Table 18.2). -/
def State.mbxMsg (s : State) (n len : Nat) : Nat × Msg × Bool :=
  let ws := (List.range 504).map (fun i => s.mgmt.mbxWords.get (1024 * n + 8 + i) 0)
  let bs := (ws.map (toLE 8)).flatten.take len
  let h := ofLE (bs.take 16)
  let mac := bit (recF h 3 1) 2
  let b := bs.drop 16
  let m : Msg :=
    { version := recF h 0 1, status := recF h 2 1, flags := recF h 3 1, seq := recF h 4 2, session := recF h 6 2, count := recF h 8 2,
      bodyLen := recF h 10 2, retry := recF h 12 2, resv := recF h 14 2, body := if mac then b.take (b.length - 16) else b,
      mac := if mac then ofLE (b.drop (b.length - 16)) else 0 }
  (recF h 1 1, m, 16 ≤ len && len ≤ 4032 && (!mac || 32 ≤ len))

/-- The operations of Table 18.3 that a request may name. -/
def requestOps : List Nat := [0x01, 0x10, 0x11, 0x12, 0x20, 0x21, 0x22, 0x30]

/-- The MP takes a mailbox request (R508): MBX_SEQ has changed. -/
def State.mbxTake (s : State) (n ctrl : Nat) : State :=
  let (op, m, fits) := s.mbxMsg n (bits ctrl 31 16)
  let s := { s with mgmt.mbxSeq := s.mgmt.mbxSeq.set n (bits ctrl 15 0), mgmt.mbxOut := s.mgmt.mbxOut.set n ctrl }
  let vec := bits ctrl 47 32
  if !fits || !requestOps.contains op || bits ctrl 63 48 ≠ 0 || (2048 ≤ vec && vec ≠ 0xFFFF) then
    s.answerTo (mbxWho n m.session) op m (some ctrl) (if fits && m.version ≠ 1 then St.version else St.malformed) 0 []
  else s.request (mbxWho n m.session) op m (some ctrl) false

/-- A write to the mailbox (R508): the request area takes no write while a request is outstanding, and the response area is the
module's. -/
def State.mbxWrite (s : State) (n w at_ len v : Nat) : State :=
  if 512 ≤ w then s
  else if (s.mgmt.mbxOut.find n).isSome then s.inc (O.MBX_DISCARDS_HP0 + n)
  else
    let new := patch (s.mgmt.mbxWords.get (1024 * n + w) 0) at_ len v
    let s := { s with mgmt.mbxWords := s.mgmt.mbxWords.set (1024 * n + w) new }
    let sq := bits new 15 0
    if w = 0 && sq ≠ 0 && sq ≠ s.mgmt.mbxSeq.get n 0 && s.served (mbxWho n 0) then s.mbxTake n new else s

/-- A write to the MSI-X table (R489): clearing a mask bit sends an interrupt that is pending. -/
def State.msixWrite (s : State) (n v half at_ len x : Nat) : State :=
  let p := s.port n
  let old := p.entry v
  let new := patch old (8 * half + at_) len x
  let s := s.setPort n { p with msix := p.msix.set v new }
  if bit old 96 && !bit new 96 then s.unmask n v else s

/-- A write of 4 or 8 bytes to a register of the control sub-window, from a byte of it on. -/
def State.ctlWrite (s : State) (n : Nat) (r : CtlReg) (at_ len v : Nat) : State :=
  match r with
  | .portInfo => s
  | .queue q w => s.queueWrite n q w at_ len v
  | .sqBell q => if at_ = 0 then s.sqBell n q (v % 65536) else s
  | .cqBell q => if at_ = 0 then s.cqBell n q (v % 65536) else s
  | .mbx w => s.mbxWrite n w at_ len v
  | .msix vec h => s.msixWrite n vec h at_ len v
  | .pba _ => s

/-- The access status of the control sub-window (R276, R479): offsets not listed are unmapped, and an access is of 4 or 8 bytes,
naturally aligned. -/
def ctlCheck (off len : Nat) : Nat :=
  if len = 0 || (ctlReg (off / 8 * 8)).isNone || (ctlReg ((off + len - 1) / 8 * 8)).isNone then Acc.unmapped
  else if (len ≠ 4 && len ≠ 8) || off % len ≠ 0 then Acc.misaligned
  else Acc.ok

/-! ### The memory windows -/

/-- Sizes of the BARs (Table 17.2). -/
def barSize (b : Nat) : Nat := if b = 0 then 2 ^ 26 else if b = 1 then 2 ^ 39 else 2 ^ 31

/-- The global address of an offset in a BAR (R274, R474). -/
def barAddr (b p off : Nat) : Nat :=
  0x3FFF * 2 ^ 50 + (if b = 0 then 2 ^ 49 + 0x4000000 * p + off else if b = 1 then off else 2 ^ 48 + off)

/-- The check of an access through a memory window: its status, or none while the access is held (R275, R279, R282, R417, R424). What
is not mapped or reserved is refused at once; memory that is being zeroed holds every access; on-chip stores are held while a
load or unload runs, and are unowned in a fenced module; a write waits for a checkpoint that has still to read its bytes. -/
def State.barCheck (s : State) (n p addr len : Nat) (write : Bool) : Option Nat :=
  let st := s.access (.host n p) addr len write false
  let a := addr % 2 ^ 50
  let onChip := 2 ^ 48 ≤ a
  let zeroing := match storeOf a with | some x => bit s.host.zeroing (dieOfStore x) | none => false
  if st ≠ Acc.ok && st ≤ Acc.reserved then some st
  else if zeroing || s.net.fenceZeroing then none
  else if (onChip && s.obj O.CHIP_STATE = 2) || s.ownerOf a ≠ some p then some Acc.notOwner
  else if s.accessHeld p a || (st = Acc.ok && write && s.ckTouches p a len) then none
  else some st

/-- The PCIe completion of a refused read (R474): 1 Unsupported Request, 2 Completer Abort. -/
def pcieStatus (st : Nat) : Nat := if st = Acc.space || st = Acc.unmapped then 1 else 2

/-- Complete a read. -/
def State.barAnswer (s : State) (n st : Nat) (bs : List Byte) : State := s.send (.barData (fin4 n) st bs)

/-- An access is refused (R474): a read completes so, and a write is discarded and logged in AER. -/
def State.barRefuse (s : State) (x : HeldAccess) (p addr st : Nat) : State :=
  let s := s.refuse (.host x.port p) addr st
  if x.write.isSome then s.setPort x.port { s.port x.port with aerUr := true } else s.barAnswer x.port (pcieStatus st) []

/-- An access to the control sub-window that passes its check. -/
def State.ctlAccess (s : State) (x : HeldAccess) : State :=
  match ctlReg (x.off / 8 * 8) with
  | none => s
  | some r =>
    match x.write with
    | some bs => s.ctlWrite x.port r (x.off % 8) bs.length (ofLE bs)
    | none => s.barAnswer x.port 0 (toLE x.len (recF (s.ctlWord x.port r) (x.off % 8) x.len))

/-- An access to a memory window that passes its check; the bytes count as the host's (Table 17.10). -/
def State.memAccess (s : State) (x : HeldAccess) (a : Nat) : State :=
  match x.write with
  | some bs => (s.writeMem a bs).add (O.at O.HOST_BYTES_WRITTEN x.port) bs.length
  | none => ((s.countRead a x.len).add (O.at O.HOST_BYTES_READ x.port) x.len).barAnswer x.port 0 (s.readMem a x.len)

/-- A host access through a BAR (R474): a port with no partition answers Unsupported Request but for reads of PORT_INFO. -/
def State.barAccess (s : State) (x : HeldAccess) : State :=
  if x.len = 0 then (if x.write.isSome then s else s.barAnswer x.port 0 [])
  else
    match s.portPart x.port with
    | none =>
      if x.bar = 0 && x.write.isNone && x.off < 8 && ctlCheck x.off x.len = Acc.ok then s.ctlAccess x
      else if x.write.isSome then s.setPort x.port { s.port x.port with aerUr := true }
      else s.barAnswer x.port 1 []
    | some p =>
      let addr := barAddr x.bar p x.off
      if barSize x.bar < x.off + x.len then s.barRefuse x p addr Acc.unmapped
      else if x.bar = 0 then
        let st := ctlCheck x.off x.len
        if st = Acc.ok then s.ctlAccess x else s.barRefuse x p addr st
      else
        match s.barCheck x.port p addr x.len x.write.isSome with
        | none => { s with host.heldAcc := s.host.heldAcc ++ [x] }
        | some st => if st = Acc.ok then s.memAccess x (addr % 2 ^ 50) else s.barRefuse x p addr st

/-- HOST_BAR_READ (R474): BAR 0 is BAR0–1, 1 is BAR2–3 and 2 is BAR4–5. -/
def execHostBarRead (port : Fin 4) (bar : Fin 3) (off len : Nat) (s : State) : Outcome :=
  if !s.portsUp then ok s
  else
    let x : HeldAccess := { port := port.val, bar := bar.val, off := off, len := len, write := none }
    ok (s.barAccess x)

/-- HOST_BAR_WRITE (R474). -/
def execHostBarWrite (port : Fin 4) (bar : Fin 3) (off : Nat) (bytes : List Byte) (s : State) : Outcome :=
  if !s.portsUp then ok s
  else
    let x : HeldAccess := { port := port.val, bar := bar.val, off := off, len := bytes.length, write := some bytes }
    ok (s.barAccess x)

/-- HELD_ACCESS_RESUME (R279, R282, R424): accesses that waited are checked again, in the order they came; those that still must wait
stay. -/
def execHeldAccessResume (s : State) : Outcome :=
  ok (s.host.heldAcc.foldl State.barAccess { s with host.heldAcc := [] })

end Sys2Proof.Machine
end

