-- ==== Sys2Proof/Machine/Dispatch.lean ====
section
/-! DEFINITION. Dispatch.lean: the meaning of each command, one arm per constructor of Instr. -/

namespace Sys2Proof.Machine

/-- The effect of a command on everything but the queue. -/
def exec (i : Instr) (s : State) : Host.Outcome State Fault Refusal :=
  match i with
  | .beatPeriodNsWrite who v => Sys2Proof.Machine.execBeatPeriodNsWrite who v s
  | .beatRoleWrite who v => Sys2Proof.Machine.execBeatRoleWrite who v s
  | .beatStartCountWrite who v => Sys2Proof.Machine.execBeatStartCountWrite who v s
  | .rootFirstEdge => Sys2Proof.Machine.execRootFirstEdge s
  | .upstreamLinkWrite who which v => Sys2Proof.Machine.execUpstreamLinkWrite who which v s
  | .beatRelease who v => Sys2Proof.Machine.execBeatRelease who v s
  | .holdRelease who v => Sys2Proof.Machine.execHoldRelease who v s
  | .rootEdgeEmit => Sys2Proof.Machine.execRootEdgeEmit s
  | .edgeSecondCopy => Sys2Proof.Machine.execEdgeSecondCopy s
  | .edgeRx link blk at_ residences err => Sys2Proof.Machine.execEdgeRx link blk at_ residences err s
  | .beatnumRx link blk at_ => Sys2Proof.Machine.execBeatnumRx link blk at_ s
  | .slackReqRx link blk => Sys2Proof.Machine.execSlackReqRx link blk s
  | .slipReqRx link blk => Sys2Proof.Machine.execSlipReqRx link blk s
  | .slackReqSend cause excessNs => Sys2Proof.Machine.execSlackReqSend cause excessNs s
  | .beatLostTimeout => Sys2Proof.Machine.execBeatLostTimeout s
  | .localEdge => Sys2Proof.Machine.execLocalEdge s
  | .lateBeatResume => Sys2Proof.Machine.execLateBeatResume s
  | .nsDeadlineDue => Sys2Proof.Machine.execNsDeadlineDue s
  | .debugEnableWrite who v => Sys2Proof.Machine.execDebugEnableWrite who v s
  | .debugHaltWrite who v => Sys2Proof.Machine.execDebugHaltWrite who v s
  | .matmul part rel waited => Sys2Proof.Machine.execMatmul part rel waited s
  | .embedGrad part rel waited => Sys2Proof.Machine.execEmbedGrad part rel waited s
  | .ewChain part rel waited stalled trimmed => Sys2Proof.Machine.execEwChain part rel waited stalled trimmed s
  | .reduceRow part rel waited stalled trimmed => Sys2Proof.Machine.execReduceRow part rel waited stalled trimmed s
  | .reduceCols part rel waited stalled trimmed => Sys2Proof.Machine.execReduceCols part rel waited stalled trimmed s
  | .layernorm part rel waited stalled trimmed => Sys2Proof.Machine.execLayernorm part rel waited stalled trimmed s
  | .layernormGrad part rel waited stalled trimmed => Sys2Proof.Machine.execLayernormGrad part rel waited stalled trimmed s
  | .rmsnorm part rel waited stalled trimmed => Sys2Proof.Machine.execRmsnorm part rel waited stalled trimmed s
  | .rmsnormGrad part rel waited stalled trimmed => Sys2Proof.Machine.execRmsnormGrad part rel waited stalled trimmed s
  | .softmax part rel waited stalled trimmed => Sys2Proof.Machine.execSoftmax part rel waited stalled trimmed s
  | .softmaxGrad part rel waited stalled trimmed => Sys2Proof.Machine.execSoftmaxGrad part rel waited stalled trimmed s
  | .xent part rel waited stalled trimmed => Sys2Proof.Machine.execXent part rel waited stalled trimmed s
  | .gather part rel waited stalled trimmed => Sys2Proof.Machine.execGather part rel waited stalled trimmed s
  | .cast part rel waited stalled trimmed => Sys2Proof.Machine.execCast part rel waited stalled trimmed s
  | .requantize part rel waited stalled trimmed => Sys2Proof.Machine.execRequantize part rel waited stalled trimmed s
  | .lossSeed part rel waited stalled trimmed => Sys2Proof.Machine.execLossSeed part rel waited stalled trimmed s
  | .optStep part rel waited stalled trimmed => Sys2Proof.Machine.execOptStep part rel waited stalled trimmed s
  | .fold part rel waited stalled trimmed => Sys2Proof.Machine.execFold part rel waited stalled trimmed s
  | .collective part rel waited => Sys2Proof.Machine.execCollective part rel waited s
  | .transfer part rel waited data => Sys2Proof.Machine.execTransfer part rel waited data s
  | .checkpointCopy part rel => Sys2Proof.Machine.execCheckpointCopy part rel s
  | .digest part rel => Sys2Proof.Machine.execDigest part rel s
  | .operationComplete part rel tile => Sys2Proof.Machine.execOperationComplete part rel tile s
  | .normContributionSend part => Sys2Proof.Machine.execNormContributionSend part s
  | .voteTimeout part => Sys2Proof.Machine.execVoteTimeout part s
  | .stepParamWrite who part v => Sys2Proof.Machine.execStepParamWrite who part v s
  | .startBeatWrite who part v => Sys2Proof.Machine.execStartBeatWrite who part v s
  | .unload who part v => Sys2Proof.Machine.execUnload who part v s
  | .imageLoadDone part => Sys2Proof.Machine.execImageLoadDone part s
  | .hostBarRead port bar off len => Sys2Proof.Machine.execHostBarRead port bar off len s
  | .hostBarWrite port bar off bytes => Sys2Proof.Machine.execHostBarWrite port bar off bytes s
  | .heldAccessResume => Sys2Proof.Machine.execHeldAccessResume s
  | .patrolScrub store unit found row => Sys2Proof.Machine.execPatrolScrub store unit found row s
  | .dieZeroingComplete die => Sys2Proof.Machine.execDieZeroingComplete die s
  | .linkEnableWrite who link v => Sys2Proof.Machine.execLinkEnableWrite who link v s
  | .linkTrainingComplete link => Sys2Proof.Machine.execLinkTrainingComplete link s
  | .trainAttemptTimeout link => Sys2Proof.Machine.execTrainAttemptTimeout link s
  | .trainRetryTimer link => Sys2Proof.Machine.execTrainRetryTimer link s
  | .trainParamRx link blk lanes => Sys2Proof.Machine.execTrainParamRx link blk lanes s
  | .identifyTimeout link => Sys2Proof.Machine.execIdentifyTimeout link s
  | .loopReqSend link => Sys2Proof.Machine.execLoopReqSend link s
  | .loopReqRx link blk turnaround => Sys2Proof.Machine.execLoopReqRx link blk turnaround s
  | .loopRspRx link blk at_ => Sys2Proof.Machine.execLoopRspRx link blk at_ s
  | .flitRx link cw => Sys2Proof.Machine.execFlitRx link cw s
  | .replayTimeout link => Sys2Proof.Machine.execReplayTimeout link s
  | .retrainReqRx link blk => Sys2Proof.Machine.execRetrainReqRx link blk s
  | .laneDropReqRx link blk => Sys2Proof.Machine.execLaneDropReqRx link blk s
  | .laneSetRx link blk => Sys2Proof.Machine.execLaneSetRx link blk s
  | .laneAddReadyRx link blk => Sys2Proof.Machine.execLaneAddReadyRx link blk s
  | .laneLockLost link lane => Sys2Proof.Machine.execLaneLockLost link lane s
  | .laneSerExceeded link lane corrected => Sys2Proof.Machine.execLaneSerExceeded link lane corrected s
  | .laneMapSwitch link outbound => Sys2Proof.Machine.execLaneMapSwitch link outbound s
  | .laneRetrained link lane => Sys2Proof.Machine.execLaneRetrained link lane s
  | .keyExhausted link => Sys2Proof.Machine.execKeyExhausted link s
  | .linkKeyNeeded link => Sys2Proof.Machine.execLinkKeyNeeded link s
  | .outputPacketStart link => Sys2Proof.Machine.execOutputPacketStart link s
  | .noRouteInject cycles => Sys2Proof.Machine.execNoRouteInject cycles s
  | .localPacketAccept => Sys2Proof.Machine.execLocalPacketAccept s
  | .writeRx link pkt => Sys2Proof.Machine.execWriteRx link pkt s
  | .readReqRx link pkt => Sys2Proof.Machine.execReadReqRx link pkt s
  | .readRspRx link pkt => Sys2Proof.Machine.execReadRspRx link pkt s
  | .syncPostRx link pkt => Sys2Proof.Machine.execSyncPostRx link pkt s
  | .responseRx link pkt => Sys2Proof.Machine.execResponseRx link pkt s
  | .collRx link pkt => Sys2Proof.Machine.execCollRx link pkt s
  | .votePacketRx link pkt => Sys2Proof.Machine.execVotePacketRx link pkt s
  | .mbRecordRx link pkt => Sys2Proof.Machine.execMbRecordRx link pkt s
  | .fencedRx link pkt => Sys2Proof.Machine.execFencedRx link pkt s
  | .epochValueWrite who chip v => Sys2Proof.Machine.execEpochValueWrite who chip v s
  | .routeEntryWrite who chip v => Sys2Proof.Machine.execRouteEntryWrite who chip v s
  | .reqTimeout tag => Sys2Proof.Machine.execReqTimeout tag s
  | .contextIdleClose ctx => Sys2Proof.Machine.execContextIdleClose ctx s
  | .collectiveStart part entry waited => Sys2Proof.Machine.execCollectiveStart part entry waited s
  | .collectiveComplete part entry => Sys2Proof.Machine.execCollectiveComplete part entry s
  | .lsmInserted serial nominal => Sys2Proof.Machine.execLsmInserted serial nominal s
  | .lsmRemoved => Sys2Proof.Machine.execLsmRemoved s
  | .laserWarmed laser => Sys2Proof.Machine.execLaserWarmed laser s
  | .opticalPowerSample at_ feeds paths tx rx express lsm => Sys2Proof.Machine.execOpticalPowerSample at_ feeds paths tx rx express lsm s
  | .switchoverOldLaserOff wave => Sys2Proof.Machine.execSwitchoverOldLaserOff wave s
  | .commission who v => Sys2Proof.Machine.execCommission who v s
  | .autoReference => Sys2Proof.Machine.execAutoReference s
  | .ringLockLost chan drop => Sys2Proof.Machine.execRingLockLost chan drop s
  | .ringReacquireTimeout chan drop => Sys2Proof.Machine.execRingReacquireTimeout chan drop s
  | .engineTempSample at_ temps heaters => Sys2Proof.Machine.execEngineTempSample at_ temps heaters s
  | .calForceDue chan drop => Sys2Proof.Machine.execCalForceDue chan drop s
  | .idleCalWindow link => Sys2Proof.Machine.execIdleCalWindow link s
  | .calTimelinePhase chan transmit code => Sys2Proof.Machine.execCalTimelinePhase chan transmit code s
  | .calibrationComplete chan transmit => Sys2Proof.Machine.execCalibrationComplete chan transmit s
  | .calOverdue chan drop => Sys2Proof.Machine.execCalOverdue chan drop s
  | .calPlanWrite who which v => Sys2Proof.Machine.execCalPlanWrite who which v s
  | .reshapeArm who v => Sys2Proof.Machine.execReshapeArm who v s
  | .reshapeSwitchComplete => Sys2Proof.Machine.execReshapeSwitchComplete s
  | .identSendTimer link keepAlive => Sys2Proof.Machine.execIdentSendTimer link keepAlive s
  | .identRx link blk => Sys2Proof.Machine.execIdentRx link blk s
  | .serialRx link half blk => Sys2Proof.Machine.execSerialRx link half blk s
  | .fencedNoticeRx link blk => Sys2Proof.Machine.execFencedNoticeRx link blk s
  | .fencedNoticeRepeat link => Sys2Proof.Machine.execFencedNoticeRepeat link s
  | .fenceZeroComplete => Sys2Proof.Machine.execFenceZeroComplete s
  | .missingGraceExpiry link => Sys2Proof.Machine.execMissingGraceExpiry link s
  | .wiringEntryWrite who link v => Sys2Proof.Machine.execWiringEntryWrite who link v s
  | .adopt who v => Sys2Proof.Machine.execAdopt who v s
  | .releaseChip who v => Sys2Proof.Machine.execReleaseChip who v s
  | .ckptHoldResume part cycles => Sys2Proof.Machine.execCkptHoldResume part cycles s
  | .flashCkptComplete part good => Sys2Proof.Machine.execFlashCkptComplete part good s
  | .storeCkptComplete part good => Sys2Proof.Machine.execStoreCkptComplete part good s
  | .storeTargetWrite who part v status => Sys2Proof.Machine.execStoreTargetWrite who part v status s
  | .dataCursorsWrite who part v => Sys2Proof.Machine.execDataCursorsWrite who part v s
  | .restoreRequest who part addr => Sys2Proof.Machine.execRestoreRequest who part addr s
  | .restoreSourceDone part header copy bad => Sys2Proof.Machine.execRestoreSourceDone part header copy bad s
  | .supplySample at_ vin bus power railV railA => Sys2Proof.Machine.execSupplySample at_ vin bus power railV railA s
  | .powerAlertClear => Sys2Proof.Machine.execPowerAlertClear s
  | .stopPending => Sys2Proof.Machine.execStopPending s
  | .overvoltageSustained => Sys2Proof.Machine.execOvervoltageSustained s
  | .inputSwitchReclose => Sys2Proof.Machine.execInputSwitchReclose s
  | .railFault => Sys2Proof.Machine.execRailFault s
  | .droopSample die domain rail at_ => Sys2Proof.Machine.execDroopSample die domain rail at_ s
  | .ballastDecay die domain => Sys2Proof.Machine.execBallastDecay die domain s
  | .governorTick at_ => Sys2Proof.Machine.execGovernorTick at_ s
  | .thermalSample at_ readings powers => Sys2Proof.Machine.execThermalSample at_ readings powers s
  | .thermalMargin die => Sys2Proof.Machine.execThermalMargin die s
  | .boostStep => Sys2Proof.Machine.execBoostStep s
  | .clockModeWrite who v => Sys2Proof.Machine.execClockModeWrite who v s
  | .clockStep => Sys2Proof.Machine.execClockStep s
  | .queueEnableWrite port q v => Sys2Proof.Machine.execQueueEnableWrite port q v s
  | .sqDoorbell port q v => Sys2Proof.Machine.execSqDoorbell port q v s
  | .cqDoorbell port q v => Sys2Proof.Machine.execCqDoorbell port q v s
  | .descTransfer port q raw data => Sys2Proof.Machine.execDescTransfer port q raw data s
  | .descSyncArm port q raw => Sys2Proof.Machine.execDescSyncArm port q raw s
  | .descSyncPost port q raw => Sys2Proof.Machine.execDescSyncPost port q raw s
  | .descLoad port q raw => Sys2Proof.Machine.execDescLoad port q raw s
  | .descUnload port q raw => Sys2Proof.Machine.execDescUnload port q raw s
  | .descRestore port q raw => Sys2Proof.Machine.execDescRestore port q raw s
  | .descMicrobatch port q raw data => Sys2Proof.Machine.execDescMicrobatch port q raw data s
  | .descStepParam port q raw => Sys2Proof.Machine.execDescStepParam port q raw s
  | .descOffloadRegister port q raw => Sys2Proof.Machine.execDescOffloadRegister port q raw s
  | .descOffloadRelease port q raw => Sys2Proof.Machine.execDescOffloadRelease port q raw s
  | .descriptorComplete port q => Sys2Proof.Machine.execDescriptorComplete port q s
  | .layoutApply who v => Sys2Proof.Machine.execLayoutApply who v s
  | .portReset port kind => Sys2Proof.Machine.execPortReset port kind s
  | .msixUnmask port vector => Sys2Proof.Machine.execMsixUnmask port vector s
  | .access who msg multicast => Sys2Proof.Machine.execAccess who msg multicast s
  | .openSession who msg => Sys2Proof.Machine.execOpenSession who msg s
  | .auth who msg => Sys2Proof.Machine.execAuth who msg s
  | .closeSession who msg => Sys2Proof.Machine.execCloseSession who msg s
  | .subscribe who msg => Sys2Proof.Machine.execSubscribe who msg s
  | .unsubscribe who msg => Sys2Proof.Machine.execUnsubscribe who msg s
  | .eventSubscribe who msg => Sys2Proof.Machine.execEventSubscribe who msg s
  | .logRead who msg => Sys2Proof.Machine.execLogRead who msg s
  | .registerWrite who key v => Sys2Proof.Machine.execRegisterWrite who key v s
  | .publishTick session key => Sys2Proof.Machine.execPublishTick session key s
  | .telemetryLevelTick at_ => Sys2Proof.Machine.execTelemetryLevelTick at_ s
  | .sessionExpiry session => Sys2Proof.Machine.execSessionExpiry session s
  | .mpWatchdogExpiry bad => Sys2Proof.Machine.execMpWatchdogExpiry bad s
  | .eventLogFlush => Sys2Proof.Machine.execEventLogFlush s
  | .persistWriteComplete => Sys2Proof.Machine.execPersistWriteComplete s
  | .factoryInit who v => Sys2Proof.Machine.execFactoryInit who v s
  | .enumHeadDetect => Sys2Proof.Machine.execEnumHeadDetect s
  | .enumBurstRx count => Sys2Proof.Machine.execEnumBurstRx count s
  | .enumBurstSend => Sys2Proof.Machine.execEnumBurstSend s
  | .enumFailed => Sys2Proof.Machine.execEnumFailed s
  | .plcaBeaconTimeout => Sys2Proof.Machine.execPlcaBeaconTimeout s
  | .plcaBeaconRx => Sys2Proof.Machine.execPlcaBeaconRx s
  | .ptpAnnounceRx port ann => Sys2Proof.Machine.execPtpAnnounceRx port ann s
  | .ptpSyncRx port domain source seq at_ origin twoStep => Sys2Proof.Machine.execPtpSyncRx port domain source seq at_ origin twoStep s
  | .ptpFollowUpRx port domain source seq origin => Sys2Proof.Machine.execPtpFollowUpRx port domain source seq origin s
  | .ptpDelayReqSend => Sys2Proof.Machine.execPtpDelayReqSend s
  | .ptpDelayRespRx port domain source seq received => Sys2Proof.Machine.execPtpDelayRespRx port domain source seq received s
  | .ptpSyncLoss => Sys2Proof.Machine.execPtpSyncLoss s
  | .ptpHoldoverExpiry => Sys2Proof.Machine.execPtpHoldoverExpiry s
  | .calendarSet who v => Sys2Proof.Machine.execCalendarSet who v s
  | .leapSecond at_ => Sys2Proof.Machine.execLeapSecond at_ s
  | .backupLow supercap coin => Sys2Proof.Machine.execBackupLow supercap coin s
  | .fwUpdateOffset who v => Sys2Proof.Machine.execFwUpdateOffset who v s
  | .fwUpdateChunk who v => Sys2Proof.Machine.execFwUpdateChunk who v s
  | .fwUpdateCommit who v => Sys2Proof.Machine.execFwUpdateCommit who v s
  | .ownerKeyInit who v => Sys2Proof.Machine.execOwnerKeyInit who v s
  | .ownerKeyNext who v => Sys2Proof.Machine.execOwnerKeyNext who v s
  | .imageKeyWrite who slot v => Sys2Proof.Machine.execImageKeyWrite who slot v s
  | .linkKeyWrite who sel v => Sys2Proof.Machine.execLinkKeyWrite who sel v s
  | .vendorKeyRevoked who v => Sys2Proof.Machine.execVendorKeyRevoked who v s
  | .powerCeilingSetW who v => Sys2Proof.Machine.execPowerCeilingSetW who v s
  | .partitionLayoutLock who v => Sys2Proof.Machine.execPartitionLayoutLock who v s
  | .securityVersionFloor who v => Sys2Proof.Machine.execSecurityVersionFloor who v s
  | .rtvMode who v => Sys2Proof.Machine.execRtvMode who v s
  | .rngHealthFail => Sys2Proof.Machine.execRngHealthFail s
  | .rngRestartTest pass => Sys2Proof.Machine.execRngRestartTest pass s
  | .powerOn lost unpowered => Sys2Proof.Machine.execPowerOn lost unpowered s
  | .moduleResetNPin lowNs => Sys2Proof.Machine.execModuleResetNPin lowNs s
  | .moduleReset who v => Sys2Proof.Machine.execModuleReset who v s
  | .moduleResetDelay => Sys2Proof.Machine.execModuleResetDelay s
  | .selfResetAfterStop => Sys2Proof.Machine.execSelfResetAfterStop s
  | .selfResetAfterTrip => Sys2Proof.Machine.execSelfResetAfterTrip s
  | .scWatchdogExpiry => Sys2Proof.Machine.execScWatchdogExpiry s
  | .bringupStageComplete at_ obs => Sys2Proof.Machine.execBringupStageComplete at_ obs s
  | .stageTimeout => Sys2Proof.Machine.execStageTimeout s
  | .capacitanceMeasure vStart fall => Sys2Proof.Machine.execCapacitanceMeasure vStart fall s
  | .lbistWaveComplete bad => Sys2Proof.Machine.execLbistWaveComplete bad s
  | .bistPowerSample power => Sys2Proof.Machine.execBistPowerSample power s
  | .onchipMbistComplete bad => Sys2Proof.Machine.execOnchipMbistComplete bad s
  | .hbmSelfTestComplete stack found spares => Sys2Proof.Machine.execHbmSelfTestComplete stack found spares s
  | .engageAssert => Sys2Proof.Machine.execEngageAssert s
  | .engageRelease => Sys2Proof.Machine.execEngageRelease s
  | .perstNRelease port refclk rate width => Sys2Proof.Machine.execPerstNRelease port refclk rate width s
  | .analogThermalCutoff _die => Sys2Proof.Machine.execAnalogThermalCutoff _die s
  | .laserFaultReport laser => Sys2Proof.Machine.execLaserFaultReport laser s

end Sys2Proof.Machine
end

