-- ==== Sys2Proof/Machine/Idle.lean ====
section
/-! DEFINITION. Idle.lean: what happens when no command waits. -/

namespace Sys2Proof.Machine

/-- With no command waiting, the MP serves the next entry of its queue, by class (R512); with nothing queued there either, one
unit of 0.125 ns of reference time passes (log entry 7). -/
def State.idle (s : State) : State :=
  match (if s.boot.alwaysOn && s.boot.mpUp then s.nextEntry 3 else none) with
  | some e => { s with mgmt.queue := s.mgmt.queue.erase e }.serveEntry e
  | none => s.upTo (s.now + 1)

end Sys2Proof.Machine
end

