-- ==== Sys2Proof/Safety.lean ====
section
/-! DEFINITION. Safety.lean: what a safe step is, and the terms that claims about commands are made in. -/

namespace Sys2Proof.Machine

/-- A command runs: its meaning answers a next state. The spec gives every input of the module an answer (R8), so this
is what is claimed of every command. -/
def Runs (c : Instr) (s : State) : Prop := ∃ t, exec c s = .next t

/-- A command runs from a state, and its next state has a property. -/
def Completes (c : Instr) (s : State) (P : State → Prop) : Prop := ∃ t, exec c s = .next t ∧ P t

/-- A dictionary write passes the checks that come before its owning chapter's rule: its path is served, and presence, access, type
and range are good (R502). -/
abbrev Admits (s : State) (who : Who) (k v : Nat) : Prop := s.served who = true ∧ s.gate who k v = none

/-- The last thing sent is the status of a requester's write. -/
def Tells (t : State) (who : Who) (k st : Nat) : Prop := t.out.head? = some (.status who k st)

/-- Memory, its poisoned units, and the layout of partitions are as before. -/
def SameMemory (s t : State) : Prop := t.mem = s.mem ∧ t.poison = s.poison ∧ t.layout = s.layout

/-- No job, network, host-port or checkpoint state has changed. -/
def SameWork (s t : State) : Prop :=
  t.jobs = s.jobs ∧ t.net = s.net ∧ t.host = s.host ∧ t.flashCk = s.flashCk ∧ t.storeCk = s.storeCk

/-- Every dictionary object but the listed ones holds the value it held. -/
def SameObjects (s t : State) (but : List Nat) : Prop := ∀ k, k ∉ but → t.obj k = s.obj k

/-- The canonical form of a keyed table: its keys rise. -/
def Tab.rising {β : Type} : Tab β → Bool
  | [] => true
  | [_] => true
  | a :: b :: t => a.1 < b.1 && Tab.rising (b :: t)

/-- The forms that every step keeps: memory is canonical, and so is the dictionary. -/
abbrev Inv (s : State) : Prop := Memory.wf s.mem = true ∧ Tab.rising s.dict = true

end Sys2Proof.Machine
end

