-- ==== Sys2Proof/WellFormed.lean ====
section
/-! DEFINITION. WellFormed.lean: which commands are well formed: every operand fits the width that its rule gives it. A command
that is not well formed is none that the module can be given; every meaning still answers it. -/

namespace Sys2Proof

/-- A requester: its session, address and port fit their fields (R498, R506). -/
def Who.wf (w : Who) : Bool := w.session < 2 ^ 16 && w.addr < 2 ^ 128 && w.port < 2 ^ 16

/-- The value of a written object: at most 1,024 bytes, and one more place for the end of a string (R501). -/
def objVal (v : Nat) : Bool := v < 256 ^ 1025

/-- A message: every header field fits Table 18.2. -/
def Msg.wf (m : Msg) : Bool :=
  m.version < 2 ^ 8 && m.status < 2 ^ 8 && m.flags < 2 ^ 8 && m.seq < 2 ^ 16 && m.session < 2 ^ 16 && m.count < 2 ^ 16 &&
    m.bodyLen < 2 ^ 16 && m.retry < 2 ^ 16 && m.resv < 2 ^ 16 && m.mac < 2 ^ 128 &&
    (m.dest.getD 0) < 2 ^ 128 && m.dport < 2 ^ 16 && m.checksum < 2 ^ 16

/-- A packet: every field fits Table 12.1, and LEN counts the payload. -/
def Packet.wf (k : Packet) : Bool :=
  k.typ < 2 ^ 8 && k.flags < 2 ^ 8 && k.len = k.payload.length && k.len < 2 ^ 16 && k.srcChip < 2 ^ 16 && k.srcEpoch < 2 ^ 16 &&
    k.dstChip < 2 ^ 16 && k.dstEpoch < 2 ^ 16 && k.tag < 2 ^ 16 && k.route < 2 ^ 8 && k.hops < 2 ^ 8 && k.addr < 2 ^ 64 &&
    k.step < 2 ^ 32 && k.sync < 2 ^ 16 && k.arg < 2 ^ 16

/-- An Announce: its fields fit IEEE 1588. -/
def Announce.wf (a : Announce) : Bool :=
  a.domain < 2 ^ 8 && a.source < 2 ^ 80 && a.priority1 < 2 ^ 8 && a.clockClass < 2 ^ 8 && a.accuracy < 2 ^ 8 && a.variance < 2 ^ 16 &&
    a.priority2 < 2 ^ 8 && a.grandmaster < 2 ^ 64 && a.stepsRemoved < 2 ^ 16

/-- What a stage finds: the values lost are objects, and the read-back and the express map are words of 64 bits. -/
def StageObs.wf (o : StageObs) : Bool := o.lost.all (· < 2 ^ 24) && o.readBack < 2 ^ 64 && o.express < 2 ^ 128 && (o.grist.all (fun g => g.2 < 2 ^ 128))

/-- F32 values. -/
def f32s (l : List Nat) : Bool := l.all (· < 2 ^ 32)

/-- Every operand fits its width. -/
def Instr.wf : Instr → Bool
  | .beatPeriodNsWrite who v => who.wf && objVal v
  | .beatRoleWrite who v => who.wf && objVal v
  | .beatStartCountWrite who v => who.wf && objVal v
  | .rootFirstEdge => true
  | .upstreamLinkWrite who _ v => who.wf && objVal v
  | .beatRelease who v => who.wf && objVal v
  | .holdRelease who v => who.wf && objVal v
  | .rootEdgeEmit => true
  | .edgeSecondCopy => true
  | .edgeRx _ blk _ rs _ => blk < 2 ^ 120 && rs.length = 24
  | .beatnumRx _ blk _ => blk < 2 ^ 120
  | .slackReqRx _ blk => blk < 2 ^ 120
  | .slipReqRx _ blk => blk < 2 ^ 120
  | .slackReqSend _ _ => true
  | .beatLostTimeout => true
  | .localEdge => true
  | .lateBeatResume => true
  | .nsDeadlineDue => true
  | .debugEnableWrite who v => who.wf && objVal v
  | .debugHaltWrite who v => who.wf && objVal v
  | .matmul _ rel _ => rel < 2 ^ 16
  | .embedGrad _ rel _ => rel < 2 ^ 16
  | .ewChain _ rel _ _ _ => rel < 2 ^ 16
  | .reduceRow _ rel _ _ _ => rel < 2 ^ 16
  | .reduceCols _ rel _ _ _ => rel < 2 ^ 16
  | .layernorm _ rel _ _ _ => rel < 2 ^ 16
  | .layernormGrad _ rel _ _ _ => rel < 2 ^ 16
  | .rmsnorm _ rel _ _ _ => rel < 2 ^ 16
  | .rmsnormGrad _ rel _ _ _ => rel < 2 ^ 16
  | .softmax _ rel _ _ _ => rel < 2 ^ 16
  | .softmaxGrad _ rel _ _ _ => rel < 2 ^ 16
  | .xent _ rel _ _ _ => rel < 2 ^ 16
  | .gather _ rel _ _ _ => rel < 2 ^ 16
  | .cast _ rel _ _ _ => rel < 2 ^ 16
  | .requantize _ rel _ _ _ => rel < 2 ^ 16
  | .lossSeed _ rel _ _ _ => rel < 2 ^ 16
  | .optStep _ rel _ _ _ => rel < 2 ^ 16
  | .fold _ rel _ _ _ => rel < 2 ^ 16
  | .collective _ rel _ => rel < 2 ^ 16
  | .transfer _ rel _ _ => rel < 2 ^ 16
  | .checkpointCopy _ rel => rel < 2 ^ 16
  | .digest _ rel => rel < 2 ^ 16
  | .operationComplete _ rel tile => rel < 2 ^ 16 && tile < 384
  | .normContributionSend _ => true
  | .voteTimeout _ => true
  | .stepParamWrite who _ v => who.wf && objVal v
  | .startBeatWrite who _ v => who.wf && objVal v
  | .unload who _ v => who.wf && objVal v
  | .imageLoadDone _ => true
  | .hostBarRead _ _ _ _ => true
  | .hostBarWrite _ _ _ _ => true
  | .heldAccessResume => true
  | .patrolScrub _ _ _ _ => true
  | .dieZeroingComplete _ => true
  | .linkEnableWrite who _ v => who.wf && objVal v
  | .linkTrainingComplete _ => true
  | .trainAttemptTimeout _ => true
  | .trainRetryTimer _ => true
  | .trainParamRx _ blk lanes => blk < 2 ^ 120 && lanes < 16
  | .identifyTimeout _ => true
  | .loopReqSend _ => true
  | .loopReqRx _ blk turnaround => blk < 2 ^ 120 && turnaround < 2 ^ 32
  | .loopRspRx _ blk _ => blk < 2 ^ 120
  | .flitRx _ cw => (cw.length = 288 && cw.all (· < 1024))
  | .replayTimeout _ => true
  | .retrainReqRx _ blk => blk < 2 ^ 120
  | .laneDropReqRx _ blk => blk < 2 ^ 120
  | .laneSetRx _ blk => blk < 2 ^ 120
  | .laneAddReadyRx _ blk => blk < 2 ^ 120
  | .laneLockLost _ _ => true
  | .laneSerExceeded _ _ _ => true
  | .laneMapSwitch _ _ => true
  | .laneRetrained _ _ => true
  | .keyExhausted _ => true
  | .linkKeyNeeded _ => true
  | .outputPacketStart _ => true
  | .noRouteInject _ => true
  | .localPacketAccept => true
  | .writeRx _ pkt => pkt.wf
  | .readReqRx _ pkt => pkt.wf
  | .readRspRx _ pkt => pkt.wf
  | .syncPostRx _ pkt => pkt.wf
  | .responseRx _ pkt => pkt.wf
  | .collRx _ pkt => pkt.wf
  | .votePacketRx _ pkt => pkt.wf
  | .mbRecordRx _ pkt => pkt.wf
  | .fencedRx _ pkt => pkt.wf
  | .epochValueWrite who chip v => who.wf && chip < 2 ^ 14 && objVal v
  | .routeEntryWrite who chip v => who.wf && chip < 2 ^ 14 && objVal v
  | .reqTimeout tag => tag < 2 ^ 16
  | .contextIdleClose ctx => ctx < 2 ^ 16
  | .collectiveStart _ entry _ => entry < 2 ^ 16
  | .collectiveComplete _ entry => entry < 2 ^ 16
  | .lsmInserted _ nominal => nominal.length = 8 && f32s nominal
  | .lsmRemoved => true
  | .laserWarmed _ => true
  | .opticalPowerSample _ feeds paths tx rx _ lsm =>
    feeds.length = 4 && f32s feeds && paths.length = 4 && f32s paths && tx.length = 64 && f32s tx && rx.length = 64 && f32s rx && lsm.length = 9 && f32s lsm
  | .switchoverOldLaserOff _ => true
  | .commission who v => who.wf && objVal v
  | .autoReference => true
  | .ringLockLost _ _ => true
  | .ringReacquireTimeout _ _ => true
  | .engineTempSample _ temps heaters => temps.length = 4 && f32s temps && heaters.length = 64
  | .calForceDue _ _ => true
  | .idleCalWindow _ => true
  | .calTimelinePhase _ _ code => code < 2 ^ 16
  | .calibrationComplete _ _ => true
  | .calOverdue _ _ => true
  | .calPlanWrite who _ v => who.wf && objVal v
  | .reshapeArm who v => who.wf && objVal v
  | .reshapeSwitchComplete => true
  | .identSendTimer _ _ => true
  | .identRx _ blk => blk < 2 ^ 120
  | .serialRx _ _ blk => blk < 2 ^ 120
  | .fencedNoticeRx _ blk => blk < 2 ^ 120
  | .fencedNoticeRepeat _ => true
  | .fenceZeroComplete => true
  | .missingGraceExpiry _ => true
  | .wiringEntryWrite who _ v => who.wf && objVal v
  | .adopt who v => who.wf && objVal v
  | .releaseChip who v => who.wf && objVal v
  | .ckptHoldResume _ _ => true
  | .flashCkptComplete _ _ => true
  | .storeCkptComplete _ _ => true
  | .storeTargetWrite who _ v status => who.wf && objVal v && status < 4
  | .dataCursorsWrite who _ v => who.wf && objVal v
  | .restoreRequest who _ addr => who.wf && addr < 2 ^ 64
  | .restoreSourceDone _ header _ _ => header < 2 ^ 512
  | .supplySample _ vin bus power railV railA => vin < 2 ^ 32 && bus < 2 ^ 32 && power < 2 ^ 32 && railV < 2 ^ 32 && railA < 2 ^ 32
  | .powerAlertClear => true
  | .stopPending => true
  | .overvoltageSustained => true
  | .inputSwitchReclose => true
  | .railFault => true
  | .droopSample _ _ _ _ => true
  | .ballastDecay _ _ => true
  | .governorTick _ => true
  | .thermalSample _ readings powers => readings.length = 112 && powers.length = 6 && f32s powers
  | .thermalMargin _ => true
  | .boostStep => true
  | .clockModeWrite who v => who.wf && objVal v
  | .clockStep => true
  | .queueEnableWrite _ _ v => v < 2 ^ 8
  | .sqDoorbell _ _ v => v < 2 ^ 64
  | .cqDoorbell _ _ v => v < 2 ^ 64
  | .descTransfer _ _ raw _ => raw < 2 ^ 512
  | .descSyncArm _ _ raw => raw < 2 ^ 512
  | .descSyncPost _ _ raw => raw < 2 ^ 512
  | .descLoad _ _ raw => raw < 2 ^ 512
  | .descUnload _ _ raw => raw < 2 ^ 512
  | .descRestore _ _ raw => raw < 2 ^ 512
  | .descMicrobatch _ _ raw _ => raw < 2 ^ 512
  | .descStepParam _ _ raw => raw < 2 ^ 512
  | .descOffloadRegister _ _ raw => raw < 2 ^ 512
  | .descOffloadRelease _ _ raw => raw < 2 ^ 512
  | .descriptorComplete _ _ => true
  | .layoutApply who v => who.wf && objVal v
  | .portReset _ _ => true
  | .msixUnmask _ _ => true
  | .access who msg _ => who.wf && msg.wf
  | .openSession who msg => who.wf && msg.wf
  | .auth who msg => who.wf && msg.wf
  | .closeSession who msg => who.wf && msg.wf
  | .subscribe who msg => who.wf && msg.wf
  | .unsubscribe who msg => who.wf && msg.wf
  | .eventSubscribe who msg => who.wf && msg.wf
  | .logRead who msg => who.wf && msg.wf
  | .registerWrite who key v => who.wf && key < 2 ^ 24 && objVal v
  | .publishTick session key => session < 2 ^ 16 && key < 2 ^ 24
  | .telemetryLevelTick _ => true
  | .sessionExpiry session => session < 2 ^ 16
  | .mpWatchdogExpiry _ => true
  | .eventLogFlush => true
  | .persistWriteComplete => true
  | .factoryInit who v => who.wf && objVal v
  | .enumHeadDetect => true
  | .enumBurstRx _ => true
  | .enumBurstSend => true
  | .enumFailed => true
  | .plcaBeaconTimeout => true
  | .plcaBeaconRx => true
  | .ptpAnnounceRx _ ann => ann.wf
  | .ptpSyncRx _ domain source seq _ _ _ => domain < 2 ^ 8 && source < 2 ^ 80 && seq < 2 ^ 16
  | .ptpFollowUpRx _ domain source seq _ => domain < 2 ^ 8 && source < 2 ^ 80 && seq < 2 ^ 16
  | .ptpDelayReqSend => true
  | .ptpDelayRespRx _ domain source seq _ => domain < 2 ^ 8 && source < 2 ^ 80 && seq < 2 ^ 16
  | .ptpSyncLoss => true
  | .ptpHoldoverExpiry => true
  | .calendarSet who v => who.wf && objVal v
  | .leapSecond _ => true
  | .backupLow supercap coin => supercap < 2 ^ 32 && coin < 2 ^ 32
  | .fwUpdateOffset who v => who.wf && objVal v
  | .fwUpdateChunk who v => who.wf && objVal v
  | .fwUpdateCommit who v => who.wf && objVal v
  | .ownerKeyInit who v => who.wf && objVal v
  | .ownerKeyNext who v => who.wf && objVal v
  | .imageKeyWrite who _ v => who.wf && objVal v
  | .linkKeyWrite who _ v => who.wf && objVal v
  | .vendorKeyRevoked who v => who.wf && objVal v
  | .powerCeilingSetW who v => who.wf && objVal v
  | .partitionLayoutLock who v => who.wf && objVal v
  | .securityVersionFloor who v => who.wf && objVal v
  | .rtvMode who v => who.wf && objVal v
  | .rngHealthFail => true
  | .rngRestartTest _ => true
  | .powerOn _ _ => true
  | .moduleResetNPin _ => true
  | .moduleReset who v => who.wf && objVal v
  | .moduleResetDelay => true
  | .selfResetAfterStop => true
  | .selfResetAfterTrip => true
  | .scWatchdogExpiry => true
  | .bringupStageComplete _ obs => obs.wf
  | .stageTimeout => true
  | .capacitanceMeasure vStart fall => vStart < 2 ^ 32 && fall < 2 ^ 32
  | .lbistWaveComplete _ => true
  | .bistPowerSample power => power < 2 ^ 32
  | .onchipMbistComplete _ => true
  | .hbmSelfTestComplete _ _ _ => true
  | .engageAssert => true
  | .engageRelease => true
  | .perstNRelease _ _ _ _ => true
  | .analogThermalCutoff _ => true
  | .laserFaultReport _ => true

end Sys2Proof
end

