-- ==== Sys2Proof/Certificates/Slice0/Obligations.lean ====
section
/-! DEFINITION. Obligations.lean: what is claimed of the module, for the provers. -/

open Sys2Proof Sys2Proof.Machine

/-- For every command c, queue rest cs and state s whose queue is c followed by cs, one step of s is exec of c on s with cs as its
queue. (95_what_each_step_holds.md) -/
def Obligations.StepRunsFrontCommand : Prop :=
  ∀ (c : Instr) (cs : List Instr) (s : State), s.pending = c :: cs → step s = exec c { s with pending := cs }

/-- On an empty command queue a step answers a next state. With nothing in the management queue, reference time moves on by one unit
of 0.125 ns and nothing but the calendar moves with it; with an entry next in the management queue of a running MP, that entry
is served. What a step does on an empty queue is the model's choice (log entry 7). (18_management_and_object_dictionary.md) -/
def Obligations.IdleStepServesOrTicks : Prop :=
  ∀ s : State, s.pending = [] →
    (s.mgmt.queue = [] → ∃ t, step s = .next t ∧ t.now = s.now + 1 ∧ t = { s with now := t.now, time := t.time }) ∧
    (∀ e, s.boot.alwaysOn = true → s.boot.mpUp = true → s.nextEntry 3 = some e →
      step s = .next (State.serveEntry { s with mgmt := { s.mgmt with queue := s.mgmt.queue.erase e } } e))

/-- The module has an answer for every input: no command, with no operands and in no state, ends in a fault or a refusal, and
neither does a step. (R8, 00_scope.md) -/
def Obligations.EveryCommandRuns : Prop :=
  (∀ (c : Instr) (s : State), Runs c s) ∧ ∀ s : State, ∃ t, step s = .next t

/-- For every command and state, the next state has the command queue of the state before, and the configuration (SV1-F or SV1-E) of
the state before. (R4, 95_what_each_step_holds.md) -/
def Obligations.ExecLeavesTheQueue : Prop :=
  ∀ (c : Instr) (s t : State), exec c s = .next t → t.pending = s.pending ∧ t.fullConfig = s.fullConfig

/-- For every state whose memory lists rising addresses and no byte that reads as an unlisted one would, and whose dictionary lists
rising keys, every step that answers a next state leaves memory and dictionary in those forms, whatever commands wait. Equal
memories and dictionaries are then equal data. (10_memory_and_global_addressing.md, 18_management_and_object_dictionary.md) -/
def Obligations.StepKeepsCanonicalForms : Prop :=
  ∀ s t : State, Inv s → step s = .next t → Inv t

/-- The state after reset has memory and dictionary in their canonical forms and an empty command queue. Its objects read as their
tables give: BEAT_STATE UNLOCKED, BEAT_PERIOD_NS 50,000, no upstream link, IMAGE_STATE EMPTY in every partition, CHIP_STATE
STANDBY with no chip number, and the factory layout. The chosen values are the object tables' defaults (log entries 2 to 4).
(20_reset_bist_bringup.md, 02_beat.md, 08_program_image.md, 14_discovery_spares_fencing.md) -/
def Obligations.ResetIsCanonical : Prop :=
  Inv State.reset ∧ State.reset.pending = [] ∧ State.reset.mem = [] ∧
  State.reset.obj O.BEAT_STATE = 0 ∧ State.reset.obj O.BEAT_PERIOD_NS = 50000 ∧ State.reset.obj O.BEAT_COUNT = 0 ∧
  State.reset.obj O.UPSTREAM_PRIMARY = 0xFF ∧ State.reset.obj O.UPSTREAM_SECONDARY = 0xFF ∧ State.reset.obj O.DOWNSTREAM_MASK = 0 ∧
  (∀ p : Fin 4, State.reset.imageState p.val = 0) ∧ State.reset.obj O.CHIP_STATE = 0 ∧ State.reset.obj O.CHIP_NUMBER = 0x3FFF ∧
  (∀ d : Fin 4, State.reset.dieOwner d.val = some 0) ∧ State.reset.portPart 0 = some 0 ∧ State.reset.portPart 1 = none

/-- A write of BEAT_PERIOD_NS or BEAT_ROLE that passes the dictionary's checks takes the value in UNLOCKED, answers OK, and touches
no other object than the count of flash writes (and, for the role, the beat state, which a follower with an upstream link may
leave); in any other beat state it is REFUSED and changes nothing. Memory, layout, jobs, links and ports are as before. (R30,
R51) -/
def Obligations.BeatSettingsInUnlockedOnly : Prop :=
  ∀ (who : Who) (v : Nat) (s : State),
    (Admits s who O.BEAT_PERIOD_NS v → s.obj O.BEAT_STATE = 0 →
      Completes (.beatPeriodNsWrite who v) s (fun t => t.obj O.BEAT_PERIOD_NS = v ∧ Tells t who O.BEAT_PERIOD_NS St.ok ∧
        SameMemory s t ∧ SameWork s t ∧ t.beat = s.beat ∧ SameObjects s t [O.BEAT_PERIOD_NS, O.PERSIST_WRITES])) ∧
    (Admits s who O.BEAT_PERIOD_NS v → s.obj O.BEAT_STATE ≠ 0 →
      exec (.beatPeriodNsWrite who v) s = .next { s with out := .status who O.BEAT_PERIOD_NS St.refused :: s.out }) ∧
    (Admits s who O.BEAT_ROLE v → s.obj O.BEAT_STATE = 0 →
      Completes (.beatRoleWrite who v) s (fun t => t.obj O.BEAT_ROLE = v ∧ Tells t who O.BEAT_ROLE St.ok ∧
        SameMemory s t ∧ SameWork s t ∧ SameObjects s t [O.BEAT_ROLE, O.BEAT_STATE, O.PERSIST_WRITES])) ∧
    (Admits s who O.BEAT_ROLE v → s.obj O.BEAT_STATE ≠ 0 →
      exec (.beatRoleWrite who v) s = .next { s with out := .status who O.BEAT_ROLE St.refused :: s.out })

/-- A root in UNLOCKED that takes BEAT_START_COUNT enters ROOT, keeps BEAT_COUNT, and places its first edge 1,500 ns later with
SLACK_N 0 and REMAIN 12,000; in another state the write is REFUSED. A tree write with a link of this configuration or 0xFF waits
for the next edge in LOCKED and ROOT and takes the value at once elsewhere. BEAT_RELEASE with every partition EMPTY and no
restore has no effect in UNLOCKED and waits for the edge in LOCKED and ROOT. HOLD_RELEASE on a root sets the consecutive-slip
count to 0 and releases the hold at the next EDGE. (R48, R50, R51, R61) -/
def Obligations.BeatTreeAndReleaseWrites : Prop :=
  ∀ (who : Who) (v : Nat) (s : State),
    (Admits s who O.BEAT_START_COUNT v → s.obj O.BEAT_ROLE = 1 → s.obj O.BEAT_STATE = 0 →
      Completes (.beatStartCountWrite who v) s (fun t =>
        t.obj O.BEAT_STATE = 3 ∧ t.obj O.BEAT_START_COUNT = v ∧ t.now = s.now ∧
        t.beat.placed = some { time := s.now + 12000, word := edgeWord v 0 false false 12000, fromSecondary := false } ∧
        Tells t who O.BEAT_START_COUNT St.ok ∧ SameMemory s t ∧ SameWork s t ∧
        SameObjects s t [O.BEAT_STATE, O.BEAT_START_COUNT])) ∧
    (Admits s who O.BEAT_START_COUNT v → s.obj O.BEAT_ROLE ≠ 0 → s.obj O.BEAT_STATE ≠ 0 →
      exec (.beatStartCountWrite who v) s = .next { s with out := .status who O.BEAT_START_COUNT St.refused :: s.out }) ∧
    (∀ which : Fin 3, Admits s who (treeKey which.val) v →
      (if which.val = 2 then v < (if s.fullConfig then 2 ^ 24 else 2 ^ 8) else v < (if s.fullConfig then 24 else 8) ∨ v = 0xFF) →
      (s.obj O.BEAT_STATE = 2 ∨ s.obj O.BEAT_STATE = 3 →
        Completes (.upstreamLinkWrite who which v) s (fun t => Tells t who (treeKey which.val) St.ok ∧
          t.beat.stagedP = (if which.val = 0 then some v else s.beat.stagedP) ∧
          t.beat.stagedS = (if which.val = 1 then some v else s.beat.stagedS) ∧
          t.beat.stagedMask = (if which.val = 2 then some v else s.beat.stagedMask) ∧
          SameMemory s t ∧ SameWork s t ∧ SameObjects s t [])) ∧
      (¬(s.obj O.BEAT_STATE = 2 ∨ s.obj O.BEAT_STATE = 3) →
        Completes (.upstreamLinkWrite who which v) s (fun t => Tells t who (treeKey which.val) St.ok ∧
          t.obj (treeKey which.val) = v ∧ SameMemory s t ∧ SameWork s t ∧ SameObjects s t [treeKey which.val, O.BEAT_STATE]))) ∧
    (Admits s who O.BEAT_RELEASE v → s.allEmpty = true → s.noRestore = true →
      (s.obj O.BEAT_STATE = 0 → exec (.beatRelease who v) s = .next { s with out := .status who O.BEAT_RELEASE St.ok :: s.out }) ∧
      (s.obj O.BEAT_STATE = 2 ∨ s.obj O.BEAT_STATE = 3 →
        Completes (.beatRelease who v) s (fun t => t.beat = { s.beat with releasePending := true } ∧ Tells t who O.BEAT_RELEASE St.ok ∧
          SameMemory s t ∧ SameWork s t ∧ SameObjects s t []))) ∧
    (Admits s who O.HOLD_RELEASE v → s.obj O.BEAT_ROLE = 1 →
      Completes (.holdRelease who v) s (fun t =>
        t.beat = { s.beat with consec := 0, holdReleased := true, slipPending := false } ∧ Tells t who O.HOLD_RELEASE St.ok ∧
        SameMemory s t ∧ SameWork s t ∧ SameObjects s t []))

/-- A root that has not decided its next edge, has not stopped, and has no calibration window open that its placed edge would lie 2
ms behind, emits it: SLACK_N is the largest request capped at SLACK_MAX_N; HOLD is set while a hold lasts or when a slip would
pass CONSEC_SLIP_LIMIT, SLIP otherwise when one was asked, and neither after HOLD_RELEASE; the root's own edge is the nominal
time plus the slack, and the nominal time is the last edge plus the period. The consecutive-slip count goes up with SLIP, stays
with HOLD and is 0 otherwise. (R33, R36, R56, R60, R61) -/
def Obligations.RootDecidesTheEdge : Prop :=
  ∀ s : State, s.obj O.BEAT_STATE = 3 → s.beat.decided = false → s.boot.stopCause = none →
    (∀ e ∈ s.optics.wins, s.nominal + 8 * (min s.beat.reqMax (s.obj O.SLACK_MAX_N) * s.obj O.BEAT_PERIOD_NS / 64) ≤
      e.2.openedAt + 16000000) →
    Completes .rootEdgeEmit s (fun t =>
      let n := min s.beat.reqMax (s.obj O.SLACK_MAX_N)
      let hold := !s.beat.holdReleased && (s.beat.rootHold || (s.beat.slipPending && decide (s.obj O.CONSEC_SLIP_LIMIT < s.beat.consec + 1)))
      let slip := !s.beat.holdReleased && !hold && s.beat.slipPending
      s.nominal = s.beat.lastEdge + 8 * s.obj O.BEAT_PERIOD_NS ∧
      t.beat.placed = some { time := s.nominal + 8 * (n * s.obj O.BEAT_PERIOD_NS / 64),
                             word := edgeWord s.nextCount n slip hold 12000, fromSecondary := false } ∧
      t.beat.consec = (if slip then s.beat.consec + 1 else if hold then s.beat.consec else 0) ∧
      t.beat.rootHold = hold ∧ t.beat.decided = true ∧ t.now = max s.now (s.nominal - 12000) ∧
      SameMemory s t ∧ SameWork s t ∧ SameObjects s t [])

/-- At a local edge of a module that is LOCKED or ROOT, has not stopped and has no orderly stop pending, time reaches the edge; E1
and E2 run; E3 runs when the schedule advances; E4 runs; a pending release then ends the edge, and otherwise E5, E6 and E7 run.
A root's first edge is such an edge. (R63, R48) -/
def Obligations.EdgeStepsInOrder : Prop :=
  ∀ (s : State) (pl : Placed), s.beat.placed = some pl → s.onBeat = true → s.boot.stopCause = none → s.power.stopPending = false →
    let s0 := s.upTo pl.time
    let slip := Edge.slip pl.word
    let hold := Edge.hold pl.word
    let adv := (s0.beat.scheduleOn || !(s0.starting s0.nextCount).isEmpty) && !slip && !hold
    let s2 := (s0.edgeE1 adv).edgeE2
    let s3 := if adv then s2.edgeE3 pl.time (s2.obj O.SCHEDULE_BEAT + 1) else s2
    let s4 := s3.edgeE4 pl
    let s5 := s4.opticsE5 pl.time (slip || hold)
    let t := if s4.beat.releasePending then s4.doRelease else (s5.1.opticsE6 s5.1.period8 slip hold s5.2).edgeE7 adv
    exec .localEdge s = .next t ∧
    (s.obj O.BEAT_STATE = 3 → s.beat.firstEdge = true → exec .rootFirstEdge s = .next t)

/-- After step E4 of an edge BEAT_COUNT is the count that the edge begins; SCHEDULE_BEAT is one more when a job has started the
schedule and the edge carries neither SLIP nor HOLD, and stays otherwise; MACHINE_HOLD shows HOLD; the edge is the last edge,
and an edge is placed only if the EDGE for it has come early. (R31, R32, R33, R61) -/
def Obligations.EdgeCountsTheBeat : Prop :=
  ∀ (s : State) (pl : Placed),
    let t := s.edgeE4 pl
    let on := s.beat.scheduleOn || !(s.starting s.nextCount).isEmpty
    t.obj O.BEAT_COUNT = s.nextCount ∧
    t.obj O.SCHEDULE_BEAT =
      (if on && !Edge.slip pl.word && !Edge.hold pl.word then (s.obj O.SCHEDULE_BEAT + 1) % 2 ^ 64 else s.obj O.SCHEDULE_BEAT) ∧
    t.obj O.MACHINE_HOLD = b2n (Edge.hold pl.word) ∧ t.beat.lastEdge = pl.time ∧ t.beat.placed = s.beat.early ∧ t.beat.firstEdge = false ∧
    SameMemory s t

/-- In LOCKED, with no edge placed, an EDGE that arrives by an upstream link, follows on from the beat count, keeps to Table 2.3,
does not lie before its arrival, fits the interval within 8 ns and does not lie 2 ms behind the opening of a calibration window,
places the local edge at arrival plus REMAIN less the link's EDGE_DELAY plus the slack's nanoseconds, up to six units of
placement error. One that breaks Table 2.3, or comes by another link, is counted as malformed and places nothing. (R37, R43,
R45, R49, R50) -/
def Obligations.FollowerPlacesItsEdge : Prop :=
  ∀ (link : Fin 24) (blk at_ : Nat) (residences : List Nat) (err : Fin 13) (s s1 : State) (w : Nat),
    s.hears link.val = true → s.boot.stopCause = none → (s.upTo at_).ctlRx link.val blk 1 1 (2 ^ 41 - 2 ^ 16) = (some w, s1) →
    (s1.usable link.val = true → (s1.obj O.UPSTREAM_PRIMARY = link.val ∨ s1.obj O.UPSTREAM_SECONDARY = link.val) →
      Edge.slack w ≤ 16 → ¬(Edge.slip w = true ∧ Edge.hold w = true) → s1.obj O.BEAT_STATE = 2 → s1.beat.placed = none →
      Edge.low w = s1.nextCount % 65536 →
      ∀ t : Nat, t + s1.obj (O.EDGE_DELAY_TL0 + link.val) + 6 =
          at_ + Edge.remain w + 8 * (Edge.slack w * s1.obj O.BEAT_PERIOD_NS / 64) + err.val →
        at_ ≤ t → t ≤ s1.nominal + 8 * (Edge.slack w * s1.obj O.BEAT_PERIOD_NS / 64) + 64 →
        s1.nominal + 8 * (Edge.slack w * s1.obj O.BEAT_PERIOD_NS / 64) ≤ t + 64 →
        (∀ e ∈ s1.optics.wins, t ≤ e.2.openedAt + 16000000) →
        Completes (.edgeRx link blk at_ residences err) s (fun u =>
          u.beat.placed = some { time := t, word := w, fromSecondary := !decide (s1.obj O.UPSTREAM_PRIMARY = link.val) } ∧
          SameMemory s1 u ∧ SameWork s1 u ∧ SameObjects s1 u [])) ∧
    (s1.usable link.val = false ∨ (s1.obj O.UPSTREAM_PRIMARY ≠ link.val ∧ s1.obj O.UPSTREAM_SECONDARY ≠ link.val) ∨ 16 < Edge.slack w ∨
        (Edge.slip w = true ∧ Edge.hold w = true) →
      exec (.edgeRx link blk at_ residences err) s = .next (s1.inc (O.at O.MALFORMED_CTRL link.val)))

/-- In ACQUIRING, a BEATNUM on the primary upstream link that names another count than the expected one is taken, and the count of
consistent EDGEs starts again. A LOCKED follower without an edge placed loses the beat when sixteen sixty-fourths of the period
have passed after the nominal edge. The second copy of an EDGE is sent when it is due on a link that still carries beat symbols.
(R39, R48, R49) -/
def Obligations.BeatnumAndLostEdges : Prop :=
  (∀ (link : Fin 24) (blk at_ : Nat) (s s1 : State) (c : Nat),
    s.hears link.val = true → s.boot.stopCause = none → (s.upTo at_).ctlRx link.val blk 1 4 0 = (some c, s1) →
    s1.usable link.val = true → s1.obj O.UPSTREAM_PRIMARY = link.val → s1.obj O.BEAT_STATE = 1 → s1.beat.acqCount ≠ some c →
    exec (.beatnumRx link blk at_) s = .next { s1 with beat := { s1.beat with acqCount := some c, acqRun := 0 } }) ∧
  (∀ s : State, s.obj O.BEAT_STATE = 2 → s.beat.placed = none → s.boot.stopCause = none →
    exec .beatLostTimeout s =
      .next (State.enterLost (s.upTo (s.beat.lastEdge + 8 * s.obj O.BEAT_PERIOD_NS + 8 * (16 * s.obj O.BEAT_PERIOD_NS / 64))))) ∧
  (∀ (s : State) (c : SecondCopy) (cs : List SecondCopy), s.beat.second = c :: cs →
    Completes .edgeSecondCopy s (fun t =>
      t.beat.second = (c :: cs).filter (fun x => decide (c.due < x.due)) ∧
      (s.usable c.link = true → Out.block c.link 1 1 c.word 1 ∈ t.out) ∧ SameMemory s t ∧ SameWork s t ∧ SameObjects s t []))

/-- A SLACK_REQ from a downstream link with SLACK_N 1 to 16 that names the next beat raises the root's largest request before its
decision point, is counted late after it, and on a follower goes upstream unless as large a request has gone for that beat. A
SLIP_REQ makes a root without a hold set SLIP pending, and on a follower the first one of a beat goes upstream. A module whose
forecast with its guard passes the nominal edge by x > 0 nanoseconds, before the cutoff and above what it asked before, asks for
min(16, ceil(64 x / period)) sixty-fourths, under its own chip number and epoch, for a degraded link when that stands and is
enabled, and for withheld slots under the enabled cause that withholds the most (over all dies, log entry 148). (R54, R55, R56,
R60) -/
def Obligations.RequestsClimbTheTree : Prop :=
  (∀ (link : Fin 24) (blk : Nat) (s s1 : State) (w : Nat), s.reqRx link.val blk 2 (3 * 2 ^ 38 + 255) 5 = (some w, s1) →
    1 ≤ bits w 47 43 → bits w 47 43 ≤ 16 → bits w 63 48 = s1.nextCount % 65536 →
    (s1.obj O.BEAT_STATE = 3 → s1.beat.decided = false →
      exec (.slackReqRx link blk) s = .next { s1 with beat := { s1.beat with reqMax := max s1.beat.reqMax (bits w 47 43) } }) ∧
    (s1.obj O.BEAT_STATE = 3 → s1.beat.decided = true → exec (.slackReqRx link blk) s = .next (s1.inc O.LATE_REQ_DROPPED)) ∧
    (∀ u, s1.obj O.BEAT_STATE ≠ 3 → s1.upLink = some u → (s1.beat.sentLow ≠ some (bits w 63 48) ∨ s1.beat.sentN < bits w 47 43) →
      exec (.slackReqRx link blk) s =
        .next { s1 with beat := { s1.beat with sentLow := some (bits w 63 48), sentN := bits w 47 43 },
                        out := .block u 1 2 w 0 :: s1.out })) ∧
  (∀ (link : Fin 24) (blk : Nat) (s s1 : State) (w : Nat), s.reqRx link.val blk 3 (31 * 2 ^ 43 + 3 * 2 ^ 38 + 255) 2 = (some w, s1) →
    (s1.obj O.BEAT_STATE = 3 → s1.beat.rootHold = false →
      exec (.slipReqRx link blk) s = .next { s1 with beat := { s1.beat with slipPending := true } }) ∧
    (∀ u, s1.obj O.BEAT_STATE ≠ 3 → s1.upLink = some u → s1.beatOf (bits w 63 48) ∉ s1.beat.slipPassed →
      exec (.slipReqRx link blk) s =
        .next (({ s1 with beat := { s1.beat with
          slipPassed := s1.beatOf (bits w 63 48) :: s1.beat.slipPassed.filter (fun b => decide (s1.obj O.BEAT_COUNT < b + 65536)) } }).send
          (.block u 1 3 w 0)))) ∧
  (∀ (cause : Nat) (excessNs : Int) (s : State) (u : Nat),
    let a := s.accountPower
    let c := a.slackCause cause
    let x := excessNs + s.obj O.SLACK_GUARD_NS
    let n := min 16 ((64 * x.toNat + s.obj O.BEAT_PERIOD_NS - 1) / s.obj O.BEAT_PERIOD_NS)
    s.obj O.BEAT_STATE = 2 → s.beat.firstEdge = false → c ≠ 0 → 0 < x → s.boot.stopCause = none →
    s.now + 24000 ≤ s.nominal → s.beat.holdOn = false → s.power.holdOn = false →
    s.obj O.CHIP_STATE = 1 → s.beat.ownN < n → s.upLink = some u →
    (let w := reqWord s.nextCount n c (s.obj O.CHIP_NUMBER) (s.obj O.CHIP_EPOCH)
     s.beat.sentLow ≠ some (bits w 63 48) →
     Completes (.slackReqSend cause excessNs) s (fun t => t.out = .block u 1 2 w 0 :: s.out ∧ t.beat.ownN = n ∧
      t.obj O.SLACK_REQ_SENT = (s.obj O.SLACK_REQ_SENT + 1) % 2 ^ 64 ∧ SameMemory s t ∧ SameWork s t ∧
      SameObjects a t [O.SLACK_REQ_SENT]))) ∧
  (∀ s : State, s.heldCause ≠ 0 →
    1 ≤ s.heldCause ∧ s.heldCause ≤ 4 ∧ bit (s.obj O.SLACK_CAUSE_ENABLE) (s.heldCause - 1) = true ∧
    0 < s.power.slots.get s.heldCause 0 ∧
    (∀ d, 1 ≤ d → d ≤ 4 → bit (s.obj O.SLACK_CAUSE_ENABLE) (d - 1) = true →
      s.power.slots.get d 0 ≤ s.power.slots.get s.heldCause 0))

/-- LATE_BEAT_RESUME lets each partition that is behind begin the schedule beats it owes, the lowest partition first. With a
nanosecond deadline standing, NS_DEADLINE_DUE takes reference time to the earliest of them and fires there. (R58, R65, R66) -/
def Obligations.LateWorkAndDeadlines : Prop :=
  (∀ s : State, exec .lateBeatResume s = .next ((((s.resumeLate 0).resumeLate 1).resumeLate 2).resumeLate 3)) ∧
  (∀ (s : State) (d : Nat) (ds : List Nat), s.nsStanding = d :: ds →
    ∃ m, m ∈ d :: ds ∧ (∀ e, e ∈ d :: ds → m ≤ e) ∧ exec .nsDeadlineDue s = .next (s.nsFire m))

/-- For each of the six floating-point formats and every pattern of its width that is not a NaN, rounding the pattern's value into
the format gives the pattern again and sets no flag; only a negative zero of Fj4 becomes +0. A NaN is written in the module's
form. (R74, R85, R91) -/
def Obligations.FormatsKeepTheirValues : Prop :=
  ∀ F ∈ [Fmt.fj4, Fmt.fj8a, Fmt.fj8g, Fmt.fj16, Fmt.fp32, Fmt.w48], ∀ w : Nat, w < 2 ^ F.width →
    ((F.dec w).isNan = false → F.enc (F.dec w) = (if F.sat = true ∧ w % 2 ^ (F.width - 1) = 0 then 0 else w, 0)) ∧
    ((F.dec w).isNan = true → F.enc (F.dec w) = (F.nan, 0))

/-- A block of Fj8a, Fj8g or Fj4 whose source holds a NaN or an infinity gets byte 0xFF whatever byte was given, every Fj8a and Fj8g
element is written as 0x80 and every Fj4 element as 0x0, and NONFINITE_IN is set, by every source element that is not finite.
(R87) -/
def Obligations.NonFiniteSourceMakesNanBlock : Prop :=
  ∀ (F : Fmt) (given : Option Nat) (vs : List Machine.Num), F = Fmt.fj4 ∨ F = Fmt.fj8a ∨ F = Fmt.fj8g → vs.any Num.bad = true →
    (writeBlock F given vs).1 = 0xFF ∧
    (writeBlock F given vs).2.map (·.1) = vs.map (fun _ => if F = Fmt.fj4 then 0 else 0x80) ∧
    (writeBlock F given vs).2.map (·.2) = vs.map (fun v => if v.bad then Fl.nonfinite else 0) ∧
    (writeBlock F given vs).2.any (fun e => e.2 = Fl.nonfinite) = true

/-- When the next operation of a release is due and of a command's kind, and no untagged completion of it stands, the command issues
its tiles' shares, after a vector operation's slot counts are added to its counters, and lets the partition's work go on; what
the operation computes is the matrix product for MATMUL, the embedding gradient for EMBED_GRAD, the optimizer step for OPT_STEP,
the fold for FOLD, and the vector engine's result for every other operation. (R132, R226, R244, R249, R251, R253, R258, R260,
R262, R264) -/
def Obligations.TileOperationsIssue : Prop :=
  ∀ (part : Fin 4) (rel waited stalled trimmed : Nat) (s s1 : State) (c : OpCtx) (r : Rel),
    let t := (s1.issueTiles c r waited).afterWork part.val
    let u := ((s1.slots c.p stalled trimmed).issueTiles c r waited).afterWork part.val
    let due := fun (opcode : Nat) => s.findOp part.val rel opcode = some (s1, c, r) ∧ s1.stands c = false
    (due 0x0101 → exec (.matmul part rel waited) s = .next t ∧ s1.compute c = (s1.matmul c, 0)) ∧
    (due 0x0102 → exec (.embedGrad part rel waited) s = .next t ∧ s1.compute c = s1.embedGrad c) ∧
    (due 0x0201 → exec (.ewChain part rel waited stalled trimmed) s = .next u ∧ s1.compute c = s1.vector c) ∧
    (due 0x0301 → exec (.reduceRow part rel waited stalled trimmed) s = .next u ∧ s1.compute c = s1.vector c) ∧
    (due 0x0302 → exec (.reduceCols part rel waited stalled trimmed) s = .next u ∧ s1.compute c = s1.vector c) ∧
    (due 0x0311 → exec (.layernorm part rel waited stalled trimmed) s = .next u ∧ s1.compute c = s1.vector c) ∧
    (due 0x0312 → exec (.layernormGrad part rel waited stalled trimmed) s = .next u ∧ s1.compute c = s1.vector c) ∧
    (due 0x0313 → exec (.rmsnorm part rel waited stalled trimmed) s = .next u ∧ s1.compute c = s1.vector c) ∧
    (due 0x0314 → exec (.rmsnormGrad part rel waited stalled trimmed) s = .next u ∧ s1.compute c = s1.vector c) ∧
    (due 0x0321 → exec (.softmax part rel waited stalled trimmed) s = .next u ∧ s1.compute c = s1.vector c) ∧
    (due 0x0322 → exec (.softmaxGrad part rel waited stalled trimmed) s = .next u ∧ s1.compute c = s1.vector c) ∧
    (due 0x0323 → exec (.xent part rel waited stalled trimmed) s = .next u ∧ s1.compute c = s1.vector c) ∧
    (due 0x0401 → exec (.gather part rel waited stalled trimmed) s = .next u ∧ s1.compute c = s1.vector c) ∧
    (due 0x0501 → exec (.cast part rel waited stalled trimmed) s = .next u ∧ s1.compute c = s1.vector c) ∧
    (due 0x0502 → exec (.requantize part rel waited stalled trimmed) s = .next u ∧ s1.compute c = s1.vector c) ∧
    (due 0x0503 → exec (.lossSeed part rel waited stalled trimmed) s = .next u ∧ s1.compute c = s1.vector c) ∧
    (due 0x0601 → exec (.optStep part rel waited stalled trimmed) s = .next u ∧ s1.compute c = (s1.optStep c, 0)) ∧
    (due 0x0701 → exec (.fold part rel waited stalled trimmed) s = .next u ∧ s1.compute c = ((s1.foldStep c).1, 0))

/-- When the next operation of a release is due: COLLECTIVE starts its entry, TRANSFER moves its data after the cycles that a read-
back made it wait are counted, CHECKPOINT_COPY and DIGEST do what the checkpoint engine does or post a null completion, and the
partition's work goes on; any of them whose untagged completion stands is passed over without being done again. (R265, R266,
R267, R354) -/
def Obligations.MovingOperationsIssue : Prop :=
  ∀ (part : Fin 4) (rel waited : Nat) (data : List Byte) (s s1 : State) (c : OpCtx) (r : Rel),
    let due := fun (opcode : Nat) => s.findOp part.val rel opcode = some (s1, c, r)
    let past := (s1.setJob part.val ((s1.job part.val).advance r.id false)).afterWork part.val
    (due 0x0801 → exec (.collective part rel waited) s =
      .next (if s1.stands c then past else (s1.issueCollective c r waited).afterWork part.val)) ∧
    (due 0x0901 → exec (.transfer part rel waited data) s =
      .next (if s1.stands c then past
        else ((s1.noteWaits c waited).issueTransfer c r data).afterWork part.val)) ∧
    (due 0x0A01 → exec (.checkpointCopy part rel) s =
      .next (if s1.stands c then past else (s1.issueCkpt c r (s1.ckCopy c)).afterWork part.val)) ∧
    (due 0x0A02 → exec (.digest part rel) s =
      .next (if s1.stands c then past else (s1.issueCkpt c r (s1.ckDigest c)).afterWork part.val))

/-- OPERATION_COMPLETE on a share under way changes nothing after a stop, nor for a tile while a thermal hold lasts; otherwise it
completes: it puts its bytes, flags and post in place and lets the partition's work go on; in UNLOADING it lets nothing go on,
and the last share ends the unload. COLLECTIVE_START begins the next start that waited for its entry, and nothing after a stop.
COLLECTIVE_COMPLETE on an entry whose work is all done ends its run, counts a received grain that belongs in a spill region,
counts the entry, posts to its POST_PAIR, and frees what it held, and lets the norm contribution and the partition's work go on.
(R246, R355) -/
def Obligations.WorkCompletes : Prop :=
  (∀ (part : Fin 4) (rel tile : Nat) (s : State) (x : Share),
    (s.job part.val).shares.find? (fun y => decide (y.rel = rel) && decide (y.tile = tile)) = some x →
    let s1 := s.completeShare part.val x
    (s.workStopped tile = true → Completes (.operationComplete part rel tile) s (fun t => t = s)) ∧ (s.workStopped tile = false →
    x.rel = rel ∧ x.tile = tile ∧
    (s1.imageState part.val ≠ 4 → Completes (.operationComplete part rel tile) s (fun t => t = s1.afterWork part.val)) ∧
    (s1.imageState part.val = 4 → (s1.job part.val).shares ≠ [] → Completes (.operationComplete part rel tile) s (fun t => t = s1)) ∧
    (s1.imageState part.val = 4 → (s1.job part.val).shares = [] →
      Completes (.operationComplete part rel tile) s (fun t => t = s1.unloadDone part.val)))) ∧
  (∀ (part : Fin 4) (entry waited : Nat) (s : State),
    (s.boot.stopCause = none →
      Completes (.collectiveStart part entry waited) s (fun t => t = (s.collNext part.val entry waited).afterWork part.val)) ∧
    (s.boot.stopCause ≠ none → exec (.collectiveStart part entry waited) s = .next s)) ∧
  (∀ (part : Fin 4) (entry : Nat) (s : State) (c : Coll) (r : CRun),
    (s.job part.val).coll entry = some c → (s.job part.val).colls.find? (fun y => decide (y.entry = entry)) = some r →
    s.collDone part.val c r = true → s.boot.stopCause = none →
    let j := s.job part.val
    let s1 := s.setJob part.val
      { j with colls := j.colls.erase r, collTagged := if r.tagged && !r.own then r :: j.collTagged else j.collTagged }
    let s2 := match j.image with
      | some im => if c.kind = 5 ∧ r.dstPre.isSome = true then s1.spillGrain part.val r.step im c.dst r.grain else s1
      | none => s1
    exec (.collectiveComplete part entry) s =
      .next ((((((s2.collFreed part.val entry).inc (O.at O.COLL_ENTRIES_COMPLETED part.val)).post part.val c.post r.step r.tagged).normSend part.val).afterWork
        part.val)))

/-- Combining two contributions does not depend on their order, and combining three does not depend on their grouping: sums, counts,
flags and the mark of an inconsistency come out the same, whichever child's contribution a position accepts first. (R191) -/
def Obligations.ContributionsCombineInAnyOrder : Prop :=
  ∀ a b c : Contrib, Contrib.combine a b = Contrib.combine b a ∧
    Contrib.combine (Contrib.combine a b) c = Contrib.combine a (Contrib.combine b c)

/-- When the beat count has reached a partition's vote deadline, VOTE_TIMEOUT sets VOTE_STATE to 5 (lost), raises 0x3906, and drops
the packets that wait for a route; before the deadline, or with none, it does nothing. NORM_CONTRIBUTION_SEND with a
contribution formed and the final weight's packets handed over contributes it to the vote, and opens the commit round when the
norm passed; then what that completes goes on. (R193, R194, R209) -/
def Obligations.VoteTimesOut : Prop :=
  ∀ (part : Fin 4) (s : State),
    (∀ d, (s.job part.val).voteDeadline = some d → d ≤ s.obj O.BEAT_COUNT →
      Completes (.voteTimeout part) s (fun t =>
        t.obj (O.at O.VOTE_STATE part.val) = 5 ∧ (t.job part.val).voteDeadline = none ∧
        t = (State.raise ((s.setJob part.val { s.job part.val with voteDeadline := none }).put (O.at O.VOTE_STATE part.val) 5) 0x3906
              { part := part.val }).dropWaiting part.val ∧ SameMemory s t)) ∧
    (∀ d, (s.job part.val).voteDeadline = some d → s.obj O.BEAT_COUNT < d → exec (.voteTimeout part) s = .next s) ∧
    ((s.job part.val).voteDeadline = none → exec (.voteTimeout part) s = .next s) ∧
    (∀ x, (s.job part.val).formed = some x → s.finalHanded part.val (s.stepNo part.val) = true →
      let r := (s.setJob part.val { s.job part.val with formed := none }).contribute part.val x
      Completes (.normContributionSend part) s (fun t => t = (if r.2 then r.1.commitOpen part.val else r.1).settle part.val))

/-- An admitted STEP_PARAM whose learning rate and weight decay are finite and not negative is kept as the newest of its partition
and answers OK, and one that is not is REFUSED. START_BEAT of a LOADED partition at least two beats ahead arms it, and is
REFUSED otherwise. UNLOAD marks the partition for unloading: at once when no edge comes or nothing is loaded, at the next edge
otherwise. DEBUG_ENABLE of an EMPTY partition waits for the edge, and DEBUG_HALT takes its value. (R127, R197, R234, R235) -/
def Obligations.JobControlWrites : Prop :=
  ∀ (who : Who) (part : Fin 4) (v : Nat) (s : State),
    (Admits s who (O.at O.STEP_PARAM part.val) v →
      (paramOk (recF v 8 4) = true → paramOk (recF v 12 4) = true →
        Completes (.stepParamWrite who part v) s (fun t =>
          t.obj (O.at O.STEP_PARAM part.val) = v ∧ Tells t who (O.at O.STEP_PARAM part.val) St.ok ∧
          (t.job part.val).params = { step := recF v 0 8, lr := recF v 8 4, wd := recF v 12 4 } :: (s.job part.val).params ∧
          SameMemory s t ∧ t.beat = s.beat ∧ SameObjects s t [O.at O.STEP_PARAM part.val])) ∧
      (paramOk (recF v 8 4) = false ∨ paramOk (recF v 12 4) = false →
        exec (.stepParamWrite who part v) s = .next { s with out := .status who (O.at O.STEP_PARAM part.val) St.refused :: s.out })) ∧
    (Admits s who (O.at O.START_BEAT part.val) v →
      (s.imageState part.val = 2 → s.obj O.BEAT_COUNT + 2 ≤ v →
        Completes (.startBeatWrite who part v) s (fun t =>
          t.obj (O.at O.START_BEAT part.val) = v ∧ Tells t who (O.at O.START_BEAT part.val) St.ok ∧
          t.job part.val = { s.job part.val with armed := true, startAt := v } ∧
          SameMemory s t ∧ SameObjects s t [O.at O.START_BEAT part.val])) ∧
      (s.imageState part.val ≠ 2 ∨ v < s.obj O.BEAT_COUNT + 2 →
        exec (.startBeatWrite who part v) s = .next { s with out := .status who (O.at O.START_BEAT part.val) St.refused :: s.out })) ∧
    (Admits s who (O.at O.UNLOAD part.val) v →
      let s1 := s.setJob part.val { s.job part.val with unload := true }
      (s.onBeat = true → s.imageState part.val ≠ 0 →
        exec (.unload who part v) s = .next { s1 with out := .status who (O.at O.UNLOAD part.val) St.ok :: s.out }) ∧
      (s.onBeat = false ∨ s.imageState part.val = 0 →
        exec (.unload who part v) s = .next ((s1.unloadNow part.val).send (.status who (O.at O.UNLOAD part.val) St.ok)))) ∧
    (Admits s who O.DEBUG_ENABLE v → v = 1 → s.obj O.DEBUG_ENABLE = 0 → s.imageState s.debugPart = 0 →
      Completes (.debugEnableWrite who v) s (fun t => t.obj O.DEBUG_ENABLE = 1 ∧ t.dbg.entering = true ∧ t.dbg.on = false ∧
        Tells t who O.DEBUG_ENABLE St.ok ∧ SameMemory s t ∧ t.beat = s.beat)) ∧
    (Admits s who O.DEBUG_HALT v →
      Completes (.debugHaltWrite who v) s (fun t => t.obj O.DEBUG_HALT = v ∧ Tells t who O.DEBUG_HALT St.ok ∧
        SameMemory s t ∧ SameWork s t ∧ t.beat = s.beat ∧ SameObjects s t [O.DEBUG_HALT]))

/-- IMAGE_LOAD_DONE on a partition none of whose dies is being zeroed completes: it takes the partition's oldest load request. When
a check fails, the load is refused: IMAGE_STATE reads EMPTY again unless the request was of the wrong state, LOAD_STATUS holds
the failure's record, and the refusal is counted and raised. When none fails the image is loaded: IMAGE_STATE reads LOADED,
LOAD_STATUS tells of no refusal, and the image of the request is the partition's. (R233, R236, R239) -/
def Obligations.LoadEndsByItsChecks : Prop :=
  ∀ (part : Fin 4) (s : State) (r : LoadReq) (rest : List LoadReq), (s.job part.val).load = r :: rest →
    (∀ d, d ∈ s.diesOf part.val → bit s.host.zeroing d = false) →
    let s1 := s.setJob part.val { s.job part.val with load := rest }
    (∀ f, s1.loadCheck part.val r.wrong r.params r.img r.table = some f →
      Completes (.imageLoadDone part) s (fun t =>
        t.obj (O.at O.LOAD_STATUS part.val) = f.record ∧ t.imageState part.val = (if r.wrong.isNone then 0 else s.imageState part.val) ∧
        t.obj (O.at O.REFUSALS part.val) = (s.obj (O.at O.REFUSALS part.val) + 1) % 2 ^ 64 ∧ (t.job part.val).load = rest ∧
        SameMemory s t ∧ t.beat = s.beat)) ∧
    (s1.loadCheck part.val r.wrong r.params r.img r.table = none →
      Completes (.imageLoadDone part) s (fun t =>
        t = s1.finishLoad part.val r ∧ t.imageState part.val = 2 ∧ t.obj (O.at O.LOAD_STATUS part.val) = loadedRecord ∧
        (t.job part.val).image = some (Img.parse r.img) ∧ (t.job part.val).load = rest))

/-- In canonical memory, after bytes are written from an address on, each of those addresses reads as its byte and every other
address as before, and a poisoned unit stays poisoned exactly when the write does not cover all 64 bytes of it. After a range is
zeroed its addresses read as zero and all others as before. Memory stays canonical. (R15, R290,
10_memory_and_global_addressing.md) -/
def Obligations.BytesReadAsWritten : Prop :=
  ∀ (s : State) (a : Nat) (bs : List Byte) (n x : Nat), Memory.wf s.mem = true →
    (let t := s.writeMem a bs
     Memory.wf t.mem = true ∧
     (x < a ∨ a + bs.length ≤ x → Memory.read t.mem x = Memory.read s.mem x) ∧
     (∀ i b, bs[i]? = some b → Memory.read t.mem (a + i) = b) ∧
     (∀ u, u ∈ t.poison ↔ u ∈ s.poison ∧ ¬(a ≤ u ∧ u + 64 ≤ a + bs.length)) ∧ t.layout = s.layout ∧ t.out = s.out) ∧
    (let t := s.zeroMem a n
     Memory.wf t.mem = true ∧ Memory.read t.mem x = (if a ≤ x ∧ x < a + n then 0 else Memory.read s.mem x) ∧ t.dict = s.dict)

/-- A read of len bytes through BAR2-3 or BAR4-5 of a port that belongs to a partition, within the BAR, whose access check passes
and does not hold it, answers the bytes of the global address that the BAR's offset stands for; nothing changes but the counts
of bytes read. A write under the same conditions stores its bytes there: every address outside them reads as before; nothing
else changes but the poison it covers and the counts of bytes written. (R274, R275, R282, R474) -/
def Obligations.HostReachesItsMemory : Prop :=
  ∀ (port : Fin 4) (bar : Fin 3) (off p : Nat) (s : State),
    s.portsUp = true → s.portPart port.val = some p → bar.val ≠ 0 →
    (∀ len : Nat, 0 < len → off + len ≤ barSize bar.val → s.barCheck port.val p (barAddr bar.val p off) len false = some Acc.ok →
      Completes (.hostBarRead port bar off len) s (fun t =>
        t.out = .barData port 0 (s.readMem (barAddr bar.val p off % 2 ^ 50) len) :: s.out ∧
        SameMemory s t ∧ SameWork s t ∧ t.beat = s.beat ∧
        SameObjects s t [O.at O.HOST_BYTES_READ port.val, O.at O.BYTES_READ ((storeOf (barAddr bar.val p off % 2 ^ 50)).getD 0)])) ∧
    (∀ bs : List Byte, bs ≠ [] → off + bs.length ≤ barSize bar.val → Memory.wf s.mem = true →
      s.barCheck port.val p (barAddr bar.val p off) bs.length true = some Acc.ok →
      Completes (.hostBarWrite port bar off bs) s (fun t =>
        let a := barAddr bar.val p off % 2 ^ 50
        (∀ x, x < a ∨ a + bs.length ≤ x → Memory.read t.mem x = Memory.read s.mem x) ∧
        (∀ i b, bs[i]? = some b → Memory.read t.mem (a + i) = b) ∧
        t.out = s.out ∧ t.layout = s.layout ∧ SameWork s t ∧ t.beat = s.beat ∧
        SameObjects s t [O.at O.HOST_BYTES_WRITTEN port.val, O.at O.BYTES_WRITTEN ((storeOf a).getD 0)]))

/-- An access that meets memory being zeroed or a load or unload waits in order, and HELD_ACCESS_RESUME checks all that wait again
in that order. A refused read completes with Unsupported Request when the address is reserved or unmapped and with Completer
Abort otherwise; a refused write is discarded and sets the AER status; both are counted in ACCESS_REFUSED and change no memory.
(R277, R279, R282, R474, R479) -/
def Obligations.HostAccessWaitsOrIsRefused : Prop :=
  (∀ (port : Fin 4) (bar : Fin 3) (off p : Nat) (s : State),
    s.portsUp = true → s.portPart port.val = some p → bar.val ≠ 0 →
    (∀ len : Nat, 0 < len → off + len ≤ barSize bar.val →
      (s.barCheck port.val p (barAddr bar.val p off) len false = none →
        exec (.hostBarRead port bar off len) s =
          .next { s with host := { s.host with heldAcc := s.host.heldAcc ++ [⟨port.val, bar.val, off, len, none⟩] } }) ∧
      (∀ st, s.barCheck port.val p (barAddr bar.val p off) len false = some st → st ≠ Acc.ok →
        Completes (.hostBarRead port bar off len) s (fun t =>
          t.out = .barData port (if st = 1 ∨ st = 3 then 1 else 2) [] :: s.out ∧ SameMemory s t ∧ SameWork s t ∧
          t.obj O.ACCESS_REFUSED = (s.obj O.ACCESS_REFUSED + 1) % 2 ^ 64))) ∧
    (∀ bs : List Byte, bs ≠ [] → off + bs.length ≤ barSize bar.val →
      (s.barCheck port.val p (barAddr bar.val p off) bs.length true = none →
        exec (.hostBarWrite port bar off bs) s =
          .next { s with host := { s.host with heldAcc := s.host.heldAcc ++ [⟨port.val, bar.val, off, bs.length, some bs⟩] } }) ∧
      (∀ st, s.barCheck port.val p (barAddr bar.val p off) bs.length true = some st → st ≠ Acc.ok →
        Completes (.hostBarWrite port bar off bs) s (fun t =>
          t.out = s.out ∧ SameMemory s t ∧ (t.port port.val).aerUr = true ∧ t.jobs = s.jobs ∧
          t.obj O.ACCESS_REFUSED = (s.obj O.ACCESS_REFUSED + 1) % 2 ^ 64)))) ∧
  (∀ s : State, Completes .heldAccessResume s (fun z => z = (s.host.heldAcc.foldl State.barAccess { s with host := { s.host with heldAcc := [] } })))

/-- In a stack, a clean unit changes nothing, except that the last unit of H7, read by the scrub, ends a pass. A corrected error
counts in HBM_CE_TOTAL and the stack's CE_COUNT. An uncorrectable error below the reserved region poisons its 64-byte unit,
counts, is named in LAST_UE, and lists the row for repair; the scrub and every other read do the same. In an on-chip store,
which the scrub does not read, a corrected error counts in SRAM_CE_TOTAL, and an uncorrectable one counts in SRAM_UE_TOTAL, is
named in LAST_UE and poisons its unit. DIE_ZEROING_COMPLETE ends the zeroing of its die and of no other; packets that waited
only for it then proceed in the order they came, and descriptors after them; with none of either waiting nothing else changes.
(R279, R289, R290, R291, R295) -/
def Obligations.ScrubFindsErrors : Prop :=
  (∀ (stack : Fin 396) (unit row : Nat) (scrub : Bool) (s : State), stack.val < 8 →
    ¬(scrub = true ∧ stack.val = 7 ∧ unit % (stackSize / 64) * 64 + 64 = stackSize) →
    exec (.patrolScrub stack unit ⟨0, scrub⟩ row) s = .next s ∧
    Completes (.patrolScrub stack unit ⟨1, scrub⟩ row) s (fun t =>
      t.obj O.HBM_CE_TOTAL = (s.obj O.HBM_CE_TOTAL + 1) % 2 ^ 64 ∧
      t.obj (O.at O.CE_COUNT stack.val) = (s.obj (O.at O.CE_COUNT stack.val) + 1) % 2 ^ 64 ∧
      SameMemory s t ∧ SameWork s t ∧ SameObjects s t [O.HBM_CE_TOTAL, O.at O.CE_COUNT stack.val]) ∧
    (unit % (stackSize / 64) * 64 < resvBase →
      Completes (.patrolScrub stack unit ⟨2, scrub⟩ row) s (fun t =>
        let u := hbmAddr stack.val (unit % (stackSize / 64) * 64)
        t.obj O.HBM_UE_TOTAL = (s.obj O.HBM_UE_TOTAL + 1) % 2 ^ 64 ∧
        t.obj (O.at O.UE_COUNT stack.val) = (s.obj (O.at O.UE_COUNT stack.val) + 1) % 2 ^ 64 ∧
        t.obj O.LAST_UE = fld 0 stack.val + fld 8 u ∧ u ∈ t.poison ∧ (∀ x, x ≠ u → (x ∈ t.poison ↔ x ∈ s.poison)) ∧
        stack.val * 2 ^ 32 + row % 2 ^ 32 ∈ t.boot.repairs ∧ t.mem = s.mem ∧ SameWork s t ∧
        SameObjects s t [O.HBM_UE_TOTAL, O.at O.UE_COUNT stack.val, O.LAST_UE]))) ∧
  (∀ (unit row : Nat) (s : State), unit % (stackSize / 64) * 64 + 64 = stackSize →
    Completes (.patrolScrub 7 unit ⟨0, true⟩ row) s (fun t => t.obj O.SCRUB_PASSES = (s.obj O.SCRUB_PASSES + 1) % 2 ^ 64 ∧
      SameMemory s t ∧ SameWork s t ∧ SameObjects s t [O.SCRUB_PASSES])) ∧
  (∀ (store : Fin 396) (unit row : Nat) (s : State), 8 ≤ store.val →
    let b := unit % (storeSize store.val / 64) * 64
    let u := storeAddr store.val b
    (∀ err, exec (.patrolScrub store unit ⟨err, true⟩ row) s = .next s) ∧
    Completes (.patrolScrub store unit ⟨1, false⟩ row) s (fun t => t.obj O.SRAM_CE_TOTAL = (s.obj O.SRAM_CE_TOTAL + 1) % 2 ^ 64 ∧
      SameMemory s t ∧ SameWork s t ∧ SameObjects s t [O.SRAM_CE_TOTAL]) ∧
    Completes (.patrolScrub store unit ⟨2, false⟩ row) s (fun t => t.obj O.SRAM_UE_TOTAL = (s.obj O.SRAM_UE_TOTAL + 1) % 2 ^ 64 ∧
      t.obj O.LAST_UE = fld 0 store.val + fld 8 u ∧ u ∈ t.poison ∧ (∀ x, x ≠ u → (x ∈ t.poison ↔ x ∈ s.poison)) ∧
      t.mem = s.mem ∧ SameWork s t ∧ SameObjects s t [O.SRAM_UE_TOTAL, O.LAST_UE])) ∧
  (∀ s : State,
    (∀ die : Fin 4,
      let s1 := { s with host := { s.host with zeroing := setBit s.host.zeroing die.val false } }
      let s2 := { s1 with net := { s1.net with zeroHeld := s.net.zeroHeld.filter s1.pktHeld } }
      Completes (.dieZeroingComplete die) s (fun t =>
        t = ((s.net.zeroHeld.filter (fun x => !s1.pktHeld x)).foldl (fun s x => s.handle x.1 x.2.1 x.2.2) s2).startAllWaiting) ∧
      (s.net.zeroHeld = [] → (∀ n, (s.port n).qs = []) → ∀ d : Fin 4, Completes (.dieZeroingComplete die) s (fun t =>
        bit t.host.zeroing d.val = (if d = die then false else bit s.host.zeroing d.val) ∧ t.dict = s.dict ∧ SameMemory s t))))

/-- For every well-formed packet, reading the 32 header bytes gives every field of it again; every control block with a 4-bit group,
a 4-bit kind and a 64-bit payload passes its check and reads as those; every codeword made from 272 data symbols decodes to them
with no symbol corrected; and the data symbols of 340 flit bytes give the bytes again. (R302, R303, R306, R330) -/
def Obligations.WireFormsReadBack : Prop :=
  (∀ k : Packet, k.wf = true → Packet.ofHeader (ofLE k.header) k.payload = k ∧ k.header.length = 32) ∧
  (∀ g kind p : Nat, g < 16 → kind < 16 → p < 2 ^ 64 → Fec.ctl (Fec.block g kind p) = some (g, kind, p)) ∧
  (∀ data : List Nat, data.length = 272 → (∀ x, x ∈ data → x < 1024) →
    Fec.rsDecode (Fec.rsEncode data) = some (data, []) ∧ (Fec.rsEncode data).length = 288) ∧
  (∀ flit : List Byte, flit.length = 340 → Fec.bytesOf (Fec.symbolsOf flit) = flit)

/-- An admitted LINK_ENABLE of 0 leaves the link DISABLED; 1 starts training on a DISABLED link outside an express circuit of a
module that has not stopped and is not in reset-hold, and so does TRAIN_RETRY_TIMER on an enabled link 10 s after it went DOWN.
A good TRAIN_PARAM with at least two common lanes is answered with this module's own and takes a link in TRAINING or RETRAIN to
IDENTIFY with those lanes. LINK_TRAINING_COMPLETE takes a link whose identity exchange and delay measurement are done, and whose
light is there, to UP. No job, host port or memory changes. (R313, R315, R402) -/
def Obligations.LinksTrainToUp : Prop :=
  ∀ (link : Fin 24) (s : State), let n := link.val
    s.linkPresent n = true →
    (∀ who, Admits s who (O.at O.LINK_ENABLE n) 0 →
      Completes (.linkEnableWrite who link 0) s (fun t => t.lstate n = LS.disabled ∧ t.obj (O.at O.LINK_ENABLE n) = 0 ∧
        Tells t who (O.at O.LINK_ENABLE n) St.ok ∧ SameMemory s t ∧ t.jobs = s.jobs ∧ t.host = s.host)) ∧
    (∀ who, Admits s who (O.at O.LINK_ENABLE n) 1 → s.lstate n = LS.disabled → (s.link n).express = false →
      s.boot.stopCause = none → s.inResetHold = false →
      Completes (.linkEnableWrite who link 1) s (fun t => t.lstate n = LS.training ∧ t.obj (O.at O.LINK_ENABLE n) = 1 ∧
        Tells t who (O.at O.LINK_ENABLE n) St.ok ∧ SameMemory s t ∧ t.jobs = s.jobs ∧ t.host = s.host)) ∧
    (s.lstate n = LS.down → s.obj (O.at O.LINK_ENABLE n) = 1 → (s.link n).express = false →
      s.boot.stopCause = none → s.inResetHold = false →
      Completes (.trainRetryTimer link) s (fun t => t.lstate n = LS.training ∧
        t.now = max s.now ((s.link n).downAt + 80000000000) ∧ (t.link n).attempts = (s.link n).attempts + 1 ∧
        SameMemory s t ∧ t.jobs = s.jobs ∧ t.host = s.host)) ∧
    (∀ (blk lanes p : Nat) (s1 : State), s.lstate n = LS.training ∨ s.lstate n = LS.retrain →
      s.ctlRx n blk 2 1 (3 * 2 ^ 48 + (2 ^ 36 - 1)) = (some p, s1) → bits p 63 56 = 1 → bits p 47 36 = 3072 →
      2 ≤ popcount (bits p 55 52 &&& (lanes % 16)) 4 →
      Completes (.trainParamRx link blk lanes) s (fun t => t.lstate n = LS.identify ∧
        t.obj (O.at O.ACTIVE_LANES n) = (bits p 55 52 &&& (lanes % 16)) ∧ (t.link n).outMap = (bits p 55 52 &&& (lanes % 16)) ∧
        s1.ownParam n lanes ∈ t.out ∧
        SameMemory s t ∧ t.jobs = s.jobs ∧ t.host = s.host)) ∧
    (s.lstate n = LS.identify → (s.link n).exch = true → (s.link n).heard = true → (s.link n).loopCount = 16 →
      s.obj (O.at O.LINK_ENABLE n) = 1 → (reachClass n = 2 → s.obj O.LSM_PRESENT = 1) →
      Completes (.linkTrainingComplete link) s (fun t => t.lstate n = LS.up ∧ (t.link n).fails = 0 ∧
        SameMemory s t ∧ t.jobs = s.jobs ∧ t.host = s.host))

/-- TRAIN_ATTEMPT_TIMEOUT on a link that trains, identifies or retrains, and IDENTIFY_TIMEOUT on one without a held identity, take
time to the attempt's limit, count in TRAIN_ATTEMPTS_FAILED, and start another attempt, or leave the link DOWN when
TRAIN_ATTEMPTS in a row have failed. (R313, R315, R402) -/
def Obligations.FailedAttemptsAreCounted : Prop :=
  ∀ (link : Fin 24) (s : State), let n := link.val
    s.linkPresent n = true → s.boot.stopCause = none → s.inResetHold = false →
    let after := fun (t : State) =>
      t.obj (O.at O.TRAIN_ATTEMPTS_FAILED n) = (s.obj (O.at O.TRAIN_ATTEMPTS_FAILED n) + 1) % 2 ^ 64 ∧
      t.lstate n = (if s.obj O.TRAIN_ATTEMPTS ≤ (s.link n).fails + 1 then LS.down else LS.training) ∧
      (t.link n).fails = (s.link n).fails + 1 ∧ SameMemory s t ∧ t.jobs = s.jobs ∧ t.host = s.host
    (s.lstate n = LS.training ∨ s.lstate n = LS.identify ∨ s.lstate n = LS.retrain →
      Completes (.trainAttemptTimeout link) s (fun t => after t ∧ t.now = max s.now ((s.link n).attemptAt + s.trainLimit n))) ∧
    (s.lstate n = LS.identify → ((s.link n).exch && (s.link n).heard) = false →
      Completes (.identifyTimeout link) s (fun t => after t ∧ t.now = max s.now ((s.link n).identAt + 8000000)))

/-- LOOP_REQ_SEND sends the next request while fewer than sixteen are answered or on their way, and remembers when. LOOP_REQ_RX
answers a request with its number and the turnaround time. LOOP_RSP_RX to a request sent less than 10 microseconds before adds
one round trip less the partner's turnaround; the sixteenth sets EDGE_DELAY to half the mean, to the nearest unit, from the sum
when no tie stands. (R41, R314) -/
def Obligations.LinkDelayIsMeasured : Prop :=
  ∀ (link : Fin 24) (s : State), let n := link.val; let l := s.link n
    (s.linkPresent n = true → s.measuring n = true →
      l.loopCount + (l.loopOut.filter (fun e => s.now < e.2 + 80000)).length < 16 →
      exec (.loopReqSend link) s =
        .next ((s.setLink n { l with loopOut := Tab.set (l.loopOut.filter (fun e => s.now < e.2 + 80000)) l.loopId s.now,
                                     loopId := (l.loopId + 1) % 65536 }).send (.block n 2 2 (l.loopId * 2 ^ 48) 0))) ∧
    (∀ (blk turn p : Nat) (s1 : State), s.hears n = true → s.ctlRx n blk 2 2 (2 ^ 48 - 1) = (some p, s1) →
      exec (.loopReqRx link blk turn) s = .next (s1.send (.block n 2 3 (bits p 63 48 * 2 ^ 48 + turn % 2 ^ 32) 0))) ∧
    (∀ (blk at_ p sent : Nat) (s1 : State), s.hears n = true → s.measuring n = true →
      (s.upTo at_).ctlRx n blk 2 3 (2 ^ 48 - 2 ^ 32) = (some p, s1) →
      l.loopOut.find (bits p 63 48) = some sent → at_ < sent + 80000 →
      let sum := l.loopSum + ((at_ : Int) - sent - (p % 2 ^ 32 : Nat))
      (l.loopCount + 1 < 16 →
        Completes (.loopRspRx link blk at_) s (fun t => (t.link n).loopSum = sum ∧ (t.link n).loopCount = l.loopCount + 1 ∧
          t.dict = s1.dict ∧ SameMemory s1 t ∧ t.now = s1.now)) ∧
      (l.loopCount + 1 = 16 → l.loopAdd = 0 → sum.toNat % 32 ≠ 16 →
        Completes (.loopRspRx link blk at_) s (fun t => t.obj (O.EDGE_DELAY_TL0 + n) = (sum.toNat + 16) / 32 ∧
          (t.link n).loopCount = 16 ∧ SameObjects s1 t [O.EDGE_DELAY_TL0 + n] ∧ SameMemory s1 t)))

/-- A codeword that cannot be decoded counts in FEC_UNCORRECTABLE, and one whose flit fails its CRC or breaks Table 11.2 counts in
CRC_FAIL; neither moves the expected sequence number or delivers bytes; two such codewords in a row lose the framing, and the
link retrains. A good plain data flit out of sequence delivers nothing. A good one in sequence moves the sequence number on,
counts in DATA_FLITS_RX and delivers its body in chunks of 16 bytes. FLIT_RX on a link that is UP completes: the codeword has
its effect, and an IDLE flit follows when the link stays UP, has an acknowledgement, NAK or credit to tell, and sent no flit. So
a whole codeword without an error that carries a plain data flit in sequence, with a body of zeros at a packet boundary, leaves
the next sequence number expected and one more flit counted. (R302, R304, R309, R310, R322) -/
def Obligations.FlitsArriveInOrder : Prop :=
  (∀ (n : Fin 24) (cw : List Nat) (s : State), Fec.rsDecode cw = none → s.inSubslot n.val = true →
    s.flitRx n.val cw = s.inc (O.at O.FEC_UNCORRECTABLE n.val)) ∧
  (∀ (n : Fin 24) (cw : List Nat) (s : State), Fec.rsDecode cw = none → s.inSubslot n.val = false → (s.link n.val).gapNext ≠ none →
    let t := s.flitRx n.val cw
    t.obj (O.at O.FEC_UNCORRECTABLE n.val) = (s.obj (O.at O.FEC_UNCORRECTABLE n.val) + 1) % 2 ^ 64 ∧ (t.link n.val).rxNext = (s.link n.val).rxNext ∧
      (t.link n.val).gapNext = none ∧ (t.link n.val).nak = ((s.link n.val).nak || !(s.link n.val).discarding) ∧ SameMemory s t ∧ t.jobs = s.jobs) ∧
  (∀ (n : Fin 24) (cw : List Nat) (s : State), Fec.rsDecode cw = none → s.inSubslot n.val = false → (s.link n.val).gapNext = none →
    s.flitRx n.val cw = ((s.inc (O.at O.FEC_UNCORRECTABLE n.val)).inc (O.at O.FRAMING_LOSS n.val)).askRetrain n.val 1) ∧
  (∀ (n : Fin 24) (h : Nat) (flit : List Byte) (s : State), recF h 2 2 ≠ (s.link n.val).rxNext → s.inSubslot n.val = false →
    recF h 0 1 = 1 → s.rxEnc n.val = false →
    let t := s.dataFlit n.val h flit
    (t.link n.val).rxNext = (s.link n.val).rxNext ∧ (t.link n.val).rxBuf = (s.link n.val).rxBuf ∧ (t.link n.val).discarding = true ∧
      t.dict = s.dict ∧ SameMemory s t ∧ t.jobs = s.jobs) ∧
  (∀ (n : Fin 24) (h : Nat) (flit : List Byte) (s : State), recF h 2 2 = (s.link n.val).rxNext → recF h 0 1 = 1 →
    s.rxEnc n.val = false →
    s.dataFlit n.val h flit =
      (chunks16 20 ((flit.drop 16).take 320)).foldl (State.rxChunk n.val)
        ((s.setLink n.val { s.link n.val with rxNext := ((s.link n.val).rxNext + 1) % 4096, nak := false, discarding := false }).inc
          (O.at O.DATA_FLITS_RX n.val))) ∧
  (∀ (link : Fin 24) (cw : List Nat) (s : State), s.linkPresent link.val = true → s.isUp link.val = true →
    let n := link.val
    let t := s.flitRx n cw
    let news := (t.link n).nak || decide ((t.link n).rxNext ≠ (s.link n).rxNext) || (t.link n).credOwed.any (fun e => decide (0 < e.2))
    Completes (.flitRx link cw) s (fun u =>
      u = if t.isUp n && news && !sentFlit n (t.out.take (t.out.length - s.out.length)) then t.sendIdle n else t)) ∧
  (∀ (link : Fin 24) (cw : List Nat) (s : State), s.linkPresent link.val = true → s.isUp link.val = true →
    Fec.rsDecode cw = none → s.inSubslot link.val = true → (s.link link.val).nak = false → (s.link link.val).credOwed = [] →
    Completes (.flitRx link cw) s (fun u => u = s.inc (O.at O.FEC_UNCORRECTABLE link.val))) ∧
  (∀ (link : Fin 24) (cw data : List Nat) (s : State), s.linkPresent link.val = true → s.isUp link.val = true →
    Fec.rsDecode cw = some (data, []) →
    let n := link.val
    let flit := Fec.bytesOf data
    let h := ofLE (flit.take 16)
    let c := (s.countFec n []).flitControl n h
    crc32c (flit.take 336) = ofLE ((flit.drop 336).take 4) → flitHeaderOk h = true → c.isUp n = true → recF h 0 1 = 1 →
    recF h 2 2 = (c.link n).rxNext → c.rxEnc n = false → (c.link n).rxMode = .idle → (c.link n).rxBuf = [] →
    (∀ b, b ∈ (flit.drop 16).take 320 → b = 0) → (c.link n).switchOut = none →
    Completes (.flitRx link cw) s (fun t => (t.link n).rxNext = ((c.link n).rxNext + 1) % 4096 ∧
      (t.link n).nak = false ∧ (t.link n).discarding = false ∧
      t.obj (O.at O.DATA_FLITS_RX n) = (c.obj (O.at O.DATA_FLITS_RX n) + 1) % 2 ^ 64 ∧ SameMemory c t ∧ t.jobs = c.jobs))

/-- REPLAY_TIMEOUT on a link that is UP with unacknowledged flits, none of which was replayed eight times, outside the switchover
sub-slot and with data allowed in the direction, takes time to REPLAY_TIMEOUT_NS after the last acknowledgement, counts one
replay and every flit of it, and sends each again, in order; the replay buffer holds the same flits, each replayed once more. In
the sub-slot, or where the direction sends only IDLE flits, nothing is sent and the replay stays due. With a flit replayed eight
times the link asks its partner to retrain, and retrains. (R310, R311) -/
def Obligations.ReplayResendsInOrder : Prop :=
  ∀ (link : Fin 24) (s : State), let n := link.val; let l := s.link n
    s.linkPresent n = true → s.isUp n = true → l.replay ≠ [] →
    (l.replay.any (fun r => decide (8 ≤ r.count)) = false →
      (s.upTo (l.lastAckAt + s.obj O.REPLAY_TIMEOUT_NS * 8)).idleSlot n = false → l.idleOnly = false →
      Completes (.replayTimeout link) s (fun t =>
        t.now = max s.now (l.lastAckAt + s.obj O.REPLAY_TIMEOUT_NS * 8) ∧
        t.obj (O.at O.REPLAYS n) = (s.obj (O.at O.REPLAYS n) + 1) % 2 ^ 64 ∧
        t.obj (O.at O.REPLAYED_FLITS n) = (s.obj (O.at O.REPLAYED_FLITS n) + l.replay.length) % 2 ^ 64 ∧
        (t.link n).replay = l.replay.map (fun r => { r with count := r.count + 1 }) ∧
        (t.link n).txNext = l.txNext ∧ t.out.length = s.out.length + l.replay.length ∧ SameMemory s t ∧ t.jobs = s.jobs)) ∧
    (l.replay.any (fun r => decide (8 ≤ r.count)) = false →
      (s.upTo (l.lastAckAt + s.obj O.REPLAY_TIMEOUT_NS * 8)).idleSlot n = true ∨ l.idleOnly = true →
      Completes (.replayTimeout link) s (fun t => (t.link n).replayDue = true ∧ (t.link n).replay = l.replay ∧ t.out = s.out ∧
        t.now = max s.now (l.lastAckAt + s.obj O.REPLAY_TIMEOUT_NS * 8) ∧ t.dict = s.dict ∧ SameMemory s t ∧ t.jobs = s.jobs)) ∧
    (l.replay.any (fun r => decide (8 ≤ r.count)) = true →
      Completes (.replayTimeout link) s (fun t => t.lstate n = LS.retrain ∧ (t.link n).replay = l.replay ∧
        Out.block n 2 7 (2 * 2 ^ 60) 0 ∈ t.out ∧ SameMemory s t))

/-- When an active inbound lane loses lock and two lanes remain, a flit with NAK goes out, and the lane stays in ACTIVE_LANES until
the partner's LANE_SET; the link retrains when they do not. A lane past LANE_SER_LIMIT asks its partner for a planned removal. A
LANE_DROP_REQ for lock loss is answered by LANE_SET and a new outbound map at once, one for cause 1 or 4 by a switch announced
16 codewords ahead, and either keeps what was announced before it (log entry 145); one that leaves fewer than two lanes is
answered by a retrain, and one for calibration asks for the channels of the lanes. LANE_SET gives the inbound map, and each lane
that leaves by it counts as unplanned; one with fewer than two lanes retrains. An announced map applies at LANE_MAP_SWITCH, and
a map planned behind it is announced next. A lane that retrained tells the partner, both ends measure the delay before it
returns, and lanes that are ready together return together. RETRAIN_REQ with reason 1 to 3 retrains. (R316, R317, R318, R319) -/
def Obligations.LanesLeaveAndReturn : Prop :=
  ∀ (link : Fin 24) (lane : Fin 4) (s : State), let n := link.val; let l := s.link n
    let old := s.obj (O.at O.ACTIVE_LANES n)
    let here := old &&& (15 ^^^ l.lostIn)
    s.linkPresent n = true → s.isUp n = true →
    (bit here lane.val = true → s.inSubslot n = false →
      (2 ≤ popcount (setBit here lane.val false) 4 →
        Completes (.laneLockLost link lane) s (fun t =>
          t.obj (O.at O.ACTIVE_LANES n) = old ∧ bit (t.link n).lostIn lane.val = true ∧ t.lstate n = LS.up ∧
          (∃ f, Out.flit n f ∈ t.out ∧ bit (recF (ofLE f) 4 2) 14 = true) ∧
          t.obj (O.at O.LANE_DROPS_UNPLANNED n) = s.obj (O.at O.LANE_DROPS_UNPLANNED n) ∧
          t.beat.cond = true ∧ SameMemory s t ∧ t.jobs = s.jobs)) ∧
      (popcount (setBit here lane.val false) 4 < 2 →
        Completes (.laneLockLost link lane) s (fun t => t.lstate n = LS.retrain ∧ SameMemory s t ∧ t.jobs = s.jobs))) ∧
    (bit old lane.val = true → s.inSubslot n = false → 2 ≤ popcount (setBit old lane.val false) 4 →
        (∀ corrected, s.obj O.LANE_SER_LIMIT < corrected →
          Completes (.laneSerExceeded link lane corrected) s (fun t =>
            t = ({ s with optics := { s.optics with dropAsked := (4 * n + lane.val) :: s.optics.dropAsked } }.send
              (dropReq n (2 ^ lane.val) 1 0)).markCond ∧
            dropReq n (2 ^ lane.val) 1 0 ∈ t.out ∧ t.beat.cond = true ∧ t.dict = s.dict ∧ SameMemory s t ∧ t.jobs = s.jobs))) ∧
    (bit old lane.val = true → s.inSubslot n = false → popcount (setBit old lane.val false) 4 < 2 →
        (∀ corrected, s.obj O.LANE_SER_LIMIT < corrected →
          Completes (.laneSerExceeded link lane corrected) s (fun t => t = s.startRetrain n ∧ t.lstate n = LS.retrain ∧ SameMemory s t))) ∧
    (∀ (blk p : Nat) (s1 : State), s.ctlRx n blk 2 4 (2 ^ 56 - 1) = (some p, s1) →
      let keep := 15 ^^^ bits p 63 60
      let new := l.outMap &&& keep
      let pend := l.pendMap &&& keep
      (bits p 59 56 = 2 → new ≠ l.outMap → 2 ≤ popcount new 4 → 2 ≤ popcount pend 4 →
        Completes (.laneDropReqRx link blk) s (fun t => (t.link n).outMap = new ∧ (t.link n).pendMap = pend ∧
          Out.block n 2 5 (new * 2 ^ 60) 0 ∈ t.out ∧ t.beat.cond = true ∧ SameMemory s t ∧ t.jobs = s.jobs)) ∧
      (bits p 59 56 = 1 ∨ bits p 59 56 = 4 → pend ≠ l.pendMap → 2 ≤ popcount pend 4 →
        Completes (.laneDropReqRx link blk) s (fun t => (t.link n).outMap = l.outMap ∧ (t.link n).pendMap = pend ∧
          (l.switchOut = none → (t.link n).switchOut = some (pend, 16)) ∧
          t.beat.cond = true ∧ t.dict = s.dict ∧ SameMemory s t ∧ t.jobs = s.jobs)) ∧
      (bits p 59 56 = 1 ∨ bits p 59 56 = 4 → pend ≠ l.pendMap → popcount pend 4 < 2 →
        Completes (.laneDropReqRx link blk) s (fun t => t = s1.startRetrain n ∧ t.lstate n = LS.retrain ∧ SameMemory s t)) ∧
      (bits p 59 56 = 2 → new ≠ l.outMap → popcount pend 4 < 2 ∨ popcount new 4 < 2 →
        Completes (.laneDropReqRx link blk) s (fun t => t = s1.startRetrain n ∧ t.lstate n = LS.retrain ∧ SameMemory s t)) ∧
      (bits p 59 56 = 3 → Completes (.laneDropReqRx link blk) s (fun t => t =
        if reachClass n = 2 then
          ((setBits (bits p 63 60) 4).foldl (fun (u : State) k => u.chanFlag (chanNo n k) 2 true) s1).forceNow n
        else s1))) ∧
    (∀ (blk p : Nat) (s1 : State), s.ctlRx n blk 2 5 (2 ^ 60 - 1) = (some p, s1) →
      (2 ≤ popcount (bits p 63 60) 4 →
        Completes (.laneSetRx link blk) s (fun t => t.obj (O.at O.ACTIVE_LANES n) = bits p 63 60 ∧ t.lstate n = LS.up ∧
          (let gone := popcount (old &&& (15 ^^^ bits p 63 60)) 4
           gone ≠ 0 → t.obj (O.at O.LANE_DROPS_UNPLANNED n) = (s1.obj (O.at O.LANE_DROPS_UNPLANNED n) + gone) % 2 ^ 64) ∧
          SameMemory s t ∧ t.jobs = s.jobs)) ∧
      (popcount (bits p 63 60) 4 < 2 →
        Completes (.laneSetRx link blk) s (fun t => t = s1.startRetrain n ∧ t.lstate n = LS.retrain ∧ SameMemory s t))) ∧
    (∀ (blk p : Nat) (s1 : State), s.ctlRx n blk 2 6 (2 ^ 60 - 1) = (some p, s1) →
      let add := bits p 63 60 &&& (15 ^^^ l.outMap)
      add ≠ 0 →
      Completes (.laneAddReadyRx link blk) s (fun t => (t.link n).loopOn = true ∧ (t.link n).loopAdd = l.loopAdd ||| add ∧
        (t.link n).loopCount = 0 ∧ (t.link n).outMap = l.outMap ∧ t.dict = s.dict ∧ t.out = s.out ∧ SameMemory s t ∧ t.jobs = s.jobs)) ∧
    (∀ m k, l.switchOut = some (m, k) →
      Completes (.laneMapSwitch link true) s (fun t => (t.link n).outMap = m ∧
        (t.link n).switchOut = (match l.switchThen with | some x => if x = m then none else some (x, 16) | none => none) ∧
        (t.link n).switchThen = none ∧ SameMemory s t ∧ t.jobs = s.jobs)) ∧
    (∀ m k, l.switchIn = some (m, k) →
      Completes (.laneMapSwitch link false) s (fun t => t.obj (O.at O.ACTIVE_LANES n) = m ∧ (t.link n).switchIn = none ∧ SameMemory s t)) ∧
    (bit old lane.val = false → Completes (.laneRetrained link lane) s (fun t =>
      t = (s.setLink n { l with loopOn := true, loopCount := 0, loopSum := 0, loopOut := [] }).send
        (.block n 2 6 (2 ^ lane.val * 2 ^ 60) 0) ∧
      (t.link n).loopOn = true ∧ Out.block n 2 6 (2 ^ lane.val * 2 ^ 60) 0 ∈ t.out ∧ t.dict = s.dict ∧ SameMemory s t ∧ t.jobs = s.jobs)) ∧
    (∀ (blk p : Nat) (s1 : State), s.ctlRx n blk 2 7 (2 ^ 60 - 1) = (some p, s1) → 1 ≤ bits p 63 60 → bits p 63 60 ≤ 3 →
      Completes (.retrainReqRx link blk) s (fun t => t = s1.startRetrain n ∧ t.lstate n = LS.retrain ∧ SameMemory s t))

/-- At a packet boundary an output that carries packets and has no replay due starts the first packet of the highest class that has
credit for its whole length, takes that credit, and sends what is here; with no such packet it does nothing; in the middle of a
packet it sends what is here, and does nothing more while the direction sends only IDLE flits. KEY_EXHAUSTED completes: it takes
the new transmit key of the other phase, with a flit counter that begins at SEQ (log entry 120), or, without one, stops the
direction's data and raises 0x3D07. LINK_KEY_NEEDED completes: it raises 0x208B, once for a link. (R312, R322, R333, R335, R535) -/
def Obligations.OutputsSpendCredit : Prop :=
  ∀ (link : Fin 24) (s : State), let n := link.val; let l := s.link n
    (s.packetsOn n = true → l.keyStop = false → l.authStop = false → l.replayDue = false →
      (∀ p, l.cur = none → l.nextPkt = some p →
        p ∈ l.queue ∧ p.need ≤ l.credTx.get p.cls 0 ∧
        Completes (.outputPacketStart link) s (fun t =>
          (t.link n).credTx.get p.cls 0 = l.credTx.get p.cls 0 - p.need ∧ (t.link n).queue = l.queue.erase p ∧
          SameMemory s t ∧ t.jobs = s.jobs ∧ t.host = s.host)) ∧
      (l.cur = none → l.nextPkt = none → exec (.outputPacketStart link) s = .next s) ∧
      (∀ p, l.cur = some p → exec (.outputPacketStart link) s = .next (State.pump 16 n s))) ∧
    (s.packetsOn n = true → l.idleOnly = true → exec (.outputPacketStart link) s = .next s) ∧
    (s.linkPresent n = true →
      (∀ key, s.linkKey n 0 (1 - l.txPhase % 2) = some key → l.txRetired = false →
        Completes (.keyExhausted link) s (fun t => (t.link n).txPhase = 1 - l.txPhase % 2 ∧ (t.link n).txCtr = l.txNext ∧
          (t.link n).keyStop = false ∧ t.dict = s.dict ∧ SameMemory s t ∧ t.jobs = s.jobs ∧ t.host = s.host)) ∧
      (s.linkKey n 0 (1 - l.txPhase % 2) = none ∨ l.txRetired = true →
        Completes (.keyExhausted link) s (fun t =>
          t = (s.setLink n { l with txCtr := max l.txCtr (2 ^ 40), keyStop := true }).raiseLink 0x3D07 n ∧
          (t.link n).keyStop = true ∧ SameMemory s t ∧ t.jobs = s.jobs ∧ t.host = s.host)) ∧
      (s.sec.keyNeeded.contains n = false →
        Completes (.linkKeyNeeded link) s (fun t =>
          t = ({ s with sec := { s.sec with keyNeeded := n :: s.sec.keyNeeded } }).raiseLink 0x208B n ∧
          n ∈ t.sec.keyNeeded ∧ SameMemory s t ∧ SameWork s t)) ∧
      (s.sec.keyNeeded.contains n = true → exec (.linkKeyNeeded link) s = .next s))

/-- A packet on a quarantined link counts in QUARANTINE_DROPPED; on a link that is not UP and matching it is ignored; one whose
payload is not of its length, or whose header breaks its format, counts in MALFORMED_PKT. A header of an older source epoch than
the table's is dropped, and so is one of a newer epoch, counted and raised; one for another chip with no hops left is dropped;
one for this module is ejected; otherwise it goes to the chosen output with one hop less and its trailer as it came, or is
dropped without a route. A trailer with STATUS 1 counts in ABORTED_RX and one with a wrong END_CRC in END_CRC_FAIL. (R323, R330,
R331, R336, R339, R408) -/
def Obligations.PacketsAreTested : Prop :=
  ∀ (link : Fin 24) (k : Packet) (s : State), let n := link.val
    (s.quarantined n = true → s.packetIn n k = s.inc O.QUARANTINE_DROPPED) ∧
    (s.quarantined n = false → s.packetsOn n = false → s.packetIn n k = s) ∧
    (s.quarantined n = false → s.packetsOn n = true → k.payload.length ≠ k.len → s.packetIn n k = s.inc O.MALFORMED_PKT) ∧
    (k.headerOk = false → s.headTests n k = (s.inc O.MALFORMED_PKT, .drop)) ∧
    (k.headerOk = true → k.typ ≠ 9 → k.srcEpoch < s.epochOf k.srcChip →
      (s.headTests n k).2 = .drop ∧ (s.headTests n k).1.obj O.STALE_EPOCH_DROPPED = (s.obj O.STALE_EPOCH_DROPPED + 1) % 2 ^ 64) ∧
    (k.headerOk = true → k.typ ≠ 9 → s.epochOf k.srcChip < k.srcEpoch →
      (s.headTests n k).2 = .drop ∧ (s.headTests n k).1.obj O.EPOCH_AHEAD_DROPPED = (s.obj O.EPOCH_AHEAD_DROPPED + 1) % 2 ^ 64) ∧
    (k.headerOk = true → k.typ = 9 ∨ (k.srcEpoch = s.epochOf k.srcChip ∧ s.ownChip k.dstChip = true) →
      s.headTests n k = (s, .eject)) ∧
    (k.headerOk = true → k.typ ≠ 9 → k.srcEpoch = s.epochOf k.srcChip → s.ownChip k.dstChip = false →
      (k.hops = 0 → (s.headTests n k).2 = .drop) ∧
      (∀ o, k.hops ≠ 0 → s.obj O.CHIP_STATE ≠ 2 → s.chooseOut k.dstChip k.cls (some n) anyLink = some o →
        (s.headTests n k).2 = .forward o ∧
        (s.quarantined n = false → s.packetsOn n = true → k.payload.length = k.len →
          s.packetIn n k = (s.headTests n k).1.enqueue o
            { src := none, cls := k.cls, bytes := k.forwarded, done := true, sent := 0, part := 0xFF, rank := n })) ∧
      (k.hops ≠ 0 → (s.obj O.CHIP_STATE = 2 ∨ s.chooseOut k.dstChip k.cls (some n) anyLink = none) → (s.headTests n k).2 = .drop)) ∧
    (∀ tr : List Byte, recF (ofLE tr) 4 1 = 1 → s.ejectPkt n k tr = s.inc O.ABORTED_RX) ∧
    (∀ tr : List Byte, recF (ofLE tr) 4 1 = 0 → recF (ofLE tr) 5 11 = 0 → Packet.crcOk k (recF (ofLE tr) 0 4) = false →
      s.ejectPkt n k tr = s.inc O.END_CRC_FAIL)

/-- A packet for this module, under its epoch, that passed its tests and is not of a failed speculation acts by its type: WRITE
stores its payload at its address when the access check passes and no checkpoint holds the bytes; READ_REQ answers with the
bytes, which it counts as read; neither does while the memory that it names is being zeroed, but waits; READ_RSP and RESPONSE
complete the tag they name and count as late when it is not outstanding, and a READ_RSP whose data a checkpoint has still to
read waits with its tag; SYNC_POST of a member arrives at its object; COLL (of an entry that does not name the partner-copy
reserve), VOTE and MB_RECORD of a member reach their entry, the vote and the micro-batch table; FENCED acts on the chip and
epoch it names. A packet that an engine handed to this module meets the same tests as one ejected, and after a stop waits.
(R227, R336, R339, R345, R346, R350, R356, R362, R424, R584) -/
def Obligations.PacketsDoWhatTheirTypesSay : Prop :=
  (∀ (link : Fin 24) (k : Packet) (s : State), let n := link.val; let p := k.dstPart; let tagged := s.pktTagged k.dstPart k
    let a := k.addr % 2 ^ 50
    s.quarantined n = false → s.packetsOn n = true → k.payload.length = k.len → s.headTests n k = (s, .eject) →
    (k.typ ≠ 9 → k.dstEpoch = (if s.obj O.CHIP_STATE = 1 then s.obj O.CHIP_EPOCH else 0)) →
    (2 ≤ k.spec → tagged = true ∨ (s.job p).lastVote.get (k.spec % 2) 0 ≠ 2) →
    (k.typ = 1 → s.access (.remote n k.srcChip k.srcPart) k.addr k.len true false = Acc.ok →
      s.ckTouches ((s.ownerOf a).getD 4) a k.len = false → s.beingZeroed a k.len = false →
      Completes (.writeRx link k) s (fun t => ∃ u : State, t = u.afterWork p ∧
        u.mem = (s.writeMem a k.payload).mem ∧ u.poison = (s.writeMem a k.payload).poison ∧ u.layout = s.layout)) ∧
    (k.typ = 2 → s.access (.remote n k.srcChip k.srcPart) k.addr (64 * k.arg) false false = Acc.ok →
      s.touchesReserve ((s.ownerOf a).getD 4) a (64 * k.arg) = false → s.beingZeroed a (64 * k.arg) = false →
      Completes (.readReqRx link k) s (fun t =>
        t = (s.engineRead ((s.ownerOf a).getD 4) a (64 * k.arg)).answer k 0 (s.readMem a (64 * k.arg)) ∧ SameMemory s t)) ∧
    (k.typ = 1 → s.beingZeroed a k.len = true →
      exec (.writeRx link k) s = .next { s with net := { s.net with zeroHeld := s.net.zeroHeld ++ [(n, k, tagged)] } }) ∧
    (k.typ = 2 → s.beingZeroed a (64 * k.arg) = true →
      exec (.readReqRx link k) s = .next { s with net := { s.net with zeroHeld := s.net.zeroHeld ++ [(n, k, tagged)] } }) ∧
    (k.typ = 3 ∨ k.typ = 5 → ∀ g : Tag, s.net.tags.find (k.tag % 8192) = some g → g.gen = k.tag / 8192 → g.chip = k.srcChip →
      (k.typ = 3 → g.isRead = true → (k.arg = 0 → k.len = g.len) → s.reqCkpt g = false →
        (k.arg = 0 → s.ckTouches g.owner (g.dst % 2 ^ 50) g.len = false) →
        Completes (.readRspRx link k) s (fun z => z = (((if k.arg = 0 then s.writeMem (g.dst % 2 ^ 50) k.payload else s).tagDone (k.tag % 8192) k.arg).afterWork p))) ∧
      (k.typ = 3 → g.isRead = true → k.arg = 0 → k.len = g.len → s.reqCkpt g = false →
        s.ckTouches g.owner (g.dst % 2 ^ 50) g.len = true →
        Completes (.readRspRx link k) s (fun z => z = ((s.setJob g.owner { s.job g.owner with
          ckpt := { (s.job g.owner).ckpt with held := (s.job g.owner).ckpt.held ++ [k] } }).afterWork p))) ∧
      (k.typ = 3 → g.isRead = true → (k.arg = 0 → k.len = g.len) → s.reqCkpt g = true →
        Completes (.readRspRx link k) s (fun z => z = ((s.takeAnswer (k.tag % 8192) g k).afterWork p))) ∧
      (k.typ = 5 → g.isRead = false → Completes (.responseRx link k) s (fun z => z = ((s.tagDone (k.tag % 8192) k.arg).afterWork p)))) ∧
    (s.net.tags.find (k.tag % 8192) = none →
      (k.typ = 3 → Completes (.readRspRx link k) s (fun z => z = ((s.inc O.LATE_RESPONSES).afterWork p))) ∧
      (k.typ = 5 → Completes (.responseRx link k) s (fun z => z = ((s.inc O.LATE_RESPONSES).afterWork p)))) ∧
    (s.memberOf p k = true →
      (k.typ = 4 → k.ackReq = false → Completes (.syncPostRx link k) s (fun z => z = ((s.deliver k tagged).1.afterWork p))) ∧
      (∀ c, k.typ = 6 → (s.job p).coll k.arg = some c →
        (c.kind ≠ 7 → s.collInReserve p c = false →
          Completes (.collRx link k) s (fun t => t = (s.collRx p k tagged).afterWork p)) ∧
        (c.kind = 7 → (s.partnerRx p k).2 = Acc.ok → exec (.collRx link k) s = .next ((s.partnerRx p k).1.afterWork p))) ∧
      (k.typ = 7 → Completes (.votePacketRx link k) s (fun z => z = ((s.voteRx p k).afterWork p))) ∧
      (∀ c, k.typ = 8 → (s.job p).coll k.arg = some c → c.kind = 5 → (s.takeMb p (ofLE k.payload)).2 = true →
        Completes (.mbRecordRx link k) s (fun z => z = (((s.takeMb p (ofLE k.payload)).1.collOffer p k.arg).afterWork p)))) ∧
    (k.typ = 9 → recF (ofLE k.payload) 6 10 = 0 →
      Completes (.fencedRx link k) s (fun z => z = (s.fenceBy 2 n (recF (ofLE k.payload) 0 2) (recF (ofLE k.payload) 2 2) (recF (ofLE k.payload) 4 2))))) ∧
  (∀ (k : Packet) (part : Nat) (rest : List (Packet × Nat)) (s : State), s.net.localQ = (k, part) :: rest →
    (s.boot.stopCause = none →
      Completes .localPacketAccept s (fun z => z = (({ s with net := { s.net with localQ := rest } }).ejectGood 0xFF k))) ∧
    (s.boot.stopCause ≠ none → exec .localPacketAccept s = .next s))

/-- An admitted EPOCH_VALUE below the table's is REFUSED and one equal to it has no effect; a higher one is stored. A routing entry
that follows Table 12.7 is stored for its chip number and changes nothing else; one that does not is REFUSED. REQ_TIMEOUT takes
time to the deadline of a tag whose answer has not come, counts, and completes the tag with TIMEOUT. An on-demand context
without outstanding or unissued work closes once CONTEXT_IDLE_NS has passed since its last tag came free. NO_ROUTE_INJECT counts
the waiting and tries every waiting packet again in order, and has no effect after a stop. (R337, R340, R341, R343, R344, R345) -/
def Obligations.TransportTablesAndTimers : Prop :=
  ∀ s : State,
    (∀ who chip v, Admits s who O.EPOCH_VALUE v → chip ≤ 16382 →
      (v < s.epochOf chip → exec (.epochValueWrite who chip v) s = .next (s.send (.status who O.EPOCH_VALUE St.refused))) ∧
      (v = s.epochOf chip → exec (.epochValueWrite who chip v) s = .next (s.send (.status who O.EPOCH_VALUE St.ok))) ∧
      (s.epochOf chip < v → exec (.epochValueWrite who chip v) s = .next ((s.raiseEpoch chip v).send (.status who O.EPOCH_VALUE St.ok))) ∧
      (s.epochOf chip < v → (∀ e, e ∈ s.net.tags → e.2.chip ≠ chip) → ¬(s.obj O.CHIP_STATE = 1 ∧ chip = s.obj O.CHIP_NUMBER) →
        Completes (.epochValueWrite who chip v) s (fun t => t.epochOf chip = v ∧ (∀ c, c ≠ chip → t.epochOf c = s.epochOf c) ∧
          Tells t who O.EPOCH_VALUE St.ok ∧ SameMemory s t ∧ t.jobs = s.jobs ∧ t.host = s.host))) ∧
    (∀ who chip v, Admits s who O.ROUTE_ENTRY v → chip ≤ 16382 →
      (Route.bad v s.linkPresent = false →
        Completes (.routeEntryWrite who chip v) s (fun t => t.routeOf chip = v ∧ (∀ c, c ≠ chip → t.routeOf c = s.routeOf c) ∧
          Tells t who O.ROUTE_ENTRY St.ok ∧ t.dict = s.dict ∧ SameMemory s t ∧ t.jobs = s.jobs)) ∧
      (Route.bad v s.linkPresent = true →
        exec (.routeEntryWrite who chip v) s = .next (s.send (.status who O.ROUTE_ENTRY St.refused)))) ∧
    (∀ tag g, s.net.tags.find tag = some g →
      (s.job g.owner).ckpt.held.any (fun k => decide (k.typ = 3) && decide (k.tag = g.gen * 8192 + tag)) = false →
      ∃ u : State, u = ((s.upTo (g.deadlineNs * 8)).inc O.REQ_TIMEOUTS).raiseEvery 0x2E09 0 sec1 { kind := 2, subj := g.chip, part := g.owner } ∧
        u.now = max s.now (g.deadlineNs * 8) ∧ u.obj O.REQ_TIMEOUTS = (s.obj O.REQ_TIMEOUTS + 1) % 2 ^ 64 ∧
        Completes (.reqTimeout tag) s (fun z => z = (u.tagDone tag 0x20))) ∧
    (∀ i c, s.net.ctxs.find i = some c → c.state = 2 → c.tagsOut = 0 →
      (∀ e, e ∈ s.net.reqs → ¬(e.2.part = c.owner ∧ e.2.chip = c.chip ∧ e.2.cls = c.cls ∧ e.2.next < e.2.total)) →
      Completes (.contextIdleClose i) s (fun t => t.net = { s.net with ctxs := Tab.del s.net.ctxs i } ∧ t.net.ctxs.find i = none ∧
        t.now = max s.now ((max c.lastUseNs c.freeNs + s.obj O.CONTEXT_IDLE_NS) * 8) ∧ t.dict = s.dict ∧ SameMemory s t ∧ t.jobs = s.jobs)) ∧
    (∀ cycles, s.boot.stopCause = none → Completes (.noRouteInject cycles) s (fun z => z = s.tryWaiting cycles)) ∧
    (∀ cycles, s.boot.stopCause ≠ none → exec (.noRouteInject cycles) s = .next s)

/-- In SV1-F: an inserted LSM is present with its serial and its lasers OFF or RETIRED; a removed one leaves every laser ABSENT, and
every class O link that was UP retrains. A warmed laser becomes ACTIVE on the feed, and SPARE_READY off it unless the laser on
the feed cannot be used: then it is selected and ACTIVE. A failed laser off the feed only fails, unless a switchover to it is
pending: then the wavelength is lost; on the feed the ready spare takes over at once, or the wavelength is lost; one that fails
before it was ready leaves its pair to the other laser, if that can be used. 20 microseconds after a crossing the old laser is
RETIRED or stays FAILED, and the selection changes. COMMISSION, and 600 s of readiness without references of its own, take the
references of the good lasers. A power sample joins the 1 ms averages (log entry 69) that the power objects of lasers and
channels show. (R373, R374, R375, R376, R389, R391, R392, R393) -/
def Obligations.LightFeedsTheWavelengths : Prop :=
  ∀ s : State, s.fullConfig = true →
    (∀ (serial : Nat) (nominal : List Nat), s.obj O.LSM_PRESENT ≠ 1 →
      Completes (.lsmInserted serial nominal) s (fun t => t.obj O.LSM_PRESENT = 1 ∧ t.obj O.LSM_SERIAL = serial ∧
        t.optics.nominal = nominal ∧ t.optics.serial = serial ∧ SameMemory s t ∧ SameWork s t ∧ t.beat = s.beat ∧
        (s.obj O.BRINGUP_STAGE ≠ 8 → s.obj O.BRINGUP_STAGE ≠ 9 → ∀ l : Fin 8,
          t.laser l.val = (if serial = s.optics.serial ∧ bit s.optics.retired l.val = true then 6 else 1)))) ∧
    (s.obj O.LSM_PRESENT ≠ 0 →
      Completes .lsmRemoved s (fun t => t.obj O.LSM_PRESENT = 0 ∧ (∀ l : Fin 8, t.laser l.val = 0) ∧ t.optics.pending = [] ∧
        t.optics.crossed = [] ∧ (∀ n, n ∈ classO → s.isUp n = true → t.lstate n = LS.retrain) ∧
        ((∀ n, n ∈ classO → s.isUp n = false) → SameWork s t ∧ t.beat = s.beat) ∧
        SameMemory s t ∧ t.jobs = s.jobs ∧ t.host = s.host)) ∧
    (∀ l : Fin 8, s.laser l.val = 2 →
      Completes (.laserWarmed l) s (fun t =>
        let chosen := s.feedLaser (l.val / 2) = l.val ∨ s.laserUsable (s.feedLaser (l.val / 2)) = false
        t.laser l.val = (if chosen then 4 else 3) ∧ (chosen → t.feedLaser (l.val / 2) = l.val) ∧
        SameMemory s t ∧ SameWork s t ∧ SameObjects s t [O.LASER_STATE_0 + l.val, O.ACTIVE_SELECT])) ∧
    (∀ l : Fin 8, s.laser l.val ≠ 0 → s.laser l.val ≠ 6 → s.laser l.val ≠ 7 →
      Completes (.laserFaultReport l) s (fun t => t.laser l.val = 7 ∧ SameMemory s t ∧ t.jobs = s.jobs ∧ t.host = s.host ∧
        (s.feedLaser (l.val / 2) ≠ l.val → s.optics.pending.find (l.val / 2) ≠ none → bit t.optics.lost (l.val / 2) = true) ∧
        (s.feedLaser (l.val / 2) ≠ l.val → s.optics.pending.find (l.val / 2) = none → SameObjects s t [O.LASER_STATE_0 + l.val, O.EVENTS_LOST]) ∧
        (s.feedLaser (l.val / 2) = l.val → 3 ≤ s.laser l.val → s.laser (partnerOf l.val) = 3 →
          t.laser (partnerOf l.val) = 4 ∧ t.optics.crossed.find (l.val / 2) = some s.now ∧
          (s.optics.crossed.find (l.val / 2) = none → t.feedLaser (l.val / 2) = partnerOf l.val)) ∧
        (s.feedLaser (l.val / 2) = l.val → 3 ≤ s.laser l.val → s.laser (partnerOf l.val) ≠ 3 → bit t.optics.lost (l.val / 2) = true) ∧
        (s.feedLaser (l.val / 2) = l.val → s.laser l.val < 3 → s.laserUsable (partnerOf l.val) = true →
          t.feedLaser (l.val / 2) = partnerOf l.val ∧
          t.laser (partnerOf l.val) = (if s.laser (partnerOf l.val) = 3 then 4 else s.laser (partnerOf l.val))) ∧
        (s.feedLaser (l.val / 2) = l.val → s.laser l.val < 3 → s.laserUsable (partnerOf l.val) = false →
          bit t.optics.lost (l.val / 2) = true))) ∧
    (∀ (k : Fin 4) (t0 : Nat), s.optics.crossed.find k.val = some t0 →
      Completes (.switchoverOldLaserOff k) s (fun t => t.now = max s.now (t0 + 160000) ∧ t.optics.crossed.find k.val = none ∧
        t.obj O.SWITCHOVERS = (s.obj O.SWITCHOVERS + 1) % 2 ^ 64 ∧
        bit (t.obj O.ACTIVE_SELECT) k.val = !bit (s.obj O.ACTIVE_SELECT) k.val ∧
        t.laser (partnerOf (s.feedLaser k.val)) = (if s.laser (partnerOf (s.feedLaser k.val)) = 7 then 7 else 6) ∧
        SameMemory s t ∧ SameWork s t)) ∧
    (∀ who v, Admits s who O.COMMISSION v →
      Completes (.commission who v) s (fun t => t.obj O.REFERENCE_SOURCE = 0 ∧ Tells t who O.COMMISSION St.ok ∧
        (∀ l : Fin 8, t.obj (O.LASER_REF_DBM_0 + l.val) =
          (if s.laser l.val = 3 ∨ s.laser l.val = 4 then s.obj (O.LASER_POWER_DBM_0 + l.val) else s.obj (O.LASER_REF_DBM_0 + l.val))) ∧
        SameMemory s t ∧ SameWork s t)) ∧
    (∀ t0, s.optics.readySince = some t0 → s.obj O.REFERENCE_SOURCE = 1 →
      Completes .autoReference s (fun z => z = (s.upTo (t0 + 4800000000000)).takeRefs)) ∧
    (∀ (at_ : Nat) (feeds paths tx rx : List Nat) (express : List (Nat × Nat)) (lsm : List Nat),
      Completes (.opticalPowerSample at_ feeds paths tx rx express lsm) s (fun t => t.now = max s.now at_ ∧
        (∀ l : Fin 8,
          let x := (if s.feedLaser (l.val / 2) = l.val then feeds else paths).getD (l.val / 2) 0
          t.obj (O.LASER_POWER_DBM_0 + l.val) = ((s.upTo at_).sampled l.val x).average l.val ∧
          t.obj (O.LASER_HOURS_0 + l.val) = lsm.getD (l.val + 1) 0) ∧ t.obj O.LSM_POWER_W = lsm.getD 0 0 ∧
        (∀ c : Fin 64, (t.chan c.val).txPower = ((s.upTo at_).sampled (8 + c.val) (tx.getD c.val 0)).average (8 + c.val) ∧
          (t.chan c.val).rxPower = rx.getD c.val 0) ∧
        SameMemory s t ∧ t.jobs = s.jobs ∧ t.host = s.host))

/-- In SV1-F: a ring that loses lock is marked due and counted, and a drop filter's lane is lost; without lock after 10 ms its
calibration starts, whatever window its link has. A temperature sample shows in its objects and heater codes. A modulator due
for forcing is marked, a drop filter asks its transmitter once. A ring of a channel that cannot be calibrated, because its
direction of the link is degraded or the link carries none, becomes overdue once, 600 s after its last calibration, or at once
when it had none. The next slot of a link's idle windows is noted for the next edge, or opens a window. A window's side goes
through its phases at their fixed times with its heater codes, and completes when the lane is back. The plan objects are written
only with nothing RUNNING and within Table 13.8. (R378, R379, R380, R381, R382, R383, R385, R387, R388) -/
def Obligations.RingsAreCalibrated : Prop :=
  (∀ (c : Fin 64) (s : State), s.fullConfig = true → let n := 8 + c.val / 4; let x := s.chan c.val
    Completes (.ringLockLost c false) s (fun t => bit (t.chan c.val).flags 1 = false ∧ bit (t.chan c.val).flags 3 = true ∧
      (t.chan c.val).lostMod = some s.now ∧ t.obj O.LOCK_LOSSES = (s.obj O.LOCK_LOSSES + 1) % 2 ^ 64 ∧ SameMemory s t ∧ SameWork s t) ∧
    (∃ u : State, bit (u.chan c.val).flags 0 = false ∧ (u.chan c.val).lostDrop = some s.now ∧
      u.obj O.LOCK_LOSSES = (s.obj O.LOCK_LOSSES + 1) % 2 ^ 64 ∧ SameMemory s u ∧ SameWork s u ∧
      exec (.ringLockLost c true) s = .next (u.laneLost n (c.val % 4))) ∧
    (∀ t0, x.lostDrop = some t0 →
      Completes (.ringReacquireTimeout c true) s (fun t => t.now = max s.now (t0 + 80000000) ∧ (t.chan c.val).lostDrop = none ∧
        t.optics.rxs.find c.val = some { t0 := t.now } ∧ t.dict = s.dict ∧ SameMemory s t)) ∧
    (∀ t0, x.lostMod = some t0 →
      Completes (.ringReacquireTimeout c false) s (fun t => t.now = max s.now (t0 + 80000000) ∧ (t.chan c.val).lostMod = none ∧
        (∃ w, t.optics.wins.find c.val = some w ∧ w.kind = 3 ∧ w.phase = 1 ∧ w.t0 = t.now) ∧
        t.dict = s.dict ∧ SameMemory s t)) ∧
    (∀ (at_ : Nat) (temps : List Nat) (heaters : List (Nat × Nat)),
      Completes (.engineTempSample at_ temps heaters) s (fun t => t.now = max s.now at_ ∧
        (∀ e : Fin 4, t.obj (O.ENGINE_TEMP_OE0 + e.val) = temps.getD e.val 0) ∧
        (let h := heaters.getD c.val (x.modHeater, x.dropHeater)
         (t.chan c.val).modHeater = h.1 % 65536 ∧ (t.chan c.val).dropHeater = h.2 % 65536) ∧
        SameMemory s t ∧ t.jobs = s.jobs ∧ t.host = s.host)) ∧
    Completes (.calForceDue c false) s (fun t => (t.chan c.val).flags = setBit x.flags 5 true ∧ SameMemory s t ∧ t.jobs = s.jobs) ∧
    (x.asked = false → s.isUp n = true →
      let u := match x.dropAt with | some t0 => s.upTo (t0 + s.obj O.CAL_FORCE_AGE_S * 8000000000) | none => s
      exec (.calForceDue c true) s = .next ((u.setChan c.val { x with asked := true }).send (dropReq n (2 ^ (c.val % 4)) 3 0))) ∧
    (∀ drop : Bool, x.overdue = false →
      s.isUp n = false ∨ (s.link n).express = true ∨ (if drop then s.obj (O.at O.ACTIVE_LANES n) else (s.link n).outMap) ≠ 15 →
      Completes (.calOverdue c drop) s (fun t =>
        t.now = (match (if drop then x.dropAt else x.modAt) with | some t0 => max s.now (t0 + 4800000000000) | none => s.now) ∧
        t.obj O.CHANNELS_OVERDUE = s.obj O.CHANNELS_OVERDUE + 1 ∧ (t.chan c.val).overdue = true ∧ SameMemory s t ∧ SameWork s t))) ∧
  (∀ (link : Fin 24) (s : State), let n := link.val
    s.fullConfig = true → 8 ≤ n → (s.scheduling && !s.inHold) = false →
      let slot := s.idleSlotAt n
      let u := { s.upTo slot with optics := { s.optics with idleAt := s.optics.idleAt.set n slot } }
      (s.onBeat = true → exec (.idleCalWindow link) s =
        .next { u with optics := { u.optics with idleDue := n :: s.optics.idleDue.filter (fun m => decide (m ≠ n)) } }) ∧
      (s.onBeat = false → s.isUp n = true → (s.link n).express = false → (s.link n).outMap = 15 → (s.link n).pendMap = 15 →
        s.winOpen n = false →
        Completes (.idleCalWindow link) s (fun t => t.now = max s.now slot ∧
          (t.link n).pendMap = setBit 15 (u.calChoice n) false ∧
          ((s.link n).switchOut = none → (t.link n).switchOut = some (setBit 15 (u.calChoice n) false, 16)) ∧
          (∃ w, t.optics.wins.find (chanNo n (u.calChoice n)) = some w ∧ w.kind = 2 ∧ w.phase = 0 ∧ w.openedAt = t.now) ∧
          t.dict = s.dict ∧ SameMemory s t ∧ t.jobs = s.jobs))) ∧
  (∀ (c : Fin 64) (s : State), let n := 8 + c.val / 4; let lane := c.val % 4
    (∀ (w : CalWin) (code : Nat), s.optics.wins.find c.val = some w → w.abandoned = false → w.phase ≤ 4 →
      (w.phase = 0 → bit (s.link n).outMap lane = false) →
      Completes (.calTimelinePhase c true code) s (fun t =>
        (∃ v, t.optics.wins.find c.val = some v ∧ v.phase = w.phase + 1 ∧ v.kind = w.kind ∧ v.openedAt = w.openedAt) ∧
        (1 ≤ w.phase → t.now = max s.now (w.t0 + [0, 2400000, 4800000, 7200000, 9200000].getD w.phase 0)) ∧
        (w.phase = 2 → (t.chan c.val).modHeater = code % 65536) ∧
        (w.phase = 3 → w.sweeping = true → (t.chan c.val).spareHeater = code % 65536) ∧
        t.dict = s.dict ∧ SameMemory s t ∧ SameWork s t)) ∧
    (∀ (r : CalRx) (code : Nat), s.optics.rxs.find c.val = some r → r.phase = 1 →
      Completes (.calTimelinePhase c false code) s (fun t => t.optics.rxs.find c.val = some { r with phase := 2 } ∧
        (t.chan c.val).dropHeater = code % 65536 ∧ t.now = max s.now (r.t0 + 2400000) ∧ t.dict = s.dict ∧ SameWork s t)) ∧
    (∀ w : CalWin, s.optics.wins.find c.val = some w → w.abandoned = false → 4 ≤ w.phase → bit (s.link n).outMap lane = true →
      Completes (.calibrationComplete c true) s (fun t => t.optics.wins.find c.val = none ∧
        t.obj O.CAL_COMPLETED = (s.obj O.CAL_COMPLETED + 1) % 2 ^ 64 ∧ (t.chan c.val).modAt = some s.now ∧
        SameMemory s t ∧ SameWork s t)) ∧
    (∀ r : CalRx, s.optics.rxs.find c.val = some r → 2 ≤ r.phase → bit (s.obj (O.at O.ACTIVE_LANES n)) lane = true →
      Completes (.calibrationComplete c false) s (fun t => t.optics.rxs.find c.val = none ∧
        (t.chan c.val).dropAt = some s.now ∧ SameMemory s t ∧ SameWork s t))) ∧
  (∀ (who : Who) (which : Fin 18) (v : Nat) (s : State), Admits s who (planKey which.val) v →
    (s.noneRunning = true → (which.val = 0 → s.planFits v = true) → (which.val = 1 → 4 * s.obj O.CAL_WINDOW_BEATS ≤ v) →
      (2 ≤ which.val → v < s.obj O.CAL_STRIDE_BEATS) →
      Completes (.calPlanWrite who which v) s (fun t => t = (s.put (planKey which.val) v).send (.status who (planKey which.val) St.ok) ∧
        t.obj (planKey which.val) = v ∧ SameMemory s t ∧ SameWork s t ∧ SameObjects s t [planKey which.val])) ∧
    (s.noneRunning = false →
      exec (.calPlanWrite who which v) s = .next (s.send (.status who (planKey which.val) St.refused))))

/-- An admitted RESHAPE_ARM that passes every check of Table 13.7 keeps the pending map and reads RESULT 0; it waits for an edge, or
moves the switch at once with no beat and nothing RUNNING. One that fails reads the failure as RESULT, raises 0x2F0C, is REFUSED
and arms nothing. RESHAPE_SWITCH_COMPLETE makes the armed map the active one: a touched link that the map pairs is an express
link and DISABLED, and one that the map frees is express no more; all other links keep their role. (R394, R395, R396, R397,
R399) -/
def Obligations.ReshapeMovesLinks : Prop :=
  ∀ s : State,
    (∀ who v, Admits s who O.RESHAPE_ARM v →
      (s.reshapeCheck = 0 →
        Completes (.reshapeArm who v) s (fun t => t.optics.armed = some (s.obj O.EXPRESS_PENDING) ∧ t.obj O.RESHAPE_RESULT = 0 ∧
          t.obj O.RESHAPE_STATE = (if s.noneRunning = true ∧ s.onBeat = false then 2 else 1) ∧ Tells t who O.RESHAPE_ARM St.ok ∧
          SameMemory s t ∧ SameWork s t ∧ SameObjects s t [O.RESHAPE_RESULT, O.RESHAPE_STATE])) ∧
      (s.reshapeCheck ≠ 0 →
        Completes (.reshapeArm who v) s (fun t => t.obj O.RESHAPE_RESULT = s.reshapeCheck ∧ Tells t who O.RESHAPE_ARM St.refused ∧
          t.optics = s.optics ∧ SameMemory s t ∧ SameWork s t ∧ SameObjects s t [O.RESHAPE_RESULT, O.EVENTS_LOST]))) ∧
    (∀ m, s.optics.armed = some m → s.obj O.RESHAPE_STATE = 2 →
      Completes .reshapeSwitchComplete s (fun t => t.obj O.EXPRESS_ACTIVE = m ∧ t.obj O.RESHAPE_STATE = 0 ∧ t.optics.armed = none ∧
        t.obj O.EXPRESS_CHANGES = (s.obj O.EXPRESS_CHANGES + 1) % 2 ^ 64 ∧
        (∀ n, n ∈ touched (s.obj O.EXPRESS_ACTIVE) m →
          (t.link n).express = !decide (mapByte m n = 0xFF) ∧ (mapByte m n ≠ 0xFF → t.lstate n = LS.disabled)) ∧
        (∀ n : Fin 24, n.val ∉ touched (s.obj O.EXPRESS_ACTIVE) m → (t.link n.val).express = (s.link n.val).express ∧ t.lstate n.val = s.lstate n.val) ∧
        SameMemory s t ∧ t.jobs = s.jobs ∧ t.host = s.host))

/-- In IDENTIFY the timer sends one set of IDENT and both serial halves; in UP it sends the sets still owed. A second equal IDENT
after one block of each kind gives the partner's identity, and the link is judged. A changed IDENT or serial half of an UP link
replaces the held one. Judging a link sets its outcome and reason to the judgement of its state and changes no other link. The
end of the grace time judges the link at that moment. An entry of the wiring plan that follows Table 14.2 is stored and every
link judged again, and another is REFUSED. A revenant's notice is repeated. (R402, R403, R404, R405, R406, R407, R408) -/
def Obligations.NeighboursAreKnownAndJudged : Prop :=
  ∀ (link : Fin 24) (s : State), let n := link.val; let l := s.link n
    (s.linkPresent n = true → s.lstate n = LS.identify → ∀ keep,
      exec (.identSendTimer link keep) s =
        .next { s with out := .block n 3 3 (s.serialWord 1) 0 :: .block n 3 2 (s.serialWord 0) 0 :: .block n 3 1 (s.ownIdent n) 0 :: s.out }) ∧
    (s.linkPresent n = true → s.lstate n = LS.up → ∀ keep : Bool, (if keep then 4 else l.identSets) ≠ 0 →
      Completes (.identSendTimer link keep) s (fun t => (t.link n).identSets = (if keep then 4 else l.identSets) - 1 ∧
        t.out = .block n 3 3 (s.serialWord 1) 0 :: .block n 3 2 (s.serialWord 0) 0 :: .block n 3 1 (s.ownIdent n) 0 :: s.out ∧
        t.dict = s.dict ∧ SameMemory s t ∧ t.jobs = s.jobs)) ∧
    (∀ (blk w : Nat) (s1 : State), s.linkPresent n = true → s.ctlRx n blk 3 1 (2 ^ 23 - 1) = (some w, s1) →
      (∀ f a b, s.lstate n = LS.identify → l.newIdent = some f → l.newS0 = some a → l.newS1 = some b → Ident.plain f = Ident.plain w →
        Completes (.identRx link blk) s (fun t => (t.link n).exch = true ∧ (t.link n).ident = w ∧ (t.link n).serial0 = a ∧
          (t.link n).serial1 = b ∧ SameMemory s t ∧ t.jobs = s.jobs)) ∧
      (s.lstate n = LS.up → Ident.same l.ident w = true → exec (.identRx link blk) s = .next s1) ∧
      (s.lstate n = LS.up → Ident.same l.ident w = false →
        exec (.identRx link blk) s = .next ((s1.setLink n { l with ident := w, noticed := none }).judge n))) ∧
    (∀ (half : Fin 2) (blk w : Nat) (s1 : State), s.linkPresent n = true → s.ctlRx n blk 3 (2 + half.val) 0 = (some w, s1) →
      (s.lstate n = LS.identify → Completes (.serialRx link half blk) s (fun t =>
        (if half.val = 0 then (t.link n).newS0 else (t.link n).newS1) = some w ∧ t.dict = s.dict ∧ SameMemory s t)) ∧
      (s.lstate n = LS.up → (if half.val = 0 then l.serial0 else l.serial1) ≠ w →
        Completes (.serialRx link half blk) s (fun t => (if half.val = 0 then (t.link n).serial0 else (t.link n).serial1) = w ∧
          t.obj O.SERIAL_CHANGES = (s.obj O.SERIAL_CHANGES + 1) % 2 ^ 64 ∧ SameObjects s t [O.SERIAL_CHANGES] ∧ SameMemory s t))) ∧
    (((s.judge n).link n).outcome = (s.judgement n).1 ∧ ((s.judge n).link n).reason = (s.judgement n).2 ∧
    (∀ m, m ≠ n → (s.judge n).link m = s.link m)) ∧
    (s.linkPresent n = true →
      Completes (.missingGraceExpiry link) s (fun t => t.now = max s.now (l.graceStart + s.obj O.MISSING_GRACE_MS * 8000000) ∧
        t = (s.upTo (l.graceStart + s.obj O.MISSING_GRACE_MS * 8000000)).judge n ∧ SameMemory s t ∧ t.jobs = s.jobs)) ∧
    (∀ who v, Admits s who O.WIRING_ENTRY v →
      (s.linkPresent n = true → Wire.bad v = false →
        Completes (.wiringEntryWrite who link v) s (fun t => t.wiring n = v ∧ (∀ m, m ≠ n → t.wiring m = s.wiring m) ∧
          Tells t who O.WIRING_ENTRY St.ok ∧ SameMemory s t ∧ t.jobs = s.jobs)) ∧
      (s.linkPresent n = false ∨ Wire.bad v = true →
        exec (.wiringEntryWrite who link v) s = .next (s.send (.status who O.WIRING_ENTRY St.refused)))) ∧
    (l.reason = 6 → s.hears n = true →
      exec (.fencedNoticeRepeat link) s = .next (s.send (.block n 3 4
        (Ident.chip l.ident * 2 ^ 50 + Ident.epoch l.ident * 2 ^ 34 + s.epochOf (Ident.chip l.ident) * 2 ^ 18) 0)))

/-- An admitted ADOPT in STANDBY of a chip number up to 16,382 with the epoch of the table and every critical link matching makes
the module HOLDER of both; otherwise ADOPT_RESULT tells the first failure and the write is REFUSED. RELEASE with every partition
EMPTY returns a holder to STANDBY with number 0x3FFF and ends its requests (log entry 146). A FENCED_NOTICE that names another
number or epoch is counted, or, where it names those that this cycle's fencing ended, is a further cause of it; one that names
the module's own fences it: FENCED with no number, requests, tags and flash checkpoints gone, every tile's local store zero, and
the zeroing under way, until FENCE_ZERO_COMPLETE puts the time into the record and ends it. (R411, R412, R415, R416, R417, R540) -/
def Obligations.ChipsAreAdoptedReleasedAndFenced : Prop :=
  ∀ s : State,
    (∀ who v, Admits s who O.ADOPT v → s.obj O.RTV_MODE ≠ 1 →
      let chip := v % 65536
      let epoch := v / 65536 % 65536
      (s.obj O.CHIP_STATE = 0 → chip ≤ 16382 → epoch = s.epochOf chip → s.obj O.CRITICAL_NOT_MATCH = 0 →
        Completes (.adopt who v) s (fun t => t.obj O.CHIP_STATE = 1 ∧ t.obj O.CHIP_NUMBER = chip ∧ t.obj O.CHIP_EPOCH = epoch ∧
          t.obj O.ADOPT_RESULT = 0 ∧ t.obj O.ADOPTIONS = (s.obj O.ADOPTIONS + 1) % 2 ^ 64 ∧ Tells t who O.ADOPT St.ok ∧
          SameMemory s t ∧ t.jobs = s.jobs ∧ t.host = s.host)) ∧
      (s.adoptResult chip epoch ≠ 0 →
        exec (.adopt who v) s = .next ((s.put O.ADOPT_RESULT (s.adoptResult chip epoch)).send (.status who O.ADOPT St.refused)))) ∧
    (∀ who v, Admits s who O.RELEASE v →
      (s.obj O.CHIP_STATE = 1 → s.allEmpty = true →
        Completes (.releaseChip who v) s (fun t => t.obj O.CHIP_STATE = 0 ∧ t.obj O.CHIP_NUMBER = 0x3FFF ∧ t.obj O.CHIP_EPOCH = 0 ∧
          Tells t who O.RELEASE St.ok ∧ t.net.reqs = [] ∧ t.net.tags = [] ∧ (s.net.reqs = [] → t.host = s.host) ∧
          SameMemory s t ∧ t.jobs = s.jobs)) ∧
      (s.obj O.CHIP_STATE ≠ 1 ∨ s.allEmpty = false →
        exec (.releaseChip who v) s = .next (s.send (.status who O.RELEASE St.refused)))) ∧
    (∀ (link : Fin 24) (blk w : Nat) (s1 : State), s.hears link.val = true → s.ctlRx link.val blk 3 4 (2 ^ 18 - 1) = (some w, s1) →
      (¬(s.obj O.CHIP_STATE = 1 ∧ bits w 63 50 = s.obj O.CHIP_NUMBER ∧ bits w 49 34 = s.obj O.CHIP_EPOCH) →
        (s1.justFenced (bits w 63 50) (bits w 49 34) = false →
          exec (.fencedNoticeRx link blk) s = .next (s1.inc O.FENCED_IGNORED)) ∧
        (s1.justFenced (bits w 63 50) (bits w 49 34) = true →
          exec (.fencedNoticeRx link blk) s = .next (s1.fenceAgain 3 link.val (bits w 33 18)))) ∧
      (s.obj O.CHIP_STATE = 1 → bits w 63 50 = s.obj O.CHIP_NUMBER → bits w 49 34 = s.obj O.CHIP_EPOCH → Memory.wf s.mem = true →
        Completes (.fencedNoticeRx link blk) s (fun t => t = s1.fence 3 link.val (bits w 33 18) ∧
          t.obj O.CHIP_STATE = 2 ∧ t.obj O.CHIP_NUMBER = 0x3FFF ∧ t.obj O.CHIP_EPOCH = 0 ∧ t.net.reqs = [] ∧ t.net.tags = [] ∧
          t.flashCk = [] ∧ t.net.fenceZeroing = true ∧
          (∀ tile b, tile < 384 → b < 0x200000 → Memory.read t.mem (tileAddr tile b) = 0)))) ∧
    (s.net.fenceZeroing = true →
      Completes .fenceZeroComplete s (fun t => t.net.fenceZeroing = false ∧
        t.obj O.FENCE_RECORD = s.obj O.FENCE_RECORD % 256 ^ 24 + fld 24 s.refNs ∧ SameMemory s t ∧ t.jobs = s.jobs ∧
        SameObjects s t [O.FENCE_RECORD, O.EVENTS_LOST]))

/-- An admitted DATA_CURSORS of at most 16 cursors without reserved bits is kept as the newest; another is REFUSED. A STORE_TARGET
that follows its table is stored, the slots of the old target are forgotten, and STORE_STATUS is the network's answer, or 0 for
no target. A flash copy that was handed over and flushed with flash writing enabled fills its slot with a VALID header, and
LAST_BOUNDARY_FLASH names it; a store copy likewise; a write error abandons it. CKPT_HOLD_RESUME counts the wait, lets held
writes and collective starts go on, then the partition's work. (R297, R424, R429, R430, R435, R436, R437) -/
def Obligations.CheckpointsComplete : Prop :=
  ∀ (part : Fin 4) (s : State), let p := part.val; let j := s.job p
    (∀ who v, Admits s who (O.at O.DATA_CURSORS p) v →
      (recF v 8 1 ≤ 16 → recF v 9 7 = 0 →
        Completes (.dataCursorsWrite who part v) s (fun t => t.obj (O.at O.DATA_CURSORS p) = v ∧
          t.job p = { j with ckpt := { j.ckpt with cursors := v :: j.ckpt.cursors } } ∧ Tells t who (O.at O.DATA_CURSORS p) St.ok ∧
          SameMemory s t ∧ SameObjects s t [O.at O.DATA_CURSORS p])) ∧
      (16 < recF v 8 1 ∨ recF v 9 7 ≠ 0 →
        exec (.dataCursorsWrite who part v) s = .next (s.send (.status who (O.at O.DATA_CURSORS p) St.refused)))) ∧
    (∀ who v status, Admits s who (O.at O.STORE_TARGET p) v →
      (recF v 18 2 = 0 → recF v 41 7 = 0 → (v ≠ 0 → 1 ≤ recF v 40 1 ∧ recF v 40 1 ≤ 8) →
        Completes (.storeTargetWrite who part v status) s (fun t => t.obj (O.at O.STORE_TARGET p) = v ∧
          t.obj (O.at O.STORE_STATUS p) = (if v = 0 then 0 else max 1 (min 4 status)) ∧
          (∀ k, k / 8 = p → t.storeCk.find k = none) ∧ (∀ k, k / 8 ≠ p → t.storeCk.find k = s.storeCk.find k) ∧
          Tells t who (O.at O.STORE_TARGET p) St.ok ∧ SameMemory s t ∧ t.jobs = s.jobs ∧
          SameObjects s t [O.at O.STORE_TARGET p, O.at O.STORE_STATUS p, O.PERSIST_WRITES])) ∧
      (recF v 18 2 ≠ 0 ∨ recF v 41 7 ≠ 0 ∨ (v ≠ 0 ∧ (recF v 40 1 = 0 ∨ 8 < recF v 40 1)) →
        exec (.storeTargetWrite who part v status) s = .next (s.send (.status who (O.at O.STORE_TARGET p) St.refused)))) ∧
    (∀ (r : CkRun) (im : Image), j.image = some im →
      (j.ckpt.runs.find? (fun x => decide (x.layer = 2) && x.handed) = some r →
        (s.obj O.FLASH_WRITE_ENABLED ≠ 0 →
          Completes (.flashCkptComplete part true) s (fun t => t.obj (O.at O.LAST_BOUNDARY_FLASH p) = r.boundary ∧
            (∃ x, t.flashCk.find (8 * p + r.slot.getD 0) = some x ∧ recF x.header 4 1 = 2 ∧ recF x.header 8 8 = r.boundary % 2 ^ 64 ∧
              x.copy = r.data.get 0 []) ∧ SameMemory s t ∧ t.net = s.net)) ∧
        exec (.flashCkptComplete part false) s = .next (s.abandon p r 2)) ∧
      (j.ckpt.runs.find? (fun x => decide (x.layer = 3) && x.handed) = some r →
        Completes (.storeCkptComplete part true) s (fun t => t.obj (O.at O.LAST_BOUNDARY_STORE p) = r.boundary ∧
          (∃ x, t.storeCk.find (8 * p + r.slot.getD 0) = some x ∧ recF x.header 4 1 = 2 ∧ recF x.header 8 8 = r.boundary % 2 ^ 64) ∧
          SameMemory s t ∧ t.net = s.net) ∧
        exec (.storeCkptComplete part false) s = .next (s.abandon p r 2))) ∧
    (∀ cycles, Completes (.ckptHoldResume part cycles) s (fun z => z = ((((s.add (O.at O.CKPT_HOLD_WAIT_CYCLES p) cycles).resumeHeld p).resumeColls p).afterWork p).startAllWaiting))

/-- An admitted RESTORE_REQUEST in a wrong state, or with a block that breaks its table, is REFUSED with the result's record and
changes nothing else, but that a block or table refused by the access check is counted and recorded as refused. A good one makes
the partition LOADED and RESTORING with no bytes restored. While READ_REQs to the partner are outstanding RESTORE_SOURCE_DONE
has no effect. A source that cannot be used is marked with its code, its unreadable flash units are counted, and the next is
tried. A source whose digests all agree restores the partition: RESTORE_STATE is RESTORED, and the step number is the one that
its manifest carries. (R438, R439, R441, R442) -/
def Obligations.RestoreTriesItsSources : Prop :=
  ∀ (part : Fin 4) (s : State), let p := part.val; let j := s.job p
    (∀ who addr, Admits s who (O.at O.RESTORE_REQUEST p) addr →
      let b := if s.tableOk p addr 64 then s.readLE (addr % 2 ^ 50) 64 else 0
      (s.restoreWrong p = true ∨ j.image = none →
        exec (.restoreRequest who part addr) s =
          .next ((s.put (O.at O.RESTORE_RECORD p) (restoreRecord Rr.wrongState 0 0 0xFFFF (recF b 0 8) 0 0 0)).send
            (.status who (O.at O.RESTORE_REQUEST p) St.refused))) ∧
      (∀ im, s.restoreWrong p = false → j.image = some im →
        ((s.tableOk p addr 64 = false ∨ s.badBlock p b im = true) →
          let u := match s.blockRefused p addr b with | some x => s.refuse (.ckpt p) x.1 x.2 | none => s
          exec (.restoreRequest who part addr) s =
            .next ((u.put (O.at O.RESTORE_RECORD p) (restoreRecord Rr.badRequest 0 0 0xFFFF (recF b 0 8) 0 0 0)).send
              (.status who (O.at O.RESTORE_REQUEST p) St.refused))) ∧
        (s.tableOk p addr 64 = true → s.badBlock p b im = false →
          Completes (.restoreRequest who part addr) s (fun t => t.obj (O.at O.RESTORE_STATE p) = 1 ∧ t.imageState p = 2 ∧
            t.obj (O.at O.RESTORE_BYTES p) = 0 ∧ (t.job p).image = some im ∧ (t.job p).rels = [] ∧ (t.job p).shares = [] ∧
            Tells t who (O.at O.RESTORE_REQUEST p) St.ok)))) ∧
    (∀ (r : Restore) (im : Image) (header : Nat) (copy : List Byte) (bad : List Nat), j.ckpt.restore = some r → j.image = some im →
      let src := s.sourceSlot p r im header copy
      let code := s.openSource p r im src.1 src.2 (s.sourceErr p r im bad)
      let busy := r.source = 2 ∧ r.rd = 1
      (busy → exec (.restoreSourceDone part header copy bad) s = .next s) ∧
      (¬busy → code ≠ 0 → exec (.restoreSourceDone part header copy bad) s =
          .next ((s.add O.FLASH_UNREADABLE_UNITS (s.flashUnread p r im bad)).rejectSource p im r code 0xFFFF 0)) ∧
      (¬busy → code = 0 →
        let m := if r.source = 1 then s.manifestHead p 0 r.boundary 0 (j.ckpt.cursors.find? (fun x => recF x 0 8 = r.boundary)) im else src.2
        let live := if r.source = 1 then j.live else liveOf im src.2
        let put := s.fromSource p r im src.2 live
        (∀ e, put.1.mismatch im r live (s.sourceDir p r im src.2) = some e →
          exec (.restoreSourceDone part header copy bad) s = .next (put.1.rejectSource p im r e.1 e.2 put.2)) ∧
        (put.1.mismatch im r live (s.sourceDir p r im src.2) = none →
          Completes (.restoreSourceDone part header copy bad) s (fun t => t.obj (O.at O.RESTORE_STATE p) = 2 ∧
            t.obj (O.at O.STEP_NUMBER p) = field m 16 8 ∧ recF (t.obj (O.at O.RESTORE_RECORD p)) 0 1 = 1))))

/-- A supply sample shows in its objects; below 46.0 V it starts an alert, below 38.0 V it stops a running module with cause 2,
below 36.0 V the always-on supply is gone. 200 microseconds below 44.0 V make a stop pending on the beat, and stop the module
with cause 1 off it. 100 ms of overvoltage open the input switch, which closes again after 1 ms of good bus when ENGAGE is low.
A rail fault stops the module with cause 4 and takes its clock away; the analog cutoff takes rail and clock. The alert ends
after 10 ms of good VIN. (R448, R451, R452, R453, R454, R455, R468) -/
def Obligations.SupplyEventsStopTheModule : Prop :=
  ∀ s : State,
    (s.boot.alwaysOn = true → ∀ at_ vin bus power railV railA : Nat,
      Completes (.supplySample at_ vin bus power railV railA) s (fun t => t.now = max s.now at_ ∧
        t.obj O.VIN_V = vin ∧ t.obj O.RAIL_1V8_V = railV ∧ t.obj O.RAIL_1V8_A = railA ∧ t.power.bus = bus ∧
        t.boot.alwaysOn = !fLt vin 0x42100000 ∧
        (s.running = true → fLt vin 0x42180000 = true → t.boot.stopCause = some 2 ∧ t.obj O.CLOCK_MHZ = 0) ∧
        (2 ≤ s.obj O.BRINGUP_STAGE → s.boot.stopCause = none → s.power.alert = false → fLt vin 0x42380000 = true →
          t.power.alert = true ∧ t.obj O.POWER_ALERTS = (s.obj O.POWER_ALERTS + 1) % 2 ^ 64) ∧
        SameMemory s t ∧ t.jobs = s.jobs ∧ t.host = s.host)) ∧
    (∀ t0, s.power.okSince = some t0 → s.power.alert = true → s.boot.alwaysOn = true → s.boot.stopCause = none →
      s.power.stopPending = false → s.power.ovOpen = false →
      Completes .powerAlertClear s (fun t => t.power.alert = false ∧ t.boot.paused = none ∧ t.obj O.SUPPLY_STATE = 0 ∧
        t.obj O.ALERT_RIDE_THROUGHS = (s.obj O.ALERT_RIDE_THROUGHS + 1) % 2 ^ 64 ∧ t.now = max s.now (t0 + 80000000) ∧
        SameMemory s t ∧ SameWork s t)) ∧
    (∀ t0, s.power.lowSince = some t0 → s.running = true → s.power.stopPending = false → s.power.ovOpen = false →
      Completes .stopPending s (fun t => t.now = max s.now (t0 + 1600000) ∧ SameMemory s t ∧ t.jobs = s.jobs ∧
        (s.onBeat = true → t.power.stopPending = true ∧ t.boot.stopCause = none ∧ t.obj O.SUPPLY_STATE = 2) ∧
        (s.onBeat = false → t.boot.stopCause = some 1 ∧ recF (t.obj O.STOP_RECORD) 0 1 = 1 ∧ t.obj O.CLOCK_MHZ = 0))) ∧
    (∀ t0, s.power.highSince = some t0 → s.boot.alwaysOn = true → s.power.ovOpen = false →
      Completes .overvoltageSustained s (fun t => t.power.ovOpen = true ∧ t.boot.switchClosed = false ∧ t.obj O.SUPPLY_STATE = 3 ∧
        t.obj O.OVERVOLTAGE_EVENTS = (s.obj O.OVERVOLTAGE_EVENTS + 1) % 2 ^ 64 ∧ t.now = max s.now (t0 + 800000000) ∧
        SameMemory s t ∧ SameWork s t)) ∧
    (∀ t0, s.power.busOkSince = some t0 → s.power.ovOpen = true →
      Completes .inputSwitchReclose s (fun t => t.power.ovOpen = false ∧ t.boot.switchClosed = s.boot.engageLow ∧
        t.now = max s.now (t0 + 8000000) ∧ SameMemory s t ∧ SameWork s t ∧ SameObjects s t [O.SUPPLY_STATE])) ∧
    (∀ t0, s.power.railBadSince = some t0 → 3 ≤ s.obj O.BRINGUP_STAGE → s.obj O.BRINGUP_STAGE ≤ 9 → s.boot.alwaysOn = true →
      s.boot.stopCause = none ∨ s.boot.stopCause = some 0 →
      Completes .railFault s (fun t => t.boot.stopCause = some 4 ∧ recF (t.obj O.STOP_RECORD) 0 1 = 4 ∧ t.obj O.CLOCK_MHZ = 0 ∧
        t.now = max s.now (t0 + 80000) ∧ SameMemory s t ∧ t.jobs = s.jobs)) ∧
    (∀ die : Fin 6, s.boot.stopCause = none →
      Completes (.analogThermalCutoff die) s (fun t => t.obj O.RAIL_1V8_V = 0 ∧ t.obj O.CLOCK_MHZ = 0 ∧ t.boot.stopCause = some 0 ∧
        SameMemory s t ∧ t.jobs = s.jobs)) ∧
    (∀ die : Fin 6, s.boot.stopCause ≠ none → exec (.analogThermalCutoff die) s = .next (s.put O.RAIL_1V8_V 0))

/-- On a running module: a droop sample raises a domain's ballast to the level it computes, one level per 6 mV up to 16, and counts
an engagement; a decay lowers it by one. The governor allows the power that the window leaves, takes one trim slot for each 20 W
beyond it down to 4, and otherwise keeps the trim or gives one slot back. In mode BOOST a boost step adds 50 MHz with its core
rails. An admitted CLOCK_MODE above 2 is REFUSED with CLOCK_MODE_RESULT 1; one that every image's period allows is stored, and
the clock moves at the next edge or at once towards the mode's clock, 50 MHz a step and never past it. (R456, R457, R459, R461,
R462) -/
def Obligations.ClockTrimAndBallast : Prop :=
  ∀ s : State, s.running = true →
    (∀ (die : Fin 4) (domain : Fin 16) (rail at_ : Nat),
      let k := 16 * die.val + domain.val
      let b := s.power.ballast.get k {}
      let n := min 16 (cdiv (s.obj (O.at O.CORE_RAIL_MV die.val) * 1000 - s.obj O.DROOP_THRESHOLD_MV * 1000 - rail) 6000)
      Completes (.droopSample die domain rail at_) s (fun t => (t.power.ballast.get k {}).level = max b.level n ∧
        (t.power.ballast.get k {}).computed = n ∧ (∀ i, i ≠ k → t.power.ballast.get i {} = s.power.ballast.get i {}) ∧
        t.obj (O.at O.BALLAST_ENGAGES die.val) =
          (if b.level = 0 ∧ 0 < n then (s.obj (O.at O.BALLAST_ENGAGES die.val) + 1) % 2 ^ 64 else s.obj (O.at O.BALLAST_ENGAGES die.val)) ∧
        t.now = max s.now at_ ∧ SameMemory s t ∧ SameWork s t) ∧
      (b.computed < b.level → 0 < s.obj O.CLOCK_MHZ →
        Completes (.ballastDecay die domain) s (fun t => (t.power.ballast.get k {}).level = b.level - 1 ∧
          t.now = max s.now (b.below + cdiv 256000 (s.obj O.CLOCK_MHZ)) ∧ SameMemory s t ∧ SameWork s t))) ∧
    (∀ at_ : Nat,
      let u := (s.upTo at_).rollBuckets.accountPower.put O.POWER_CEILING_W (s.obj O.POWER_CEILING_SET_W)
      let meas := if s.power.tickT = 0 then s.obj O.INPUT_POWER_W else f32Of s.power.tickE (-149) s.power.tickT
      let beyond := (V.sub meas u.powerAllow).1
      Completes (.governorTick at_) s (fun t => t.now = max s.now at_ ∧ t.power.pAllow = u.powerAllow ∧
        t.obj O.POWER_CEILING_W = s.obj O.POWER_CEILING_SET_W ∧
        (fLt 0 beyond = true → t.obj O.TRIM_POWER =
          max 4 (s.obj O.TRIM_POWER - (Num.ceil (f32 (V.div beyond 0x41A00000).1)).toNat)) ∧
        (fLt 0 beyond = false → t.obj O.TRIM_POWER = s.obj O.TRIM_POWER ∨ t.obj O.TRIM_POWER = min 64 (s.obj O.TRIM_POWER + 1)) ∧
        (∀ d : Fin 4, t.obj (O.at O.TRIM_APPLIED d.val) = min (t.obj O.TRIM_POWER) (s.obj (O.at O.TRIM_THERMAL_CAP d.val))) ∧
        SameMemory s t ∧ SameWork s t)) ∧
    (s.power.mode = 1 → s.power.moving = false → 2000 ≤ s.obj O.CLOCK_MHZ → s.obj O.CLOCK_MHZ + 50 ≤ s.obj O.BOOST_MAX_MHZ →
      (∀ t0, s.power.lastRise = some t0 → t0 + 8000000 ≤ s.now) → s.power.marginAt + 8000000 ≤ s.now → s.power.alert = false →
      Completes .boostStep s (fun t => t.obj O.CLOCK_MHZ = s.obj O.CLOCK_MHZ + 50 ∧ t.power.lastRise = some s.now ∧
        (∀ d : Fin 4, t.obj (O.at O.CORE_RAIL_MV d.val) = railOf d.val (s.obj O.CLOCK_MHZ + 50)) ∧ SameMemory s t ∧ SameWork s t)) ∧
    (∀ who v, Admits s who O.CLOCK_MODE v →
      let short := v = 2 ∧ ∃ p : Fin 4, ∃ im, (s.job p.val).image = some im ∧ s.obj O.BEAT_PERIOD_NS < im.stage.minFixed
      (2 < v → exec (.clockModeWrite who v) s =
        .next ((s.put O.CLOCK_MODE_RESULT 1).send (.status who O.CLOCK_MODE St.refused))) ∧
      (short → exec (.clockModeWrite who v) s =
        .next ((s.put O.CLOCK_MODE_RESULT 2).send (.status who O.CLOCK_MODE St.refused))) ∧
      (v ≤ 2 → ¬short → Completes (.clockModeWrite who v) s (fun t => t.obj O.CLOCK_MODE = v ∧ t.obj O.CLOCK_MODE_RESULT = 0 ∧
        Tells t who O.CLOCK_MODE St.ok ∧ t.power.pendingMode = s.onBeat ∧ SameMemory s t ∧ SameWork s t ∧
        (s.onBeat = false → s.obj O.CLOCK_MHZ ≠ 0 → t.power.target = (if v = 2 then 1800 else if v = 1 ∧ 2000 ≤ s.obj O.CLOCK_MHZ ∧
          s.obj O.CLOCK_MHZ ≤ s.obj O.BOOST_MAX_MHZ then s.obj O.CLOCK_MHZ else 2000) ∧
          t.power.moving = !decide (s.obj O.CLOCK_MHZ = t.power.target))))) ∧
    (s.power.moving = true → s.obj O.CLOCK_MHZ ≠ s.power.target →
      Completes .clockStep s (fun t => t.obj O.CLOCK_MHZ =
          (if s.obj O.CLOCK_MHZ < s.power.target then min s.power.target (s.obj O.CLOCK_MHZ + 50)
           else max s.power.target (s.obj O.CLOCK_MHZ - 50)) ∧
        t.power.moving = !decide (t.obj O.CLOCK_MHZ = s.power.target) ∧ t.power.target = s.power.target ∧ SameMemory s t ∧ SameWork s t))

/-- A die whose sensors take their first readings, all in range, reads as the largest of them. A sample in which a die reaches 125.0
degrees, or has no valid sensor, stops a running module with cause 3. Otherwise, outside bring-up, each compute die's thermal
cap is the lower of its own and its I/O die's, where a die above 110.0 degrees loses 8 slots for each degree begun, down to 24;
a die at 115.0 degrees sets a hold, pending on the beat and applied at once off it. A die hot for 1 s raises 0x220D once. (R464,
R465, R466, R467, R468) -/
def Obligations.TemperaturesCapTheDies : Prop :=
  (∀ (d : Nat) (rs : List Int) (pw : Nat) (s : State), d < 6 → (∀ i, s.power.sensors.find (32 * d + i) = none) →
    sensorCount d ≤ rs.length → (∀ r, r ∈ rs.take (sensorCount d) → -320 ≤ r ∧ r ≤ 1200) →
    (s.sampleDie d rs pw).2.1 ∈ rs.take (sensorCount d) ∧ (∀ r, r ∈ rs.take (sensorCount d) → r ≤ (s.sampleDie d rs pw).2.1) ∧
    (s.sampleDie d rs pw).2.2.2 = true) ∧
  (∀ (at_ : Nat) (readings : List Int) (powers : List Nat) (s : State), s.running = true →
    let base := fun (d : Nat) => if d < 4 then 24 * d else 96 + 8 * (d - 4)
    let step := fun (a : State × List (Int × Nat × Bool)) (d : Nat) =>
      let r := a.1.sampleDie d (readings.drop (base d)) (powers.getD d 0)
      (r.1, a.2 ++ [r.2])
    let r := [0, 1, 2, 3, 4, 5].foldl step (s.upTo at_, [])
    let temp := fun (d : Nat) => (r.2.getD d (0, 0, true)).1
    ((∃ d, d < 6 ∧ ((r.2.getD d (0, 0, true)).2.2 = false ∨ 1000 ≤ temp d)) →
      Completes (.thermalSample at_ readings powers) s (fun t => t.boot.stopCause = some 3 ∧ recF (t.obj O.STOP_RECORD) 0 1 = 3 ∧
        t.obj O.CLOCK_MHZ = 0 ∧ SameMemory s t ∧ t.jobs = s.jobs)) ∧
    ((∀ d, d < 6 → (r.2.getD d (0, 0, true)).2.2 = true ∧ temp d < 1000) → s.obj O.BRINGUP_STAGE = 9 →
      Completes (.thermalSample at_ readings powers) s (fun t => t.now = max s.now at_ ∧ t.power.temps = r.2.map (fun x => x.1) ∧
        (∀ d : Fin 4, t.obj (O.at O.TRIM_THERMAL_CAP d.val) = min (thermalCap (temp d.val)) (thermalCap (temp (4 + d.val / 2)))) ∧
        ((∃ d, d < 6 ∧ 920 ≤ temp d) → s.onBeat = true → s.power.holdOn = false → t.power.holdPending = true) ∧
        ((∃ d, d < 6 ∧ 920 ≤ temp d) → s.onBeat = false → s.power.holdOn = false → t.power.holdOn = true) ∧
        (s.onBeat = true ∨ s.power.holdOn = false → SameMemory s t ∧ SameWork s t)))) ∧
  (∀ x : Int, (x ≤ 880 → thermalCap x = 64) ∧ (∀ k : Nat, 880 + 8 * (k : Int) < x → x ≤ 880 + 8 * ((k : Int) + 1) →
    thermalCap x = max 24 (64 - 8 * (k + 1)))) ∧
  (∀ (die : Fin 6) (t0 : Nat) (s : State), s.power.hotSince.find die.val = some t0 → s.running = true → s.power.hotDone.contains die.val = false →
    Completes (.thermalMargin die) s (fun t => t.power.hotDone = die.val :: s.power.hotDone ∧ t.now = max s.now (t0 + 8000000000) ∧
      SameMemory s t ∧ SameWork s t ∧ SameObjects s t [O.EVENTS_LOST]))

/-- Writing CONTROL 1 to a pair with good fields enables it with its heads and tails at 0 and the phase at 1; a bad field or value
puts it in ERROR, and CONTROL 0 disables a pair with nothing left. A doorbell within the ring of an ENABLED pair moves its tail
or head, and any other puts the pair in ERROR. The oldest ended descriptor's record is written at the completion tail with phase
and head, and the tail moves on, or it waits while the queue is full. A port reset disables all its pairs and forgets what they
fetched. Unmasking a pending vector sends it. (R480, R481, R489, R490) -/
def Obligations.QueuePairsFollowTheirRules : Prop :=
  ∀ (port : Fin 4) (q : Fin 64) (s : State), let n := port.val; let x := s.qp n q.val
    (x.good = true → x.held = [] → exec (.queueEnableWrite port q 1) s =
      .next (s.setQp n q.val { x with enable := true, state := 1, sqHead := 0, sqTail := 0, cqHead := 0, cqTail := 0, phase := true })) ∧
    (∀ v, bit v 0 = true → 2 ≤ v ∨ x.good = false →
      Completes (.queueEnableWrite port q v) s (fun t => (t.qp n q.val).state = 2 ∧ SameMemory s t ∧ t.jobs = s.jobs ∧ t.net = s.net)) ∧
    (x.waiting = [] → x.running = [] → x.done = [] →
      Completes (.queueEnableWrite port q 0) s (fun t => (t.qp n q.val).state = 0 ∧ (t.qp n q.val).enable = false ∧ t.dict = s.dict ∧
        SameMemory s t ∧ t.jobs = s.jobs ∧ t.net = s.net)) ∧
    (∀ v, x.state = 1 → v % 65536 < x.sqSize → exec (.sqDoorbell port q v) s = .next (s.setQp n q.val { x with sqTail := v % 65536 })) ∧
    (∀ v, x.state ≠ 1 ∨ x.sqSize ≤ v % 65536 →
      Completes (.sqDoorbell port q v) s (fun t => (t.qp n q.val).state = 2 ∧ SameMemory s t ∧ t.jobs = s.jobs ∧ t.net = s.net)) ∧
    (∀ v, x.state = 1 → v % 65536 < x.cqSize → x.held = [] →
      exec (.cqDoorbell port q v) s = .next (s.setQp n q.val { x with cqHead := v % 65536 })) ∧
    (∀ v, x.state ≠ 1 ∨ x.cqSize ≤ v % 65536 →
      Completes (.cqDoorbell port q v) s (fun t => (t.qp n q.val).state = 2 ∧ SameMemory s t ∧ t.jobs = s.jobs ∧ t.net = s.net)) ∧
    (∀ d rest, x.done = d :: rest → x.waiting = [] → x.state = 1 → x.enable = true → x.held = [] →
      (x.full = false → Completes (.descriptorComplete port q) s (fun t =>
        .hostWrite port (x.cqBase + 16 * x.cqTail) (toLE 16 (doneRecord q.val d + fld 5 (b2n x.phase) + fld 6 x.sqHead)) ∈ t.out ∧
        (t.qp n q.val).done = rest ∧ (t.qp n q.val).cqTail = (x.cqTail + 1) % x.cqSize ∧
        (t.qp n q.val).phase = (if (x.cqTail + 1) % x.cqSize = 0 then !x.phase else x.phase) ∧
        t.dict = s.dict ∧ SameMemory s t ∧ t.jobs = s.jobs ∧ t.net = s.net)) ∧
      (x.full = true → Completes (.descriptorComplete port q) s (fun t => t.out = s.out ∧ (t.qp n q.val).done = rest ∧
        (t.qp n q.val).held = [doneRecord q.val d + x.vec * 2 ^ 128] ∧
        t.obj (O.at O.CQ_FULL_WAITS n) = (s.obj (O.at O.CQ_FULL_WAITS n) + 1) % 2 ^ 64 ∧ SameMemory s t ∧ t.jobs = s.jobs))) ∧
    (∀ kind : Fin 4, Completes (.portReset port kind) s (fun t =>
      (∀ i, (t.qp n i).state = 0 ∧ (t.qp n i).enable = false ∧ (t.qp n i).waiting = [] ∧ (t.qp n i).running = [] ∧ (t.qp n i).done = [] ∧
        (t.qp n i).held = []) ∧
      (∀ m, m ≠ n → t.port m = s.port m) ∧ (t.port n).msix = [] ∧ (t.port n).pending = [] ∧
      t.obj (O.at O.PORT_RESETS n) = (s.obj (O.at O.PORT_RESETS n) + 1) % 2 ^ 64 ∧
      (2 ≤ kind.val → t.obj (O.at O.PCIE_WIDTH n) = 0 ∧ t.obj (O.at O.PCIE_RATE n) = 0) ∧
      SameMemory s t ∧ t.jobs = s.jobs ∧ t.net = s.net)) ∧
    (∀ v : Fin 2048, Completes (.msixUnmask port v) s (fun t => bit ((t.port n).entry v.val) 96 = false ∧ v.val ∉ (t.port n).pending ∧
      t.out = (if v.val ∈ (s.port n).pending then
        .msix port v.val ((s.port n).entry v.val % 2 ^ 64) (recF ((t.port n).entry v.val) 8 4) :: s.out else s.out) ∧
      t.dict = s.dict ∧ SameMemory s t ∧ t.jobs = s.jobs ∧ t.net = s.net))

/-- An ENABLED pair with an entry to fetch, room in its completion queue, no record held back and none waiting fetches the
descriptor, moves its head, and, when neither a FENCE nor the zeroing of memory that it names nor a checkpoint that has still to
read what it writes holds it, starts it; with the completion queue full it fetches nothing. A descriptor that starts runs its
opcode's operation for the port's partition, with the descriptor among those running. A descriptor with an unknown opcode, a
reserved bit or a field out of range ends MALFORMED. A TRANSFER between two local addresses that pass their checks copies the
bytes and ends OK with their number. (R197, R233, R235, R438, R481, R482, R483, R484, R485, R486, R487) -/
def Obligations.DescriptorsStartTheirWork : Prop :=
  ∀ (port : Fin 4) (q : Fin 64) (raw p : Nat) (data : List Byte) (s : State), let n := port.val; let x := s.qp n q.val
    (x.full = true → exec (.descTransfer port q raw data) s = .next s ∧ exec (.descLoad port q raw) s = .next s) ∧
    (x.state = 1 → x.enable = true → x.sqHead ≠ x.sqTail → x.held = [] → x.full = false → x.waiting = [] →
    (bit (recF raw 1 1) 0 = true → (∀ r, r ∈ x.running → ¬(r.1 < x.seqNext)) ∧ (∀ d, d ∈ x.done → ¬(d.seq < x.seqNext))) →
    s.descHeld n { seq := x.seqNext, raw := raw, data := data } = false →
    let who := (n, q.val, x.seqNext)
    let u := s.setQp n q.val { x with sqHead := (x.sqHead + 1) % max 1 x.sqSize, seqNext := x.seqNext + 1, waiting := [],
                                      running := x.running ++ [(x.seqNext, recF raw 2 2, recF raw 0 1)] }
    (descOps.contains (recF raw 0 1) = false ∨ (recF raw 0 1 = 0x01 ∧ (descResv raw || s.descRange raw) = true) →
      exec (.descTransfer port q raw data) s = .next (u.finishDesc who Ds.malformed 0)) ∧
    (descResv raw = false → s.descRange raw = false → s.portPart n = some p → s.obj O.CHIP_STATE ≠ 2 →
      (recF raw 0 1 = 0x01 →
        exec (.descTransfer port q raw data) s = .next (u.descTransfer p who raw data) ∧
        (recF raw 28 1 = 0 → recF raw 30 2 = 0xFFFF → u.isLocal (recF raw 8 8) = true → u.isLocal (recF raw 16 8) = true →
          u.sideCheck p (recF raw 8 8) (recF raw 24 4) false = 0 → u.sideCheck p (recF raw 16 8) (recF raw 24 4) true = 0 →
          Memory.wf s.mem = true →
          Completes (.descTransfer port q raw data) s (fun t => ∃ c : State,
            t = (c.finishDesc who 0 (recF raw 24 4)).afterWork p ∧
            (∀ i, i < recF raw 24 4 →
              Memory.read c.mem (recF raw 16 8 % 2 ^ 50 + i) = Memory.read s.mem (recF raw 8 8 % 2 ^ 50 + i)) ∧
            (∀ a, a < recF raw 16 8 % 2 ^ 50 ∨ recF raw 16 8 % 2 ^ 50 + recF raw 24 4 ≤ a → Memory.read c.mem a = Memory.read s.mem a)))) ∧
      (recF raw 0 1 = 0x02 → exec (.descSyncArm port q raw) s = .next (u.descSyncArm p who raw)) ∧
      (recF raw 0 1 = 0x03 → exec (.descSyncPost port q raw) s = .next (u.descSyncPost p who raw)) ∧
      (recF raw 0 1 = 0x10 → exec (.descLoad port q raw) s = .next (u.descLoad p who raw)) ∧
      (recF raw 0 1 = 0x11 → exec (.descUnload port q raw) s = .next (u.requestUnload p (some who))) ∧
      (recF raw 0 1 = 0x12 → exec (.descRestore port q raw) s = .next (u.restoreStart p (recF raw 8 8) (some who)).1) ∧
      (recF raw 0 1 = 0x20 → exec (.descMicrobatch port q raw data) s = .next (u.descMicrobatch p who raw data)) ∧
      (recF raw 0 1 = 0x21 → exec (.descStepParam port q raw) s = .next (u.descStepParam p who raw)) ∧
      (recF raw 0 1 = 0x30 → exec (.descOffloadRegister port q raw) s = .next (u.descRegister p who raw)) ∧
      (recF raw 0 1 = 0x31 → exec (.descOffloadRelease port q raw) s = .next (u.descRelease p who raw))))

/-- An admitted LAYOUT_APPLY whose result by Table 17.4 is 0 makes the staged die owners, port partitions and link sets the layout,
counts the change, and zeroes the local stores of every die whose partition changes; LAYOUT_RESULT reads 0. With another result
only LAYOUT_RESULT changes, and the write is REFUSED. Bytes of dies that keep their partition read as before. (R279, R475) -/
def Obligations.LayoutsTakeEffectWhole : Prop :=
  ∀ (who : Who) (v : Nat) (s : State), Admits s who O.LAYOUT_APPLY v →
    (s.layoutResult = 0 → Memory.wf s.mem = true →
      Completes (.layoutApply who v) s (fun t => t.obj O.LAYOUT_RESULT = 0 ∧ Tells t who O.LAYOUT_APPLY St.ok ∧
        t.layout = { dieOwner := s.obj O.DIE_OWNER, portPart := s.obj O.PORT_PARTITION, links := s.stagedLinks } ∧
        t.obj O.LAYOUT_CHANGES = (s.obj O.LAYOUT_CHANGES + 1) % 2 ^ 64 ∧ t.jobs = s.jobs ∧ t.beat = s.beat ∧
        (∀ tile b, tile < 384 → b < 0x200000 →
          Memory.read t.mem (tileAddr tile b) = (if tile / 96 ∈ s.movedDies (s.obj O.DIE_OWNER) then 0 else Memory.read s.mem (tileAddr tile b))) ∧
        (∀ h b, h < 8 → b < resvBase →
          Memory.read t.mem (hbmAddr h b) = (if h / 2 ∈ s.movedDies (s.obj O.DIE_OWNER) then 0 else Memory.read s.mem (hbmAddr h b))))) ∧
    (s.layoutResult ≠ 0 →
      exec (.layoutApply who v) s = .next ((s.put O.LAYOUT_RESULT s.layoutResult).send (.status who O.LAYOUT_APPLY St.refused)))

/-- With nothing waiting in the management queue, a request that arrives on a served path, is addressed to the server, fits its
datagram, has VERSION 1 and is well formed is counted in its class; then its session is checked, and either the operation that
its OP names runs or the answer carries SESSION. This holds of ACCESS, also by multicast when it only reads, and of the seven
other operations. Another VERSION is answered VERSION, and a malformed request MALFORMED. A request on a path that is not
served, or addressed to something else (R497; log entry 150 for the autoconfigured address), changes nothing. (R497, R498, R506,
R511, R512) -/
def Obligations.RequestsRunWhenTheyMay : Prop :=
  ∀ (who : Who) (m : Msg) (s : State), let w := { who with session := m.session }
    (∀ multicast, s.served w = false ∨ s.reaches w m multicast = false → exec (.access who m multicast) s = .next s) ∧
    (s.served w = true → s.romServes = false → (Who.mbx w = none → Msg.size m ≤ 1232) → s.mgmt.queue = [] →
      let s0 := if Who.isField w then s.inc O.FIELD_FRAMES_RX else s
      let here := s.reaches w m false = true
      let run := fun (op : Nat) (items : List Item) =>
        let u := (s0.inc (O.REQUESTS_CLASS0 + classOf w op items)).highWater 1
        match (u.checkSess w op m).2 with
        | some st => (u.checkSess w op m).1.answerTo w op m none st 0 []
        | none => (u.checkSess w op m).1.runOpcode w op m none (classOf w op items) items
      (here → m.version ≠ 1 → exec (.access who m false) s = .next (s0.answerTo w 0x01 m none St.version 0 []) ∧
        exec (.openSession who m) s = .next (s0.answerTo w 0x10 m none St.version 0 [])) ∧
      (here → m.version = 1 → malformed 0x01 m = true →
        exec (.access who m false) s = .next (s0.answerTo w 0x01 m none St.malformed 0 [])) ∧
      (here → m.version = 1 → malformed 0x22 m = true →
        exec (.eventSubscribe who m) s = .next (s0.answerTo w 0x22 m none St.malformed 0 [])) ∧
      (m.version = 1 → Msg.size m ≤ 4032 →
        (∀ items multicast, parseItems m.count m.body = some items → malformed 0x01 m = false →
          s.reaches w m multicast = true →
          (multicast = true → ∀ x, x ∈ items → x.write = false) → exec (.access who m multicast) s = .next (run 0x01 items)) ∧
        (here → malformed 0x10 m = false → exec (.openSession who m) s = .next (run 0x10 [])) ∧
        (here → malformed 0x11 m = false → exec (.auth who m) s = .next (run 0x11 [])) ∧
        (here → malformed 0x12 m = false → exec (.closeSession who m) s = .next (run 0x12 [])) ∧
        (here → malformed 0x20 m = false → exec (.subscribe who m) s = .next (run 0x20 [])) ∧
        (here → malformed 0x21 m = false → exec (.unsubscribe who m) s = .next (run 0x21 [])) ∧
        (here → malformed 0x22 m = false → exec (.eventSubscribe who m) s = .next (run 0x22 [])) ∧
        (here → malformed 0x30 m = false → exec (.logRead who m) s = .next (run 0x30 []))))

/-- OPEN_SESSION gives a mailbox a fresh session 0 with a new NONCE, and a UDP requester a free number while fewer than 32 are open,
else BUSY. AUTH with the right PROOF makes the session owner; a wrong one is counted and answered SESSION, and the fifth ends
the session. After CLOSE_SESSION it has no privilege. A subscription replaces one for the same object and keeps to 8 per
session, 256 in all and 10 to 60,000 ms; UNSUBSCRIBE removes it; EVENT_SUBSCRIBE sets both masks. LOG_READ answers up to MAX
entries from FROM_SEQ on, oldest first. Once an item has failed, later ones answer NOT_RUN and change nothing. The numbers
chosen for sessions are the model's. (R499, R506, R514, R518, R519) -/
def Obligations.SessionsGiveAndLosePrivilege : Prop :=
  ∀ (who : Who) (m : Msg) (cls : Fin 4) (s : State),
    (∀ n, Who.mbx who = some n → s.obj O.SC_STATE ≠ 1 → let t := s.openSess who m none cls.val
      t.mgmt.mbx.get n {} = { path := who.path, nonce := some (Config.freeNonce s.fresh % 2 ^ 128), lastReq := s.refNs } ∧
      t.out.head? = some (.message who 0x10 (mkMsg 0 1 m.seq 0 0 0 (toLE 16 (Config.freeNonce s.fresh % 2 ^ 128)))) ∧
      t.fresh = s.fresh + 1 ∧ SameMemory s t ∧ SameWork s t ∧ SameObjects s t []) ∧
    (Who.mbx who = none → s.obj O.SC_STATE ≠ 1 → s.mgmt.sessions.length < 32 →
      let nonce := Config.freeNonce s.fresh % 2 ^ 128
      let t := s.openSess who m none cls.val
      ∃ n, 0 < n ∧ n ≤ 65535 ∧ s.mgmt.sessions.find n = none ∧
        t.mgmt.sessions = s.mgmt.sessions.set n ⟨who.addr, who.port, who.path, some nonce, false, 0, 0, [], [], 0, 0, s.refNs⟩ ∧
        t.out.head? = some (.message who 0x10 (mkMsg 0 1 m.seq n 0 0 (toLE 16 (Config.freeNonce s.fresh % 2 ^ 128)))) ∧
        SameMemory s t ∧ SameWork s t ∧ SameObjects s t [O.FIELD_FRAMES_TX]) ∧
    (s.obj O.SC_STATE = 1 ∨ Who.mbx who = none ∧ 32 ≤ s.mgmt.sessions.length → let t := s.openSess who m none cls.val
      t.mgmt.sessions = s.mgmt.sessions ∧ t.mgmt.mbx = s.mgmt.mbx ∧
      t.obj (O.BUSY_CLASS0 + cls.val) = (s.obj (O.BUSY_CLASS0 + cls.val) + 1) % 2 ^ 64 ∧
      t.out.head? = some (.message who 0x10
        (mkMsg St.busy 1 m.seq m.session 0 (min 10000 (10 + 2 * s.mgmt.queue.length)) []))) ∧
    (∀ x n, s.sess who = some x → x.nonce = some n → s.keysUp = true →
      ofLE m.body = s.ownerMac (proofBytes who n) → let t := s.auth who m none
      t.sess who = some { x with authed := true, lastSeq := m.seq, failed := 0 } ∧ (s.obj O.RTV_MODE ≠ 1 → t.priv who = .owner) ∧
      t.out.head? = some (.message who 0x11 (mkMsg St.ok 1 m.seq m.session 0 0 [])) ∧ SameMemory s t ∧ SameWork s t) ∧
    (∀ x, s.sess who = some x → (∀ n, x.nonce = some n → s.keysUp = false ∨ ofLE m.body ≠ s.ownerMac (proofBytes who n)) →
      let t := s.auth who m none
      t.obj O.AUTH_FAILURES = (s.obj O.AUTH_FAILURES + 1) % 2 ^ 64 ∧
      t.out.head? = some (.message who 0x11 (mkMsg St.session 1 m.seq m.session 0 0 [])) ∧
      (x.failed + 1 < 5 → t.sess who = some { x with failed := x.failed + 1 }) ∧
      (5 ≤ x.failed + 1 → ((t.sess who).map (·.authed)).getD false = false)) ∧
    (∀ x, s.sess who = some x → let t := s.closeSess who m none
      ((t.sess who).map (·.authed)).getD false = false ∧
      t.out.head? = some (.message who 0x12 (mkMsg St.ok 1 m.seq m.session 0 0 [])) ∧ SameMemory s t ∧ SameWork s t) ∧
    (∀ x, s.sess who = some x → Who.mbx who = none →
      let k := subKey m.body
      let period := recF (ofLE m.body) 4 4
      let others := x.subs.filter (fun u => u.key ≠ k)
      let st := (s.readObj who k).2.1
      (st ≠ St.notPresent → st ≠ St.access → 10 ≤ period → period ≤ 60000 → others.length < 8 →
        (s.subCount < 256 ∨ others.length ≠ x.subs.length) →
        let t := s.subscribe who m none
        t.sess who = some { x with subs := others ++ [{ key := k, period := period, next := s.refNs + s.effPeriod period }] } ∧
        t.out.head? = some (.message who 0x20 (mkMsg St.ok 1 m.seq m.session 0 0 []))) ∧
      (st ≠ St.notPresent → st ≠ St.access → period < 10 ∨ 60000 < period ∨ 8 ≤ others.length ∨
          (others.length = x.subs.length ∧ 256 ≤ s.subCount) →
        let t := s.subscribe who m none
        t.mgmt = s.mgmt ∧ t.out.head? = some (.message who 0x20 (mkMsg St.refused 1 m.seq m.session 0 0 []))) ∧
      (let t := s.unsubscribe who m none
       t.sess who = some { x with subs := others } ∧
       t.out.head? = some (.message who 0x21 (mkMsg St.ok 1 m.seq m.session 0 0 []))) ∧
      (let t := s.eventSubscribe who m none
       t.sess who = some { x with classMask := recF (ofLE m.body) 0 2, srcMask := recF (ofLE m.body) 2 2 } ∧
       t.out.head? = some (.message who 0x22 (mkMsg St.ok 1 m.seq m.session 0 0 [])))) ∧
    (let mx := recF (ofLE m.body) 8 1
     0 < mx → mx ≤ (if (Who.mbx who).isSome then 31 else 8) →
     let es := ((s.mgmt.log.takeWhile (fun e => recF (ofLE m.body) 0 8 ≤ e.seq)).reverse).take mx
     (s.logRead who m none).out.head? = some (.message who 0x30
        (mkMsg St.ok 1 m.seq m.session es.length 0 ((es.map (fun e => toLE 128 (e.bytes (s.priv who)))).flatten))) ∧
      (∀ e, e ∈ es → recF (ofLE m.body) 0 8 ≤ e.seq) ∧ es.length ≤ mx) ∧
    (∀ (items : List Item) (body : List Byte) (left : Nat), items.foldl (State.runItem who) (s, true, body, left) =
      (s, true, body ++ (items.map (fun x => itemHeader x.key (b2n x.write) x.ty St.notRun x.len)).flatten, left - items.length))

/-- An admitted write to an object without a row of its own: a selector takes the value in the requester's session; a plain object
reads as the value and nothing else changes; a persistent one also reaches flash. A DISC_SELECT of an absent link, a
SENSOR_INDEX that the selected die lacks, a CAL_TEMP_FORCE_C below CAL_TEMP_DELTA_C, a BOOST_MAX_MHZ that is no multiple of 50,
an AVG_LIMIT_W above the ceiling and DEBUG_PARTITION while debug is on are REFUSED. The oldest flash write ends by storing its
value, and the last of a request lets its answer go. FACTORY_INIT on a module with work is REFUSED; otherwise the factory layout
returns, image keys go, other sessions end, and the event waits for the flash writes. (R127, R397, R419, R461, R470, R502, R504,
R507, R510) -/
def Obligations.PlainObjectsTakeTheirValues : Prop :=
  ∀ s : State,
    (∀ (who : Who) (k v : Nat) (r : ObjRow), s.ownRow who k v = none → Admits s who k v → Dict.row k = some r →
      ((k = O.DISC_SELECT ∧ s.linkPresent v = false) ∨
          (k = O.SENSOR_INDEX ∧ sensorCount (s.selOf who O.SENSOR_DIE) ≤ v) →
        exec (.registerWrite who k v) s = .next (s.send (.status who k St.refused))) ∧
      (r.sel = true → (k = O.DISC_SELECT → s.linkPresent v = true) →
        (k = O.SENSOR_INDEX → v < sensorCount (s.selOf who O.SENSOR_DIE)) →
        Completes (.registerWrite who k v) s (fun t => t.selOf who k = v ∧ Tells t who k St.ok ∧
        SameMemory s t ∧ SameWork s t ∧ SameObjects s t [])) ∧
      (r.sel = false → (k = O.AVG_LIMIT_W ∧ s.obj O.POWER_CEILING_W < v) ∨ (k = O.BOOST_MAX_MHZ ∧ v % 50 ≠ 0) ∨
          (k = O.DEBUG_PARTITION ∧ s.obj O.DEBUG_ENABLE = 1) ∨ (k = O.CAL_TEMP_FORCE_C ∧ v < s.obj O.CAL_TEMP_DELTA_C) →
        exec (.registerWrite who k v) s = .next (s.send (.status who k St.refused))) ∧
      (r.sel = false → (k = O.AVG_LIMIT_W → v ≤ s.obj O.POWER_CEILING_W) → (k = O.BOOST_MAX_MHZ → v % 50 = 0) →
        (k = O.DEBUG_PARTITION → s.obj O.DEBUG_ENABLE ≠ 1) → (k = O.CAL_TEMP_FORCE_C → s.obj O.CAL_TEMP_DELTA_C ≤ v) →
        (r.acc ≠ .rwp → exec (.registerWrite who k v) s = .next ((s.put k v).send (.status who k St.ok))) ∧
        (r.acc = .rwp → k ≠ O.PTP_ENABLE → k ≠ O.PTP_DOMAIN → k ≠ O.PTP_TRANSPORT → k ≠ O.BOOST_MAX_MHZ →
          Completes (.registerWrite who k v) s (fun t => t.obj k = v ∧ Tells t who k St.ok ∧
            (s.mgmt.defer = none → s.mgmt.persistQ = [] → t.mgmt.stored.get k (Dict.dflt s.fullConfig k) = v) ∧
            SameMemory s t ∧ SameWork s t ∧ SameObjects s t [k, O.PERSIST_WRITES])))) ∧
    (s.mgmt.persistQ = [] → exec .persistWriteComplete s = .next s) ∧
    (∀ j rest, s.mgmt.persistQ = j :: rest → j.key ≠ O.FACTORY_INIT → limitedKeys.contains j.key = false →
      Completes .persistWriteComplete s (fun t => t.mgmt.persistQ = rest ∧
        t.mgmt.stored.get (instKey j.key j.inst) 0 = j.val ∧
        t.obj O.PERSIST_WRITES = (s.obj O.PERSIST_WRITES + 1) % 2 ^ 64 ∧ SameMemory s t ∧ t.jobs = s.jobs ∧ t.net = s.net ∧
        (rest.any (·.req = j.req) = true → t.mgmt.held = s.mgmt.held ∧ t.out = s.out) ∧
        (∀ h, rest.any (·.req = j.req) = false → s.mgmt.held.find? (·.req = j.req) = some h → Who.mbx h.who = none →
          t.mgmt.held = s.mgmt.held.erase h ∧ t.out.head? = some (.message h.who h.op h.msg)))) ∧
    (∀ who v, Admits s who O.FACTORY_INIT v →
      (s.factoryOpen = false → exec (.factoryInit who v) s = .next (s.send (.status who O.FACTORY_INIT St.refused))) ∧
      (s.factoryOpen = true → Completes (.factoryInit who v) s (fun t =>
        t.layout = { links := [if s.fullConfig then 0xFFFFFF else 0xFF, 0, 0, 0] } ∧ t.sec.imageKeys = [] ∧
        (∀ n, n ≠ who.session → t.mgmt.sessions.find n = none) ∧
        t.mgmt.persistQ.getLast? = some { key := O.FACTORY_INIT, inst := 0, val := 1, req := 0 } ∧
        Tells t who O.FACTORY_INIT St.ok)))

/-- A due publication enters the queue and the next is one effective period later; at 32 entries it is lost, and counted at level 4.
The level rises after a window with a loss, to at most 4, and falls after 1 s without one. A session idle for 60 s ends. A
watchdog restart loses sessions, queue and flash writes under way. A flush numbers every buffered event gaplessly. A module
without an address becomes head with address 1 by a low ENUM_IN, or takes n + 1 after two bursts of n; 16 is refused; 3 s
without an address fails once, an overflow included; address 1 sends the BEACON, and an address is sent every second. A follower
falls back after 4 ms without a BEACON and returns on one. (R494, R495, R496, R506, R514, R515, R517) -/
def Obligations.ManagementTimersAct : Prop :=
  ∀ s : State,
    (∀ n key x u, s.mgmt.sessions.find n = some x → x.subs.find? (·.key = key) = some u →
      Completes (.publishTick n key) s (fun t => t.now = max s.now (u.next * 8) ∧
        t.mgmt.sessions = s.mgmt.sessions.set n { x with subs := x.subs.map (fun (y : Sub) => if y.key = key then
          { y with next := u.next + u.period * 2 ^ min (s.obj O.TELEMETRY_LEVEL) 3 * 1000000 } else y) } ∧
        (s.mgmt.queue.length < 32 → t.mgmt.queue = s.mgmt.queue ++ [{ cls := 3, item := .publish n key }] ∧
          t.mgmt.lossInWindow = s.mgmt.lossInWindow ∧ SameObjects s t [O.QUEUE_HIGH_WATER]) ∧
        (32 ≤ s.mgmt.queue.length → t.mgmt.queue = s.mgmt.queue ∧ t.mgmt.lossInWindow = true ∧
          t.obj O.PUBLISHES_DROPPED = (if s.obj O.TELEMETRY_LEVEL = 4 then (s.obj O.PUBLISHES_DROPPED + 1) % 2 ^ 64
            else s.obj O.PUBLISHES_DROPPED)) ∧
        SameMemory s t ∧ SameWork s t)) ∧
    (∀ at_, Completes (.telemetryLevelTick at_) s (fun t => t.now = max s.now at_ ∧ t.mgmt.lossInWindow = false ∧
      t.obj O.TELEMETRY_LEVEL = (let l := s.obj O.TELEMETRY_LEVEL
        if s.mgmt.lossInWindow = true then (if l = 0 then 1 else min 4 (l + 1))
        else if l ≠ 0 ∧ s.mgmt.lastLoss + 8000000000 ≤ max s.now at_ then l - 1 else l) ∧
      SameMemory s t ∧ SameWork s t ∧ SameObjects s t [O.TELEMETRY_LEVEL, O.EVENTS_LOST])) ∧
    (∀ n x, s.mgmt.sessions.find n = some x → s.now < 2 ^ 64 → x.lastReq + 60000000000 < 2 ^ 61 →
      Completes (.sessionExpiry n) s (fun t => t.mgmt.sessions.find n = none ∧ t.now = max s.now ((x.lastReq + 60000000000) * 8) ∧
        (∀ i, i ≠ n → t.mgmt.sessions.find i = s.mgmt.sessions.find i) ∧ SameMemory s t ∧ SameWork s t ∧ SameObjects s t [])) ∧
    (∀ bad, s.boot.alwaysOn = true → s.boot.mpUp = true → s.sec.intents = [] →
      Completes (.mpWatchdogExpiry bad) s (fun t => t.mgmt.sessions = [] ∧ t.mgmt.mbx = [] ∧ t.mgmt.queue = [] ∧
        t.mgmt.persistQ = [] ∧ t.mgmt.held = [] ∧ t.mgmt.startAt = s.now ∧ t.mgmt.log = s.mgmt.log ∧ t.now = s.now ∧
        (s.mgmt.stored.find O.MP_RESTARTS = none → t.obj O.MP_RESTARTS = (s.obj O.MP_RESTARTS + 1) % 2 ^ 64) ∧
        SameMemory s t ∧ t.jobs = s.jobs ∧ t.host = s.host ∧ t.beat = s.beat)) ∧
    (s.boot.alwaysOn = true → Completes .eventLogFlush s (fun t => t.mgmt.buffer = [] ∧
      t.mgmt.seqNext = s.mgmt.seqNext + s.mgmt.buffer.length ∧
      t.obj O.EVENTS_LOGGED = (if s.mgmt.buffer = [] then s.obj O.EVENTS_LOGGED
        else (s.obj O.EVENTS_LOGGED + s.mgmt.buffer.length) % 2 ^ 64) ∧
      (∀ e, s.mgmt.buffer = [e] → t.mgmt.log = ({ e with seq := s.mgmt.seqNext } :: s.mgmt.log).take 8388608) ∧
      SameMemory s t ∧ SameWork s t)) ∧
    (s.unaddressed = true →
      Completes .enumHeadDetect s (fun t => t.obj O.CHAIN_ADDRESS = 1 ∧ t.obj O.PLCA_NODE_ID = 0 ∧ t.obj O.ENUM_STATE = 1 ∧
        t.obj O.FIELD_LINK_STATE = 1 ∧ Out.beacon ∈ t.out ∧ SameMemory s t ∧ SameWork s t ∧
        SameObjects s t [O.CHAIN_ADDRESS, O.PLCA_NODE_ID, O.ENUM_STATE, O.FIELD_LINK_STATE, O.EVENTS_LOST]) ∧
      (∀ n, 1 ≤ n → n ≤ 16 →
        (s.mgmt.enumCand ≠ n → exec (.enumBurstRx n) s = .next { s with mgmt := { s.mgmt with enumCand := n } }) ∧
        (s.mgmt.enumCand = n → n ≤ 15 → Completes (.enumBurstRx n) s (fun t => t.obj O.CHAIN_ADDRESS = n + 1 ∧
          t.obj O.PLCA_NODE_ID = n ∧ t.obj O.ENUM_STATE = 2 ∧ t.obj O.FIELD_LINK_STATE = 1 ∧ t.mgmt.enumRx = n ∧
          SameMemory s t ∧ SameWork s t ∧
          SameObjects s t [O.CHAIN_ADDRESS, O.PLCA_NODE_ID, O.ENUM_STATE, O.FIELD_LINK_STATE, O.EVENTS_LOST])) ∧
        (s.mgmt.enumCand = n → n = 16 → Completes (.enumBurstRx n) s (fun t => t.obj O.CHAIN_ADDRESS = 0 ∧ t.obj O.ENUM_STATE = 4 ∧
          SameMemory s t ∧ SameWork s t ∧ SameObjects s t [O.ENUM_STATE, O.EVENTS_LOST]))) ∧
      (s.mgmt.enumLate = true → exec .enumFailed s = .next s) ∧
      (s.mgmt.enumLate = false → Completes .enumFailed s (fun t => t.obj O.ENUM_STATE = 3 ∧ t.obj O.CHAIN_ADDRESS = 0 ∧
        t.now = max s.now (s.mgmt.startAt + 24000000000) ∧ SameMemory s t ∧ SameWork s t ∧
        SameObjects s t [O.ENUM_STATE, O.EVENTS_LOST]))) ∧
    (s.boot.alwaysOn = true → s.boot.mpUp = true → s.obj O.CHAIN_ADDRESS ≠ 0 →
      exec .enumBurstSend s = .next (s.send (.enumBurst (s.obj O.CHAIN_ADDRESS))) ∧ exec .enumHeadDetect s = .next s ∧
      exec .enumFailed s = .next s) ∧
    (s.plcaFollower = true →
      exec .plcaBeaconRx s = .next (s.put O.FIELD_LINK_STATE 1) ∧
      (s.obj O.FIELD_LINK_STATE = 1 → Completes .plcaBeaconTimeout s (fun t => t.obj O.FIELD_LINK_STATE = 2 ∧
        t.obj O.PLCA_FALLBACKS = (s.obj O.PLCA_FALLBACKS + 1) % 2 ^ 64 ∧ SameMemory s t ∧ SameWork s t ∧
        SameObjects s t [O.FIELD_LINK_STATE, O.PLCA_FALLBACKS, O.EVENTS_LOST])))

/-- Only the owner's write of CALENDAR_SET passes the dictionary's checks. While PTP_STATE is not LOCKED a value other than 0
becomes the counter's, CALENDAR_VALID is 1, CALENDAR_STEPS counts it, the newest entry of the audit ring names the old and the
new value, and the answer is OK. In LOCKED, or with value 0, the write is REFUSED and changes nothing. (R528) -/
def Obligations.CalendarSetStepsTheCounter : Prop :=
  ∀ (who : Who) (v : Nat) (s : State), Admits s who O.CALENDAR_SET v →
    s.priv who = .owner ∧
    (s.ptpState ≠ 3 → v ≠ 0 → Completes (.calendarSet who v) s (fun t => t.cal = v ∧ t.obj O.CALENDAR_VALID = 1 ∧
      t.obj O.CALENDAR_STEPS = (s.obj O.CALENDAR_STEPS + 1) % 2 ^ 64 ∧ Tells t who O.CALENDAR_SET St.ok ∧
      (∃ e, t.sec.auditRing.head? = some e ∧ e.seq = s.sec.auditNext ∧ e.kind = 9 ∧ e.key = O.CALENDAR_SET ∧
        e.old = s.calNs % 2 ^ 128 ∧ e.new = v % 2 ^ 128 ∧ e.path = Who.pathCode who) ∧
      t.now = s.now ∧ t.beat = s.beat ∧ SameMemory s t ∧ SameWork s t ∧
      SameObjects s t [O.CALENDAR_VALID, O.CALENDAR_STEPS, O.EVENTS_LOST])) ∧
    (s.ptpState = 3 ∨ v = 0 → exec (.calendarSet who v) s = .next (s.send (.status who O.CALENDAR_SET St.refused)))

/-- The selected master is a usable one with the least comparison vector. A first usable Announce in the domain selects its master,
enters ACQUIRING, and gives leap flag and UTC offset; others are ignored. A Sync result gives the offset; in ACQUIRING more than
1 ms, or no valid time, steps, and less slews; the sixteenth within 250 ns locks; in LOCKED the fourth beyond 10 microseconds
enters HOLDOVER. A two-step Sync waits for its Follow_Up. Half the round trip is the mean path. 4 s without a Sync in LOCKED
enter HOLDOVER, 24 h there LISTENING. A leap second changes the UTC offset once. Backup voltages are published. (R525, R526,
R527, R529) -/
def Obligations.CalendarFollowsItsMaster : Prop :=
  ∀ s : State,
    (∀ m, s.bestMaster = some m → m ∈ s.time.masters ∧ m.usable = true ∧ s.ptpOn m.port = true ∧
      ∀ x, x ∈ s.time.masters → x.usable = true → s.ptpOn x.port = true → m.vec ≤ x.vec) ∧
    (∀ (port : Fin 2) (a : Announce),
      (s.ptpOn port.val = false ∨ a.domain ≠ s.obj O.PTP_DOMAIN → exec (.ptpAnnounceRx port a) s = .next s) ∧
      (s.ptpOn port.val = true → a.domain = s.obj O.PTP_DOMAIN → -7 ≤ a.logSyncInterval → a.logSyncInterval ≤ 0 → s.time.masters = [] →
        Completes (.ptpAnnounceRx port a) s (fun t => t.ptpState = 2 ∧ t.obj O.PTP_PORT = port.val ∧
          t.obj O.GRANDMASTER_ID = a.grandmaster ∧ t.follows port.val a.source = true ∧
          t.obj O.LEAP_PENDING = (if a.leap61 = true then 1 else if a.leap59 = true then 2 else 0) ∧
          t.obj O.UTC_OFFSET_S = (if a.utcValid = true then ofInt 32 a.utcOffset else s.obj O.UTC_OFFSET_S) ∧
          t.time.cal8 = s.time.cal8 ∧ SameMemory s t ∧ SameWork s t))) ∧
    (∀ (port : Fin 2) (domain source seq at_ origin : Nat) (two : Bool), let u := s.upTo at_
      (s.ptpOn port.val = false ∨ domain ≠ s.obj O.PTP_DOMAIN ∨ s.follows port.val source = false →
        exec (.ptpSyncRx port domain source seq at_ origin two) s = .next u) ∧
      (s.ptpOn port.val = true → domain = s.obj O.PTP_DOMAIN → s.follows port.val source = true →
        exec (.ptpSyncRx port domain source seq at_ origin true) s =
          .next { u with time := { u.time with syncSeq := seq, syncRx := u.cal, syncPending := true } } ∧
        let off : Int := (u.cal : Int) - origin - s.obj O.PTP_MEAN_PATH_NS
        let far := 1000000 < off.natAbs ∨ s.obj O.CALENDAR_VALID = 0
        Completes (.ptpSyncRx port domain source seq at_ origin false) s (fun t =>
          t.obj O.PTP_OFFSET_NS = ofInt 32 (max (-2147483648) (min 2147483647 off)) ∧ t.now = max s.now at_ ∧
          (s.ptpState = 2 → far → t.cal = ((u.cal : Int) - off).toNat ∧ t.obj O.CALENDAR_VALID = 1 ∧ t.ptpState = 2 ∧
            t.obj O.CALENDAR_STEPS = (s.obj O.CALENDAR_STEPS + 1) % 2 ^ 64) ∧
          (s.ptpState = 2 → ¬far → t.time.slew = -off * 8 ∧ t.time.cal8 = u.time.cal8 ∧
            (off.natAbs ≤ 250 → 15 ≤ s.time.goodRun → t.ptpState = 3) ∧
            (250 < off.natAbs → t.ptpState = 2 ∧ t.time.goodRun = 0)) ∧
          (s.ptpState = 3 → off.natAbs ≤ 10000 → t.ptpState = 3 ∧ t.time.slew = -off * 8 ∧ t.time.badRun = 0) ∧
          (s.ptpState = 3 → 10000 < off.natAbs → 3 ≤ s.time.badRun → t.ptpState = 4 ∧ t.time.slew = 0 ∧
            t.obj O.PTP_LOCK_LOSSES = (s.obj O.PTP_LOCK_LOSSES + 1) % 2 ^ 64) ∧
          SameMemory s t ∧ SameWork s t))) ∧
    (∀ (port : Fin 2) (domain source seq origin : Nat),
      (s.ptpOn port.val = true → domain = s.obj O.PTP_DOMAIN → s.follows port.val source = true → s.time.syncPending = true →
        s.time.syncSeq = seq → exec (.ptpFollowUpRx port domain source seq origin) s =
          .next (({ s with time := { s.time with syncPending := false } }).syncResult origin s.time.syncRx)) ∧
      (s.time.syncPending = false ∨ s.time.syncSeq ≠ seq → exec (.ptpFollowUpRx port domain source seq origin) s = .next s)) ∧
    (∀ m, s.bestMaster = some m → Completes .ptpDelayReqSend s (fun t => t.time.reqTx = s.cal ∧ t.time.reqPending = true ∧
      t.time.reqSeq = (s.time.reqSeq + 1) % 65536 ∧ t.out = .delayReq m.port ((s.time.reqSeq + 1) % 65536) :: s.out ∧
      SameMemory s t ∧ SameWork s t ∧ SameObjects s t [])) ∧
    (∀ (port : Fin 2) (domain source seq rx : Nat), s.ptpOn port.val = true → domain = s.obj O.PTP_DOMAIN →
      s.follows port.val source = true → s.time.reqPending = true → s.time.reqSeq = seq → s.time.haveSync = true →
      Completes (.ptpDelayRespRx port domain source seq rx) s (fun t => t.time.reqPending = false ∧
        t.obj O.PTP_MEAN_PATH_NS = min 0xFFFFFFFF
          ((((s.time.lastRx : Int) - s.time.lastOrigin) + ((rx : Int) - s.time.reqTx)) / 2).toNat ∧
        SameMemory s t ∧ SameWork s t ∧ SameObjects s t [O.PTP_MEAN_PATH_NS])) ∧
    (s.ptpState = 3 → Completes .ptpSyncLoss s (fun t => t.ptpState = 4 ∧ t.time.slew = 0 ∧
      t.now = max s.now (s.time.lastSync + 32000000000) ∧ t.obj O.PTP_LOCK_LOSSES = (s.obj O.PTP_LOCK_LOSSES + 1) % 2 ^ 64 ∧
      SameMemory s t ∧ SameWork s t)) ∧
    (s.ptpState = 4 → Completes .ptpHoldoverExpiry s (fun t => t.ptpState = 1 ∧
      t.now = max s.now (s.time.holdSince + 691200000000000) ∧ SameMemory s t ∧ SameWork s t)) ∧
    (∀ at_, s.obj O.LEAP_PENDING ≠ 0 → s.obj O.CALENDAR_VALID ≠ 0 → Completes (.leapSecond at_) s (fun t =>
      t.obj O.UTC_OFFSET_S = ofInt 32 (toInt 32 (s.obj O.UTC_OFFSET_S) + (if s.obj O.LEAP_PENDING = 1 then 1 else -1)) ∧
      t.obj O.LEAP_PENDING = 0 ∧ t.now = max s.now at_ ∧ t.time = (s.upTo at_).time ∧ SameMemory s t ∧ SameWork s t)) ∧
    (∀ sc coin, Completes (.backupLow sc coin) s (fun t => t.obj O.SUPERCAP_V = sc ∧ t.obj O.COIN_CELL_V = coin ∧
      SameMemory s t ∧ SameWork s t ∧ SameObjects s t [O.SUPERCAP_V, O.COIN_CELL_V, O.EVENTS_LOST]))

/-- An admitted chunk at a good offset is staged and the offset moves by 1,024; a commit that verifies goes to the inactive slot and
makes it active, and any other leaves both slots. The first owner key comes through any mailbox; a wrapped one replaces it and
ends other sessions; one that does not unwrap is REFUSED. Image and link keys take their slots. Revocation keeps every bit and
one good root. A limited write of the present value spends nothing, one without changes left answers LIMIT_SPENT, and any other
good one takes the value and spends a change; RTV_MODE zeroes keys, checkpoints and sessions. A generator that fails stops until
its restart test passes. (R530, R532, R533, R534, R535, R536, R537, R539, R540) -/
def Obligations.KeysFirmwareAndLimits : Prop :=
  ∀ (who : Who) (v : Nat) (s : State),
    (Admits s who O.FW_UPDATE_OFFSET v →
      exec (.fwUpdateOffset who v) s = .next ((s.put O.FW_UPDATE_OFFSET v).send (.status who O.FW_UPDATE_OFFSET St.ok))) ∧
    (Admits s who O.FW_UPDATE_CHUNK v → let off := s.obj O.FW_UPDATE_OFFSET
      (off % 1024 = 0 → (off = 0 ∨ s.stageEnd ≤ off) → off + 1024 < 2 ^ 32 →
        Completes (.fwUpdateChunk who v) s (fun t => t.obj O.FW_UPDATE_OFFSET = off + 1024 ∧ t.sec.stage.find (off / 1024) = some v ∧
          (∀ i, i ≠ off / 1024 → t.sec.stage.find i = (if off = 0 then none else s.sec.stage.find i)) ∧
          Tells t who O.FW_UPDATE_CHUNK St.ok ∧ SameMemory s t ∧ SameWork s t ∧ SameObjects s t [O.FW_UPDATE_OFFSET])) ∧
      (off % 1024 ≠ 0 ∨ (off ≠ 0 ∧ off < s.stageEnd) →
        exec (.fwUpdateChunk who v) s = .next (s.send (.status who O.FW_UPDATE_CHUNK St.refused)))) ∧
    (Admits s who O.FW_UPDATE_COMMIT v →
      (s.fwResult = 0 → Completes (.fwUpdateCommit who v) s (fun t =>
        let x : FwSlot := { version := Config.fwVersion s.stagedFw % 2 ^ 32, keySlot := Config.fwKeySlot s.stagedFw % 4, valid := true }
        (s.obj O.FW_ACTIVE_SLOT = 0 → t.sec.slotB = x ∧ t.sec.slotA = s.sec.slotA ∧ t.obj O.FW_ACTIVE_SLOT = 1) ∧
        (s.obj O.FW_ACTIVE_SLOT = 1 → t.sec.slotA = x ∧ t.sec.slotB = s.sec.slotB ∧ t.obj O.FW_ACTIVE_SLOT = 0) ∧
        t.obj O.FW_UPDATE_RESULT = 0 ∧ t.sec.auditNext = s.sec.auditNext + 1 ∧ Tells t who O.FW_UPDATE_COMMIT St.ok ∧
        SameMemory s t ∧ SameWork s t)) ∧
      (s.fwResult ≠ 0 → exec (.fwUpdateCommit who v) s =
        .next ((s.put O.FW_UPDATE_RESULT s.fwResult).send (.status who O.FW_UPDATE_COMMIT St.refused)))) ∧
    (∀ n, who.path = .mailbox n → s.served who = true → s.obj O.OWNER_KEY_STATE = 0 → s.obj O.RTV_MODE = 0 → v < 2 ^ 256 →
      Admits s who O.OWNER_KEY_INIT v) ∧
    (Admits s who O.OWNER_KEY_INIT v →
      ((∃ n, who.path = .mailbox n) → s.obj O.OWNER_KEY_STATE = 0 → s.obj O.RTV_MODE ≠ 1 → Completes (.ownerKeyInit who v) s (fun t => t.sec.ownerKey = v ∧
        t.obj O.OWNER_KEY_STATE = 1 ∧ t.sec.auditNext = s.sec.auditNext + 1 ∧ Tells t who O.OWNER_KEY_INIT St.ok ∧
        t.mgmt.sessions = s.mgmt.sessions ∧ SameMemory s t ∧ SameWork s t ∧ SameObjects s t [O.OWNER_KEY_STATE, O.EVENTS_LOST])) ∧
      ((∀ n, who.path ≠ .mailbox n) ∨ s.obj O.OWNER_KEY_STATE ≠ 0 ∨ s.obj O.RTV_MODE = 1 →
        exec (.ownerKeyInit who v) s = .next (s.send (.status who O.OWNER_KEY_INIT St.refused)))) ∧
    (Admits s who O.OWNER_KEY_NEXT v →
      (s.unwrapKey 40 v = none → exec (.ownerKeyNext who v) s = .next (s.send (.status who O.OWNER_KEY_NEXT St.refused))) ∧
      (∀ k, s.unwrapKey 40 v = some k → Completes (.ownerKeyNext who v) s (fun t => t.sec.ownerKey = k ∧
        (∀ n, n ≠ who.session → t.mgmt.sessions.find n = none) ∧ t.sess who = s.sess who ∧ Tells t who O.OWNER_KEY_NEXT St.ok ∧
        SameMemory s t ∧ SameWork s t ∧ SameObjects s t [O.EVENTS_LOST]))) ∧
    (∀ slot : Fin 8, Admits s who O.IMAGE_KEY v → Completes (.imageKeyWrite who slot v) s (fun t =>
      t.sec.imageKeys.get slot.val 0 = v ∧ (∀ i, i ≠ slot.val → t.sec.imageKeys.find i = s.sec.imageKeys.find i) ∧
      t.sec.auditNext = s.sec.auditNext + 1 ∧ Tells t who O.IMAGE_KEY St.ok ∧ SameMemory s t ∧ SameWork s t ∧
      SameObjects s t [O.PERSIST_WRITES, O.EVENTS_LOST])) ∧
    (∀ sel : Fin 128, Admits s who O.LINK_KEY v → let n := sel.val / 4
      (s.linkPresent n = false ∨ (s.link n).express = true ∨ s.unwrapKey 48 v = none →
        exec (.linkKeyWrite who sel v) s = .next (s.send (.status who O.LINK_KEY St.refused))) ∧
      (∀ b, s.linkPresent n = true → (s.link n).express = false → s.unwrapKey 48 v = some b → recF b 36 4 = 0 →
        Completes (.linkKeyWrite who sel v) s (fun t => t.sec.linkKeys.find sel.val = some (b % 2 ^ 288) ∧
          (∀ i, i ≠ sel.val → i ≠ 4 * n + (s.link n).txPhase % 2 → t.sec.linkKeys.find i = s.sec.linkKeys.find i) ∧
          (sel.val / 2 % 2 = 1 ∨ sel.val % 2 = (s.link n).txPhase % 2 → ∀ i, i ≠ sel.val → t.sec.linkKeys.find i = s.sec.linkKeys.find i) ∧
          (t.link n).txPhase % 2 = (if sel.val / 2 % 2 = 0 then sel.val % 2 else (s.link n).txPhase % 2) ∧
          (sel.val / 2 % 2 = 0 → (t.link n).txCtr = (s.link n).txNext ∧ (t.link n).keyStop = false) ∧
          Tells t who O.LINK_KEY St.ok ∧ SameMemory s t ∧ t.jobs = s.jobs ∧ SameObjects s t [O.EVENTS_LOST]))) ∧
    (Admits s who O.VENDOR_KEY_REVOKED v → let old := s.obj O.VENDOR_KEY_REVOKED
      let good := old &&& v = old ∧ v % 16 ≠ 15 ∧ s.sec.slotA.valid = true ∧ s.sec.slotB.valid = true ∧
        bit v s.sec.slotA.keySlot = false ∧ bit v s.sec.slotB.keySlot = false
      (good → Completes (.vendorKeyRevoked who v) s (fun t => t.obj O.VENDOR_KEY_REVOKED = v ∧
        Tells t who O.VENDOR_KEY_REVOKED St.ok ∧ SameMemory s t ∧ SameWork s t ∧
        SameObjects s t [O.VENDOR_KEY_REVOKED, O.EVENTS_LOST])) ∧
      (¬good → exec (.vendorKeyRevoked who v) s = .next (s.send (.status who O.VENDOR_KEY_REVOKED St.refused)))) ∧
    (let limited := fun (k : Nat) (c : Instr) => Admits s who k v →
      let left := s.obj (leftKey k)
      let bad := (k = O.SECURITY_VERSION_FLOOR ∧ (v < s.limitedNow k ∨ min s.sec.slotA.version s.sec.slotB.version < v)) ∨
        (k = O.RTV_MODE ∧ (v ≠ 1 ∨ s.rtvOpen = false))
      (v = s.limitedNow k → exec c s = .next (s.send (.status who k St.ok))) ∧
      (v ≠ s.limitedNow k → bad → exec c s = .next (s.send (.status who k St.refused))) ∧
      (v ≠ s.limitedNow k → ¬bad → left = 0 → exec c s = .next (s.send (.status who k St.limitSpent))) ∧
      (v ≠ s.limitedNow k → ¬bad → left ≠ 0 → s.auditRoom 1 = true → s.mgmt.defer = none →
        Completes c s (fun t => t.obj k = v ∧ t.obj (leftKey k) = left - 1 ∧ Tells t who k St.ok ∧
          (k ≠ O.RTV_MODE → t.sec.auditNext = s.sec.auditNext + 2 ∧ SameMemory s t ∧ SameWork s t) ∧
          (k = O.RTV_MODE → t.sec.ownerKey = 0 ∧ t.sec.imageKeys = [] ∧ t.sec.linkKeys = [] ∧ t.flashCk = [] ∧
            t.mgmt.sessions = [] ∧ t.mgmt.mbx = [] ∧ t.obj O.OWNER_KEY_STATE = 0 ∧
            (Memory.wf s.mem = true → ∀ a, a < 2 ^ 48 → Memory.read t.mem a = 0))))
    limited O.POWER_CEILING_SET_W (.powerCeilingSetW who v) ∧ limited O.PARTITION_LAYOUT_LOCK (.partitionLayoutLock who v) ∧
    limited O.SECURITY_VERSION_FLOOR (.securityVersionFloor who v) ∧ limited O.RTV_MODE (.rtvMode who v)) ∧
    Completes .rngHealthFail s (fun t => t.obj O.SC_STATE = 1 ∧ SameMemory s t ∧ SameWork s t ∧
      SameObjects s t [O.SC_STATE, O.EVENTS_LOST]) ∧
    exec (.rngRestartTest true) s = .next (s.put O.SC_STATE 0) ∧ exec (.rngRestartTest false) s = .next s

/-- A reset, by pin, write, self-reset or watchdog, loses jobs, memory, sessions and the network's place, keeps layout, keys and
flash, counts itself with its cause, and starts at S1; power-on starts at S0. A write of MODULE_RESET acts 10 ms later, and is
REFUSED within 60 s of a trip; a pin pulse below 2 microseconds is ignored. A stage that ends passes on to the next: S1 starts
the MP from a good slot, S3 clocks at 1,800 MHz, S4 sets the scan latch, S7 brings the interfaces up, S8 makes the module ready.
A stage over its limit, too little capacitance, a bad signature, a faulty array or too few spare rows end in reset-hold with
their cause. ENGAGE_N works the input switch, and a released PERST_N trains its port. (R450, R545, R546, R547, R548, R549, R552,
R553, R554, R555, R556, R559) -/
def Obligations.ResetsAndBringUpRunInOrder : Prop :=
  ∀ s : State,
    let fresh := fun (cause stage : Nat) (t : State) =>
      t.obj O.RESET_CAUSE = cause ∧ t.obj O.BRINGUP_STAGE = stage ∧ t.obj O.RESET_COUNT = (s.obj O.RESET_COUNT + 1) % 2 ^ 64 ∧
      t.obj O.CHIP_STATE = 0 ∧ t.obj O.BEAT_STATE = 0 ∧ t.obj O.MODULE_READY = 0 ∧ t.mem = [] ∧ t.jobs = [] ∧ t.host = {} ∧ t.beat = {} ∧
      t.now = 0 ∧ t.mgmt.sessions = [] ∧ t.mgmt.queue = [] ∧ t.mgmt.buffer = [] ∧ t.sec.linkKeys = [] ∧ t.net.epoch = [] ∧
      t.boot.alwaysOn = true ∧ t.boot.mpUp = false ∧ t.boot.ifUp = false ∧ t.boot.stopCause = none ∧
      t.layout = s.layout ∧ t.sec.ownerKey = s.sec.ownerKey ∧ t.sec.imageKeys = s.sec.imageKeys ∧ t.flashCk = s.flashCk ∧
      t.storeCk = s.storeCk ∧ t.pending = s.pending
    let held := fun (cause : Nat) (t : State) => t.obj O.BRINGUP_STAGE = 10 ∧ t.obj O.RESET_HOLD_CAUSE = cause ∧
      recF (t.obj O.BIST_RECORD) 0 1 = cause ∧ t.obj O.MODULE_READY = 0 ∧ t.boot.ifUp = false ∧ t.obj O.CLOCK_MHZ = 0
    (∀ lost n, (s.boot.alwaysOn = true → exec (.powerOn lost n) s = .next s) ∧
      (s.boot.alwaysOn = false → Completes (.powerOn lost n) s (fun t => fresh 1 0 t ∧
        (lost = true → t.time.cal8 = 0 ∧ t.time.calLost = true ∧ t.obj O.CALENDAR_VALID = 0)))) ∧
    (∀ ns, s.boot.alwaysOn = true → s.afterTrip = false → 10000 ≤ ns → Completes (.moduleResetNPin ns) s (fresh 2 1)) ∧
    (∀ ns, s.afterTrip = true ∨ ns < 2000 → exec (.moduleResetNPin ns) s = .next s) ∧
    (∀ who v, Admits s who O.MODULE_RESET v →
      (s.afterTrip = true → exec (.moduleReset who v) s = .next (s.send (.status who O.MODULE_RESET St.refused))) ∧
      (s.afterTrip = false → Completes (.moduleReset who v) s (fun t => t.boot.resetAt = some (s.now + 80000000) ∧
        Tells t who O.MODULE_RESET St.ok ∧ SameMemory s t ∧ SameWork s t ∧ SameObjects s t []))) ∧
    (∀ at_, s.boot.resetAt = some at_ → s.boot.alwaysOn = true → Completes .moduleResetDelay s (fresh 3 1)) ∧
    (∀ at_, s.power.goodSince = some at_ → s.boot.alwaysOn = true → s.boot.stopCause ∈ [some 1, some 2, some 4] →
      Completes .selfResetAfterStop s (fresh 4 1)) ∧
    (∀ at_, s.boot.tripEnd = some at_ → s.boot.alwaysOn = true → s.boot.stopCause = some 3 →
      Completes .selfResetAfterTrip s (fresh 5 1)) ∧
    (s.boot.alwaysOn = true → Completes .scWatchdogExpiry s (fun t => fresh 6 1 t ∧ t.time.cal8 = s.time.cal8)) ∧
    (Completes .engageAssert s (fun t => t.boot.engageLow = true ∧ t.boot.switchClosed = !s.power.ovOpen ∧ t.dict = s.dict ∧
      SameMemory s t ∧ SameWork s t)) ∧
    (Completes .engageRelease s (fun t => t.boot.engageLow = false ∧ t.boot.switchClosed = false ∧ t.dict = s.dict ∧
      SameMemory s t ∧ SameWork s t)) ∧
    (∀ (port : Fin 4) (refclk : Bool) (rate width : Nat), Completes (.perstNRelease port refclk rate width) s (fun t =>
      bit t.boot.perst port.val = true ∧
      (s.portsUp = true → refclk = true → rate ∈ [25, 50, 80, 160, 320, 640] → width ∈ [1, 2, 4, 8] →
        t.obj (O.at O.PCIE_RATE port.val) = rate ∧ t.obj (O.at O.PCIE_WIDTH port.val) = width) ∧
      (s.portsUp = true → refclk = false →
        t.obj (O.at O.PCIE_RATE port.val) = 0 ∧ t.obj (O.at O.PCIE_WIDTH port.val) = 0) ∧
      (s.portsUp = false → t.dict = s.dict) ∧ SameMemory s t ∧ SameWork s t)) ∧
    (∀ (at_ : Nat) (obs : StageObs), let k := s.obj O.BRINGUP_STAGE
      let u := s.upTo at_
      (8 < k → exec (.bringupStageComplete at_ obs) s = .next s) ∧
      (s.inStage k = true → 2 ≤ k → k ≤ 8 → s.power.alert = true →
        exec (.bringupStageComplete at_ obs) s = .next { u with boot := { u.boot with paused := some (u.boot.paused.getD u.now) } }) ∧
      (s.inStage k = true → s.power.alert = false → Completes (.bringupStageComplete at_ obs) s (fun t =>
        (k = 0 → t.obj O.BRINGUP_STAGE = 1 ∧ t.now = 0) ∧
        (k = 1 → s.obj O.FW_ACTIVE_SLOT = 0 → obs.slotA = none → s.fwGood s.sec.slotA = true → s.sec.intents = [] →
          s.mgmt.stored = [] → obs.lost = [] → t.obj O.BRINGUP_STAGE = 2 ∧ t.boot.mpUp = true ∧ t.mgmt.sessions = []) ∧
        (k = 1 → (obs.slotA ≠ none ∨ s.fwGood s.sec.slotA = false) → (obs.slotB ≠ none ∨ s.fwGood s.sec.slotB = false) →
          held 1 t ∧ t.boot.mpUp = s.boot.mpUp) ∧
        (k = 2 → (t.obj O.BRINGUP_STAGE = 3 ↔ (∃ m, s.supplyMet = some m ∧ m ≤ max s.now at_) ∧ s.boot.capDone = true ∧ s.railGood = true)) ∧
        (k = 3 → t.obj O.BRINGUP_STAGE = 4 ∧ t.obj O.CLOCK_MHZ = 1800) ∧
        (k = 4 → obs.readBack = 0 → t.obj O.BRINGUP_STAGE = 5 ∧ t.boot.scanLatch = true ∧ t.sec.linkKeys = [] ∧ t.mgmt.sessions = []) ∧
        (k = 4 → obs.readBack ≠ 0 → held 3 t) ∧
        (k = 5 → (t.obj O.BRINGUP_STAGE = 6 ↔ s.boot.wave = 4 ∧ s.boot.onchipDone = true ∧ s.boot.hbmDone = 255)) ∧
        (k = 6 → t.mem = [] ∧ t.poison = [] ∧ (∀ g, obs.grist = some g → g.2 ≠ gristCheck → held 6 t)) ∧
        (k = 7 → obs.bridleBad = true → held 1 t) ∧
        (k = 7 → obs.bridleBad = false → t.obj O.BRINGUP_STAGE = 8 ∧ t.boot.ifUp = true ∧ t.obj O.TRIM_POWER = 64) ∧
        (k = 8 → t.obj O.BRINGUP_STAGE = 9 ∧ t.obj O.MODULE_READY = 1 ∧ recF (t.obj O.BIST_RECORD) 0 1 = 0 ∧
          recF (t.obj O.BIST_RECORD) 1 1 = 9)))) ∧
    (∀ t0, s.limitFrom = some t0 → s.obj O.BRINGUP_STAGE ≤ 8 → s.inStage (s.obj O.BRINGUP_STAGE) = true → s.boot.paused = none →
      Completes .stageTimeout s (fun t => held 8 t ∧ t.now = max s.now (t0 + stageLimit (s.obj O.BRINGUP_STAGE)))) ∧
    (∀ v0 fall, s.inStage 2 = true → let vd := ((f32 v0).mul (f32 fall)).1
      Completes (.capacitanceMeasure v0 fall) s (fun t => t.boot.capDone = true ∧
        ((Num.fin false 400000 0).lt (((Num.fin false 2500 0).mul vd).1) = true → held 2 t) ∧
        ((Num.fin false 400000 0).lt (((Num.fin false 2500 0).mul vd).1) = false → t.obj O.BRINGUP_STAGE = 2) ∧ SameMemory s t ∧ t.jobs = s.jobs)) ∧
    (∀ bad : List BadSignature, s.inStage 5 = true → s.boot.wave < 4 → s.boot.scanLatch = true →
      (bad = [] → exec (.lbistWaveComplete bad) s =
        .next { s with boot := { s.boot with wave := s.boot.wave + 1, waveHalved := false } }) ∧
      (∀ b, bad = [b] → inWave s.boot.wave b.die b.part = true → b.expected ≠ b.found → b.die < 6 → b.part < 24 →
        Completes (.lbistWaveComplete bad) s (fun t => held 4 t ∧ recF (t.obj O.BIST_RECORD) 2 1 = b.die ∧
          recF (t.obj O.BIST_RECORD) 3 1 = b.part ∧ recF (t.obj O.BIST_RECORD) 4 1 = s.boot.wave))) ∧
    (∀ power, s.inStage 5 = true → s.boot.wave < 4 → s.boot.waveHalved = false → fLt 0x442A0000 power = true →
      Completes (.bistPowerSample power) s (fun t => t.boot.waveHalved = true ∧
        t.obj O.BIST_SLOWED_COUNT = (s.obj O.BIST_SLOWED_COUNT + 1) % 2 ^ 64 ∧ SameMemory s t ∧ SameWork s t)) ∧
    (s.inStage 5 = true → exec (.onchipMbistComplete none) s = .next { s with boot := { s.boot with onchipDone := true } } ∧
      ∀ b, Completes (.onchipMbistComplete (some b)) s (fun t => held 5 t ∧ recF (t.obj O.BIST_RECORD) 2 1 = b.1.val ∧
        recF (t.obj O.BIST_RECORD) 3 1 = b.2.val)) ∧
    (∀ (stack : Fin 8) (found : List Nat) (spares : Nat), s.inStage 5 = true →
      let want := (s.boot.repairs.filter (fun r => r / 2 ^ 32 = stack.val) ++
        (found.map (fun r => stack.val * 2 ^ 32 + r % 2 ^ 32))).eraseDups
      Completes (.hbmSelfTestComplete stack found spares) s (fun t =>
        t.boot.repairs = s.boot.repairs.filter (fun r => r / 2 ^ 32 ≠ stack.val) ++ want.drop spares ∧
        (want.length ≤ spares → bit t.boot.hbmDone stack.val = true ∧ t.obj O.BRINGUP_STAGE = 5 ∧ SameWork s t) ∧
        (spares < want.length → held 5 t ∧ recF (t.obj O.BIST_RECORD) 2 1 = 8 + stack.val) ∧ SameMemory s t ∧ t.jobs = s.jobs))
end

