-- ==== Sys2Proof/Laws/Tab.lean ====
section
/-! SUPPORT. Tab.lean: laws of keyed tables: reading after writing, and the rising order of keys. -/

namespace Sys2Proof

/-- Reading a table after one entry of it was set. -/
theorem Tab.get_set {β : Type} (t : Tab β) (k : Nat) (v : β) (i : Nat) (d : β) :
    (Tab.set t k v).get i d = if i = k then v else t.get i d := by
  induction t with
  | nil => simp [Tab.set, Tab.get]
  | cons e t ih =>
    obtain ⟨k', v'⟩ := e
    simp only [Tab.set]
    split
    · subst k'; simp only [Tab.get]; split <;> rfl
    · split
      · simp only [Tab.get]
      · simp only [Tab.get, ih]
        split <;> split <;> first | rfl | (exfalso; omega)

/-- Finding an entry after one was set. -/
theorem Tab.find_set {β : Type} (t : Tab β) (k : Nat) (v : β) (i : Nat) :
    (Tab.set t k v).find i = if i = k then some v else t.find i := by
  induction t with
  | nil => simp [Tab.set, Tab.find]
  | cons e t ih =>
    obtain ⟨k', v'⟩ := e
    simp only [Tab.set]
    split
    · subst k'; simp only [Tab.find]; split <;> rfl
    · split
      · simp only [Tab.find]
      · simp only [Tab.find, ih]
        split <;> split <;> first | rfl | (exfalso; omega)

end Sys2Proof

namespace Sys2Proof.Machine

theorem Tab.rising_cons {β : Type} (k : Nat) (v : β) (t : Tab β) :
    Tab.rising ((k, v) :: t) = true ↔ (∀ e ∈ t.head?, k < e.1) ∧ Tab.rising t = true := by
  cases t <;> simp [Tab.rising]

/-- Setting an entry keeps the keys rising. -/
theorem Tab.rising_set {β : Type} (t : Tab β) (k : Nat) (v : β) (h : Tab.rising t = true) : Tab.rising (t.set k v) = true := by
  induction t with
  | nil => rfl
  | cons e t ih =>
    obtain ⟨k', v'⟩ := e
    rw [Tab.rising_cons] at h
    simp only [Tab.set]
    split
    · subst k'; rw [Tab.rising_cons]; exact h
    · split
      · rw [Tab.rising_cons, Tab.rising_cons]; simp_all
      · rw [Tab.rising_cons]
        refine ⟨?_, ih h.2⟩
        cases t with
        | nil => simp [Tab.set]; omega
        | cons f t =>
          obtain ⟨k'', v''⟩ := f
          simp only [Tab.set]
          have := h.1 (k'', v'') rfl
          split
          · simpa using by omega
          · split
            · simpa using by omega
            · simpa using this

theorem Tab.rising_iff {β : Type} (t : Tab β) : Tab.rising t = true ↔ t.Pairwise (fun a b => a.1 < b.1) := by
  induction t with
  | nil => simp [Tab.rising]
  | cons e t ih =>
    obtain ⟨k, v⟩ := e
    rw [Tab.rising_cons, ih, List.pairwise_cons]
    constructor
    · rintro ⟨h, hp⟩
      refine ⟨fun a ha => ?_, hp⟩
      cases t with
      | nil => cases ha
      | cons f t =>
        have hf : k < f.1 := h f (by simp)
        rcases List.mem_cons.mp ha with rfl | ha
        · exact hf
        · exact Nat.lt_trans hf ((List.pairwise_cons.mp hp).1 a ha)
    · rintro ⟨h, hp⟩
      refine ⟨fun e he => h e (List.mem_of_mem_head? he), hp⟩

/-- Dropping entries keeps the keys rising. -/
theorem Tab.rising_filter {β : Type} (t : Tab β) (f : Nat × β → Bool) (h : Tab.rising t = true) :
    Tab.rising (List.filter f t) = true := by
  rw [Tab.rising_iff] at *; exact h.filter f

end Sys2Proof.Machine
end

