-- ==== Sys2Proof/Laws/Memory.lean ====
section
/-! SUPPORT. Memory.lean: laws of memory: every operation keeps its canonical form, and what a byte reads as afterwards. -/

namespace Sys2Proof.Machine

theorem Memory.wf_cons (c : Host.Cell) (m : List Host.Cell) :
    Memory.wf (c :: m) = true ↔ c.2 ≠ 0 ∧ (∀ d ∈ m.head?, c.1 < d.1) ∧ Memory.wf m = true := by
  cases m <;> simp [Memory.wf, and_assoc]

theorem Memory.wf_iff (m : List Host.Cell) :
    Memory.wf m = true ↔ (∀ c ∈ m, c.2 ≠ 0) ∧ m.Pairwise (fun a b => a.1 < b.1) := by
  induction m with
  | nil => simp [Memory.wf]
  | cons c m ih =>
    rw [Memory.wf_cons, ih, List.pairwise_cons]
    constructor
    · rintro ⟨h0, hh, hz, hp⟩
      refine ⟨fun d hd => ?_, fun a ha => ?_, hp⟩
      · rcases List.mem_cons.mp hd with rfl | hd
        · exact h0
        · exact hz d hd
      · cases m with
        | nil => cases ha
        | cons f m =>
          have hf : c.1 < f.1 := hh f rfl
          rcases List.mem_cons.mp ha with rfl | ha
          · exact hf
          · exact Nat.lt_trans hf ((List.pairwise_cons.mp hp).1 a ha)
    · rintro ⟨hz, hl, hp⟩
      exact ⟨hz c (by simp), fun d hd => hl d (List.mem_of_mem_head? hd), fun d hd => hz d (by simp [hd]), hp⟩

theorem Memory.wf_cons_byte (a : Nat) (b : Byte) (m : List Host.Cell) (hm : Memory.wf m = true) (h : ∀ d ∈ m.head?, a < d.1) :
    Memory.wf (Memory.cons a b m) = true := by
  unfold Memory.cons
  split
  · exact hm
  · rw [Memory.wf_cons]; exact ⟨‹_›, h, hm⟩

/-- The first address of memory after a write is the first before it, or the address written, or a later one. -/
theorem Memory.head_write (m : List Host.Cell) (a : Nat) (b : Byte) (x : Nat) (hx : x < a) (hm : ∀ d ∈ m.head?, x < d.1)
    (hw : Memory.wf m = true) : ∀ d ∈ (Memory.write m a b).head?, x < d.1 := by
  have hc : ∀ t : List Host.Cell, (∀ d ∈ t.head?, x < d.1) → ∀ d ∈ (Memory.cons a b t).head?, x < d.1 := by
    intro t ht d hd
    unfold Memory.cons at hd
    split at hd
    · exact ht d hd
    · simp at hd; subst hd; exact hx
  cases m with
  | nil => exact hc [] (by simp)
  | cons c m =>
    have h0 : x < c.1 := hm c rfl
    rw [Memory.wf_cons] at hw
    simp only [Memory.write]
    split
    · exact hc _ hm
    · split
      · exact hc _ fun d hd => Nat.lt_trans h0 (hw.2.1 d hd)
      · intro d hd; simp at hd; subst hd; exact h0

/-- Writing a byte keeps memory canonical. -/
theorem Memory.wf_write (m : List Host.Cell) (a : Nat) (b : Byte) (h : Memory.wf m = true) : Memory.wf (Memory.write m a b) = true := by
  induction m with
  | nil => exact Memory.wf_cons_byte a b [] rfl (by simp)
  | cons c m ih =>
    have h' := (Memory.wf_cons c m).mp h
    simp only [Memory.write]
    split
    · exact Memory.wf_cons_byte _ _ _ h (fun d hd => by simp at hd; subst hd; assumption)
    · split
      · exact Memory.wf_cons_byte _ _ _ h'.2.2 (fun d hd => by have := h'.2.1 d hd; omega)
      · rw [Memory.wf_cons]
        exact ⟨h'.1, Memory.head_write m a b c.1 (by omega) h'.2.1 h'.2.2, ih h'.2.2⟩

/-- Zeroing a range keeps memory canonical. -/
theorem Memory.wf_clear (m : List Host.Cell) (lo hi : Nat) (h : Memory.wf m = true) : Memory.wf (Memory.clear m lo hi) = true := by
  rw [Memory.wf_iff] at *
  exact ⟨fun c hc => h.1 c ((List.mem_filter.mp hc).1), h.2.filter _⟩

/-- Below its first listed address memory reads as zero. -/
theorem Memory.read_below (m : List Host.Cell) (x : Nat) (h : ∀ d ∈ m.head?, x < d.1) : Memory.read m x = 0 := by
  cases m with
  | nil => rfl
  | cons c m =>
    have := h c rfl
    simp only [Memory.read]
    rw [if_neg (by omega), if_pos this]

theorem Memory.read_cons (m : List Host.Cell) (a : Nat) (b : Byte) (x : Nat) (hm : ∀ d ∈ m.head?, a < d.1) :
    Memory.read (Memory.cons a b m) x = if x = a then b else if x < a then 0 else Memory.read m x := by
  unfold Memory.cons
  split
  · subst b
    split
    · subst x; exact Memory.read_below m a hm
    · split
      · exact Memory.read_below m x fun d hd => Nat.lt_trans ‹_› (hm d hd)
      · rfl
  · simp only [Memory.read]
    split
    · simp_all
    · rename_i hx; rw [if_neg (show ¬x = a from fun e => hx e.symm)]

/-- A byte reads as it was written, and every other byte as before. -/
theorem Memory.read_write (m : List Host.Cell) (a : Nat) (b : Byte) (x : Nat) (h : Memory.wf m = true) :
    Memory.read (Memory.write m a b) x = if x = a then b else Memory.read m x := by
  induction m with
  | nil =>
    rw [Memory.write, Memory.read_cons _ _ _ _ (by simp)]
    split
    · rfl
    · split <;> rfl
  | cons c m ih =>
    have h' := (Memory.wf_cons c m).mp h
    simp only [Memory.write]
    split
    · rw [Memory.read_cons _ _ _ _ (fun d hd => by simp at hd; subst hd; assumption)]
      split
      · rfl
      · split
        · symm; exact Memory.read_below _ _ (fun d hd => by simp at hd; subst hd; omega)
        · rfl
    · split
      · subst a
        rw [Memory.read_cons _ _ _ _ h'.2.1]
        simp only [Memory.read]
        split
        · rfl
        · rename_i hx
          rw [if_neg (show ¬c.1 = x from fun e => hx e.symm)]
      · simp only [Memory.read, ih h'.2.2]
        split
        · rw [if_neg (by omega)]
        · split
          · rw [if_neg (by omega)]
          · rfl

/-- A zeroed range reads as zero, and every other byte as before. -/
theorem Memory.read_clear (m : List Host.Cell) (lo hi x : Nat) (h : Memory.wf m = true) :
    Memory.read (Memory.clear m lo hi) x = if lo ≤ x ∧ x < hi then 0 else Memory.read m x := by
  induction m with
  | nil => simp [Memory.clear, Memory.read]
  | cons c m ih =>
    have h' := (Memory.wf_cons c m).mp h
    have hb : ∀ y, y < c.1 → Memory.read m y = 0 := fun y hy =>
      Memory.read_below m y fun d hd => Nat.lt_trans hy (h'.2.1 d hd)
    have ih := ih h'.2.2
    unfold Memory.clear at ih ⊢
    simp only [List.filter_cons]
    split
    · rename_i hk
      simp only [Memory.read, ih]
      split
      · subst x; simp at hk; rw [if_neg (by omega)]
      · split
        · simp
        · rfl
    · rename_i hk
      simp at hk
      rw [ih]
      simp only [Memory.read]
      split
      · rfl
      · rw [if_neg (by omega)]
        split
        · exact hb x ‹_›
        · rfl

/-- Writing bytes one after the other from an address on, as a chain of single writes. -/
theorem Memory.wf_writes (bs : List Byte) (m : List Host.Cell) (a : Nat) (h : Memory.wf m = true) :
    Memory.wf (bs.foldl (fun (x : List Host.Cell × Nat) b => (Memory.write x.1 x.2 b, x.2 + 1)) (m, a)).1 = true := by
  induction bs generalizing m a with
  | nil => exact h
  | cons b bs ih => exact ih _ _ (Memory.wf_write m a b h)

/-- What a byte reads as after a run of bytes is written. -/
theorem Memory.read_writes (bs : List Byte) (m : List Host.Cell) (a x : Nat) (h : Memory.wf m = true) :
    Memory.read (bs.foldl (fun (x : List Host.Cell × Nat) b => (Memory.write x.1 x.2 b, x.2 + 1)) (m, a)).1 x =
      if a ≤ x then bs.getD (x - a) (Memory.read m x) else Memory.read m x := by
  induction bs generalizing m a with
  | nil => simp
  | cons b bs ih =>
    rw [List.foldl_cons, ih _ _ (Memory.wf_write m a b h), Memory.read_write _ _ _ _ h]
    split
    · rw [if_neg (by omega), if_pos (by omega)]
      obtain ⟨k, hk⟩ : ∃ k, x - a = k + 1 := ⟨x - a - 1, by omega⟩
      have : x - (a + 1) = k := by omega
      rw [hk, this, List.getD_cons_succ]
    · split
      · subst x; simp
      · rw [if_neg (by omega)]

/-- Writing memory: which byte reads as what afterwards, and that the form is kept. -/
theorem State.writeMem_mem (s : State) (a : Nat) (bs : List Byte) :
    (s.writeMem a bs).mem = (bs.foldl (fun (x : List Host.Cell × Nat) b => (Memory.write x.1 x.2 b, x.2 + 1)) (s.mem, a)).1 := by
  unfold State.writeMem; dsimp only; (repeat split) <;> rfl

theorem State.writeMem_wf (s : State) (a : Nat) (bs : List Byte) (h : Memory.wf s.mem = true) :
    Memory.wf (s.writeMem a bs).mem = true := by
  rw [State.writeMem_mem]; exact Memory.wf_writes bs s.mem a h

theorem State.zeroMem_wf (s : State) (lo n : Nat) (h : Memory.wf s.mem = true) : Memory.wf (s.zeroMem lo n).mem = true :=
  Memory.wf_clear _ _ _ h

end Sys2Proof.Machine
end

