-- ==== Sys2Proof/Laws/State.lean ====
section
/-! SUPPORT. State.lean: what each update of a part of State leaves of the others, one lemma per field and update, and what the
updated part then reads as. -/

namespace Sys2Proof.Machine

@[simp] theorem State.put_now (s : State) (k v : Nat) : (s.put k v).now = s.now := rfl
@[simp] theorem State.put_fresh (s : State) (k v : Nat) : (s.put k v).fresh = s.fresh := rfl
@[simp] theorem State.put_out (s : State) (k v : Nat) : (s.put k v).out = s.out := rfl
@[simp] theorem State.put_fullConfig (s : State) (k v : Nat) : (s.put k v).fullConfig = s.fullConfig := rfl
@[simp] theorem State.put_layout (s : State) (k v : Nat) : (s.put k v).layout = s.layout := rfl
@[simp] theorem State.put_mgmt (s : State) (k v : Nat) : (s.put k v).mgmt = s.mgmt := rfl
@[simp] theorem State.put_time (s : State) (k v : Nat) : (s.put k v).time = s.time := rfl
@[simp] theorem State.put_sec (s : State) (k v : Nat) : (s.put k v).sec = s.sec := rfl
@[simp] theorem State.put_boot (s : State) (k v : Nat) : (s.put k v).boot = s.boot := rfl
@[simp] theorem State.put_dbg (s : State) (k v : Nat) : (s.put k v).dbg = s.dbg := rfl
@[simp] theorem State.put_beat (s : State) (k v : Nat) : (s.put k v).beat = s.beat := rfl
@[simp] theorem State.put_net (s : State) (k v : Nat) : (s.put k v).net = s.net := rfl
@[simp] theorem State.put_jobs (s : State) (k v : Nat) : (s.put k v).jobs = s.jobs := rfl
@[simp] theorem State.put_host (s : State) (k v : Nat) : (s.put k v).host = s.host := rfl
@[simp] theorem State.put_power (s : State) (k v : Nat) : (s.put k v).power = s.power := rfl
@[simp] theorem State.put_optics (s : State) (k v : Nat) : (s.put k v).optics = s.optics := rfl
@[simp] theorem State.put_flashCk (s : State) (k v : Nat) : (s.put k v).flashCk = s.flashCk := rfl
@[simp] theorem State.put_storeCk (s : State) (k v : Nat) : (s.put k v).storeCk = s.storeCk := rfl
@[simp] theorem State.put_mem (s : State) (k v : Nat) : (s.put k v).mem = s.mem := rfl
@[simp] theorem State.put_poison (s : State) (k v : Nat) : (s.put k v).poison = s.poison := rfl
@[simp] theorem State.put_pending (s : State) (k v : Nat) : (s.put k v).pending = s.pending := rfl

@[simp] theorem State.add_now (s : State) (k n : Nat) : (s.add k n).now = s.now := rfl
@[simp] theorem State.add_fresh (s : State) (k n : Nat) : (s.add k n).fresh = s.fresh := rfl
@[simp] theorem State.add_out (s : State) (k n : Nat) : (s.add k n).out = s.out := rfl
@[simp] theorem State.add_fullConfig (s : State) (k n : Nat) : (s.add k n).fullConfig = s.fullConfig := rfl
@[simp] theorem State.add_layout (s : State) (k n : Nat) : (s.add k n).layout = s.layout := rfl
@[simp] theorem State.add_mgmt (s : State) (k n : Nat) : (s.add k n).mgmt = s.mgmt := rfl
@[simp] theorem State.add_time (s : State) (k n : Nat) : (s.add k n).time = s.time := rfl
@[simp] theorem State.add_sec (s : State) (k n : Nat) : (s.add k n).sec = s.sec := rfl
@[simp] theorem State.add_boot (s : State) (k n : Nat) : (s.add k n).boot = s.boot := rfl
@[simp] theorem State.add_dbg (s : State) (k n : Nat) : (s.add k n).dbg = s.dbg := rfl
@[simp] theorem State.add_beat (s : State) (k n : Nat) : (s.add k n).beat = s.beat := rfl
@[simp] theorem State.add_net (s : State) (k n : Nat) : (s.add k n).net = s.net := rfl
@[simp] theorem State.add_jobs (s : State) (k n : Nat) : (s.add k n).jobs = s.jobs := rfl
@[simp] theorem State.add_host (s : State) (k n : Nat) : (s.add k n).host = s.host := rfl
@[simp] theorem State.add_power (s : State) (k n : Nat) : (s.add k n).power = s.power := rfl
@[simp] theorem State.add_optics (s : State) (k n : Nat) : (s.add k n).optics = s.optics := rfl
@[simp] theorem State.add_flashCk (s : State) (k n : Nat) : (s.add k n).flashCk = s.flashCk := rfl
@[simp] theorem State.add_storeCk (s : State) (k n : Nat) : (s.add k n).storeCk = s.storeCk := rfl
@[simp] theorem State.add_mem (s : State) (k n : Nat) : (s.add k n).mem = s.mem := rfl
@[simp] theorem State.add_poison (s : State) (k n : Nat) : (s.add k n).poison = s.poison := rfl
@[simp] theorem State.add_pending (s : State) (k n : Nat) : (s.add k n).pending = s.pending := rfl

@[simp] theorem State.inc_now (s : State) (k : Nat) : (s.inc k).now = s.now := rfl
@[simp] theorem State.inc_fresh (s : State) (k : Nat) : (s.inc k).fresh = s.fresh := rfl
@[simp] theorem State.inc_out (s : State) (k : Nat) : (s.inc k).out = s.out := rfl
@[simp] theorem State.inc_fullConfig (s : State) (k : Nat) : (s.inc k).fullConfig = s.fullConfig := rfl
@[simp] theorem State.inc_layout (s : State) (k : Nat) : (s.inc k).layout = s.layout := rfl
@[simp] theorem State.inc_mgmt (s : State) (k : Nat) : (s.inc k).mgmt = s.mgmt := rfl
@[simp] theorem State.inc_time (s : State) (k : Nat) : (s.inc k).time = s.time := rfl
@[simp] theorem State.inc_sec (s : State) (k : Nat) : (s.inc k).sec = s.sec := rfl
@[simp] theorem State.inc_boot (s : State) (k : Nat) : (s.inc k).boot = s.boot := rfl
@[simp] theorem State.inc_dbg (s : State) (k : Nat) : (s.inc k).dbg = s.dbg := rfl
@[simp] theorem State.inc_beat (s : State) (k : Nat) : (s.inc k).beat = s.beat := rfl
@[simp] theorem State.inc_net (s : State) (k : Nat) : (s.inc k).net = s.net := rfl
@[simp] theorem State.inc_jobs (s : State) (k : Nat) : (s.inc k).jobs = s.jobs := rfl
@[simp] theorem State.inc_host (s : State) (k : Nat) : (s.inc k).host = s.host := rfl
@[simp] theorem State.inc_power (s : State) (k : Nat) : (s.inc k).power = s.power := rfl
@[simp] theorem State.inc_optics (s : State) (k : Nat) : (s.inc k).optics = s.optics := rfl
@[simp] theorem State.inc_flashCk (s : State) (k : Nat) : (s.inc k).flashCk = s.flashCk := rfl
@[simp] theorem State.inc_storeCk (s : State) (k : Nat) : (s.inc k).storeCk = s.storeCk := rfl
@[simp] theorem State.inc_mem (s : State) (k : Nat) : (s.inc k).mem = s.mem := rfl
@[simp] theorem State.inc_poison (s : State) (k : Nat) : (s.inc k).poison = s.poison := rfl
@[simp] theorem State.inc_pending (s : State) (k : Nat) : (s.inc k).pending = s.pending := rfl

@[simp] theorem State.send_dict (s : State) (o : Out) : (s.send o).dict = s.dict := rfl
@[simp] theorem State.send_now (s : State) (o : Out) : (s.send o).now = s.now := rfl
@[simp] theorem State.send_fresh (s : State) (o : Out) : (s.send o).fresh = s.fresh := rfl
@[simp] theorem State.send_fullConfig (s : State) (o : Out) : (s.send o).fullConfig = s.fullConfig := rfl
@[simp] theorem State.send_layout (s : State) (o : Out) : (s.send o).layout = s.layout := rfl
@[simp] theorem State.send_mgmt (s : State) (o : Out) : (s.send o).mgmt = s.mgmt := rfl
@[simp] theorem State.send_time (s : State) (o : Out) : (s.send o).time = s.time := rfl
@[simp] theorem State.send_sec (s : State) (o : Out) : (s.send o).sec = s.sec := rfl
@[simp] theorem State.send_boot (s : State) (o : Out) : (s.send o).boot = s.boot := rfl
@[simp] theorem State.send_dbg (s : State) (o : Out) : (s.send o).dbg = s.dbg := rfl
@[simp] theorem State.send_beat (s : State) (o : Out) : (s.send o).beat = s.beat := rfl
@[simp] theorem State.send_net (s : State) (o : Out) : (s.send o).net = s.net := rfl
@[simp] theorem State.send_jobs (s : State) (o : Out) : (s.send o).jobs = s.jobs := rfl
@[simp] theorem State.send_host (s : State) (o : Out) : (s.send o).host = s.host := rfl
@[simp] theorem State.send_power (s : State) (o : Out) : (s.send o).power = s.power := rfl
@[simp] theorem State.send_optics (s : State) (o : Out) : (s.send o).optics = s.optics := rfl
@[simp] theorem State.send_flashCk (s : State) (o : Out) : (s.send o).flashCk = s.flashCk := rfl
@[simp] theorem State.send_storeCk (s : State) (o : Out) : (s.send o).storeCk = s.storeCk := rfl
@[simp] theorem State.send_mem (s : State) (o : Out) : (s.send o).mem = s.mem := rfl
@[simp] theorem State.send_poison (s : State) (o : Out) : (s.send o).poison = s.poison := rfl
@[simp] theorem State.send_pending (s : State) (o : Out) : (s.send o).pending = s.pending := rfl

@[simp] theorem State.setJob_dict (s : State) (p : Nat) (j : Job) : (s.setJob p j).dict = s.dict := rfl
@[simp] theorem State.setJob_now (s : State) (p : Nat) (j : Job) : (s.setJob p j).now = s.now := rfl
@[simp] theorem State.setJob_fresh (s : State) (p : Nat) (j : Job) : (s.setJob p j).fresh = s.fresh := rfl
@[simp] theorem State.setJob_out (s : State) (p : Nat) (j : Job) : (s.setJob p j).out = s.out := rfl
@[simp] theorem State.setJob_fullConfig (s : State) (p : Nat) (j : Job) : (s.setJob p j).fullConfig = s.fullConfig := rfl
@[simp] theorem State.setJob_layout (s : State) (p : Nat) (j : Job) : (s.setJob p j).layout = s.layout := rfl
@[simp] theorem State.setJob_mgmt (s : State) (p : Nat) (j : Job) : (s.setJob p j).mgmt = s.mgmt := rfl
@[simp] theorem State.setJob_time (s : State) (p : Nat) (j : Job) : (s.setJob p j).time = s.time := rfl
@[simp] theorem State.setJob_sec (s : State) (p : Nat) (j : Job) : (s.setJob p j).sec = s.sec := rfl
@[simp] theorem State.setJob_boot (s : State) (p : Nat) (j : Job) : (s.setJob p j).boot = s.boot := rfl
@[simp] theorem State.setJob_dbg (s : State) (p : Nat) (j : Job) : (s.setJob p j).dbg = s.dbg := rfl
@[simp] theorem State.setJob_beat (s : State) (p : Nat) (j : Job) : (s.setJob p j).beat = s.beat := rfl
@[simp] theorem State.setJob_net (s : State) (p : Nat) (j : Job) : (s.setJob p j).net = s.net := rfl
@[simp] theorem State.setJob_host (s : State) (p : Nat) (j : Job) : (s.setJob p j).host = s.host := rfl
@[simp] theorem State.setJob_power (s : State) (p : Nat) (j : Job) : (s.setJob p j).power = s.power := rfl
@[simp] theorem State.setJob_optics (s : State) (p : Nat) (j : Job) : (s.setJob p j).optics = s.optics := rfl
@[simp] theorem State.setJob_flashCk (s : State) (p : Nat) (j : Job) : (s.setJob p j).flashCk = s.flashCk := rfl
@[simp] theorem State.setJob_storeCk (s : State) (p : Nat) (j : Job) : (s.setJob p j).storeCk = s.storeCk := rfl
@[simp] theorem State.setJob_mem (s : State) (p : Nat) (j : Job) : (s.setJob p j).mem = s.mem := rfl
@[simp] theorem State.setJob_poison (s : State) (p : Nat) (j : Job) : (s.setJob p j).poison = s.poison := rfl
@[simp] theorem State.setJob_pending (s : State) (p : Nat) (j : Job) : (s.setJob p j).pending = s.pending := rfl

@[simp] theorem State.setLink_dict (s : State) (n : Nat) (l : LinkSt) : (s.setLink n l).dict = s.dict := rfl
@[simp] theorem State.setLink_now (s : State) (n : Nat) (l : LinkSt) : (s.setLink n l).now = s.now := rfl
@[simp] theorem State.setLink_fresh (s : State) (n : Nat) (l : LinkSt) : (s.setLink n l).fresh = s.fresh := rfl
@[simp] theorem State.setLink_out (s : State) (n : Nat) (l : LinkSt) : (s.setLink n l).out = s.out := rfl
@[simp] theorem State.setLink_fullConfig (s : State) (n : Nat) (l : LinkSt) : (s.setLink n l).fullConfig = s.fullConfig := rfl
@[simp] theorem State.setLink_layout (s : State) (n : Nat) (l : LinkSt) : (s.setLink n l).layout = s.layout := rfl
@[simp] theorem State.setLink_mgmt (s : State) (n : Nat) (l : LinkSt) : (s.setLink n l).mgmt = s.mgmt := rfl
@[simp] theorem State.setLink_time (s : State) (n : Nat) (l : LinkSt) : (s.setLink n l).time = s.time := rfl
@[simp] theorem State.setLink_sec (s : State) (n : Nat) (l : LinkSt) : (s.setLink n l).sec = s.sec := rfl
@[simp] theorem State.setLink_boot (s : State) (n : Nat) (l : LinkSt) : (s.setLink n l).boot = s.boot := rfl
@[simp] theorem State.setLink_dbg (s : State) (n : Nat) (l : LinkSt) : (s.setLink n l).dbg = s.dbg := rfl
@[simp] theorem State.setLink_beat (s : State) (n : Nat) (l : LinkSt) : (s.setLink n l).beat = s.beat := rfl
@[simp] theorem State.setLink_jobs (s : State) (n : Nat) (l : LinkSt) : (s.setLink n l).jobs = s.jobs := rfl
@[simp] theorem State.setLink_host (s : State) (n : Nat) (l : LinkSt) : (s.setLink n l).host = s.host := rfl
@[simp] theorem State.setLink_power (s : State) (n : Nat) (l : LinkSt) : (s.setLink n l).power = s.power := rfl
@[simp] theorem State.setLink_optics (s : State) (n : Nat) (l : LinkSt) : (s.setLink n l).optics = s.optics := rfl
@[simp] theorem State.setLink_flashCk (s : State) (n : Nat) (l : LinkSt) : (s.setLink n l).flashCk = s.flashCk := rfl
@[simp] theorem State.setLink_storeCk (s : State) (n : Nat) (l : LinkSt) : (s.setLink n l).storeCk = s.storeCk := rfl
@[simp] theorem State.setLink_mem (s : State) (n : Nat) (l : LinkSt) : (s.setLink n l).mem = s.mem := rfl
@[simp] theorem State.setLink_poison (s : State) (n : Nat) (l : LinkSt) : (s.setLink n l).poison = s.poison := rfl
@[simp] theorem State.setLink_pending (s : State) (n : Nat) (l : LinkSt) : (s.setLink n l).pending = s.pending := rfl

@[simp] theorem State.setSync_dict (s : State) (o : Nat) (x : SyncObj) : (s.setSync o x).dict = s.dict := rfl
@[simp] theorem State.setSync_now (s : State) (o : Nat) (x : SyncObj) : (s.setSync o x).now = s.now := rfl
@[simp] theorem State.setSync_fresh (s : State) (o : Nat) (x : SyncObj) : (s.setSync o x).fresh = s.fresh := rfl
@[simp] theorem State.setSync_out (s : State) (o : Nat) (x : SyncObj) : (s.setSync o x).out = s.out := rfl
@[simp] theorem State.setSync_fullConfig (s : State) (o : Nat) (x : SyncObj) : (s.setSync o x).fullConfig = s.fullConfig := rfl
@[simp] theorem State.setSync_layout (s : State) (o : Nat) (x : SyncObj) : (s.setSync o x).layout = s.layout := rfl
@[simp] theorem State.setSync_mgmt (s : State) (o : Nat) (x : SyncObj) : (s.setSync o x).mgmt = s.mgmt := rfl
@[simp] theorem State.setSync_time (s : State) (o : Nat) (x : SyncObj) : (s.setSync o x).time = s.time := rfl
@[simp] theorem State.setSync_sec (s : State) (o : Nat) (x : SyncObj) : (s.setSync o x).sec = s.sec := rfl
@[simp] theorem State.setSync_boot (s : State) (o : Nat) (x : SyncObj) : (s.setSync o x).boot = s.boot := rfl
@[simp] theorem State.setSync_dbg (s : State) (o : Nat) (x : SyncObj) : (s.setSync o x).dbg = s.dbg := rfl
@[simp] theorem State.setSync_beat (s : State) (o : Nat) (x : SyncObj) : (s.setSync o x).beat = s.beat := rfl
@[simp] theorem State.setSync_jobs (s : State) (o : Nat) (x : SyncObj) : (s.setSync o x).jobs = s.jobs := rfl
@[simp] theorem State.setSync_host (s : State) (o : Nat) (x : SyncObj) : (s.setSync o x).host = s.host := rfl
@[simp] theorem State.setSync_power (s : State) (o : Nat) (x : SyncObj) : (s.setSync o x).power = s.power := rfl
@[simp] theorem State.setSync_optics (s : State) (o : Nat) (x : SyncObj) : (s.setSync o x).optics = s.optics := rfl
@[simp] theorem State.setSync_flashCk (s : State) (o : Nat) (x : SyncObj) : (s.setSync o x).flashCk = s.flashCk := rfl
@[simp] theorem State.setSync_storeCk (s : State) (o : Nat) (x : SyncObj) : (s.setSync o x).storeCk = s.storeCk := rfl
@[simp] theorem State.setSync_mem (s : State) (o : Nat) (x : SyncObj) : (s.setSync o x).mem = s.mem := rfl
@[simp] theorem State.setSync_poison (s : State) (o : Nat) (x : SyncObj) : (s.setSync o x).poison = s.poison := rfl
@[simp] theorem State.setSync_pending (s : State) (o : Nat) (x : SyncObj) : (s.setSync o x).pending = s.pending := rfl

@[simp] theorem State.setCtx_dict (s : State) (i : Nat) (c : Ctx) : (s.setCtx i c).dict = s.dict := rfl
@[simp] theorem State.setCtx_now (s : State) (i : Nat) (c : Ctx) : (s.setCtx i c).now = s.now := rfl
@[simp] theorem State.setCtx_fresh (s : State) (i : Nat) (c : Ctx) : (s.setCtx i c).fresh = s.fresh := rfl
@[simp] theorem State.setCtx_out (s : State) (i : Nat) (c : Ctx) : (s.setCtx i c).out = s.out := rfl
@[simp] theorem State.setCtx_fullConfig (s : State) (i : Nat) (c : Ctx) : (s.setCtx i c).fullConfig = s.fullConfig := rfl
@[simp] theorem State.setCtx_layout (s : State) (i : Nat) (c : Ctx) : (s.setCtx i c).layout = s.layout := rfl
@[simp] theorem State.setCtx_mgmt (s : State) (i : Nat) (c : Ctx) : (s.setCtx i c).mgmt = s.mgmt := rfl
@[simp] theorem State.setCtx_time (s : State) (i : Nat) (c : Ctx) : (s.setCtx i c).time = s.time := rfl
@[simp] theorem State.setCtx_sec (s : State) (i : Nat) (c : Ctx) : (s.setCtx i c).sec = s.sec := rfl
@[simp] theorem State.setCtx_boot (s : State) (i : Nat) (c : Ctx) : (s.setCtx i c).boot = s.boot := rfl
@[simp] theorem State.setCtx_dbg (s : State) (i : Nat) (c : Ctx) : (s.setCtx i c).dbg = s.dbg := rfl
@[simp] theorem State.setCtx_beat (s : State) (i : Nat) (c : Ctx) : (s.setCtx i c).beat = s.beat := rfl
@[simp] theorem State.setCtx_jobs (s : State) (i : Nat) (c : Ctx) : (s.setCtx i c).jobs = s.jobs := rfl
@[simp] theorem State.setCtx_host (s : State) (i : Nat) (c : Ctx) : (s.setCtx i c).host = s.host := rfl
@[simp] theorem State.setCtx_power (s : State) (i : Nat) (c : Ctx) : (s.setCtx i c).power = s.power := rfl
@[simp] theorem State.setCtx_optics (s : State) (i : Nat) (c : Ctx) : (s.setCtx i c).optics = s.optics := rfl
@[simp] theorem State.setCtx_flashCk (s : State) (i : Nat) (c : Ctx) : (s.setCtx i c).flashCk = s.flashCk := rfl
@[simp] theorem State.setCtx_storeCk (s : State) (i : Nat) (c : Ctx) : (s.setCtx i c).storeCk = s.storeCk := rfl
@[simp] theorem State.setCtx_mem (s : State) (i : Nat) (c : Ctx) : (s.setCtx i c).mem = s.mem := rfl
@[simp] theorem State.setCtx_poison (s : State) (i : Nat) (c : Ctx) : (s.setCtx i c).poison = s.poison := rfl
@[simp] theorem State.setCtx_pending (s : State) (i : Nat) (c : Ctx) : (s.setCtx i c).pending = s.pending := rfl

@[simp] theorem State.setReq_dict (s : State) (i : Nat) (r : Req) : (s.setReq i r).dict = s.dict := rfl
@[simp] theorem State.setReq_now (s : State) (i : Nat) (r : Req) : (s.setReq i r).now = s.now := rfl
@[simp] theorem State.setReq_fresh (s : State) (i : Nat) (r : Req) : (s.setReq i r).fresh = s.fresh := rfl
@[simp] theorem State.setReq_out (s : State) (i : Nat) (r : Req) : (s.setReq i r).out = s.out := rfl
@[simp] theorem State.setReq_fullConfig (s : State) (i : Nat) (r : Req) : (s.setReq i r).fullConfig = s.fullConfig := rfl
@[simp] theorem State.setReq_layout (s : State) (i : Nat) (r : Req) : (s.setReq i r).layout = s.layout := rfl
@[simp] theorem State.setReq_mgmt (s : State) (i : Nat) (r : Req) : (s.setReq i r).mgmt = s.mgmt := rfl
@[simp] theorem State.setReq_time (s : State) (i : Nat) (r : Req) : (s.setReq i r).time = s.time := rfl
@[simp] theorem State.setReq_sec (s : State) (i : Nat) (r : Req) : (s.setReq i r).sec = s.sec := rfl
@[simp] theorem State.setReq_boot (s : State) (i : Nat) (r : Req) : (s.setReq i r).boot = s.boot := rfl
@[simp] theorem State.setReq_dbg (s : State) (i : Nat) (r : Req) : (s.setReq i r).dbg = s.dbg := rfl
@[simp] theorem State.setReq_beat (s : State) (i : Nat) (r : Req) : (s.setReq i r).beat = s.beat := rfl
@[simp] theorem State.setReq_jobs (s : State) (i : Nat) (r : Req) : (s.setReq i r).jobs = s.jobs := rfl
@[simp] theorem State.setReq_host (s : State) (i : Nat) (r : Req) : (s.setReq i r).host = s.host := rfl
@[simp] theorem State.setReq_power (s : State) (i : Nat) (r : Req) : (s.setReq i r).power = s.power := rfl
@[simp] theorem State.setReq_optics (s : State) (i : Nat) (r : Req) : (s.setReq i r).optics = s.optics := rfl
@[simp] theorem State.setReq_flashCk (s : State) (i : Nat) (r : Req) : (s.setReq i r).flashCk = s.flashCk := rfl
@[simp] theorem State.setReq_storeCk (s : State) (i : Nat) (r : Req) : (s.setReq i r).storeCk = s.storeCk := rfl
@[simp] theorem State.setReq_mem (s : State) (i : Nat) (r : Req) : (s.setReq i r).mem = s.mem := rfl
@[simp] theorem State.setReq_poison (s : State) (i : Nat) (r : Req) : (s.setReq i r).poison = s.poison := rfl
@[simp] theorem State.setReq_pending (s : State) (i : Nat) (r : Req) : (s.setReq i r).pending = s.pending := rfl

@[simp] theorem State.setPort_dict (s : State) (n : Nat) (x : Port) : (s.setPort n x).dict = s.dict := rfl
@[simp] theorem State.setPort_now (s : State) (n : Nat) (x : Port) : (s.setPort n x).now = s.now := rfl
@[simp] theorem State.setPort_fresh (s : State) (n : Nat) (x : Port) : (s.setPort n x).fresh = s.fresh := rfl
@[simp] theorem State.setPort_out (s : State) (n : Nat) (x : Port) : (s.setPort n x).out = s.out := rfl
@[simp] theorem State.setPort_fullConfig (s : State) (n : Nat) (x : Port) : (s.setPort n x).fullConfig = s.fullConfig := rfl
@[simp] theorem State.setPort_layout (s : State) (n : Nat) (x : Port) : (s.setPort n x).layout = s.layout := rfl
@[simp] theorem State.setPort_mgmt (s : State) (n : Nat) (x : Port) : (s.setPort n x).mgmt = s.mgmt := rfl
@[simp] theorem State.setPort_time (s : State) (n : Nat) (x : Port) : (s.setPort n x).time = s.time := rfl
@[simp] theorem State.setPort_sec (s : State) (n : Nat) (x : Port) : (s.setPort n x).sec = s.sec := rfl
@[simp] theorem State.setPort_boot (s : State) (n : Nat) (x : Port) : (s.setPort n x).boot = s.boot := rfl
@[simp] theorem State.setPort_dbg (s : State) (n : Nat) (x : Port) : (s.setPort n x).dbg = s.dbg := rfl
@[simp] theorem State.setPort_beat (s : State) (n : Nat) (x : Port) : (s.setPort n x).beat = s.beat := rfl
@[simp] theorem State.setPort_net (s : State) (n : Nat) (x : Port) : (s.setPort n x).net = s.net := rfl
@[simp] theorem State.setPort_jobs (s : State) (n : Nat) (x : Port) : (s.setPort n x).jobs = s.jobs := rfl
@[simp] theorem State.setPort_power (s : State) (n : Nat) (x : Port) : (s.setPort n x).power = s.power := rfl
@[simp] theorem State.setPort_optics (s : State) (n : Nat) (x : Port) : (s.setPort n x).optics = s.optics := rfl
@[simp] theorem State.setPort_flashCk (s : State) (n : Nat) (x : Port) : (s.setPort n x).flashCk = s.flashCk := rfl
@[simp] theorem State.setPort_storeCk (s : State) (n : Nat) (x : Port) : (s.setPort n x).storeCk = s.storeCk := rfl
@[simp] theorem State.setPort_mem (s : State) (n : Nat) (x : Port) : (s.setPort n x).mem = s.mem := rfl
@[simp] theorem State.setPort_poison (s : State) (n : Nat) (x : Port) : (s.setPort n x).poison = s.poison := rfl
@[simp] theorem State.setPort_pending (s : State) (n : Nat) (x : Port) : (s.setPort n x).pending = s.pending := rfl

@[simp] theorem State.setQp_dict (s : State) (n q : Nat) (x : QPair) : (s.setQp n q x).dict = s.dict := rfl
@[simp] theorem State.setQp_now (s : State) (n q : Nat) (x : QPair) : (s.setQp n q x).now = s.now := rfl
@[simp] theorem State.setQp_fresh (s : State) (n q : Nat) (x : QPair) : (s.setQp n q x).fresh = s.fresh := rfl
@[simp] theorem State.setQp_out (s : State) (n q : Nat) (x : QPair) : (s.setQp n q x).out = s.out := rfl
@[simp] theorem State.setQp_fullConfig (s : State) (n q : Nat) (x : QPair) : (s.setQp n q x).fullConfig = s.fullConfig := rfl
@[simp] theorem State.setQp_layout (s : State) (n q : Nat) (x : QPair) : (s.setQp n q x).layout = s.layout := rfl
@[simp] theorem State.setQp_mgmt (s : State) (n q : Nat) (x : QPair) : (s.setQp n q x).mgmt = s.mgmt := rfl
@[simp] theorem State.setQp_time (s : State) (n q : Nat) (x : QPair) : (s.setQp n q x).time = s.time := rfl
@[simp] theorem State.setQp_sec (s : State) (n q : Nat) (x : QPair) : (s.setQp n q x).sec = s.sec := rfl
@[simp] theorem State.setQp_boot (s : State) (n q : Nat) (x : QPair) : (s.setQp n q x).boot = s.boot := rfl
@[simp] theorem State.setQp_dbg (s : State) (n q : Nat) (x : QPair) : (s.setQp n q x).dbg = s.dbg := rfl
@[simp] theorem State.setQp_beat (s : State) (n q : Nat) (x : QPair) : (s.setQp n q x).beat = s.beat := rfl
@[simp] theorem State.setQp_net (s : State) (n q : Nat) (x : QPair) : (s.setQp n q x).net = s.net := rfl
@[simp] theorem State.setQp_jobs (s : State) (n q : Nat) (x : QPair) : (s.setQp n q x).jobs = s.jobs := rfl
@[simp] theorem State.setQp_power (s : State) (n q : Nat) (x : QPair) : (s.setQp n q x).power = s.power := rfl
@[simp] theorem State.setQp_optics (s : State) (n q : Nat) (x : QPair) : (s.setQp n q x).optics = s.optics := rfl
@[simp] theorem State.setQp_flashCk (s : State) (n q : Nat) (x : QPair) : (s.setQp n q x).flashCk = s.flashCk := rfl
@[simp] theorem State.setQp_storeCk (s : State) (n q : Nat) (x : QPair) : (s.setQp n q x).storeCk = s.storeCk := rfl
@[simp] theorem State.setQp_mem (s : State) (n q : Nat) (x : QPair) : (s.setQp n q x).mem = s.mem := rfl
@[simp] theorem State.setQp_poison (s : State) (n q : Nat) (x : QPair) : (s.setQp n q x).poison = s.poison := rfl
@[simp] theorem State.setQp_pending (s : State) (n q : Nat) (x : QPair) : (s.setQp n q x).pending = s.pending := rfl

@[simp] theorem State.setChan_dict (s : State) (c : Nat) (x : Channel) : (s.setChan c x).dict = s.dict := rfl
@[simp] theorem State.setChan_now (s : State) (c : Nat) (x : Channel) : (s.setChan c x).now = s.now := rfl
@[simp] theorem State.setChan_fresh (s : State) (c : Nat) (x : Channel) : (s.setChan c x).fresh = s.fresh := rfl
@[simp] theorem State.setChan_out (s : State) (c : Nat) (x : Channel) : (s.setChan c x).out = s.out := rfl
@[simp] theorem State.setChan_fullConfig (s : State) (c : Nat) (x : Channel) : (s.setChan c x).fullConfig = s.fullConfig := rfl
@[simp] theorem State.setChan_layout (s : State) (c : Nat) (x : Channel) : (s.setChan c x).layout = s.layout := rfl
@[simp] theorem State.setChan_mgmt (s : State) (c : Nat) (x : Channel) : (s.setChan c x).mgmt = s.mgmt := rfl
@[simp] theorem State.setChan_time (s : State) (c : Nat) (x : Channel) : (s.setChan c x).time = s.time := rfl
@[simp] theorem State.setChan_sec (s : State) (c : Nat) (x : Channel) : (s.setChan c x).sec = s.sec := rfl
@[simp] theorem State.setChan_boot (s : State) (c : Nat) (x : Channel) : (s.setChan c x).boot = s.boot := rfl
@[simp] theorem State.setChan_dbg (s : State) (c : Nat) (x : Channel) : (s.setChan c x).dbg = s.dbg := rfl
@[simp] theorem State.setChan_beat (s : State) (c : Nat) (x : Channel) : (s.setChan c x).beat = s.beat := rfl
@[simp] theorem State.setChan_net (s : State) (c : Nat) (x : Channel) : (s.setChan c x).net = s.net := rfl
@[simp] theorem State.setChan_jobs (s : State) (c : Nat) (x : Channel) : (s.setChan c x).jobs = s.jobs := rfl
@[simp] theorem State.setChan_host (s : State) (c : Nat) (x : Channel) : (s.setChan c x).host = s.host := rfl
@[simp] theorem State.setChan_power (s : State) (c : Nat) (x : Channel) : (s.setChan c x).power = s.power := rfl
@[simp] theorem State.setChan_flashCk (s : State) (c : Nat) (x : Channel) : (s.setChan c x).flashCk = s.flashCk := rfl
@[simp] theorem State.setChan_storeCk (s : State) (c : Nat) (x : Channel) : (s.setChan c x).storeCk = s.storeCk := rfl
@[simp] theorem State.setChan_mem (s : State) (c : Nat) (x : Channel) : (s.setChan c x).mem = s.mem := rfl
@[simp] theorem State.setChan_poison (s : State) (c : Nat) (x : Channel) : (s.setChan c x).poison = s.poison := rfl
@[simp] theorem State.setChan_pending (s : State) (c : Nat) (x : Channel) : (s.setChan c x).pending = s.pending := rfl

theorem State.obj_put (s : State) (k v i : Nat) : (s.put k v).obj i = if i = k then v else s.obj i := by
  simp only [State.obj, State.put, Tab.get_set]
@[simp] theorem State.obj_put_same (s : State) (k v : Nat) : (s.put k v).obj k = v := by simp [State.obj_put]
theorem State.obj_put_ne (s : State) (k v i : Nat) (h : i ≠ k) : (s.put k v).obj i = s.obj i := by simp [State.obj_put, h]
theorem State.obj_add (s : State) (k n i : Nat) : (s.add k n).obj i = if i = k then (s.obj k + n) % 2 ^ 64 else s.obj i :=
  State.obj_put ..
theorem State.obj_inc (s : State) (k i : Nat) : (s.inc k).obj i = if i = k then (s.obj k + 1) % 2 ^ 64 else s.obj i :=
  State.obj_put ..
@[simp] theorem State.send_out (s : State) (o : Out) : (s.send o).out = o :: s.out := rfl

@[simp] theorem State.send_obj (s : State) (o : Out) (k : Nat) : (s.send o).obj k = s.obj k := rfl
@[simp] theorem State.setJob_obj (s : State) (p : Nat) (j : Job) (k : Nat) : (s.setJob p j).obj k = s.obj k := rfl
@[simp] theorem State.setLink_obj (s : State) (n : Nat) (l : LinkSt) (k : Nat) : (s.setLink n l).obj k = s.obj k := rfl
@[simp] theorem State.setSync_obj (s : State) (o : Nat) (x : SyncObj) (k : Nat) : (s.setSync o x).obj k = s.obj k := rfl
@[simp] theorem State.setCtx_obj (s : State) (i : Nat) (c : Ctx) (k : Nat) : (s.setCtx i c).obj k = s.obj k := rfl
@[simp] theorem State.setReq_obj (s : State) (i : Nat) (r : Req) (k : Nat) : (s.setReq i r).obj k = s.obj k := rfl
@[simp] theorem State.setPort_obj (s : State) (n : Nat) (x : Port) (k : Nat) : (s.setPort n x).obj k = s.obj k := rfl
@[simp] theorem State.setQp_obj (s : State) (n q : Nat) (x : QPair) (k : Nat) : (s.setQp n q x).obj k = s.obj k := rfl
@[simp] theorem State.setChan_obj (s : State) (c : Nat) (x : Channel) (k : Nat) : (s.setChan c x).obj k = s.obj k := rfl

theorem State.job_setJob (s : State) (p q : Nat) (j : Job) : (s.setJob p j).job q = if q = p then j else s.job q := by
  simp only [State.job, State.setJob, Tab.get_set]
@[simp] theorem State.job_setJob_same (s : State) (p : Nat) (j : Job) : (s.setJob p j).job p = j := by simp [State.job_setJob]
@[simp] theorem State.put_job (s : State) (k v p : Nat) : (s.put k v).job p = s.job p := rfl
@[simp] theorem State.inc_job (s : State) (k p : Nat) : (s.inc k).job p = s.job p := rfl
theorem State.link_setLink (s : State) (n m : Nat) (l : LinkSt) : (s.setLink n l).link m = if m = n then l else s.link m := by
  simp only [State.link, State.setLink, Tab.get_set]
@[simp] theorem State.link_setLink_same (s : State) (n : Nat) (l : LinkSt) : (s.setLink n l).link n = l := by simp [State.link_setLink]
@[simp] theorem State.put_link (s : State) (k v n : Nat) : (s.put k v).link n = s.link n := rfl
@[simp] theorem State.inc_link (s : State) (k n : Nat) : (s.inc k).link n = s.link n := rfl
theorem State.port_setPort (s : State) (n m : Nat) (x : Port) : (s.setPort n x).port m = if m = n then x else s.port m := by
  simp only [State.port, State.setPort, Tab.get_set]
@[simp] theorem State.port_setPort_same (s : State) (n : Nat) (x : Port) : (s.setPort n x).port n = x := by simp [State.port_setPort]
theorem State.qp_setQp (s : State) (n q i : Nat) (x : QPair) : (s.setQp n q x).qp n i = if i = q then x else s.qp n i := by
  simp only [State.qp, State.setQp, State.port_setPort_same, Tab.get_set]
@[simp] theorem State.qp_setQp_same (s : State) (n q : Nat) (x : QPair) : (s.setQp n q x).qp n q = x := by simp [State.qp_setQp]

/-! Raising an event touches the event buffer and the count of lost events only. -/

@[simp] theorem State.raise_now (s : State) (c : Nat) (a : EvArgs) : (s.raise c a).now = s.now := by
  unfold State.raise; split <;> rfl
@[simp] theorem State.raiseEvery_now (s : State) (c w i : Nat) (a : EvArgs) : (s.raiseEvery c w i a).now = s.now := by
  unfold State.raiseEvery; dsimp only; (repeat split) <;> simp
@[simp] theorem State.raise_fresh (s : State) (c : Nat) (a : EvArgs) : (s.raise c a).fresh = s.fresh := by
  unfold State.raise; split <;> rfl
@[simp] theorem State.raiseEvery_fresh (s : State) (c w i : Nat) (a : EvArgs) : (s.raiseEvery c w i a).fresh = s.fresh := by
  unfold State.raiseEvery; dsimp only; (repeat split) <;> simp
@[simp] theorem State.raise_out (s : State) (c : Nat) (a : EvArgs) : (s.raise c a).out = s.out := by
  unfold State.raise; split <;> rfl
@[simp] theorem State.raiseEvery_out (s : State) (c w i : Nat) (a : EvArgs) : (s.raiseEvery c w i a).out = s.out := by
  unfold State.raiseEvery; dsimp only; (repeat split) <;> simp
@[simp] theorem State.raise_fullConfig (s : State) (c : Nat) (a : EvArgs) : (s.raise c a).fullConfig = s.fullConfig := by
  unfold State.raise; split <;> rfl
@[simp] theorem State.raiseEvery_fullConfig (s : State) (c w i : Nat) (a : EvArgs) : (s.raiseEvery c w i a).fullConfig = s.fullConfig := by
  unfold State.raiseEvery; dsimp only; (repeat split) <;> simp
@[simp] theorem State.raise_layout (s : State) (c : Nat) (a : EvArgs) : (s.raise c a).layout = s.layout := by
  unfold State.raise; split <;> rfl
@[simp] theorem State.raiseEvery_layout (s : State) (c w i : Nat) (a : EvArgs) : (s.raiseEvery c w i a).layout = s.layout := by
  unfold State.raiseEvery; dsimp only; (repeat split) <;> simp
@[simp] theorem State.raise_time (s : State) (c : Nat) (a : EvArgs) : (s.raise c a).time = s.time := by
  unfold State.raise; split <;> rfl
@[simp] theorem State.raiseEvery_time (s : State) (c w i : Nat) (a : EvArgs) : (s.raiseEvery c w i a).time = s.time := by
  unfold State.raiseEvery; dsimp only; (repeat split) <;> simp
@[simp] theorem State.raise_sec (s : State) (c : Nat) (a : EvArgs) : (s.raise c a).sec = s.sec := by
  unfold State.raise; split <;> rfl
@[simp] theorem State.raiseEvery_sec (s : State) (c w i : Nat) (a : EvArgs) : (s.raiseEvery c w i a).sec = s.sec := by
  unfold State.raiseEvery; dsimp only; (repeat split) <;> simp
@[simp] theorem State.raise_boot (s : State) (c : Nat) (a : EvArgs) : (s.raise c a).boot = s.boot := by
  unfold State.raise; split <;> rfl
@[simp] theorem State.raiseEvery_boot (s : State) (c w i : Nat) (a : EvArgs) : (s.raiseEvery c w i a).boot = s.boot := by
  unfold State.raiseEvery; dsimp only; (repeat split) <;> simp
@[simp] theorem State.raise_dbg (s : State) (c : Nat) (a : EvArgs) : (s.raise c a).dbg = s.dbg := by
  unfold State.raise; split <;> rfl
@[simp] theorem State.raiseEvery_dbg (s : State) (c w i : Nat) (a : EvArgs) : (s.raiseEvery c w i a).dbg = s.dbg := by
  unfold State.raiseEvery; dsimp only; (repeat split) <;> simp
@[simp] theorem State.raise_beat (s : State) (c : Nat) (a : EvArgs) : (s.raise c a).beat = s.beat := by
  unfold State.raise; split <;> rfl
@[simp] theorem State.raiseEvery_beat (s : State) (c w i : Nat) (a : EvArgs) : (s.raiseEvery c w i a).beat = s.beat := by
  unfold State.raiseEvery; dsimp only; (repeat split) <;> simp
@[simp] theorem State.raise_net (s : State) (c : Nat) (a : EvArgs) : (s.raise c a).net = s.net := by
  unfold State.raise; split <;> rfl
@[simp] theorem State.raiseEvery_net (s : State) (c w i : Nat) (a : EvArgs) : (s.raiseEvery c w i a).net = s.net := by
  unfold State.raiseEvery; dsimp only; (repeat split) <;> simp
@[simp] theorem State.raise_jobs (s : State) (c : Nat) (a : EvArgs) : (s.raise c a).jobs = s.jobs := by
  unfold State.raise; split <;> rfl
@[simp] theorem State.raiseEvery_jobs (s : State) (c w i : Nat) (a : EvArgs) : (s.raiseEvery c w i a).jobs = s.jobs := by
  unfold State.raiseEvery; dsimp only; (repeat split) <;> simp
@[simp] theorem State.raise_host (s : State) (c : Nat) (a : EvArgs) : (s.raise c a).host = s.host := by
  unfold State.raise; split <;> rfl
@[simp] theorem State.raiseEvery_host (s : State) (c w i : Nat) (a : EvArgs) : (s.raiseEvery c w i a).host = s.host := by
  unfold State.raiseEvery; dsimp only; (repeat split) <;> simp
@[simp] theorem State.raise_power (s : State) (c : Nat) (a : EvArgs) : (s.raise c a).power = s.power := by
  unfold State.raise; split <;> rfl
@[simp] theorem State.raiseEvery_power (s : State) (c w i : Nat) (a : EvArgs) : (s.raiseEvery c w i a).power = s.power := by
  unfold State.raiseEvery; dsimp only; (repeat split) <;> simp
@[simp] theorem State.raise_optics (s : State) (c : Nat) (a : EvArgs) : (s.raise c a).optics = s.optics := by
  unfold State.raise; split <;> rfl
@[simp] theorem State.raiseEvery_optics (s : State) (c w i : Nat) (a : EvArgs) : (s.raiseEvery c w i a).optics = s.optics := by
  unfold State.raiseEvery; dsimp only; (repeat split) <;> simp
@[simp] theorem State.raise_flashCk (s : State) (c : Nat) (a : EvArgs) : (s.raise c a).flashCk = s.flashCk := by
  unfold State.raise; split <;> rfl
@[simp] theorem State.raiseEvery_flashCk (s : State) (c w i : Nat) (a : EvArgs) : (s.raiseEvery c w i a).flashCk = s.flashCk := by
  unfold State.raiseEvery; dsimp only; (repeat split) <;> simp
@[simp] theorem State.raise_storeCk (s : State) (c : Nat) (a : EvArgs) : (s.raise c a).storeCk = s.storeCk := by
  unfold State.raise; split <;> rfl
@[simp] theorem State.raiseEvery_storeCk (s : State) (c w i : Nat) (a : EvArgs) : (s.raiseEvery c w i a).storeCk = s.storeCk := by
  unfold State.raiseEvery; dsimp only; (repeat split) <;> simp
@[simp] theorem State.raise_mem (s : State) (c : Nat) (a : EvArgs) : (s.raise c a).mem = s.mem := by
  unfold State.raise; split <;> rfl
@[simp] theorem State.raiseEvery_mem (s : State) (c w i : Nat) (a : EvArgs) : (s.raiseEvery c w i a).mem = s.mem := by
  unfold State.raiseEvery; dsimp only; (repeat split) <;> simp
@[simp] theorem State.raise_poison (s : State) (c : Nat) (a : EvArgs) : (s.raise c a).poison = s.poison := by
  unfold State.raise; split <;> rfl
@[simp] theorem State.raiseEvery_poison (s : State) (c w i : Nat) (a : EvArgs) : (s.raiseEvery c w i a).poison = s.poison := by
  unfold State.raiseEvery; dsimp only; (repeat split) <;> simp
@[simp] theorem State.raise_pending (s : State) (c : Nat) (a : EvArgs) : (s.raise c a).pending = s.pending := by
  unfold State.raise; split <;> rfl
@[simp] theorem State.raiseEvery_pending (s : State) (c w i : Nat) (a : EvArgs) : (s.raiseEvery c w i a).pending = s.pending := by
  unfold State.raiseEvery; dsimp only; (repeat split) <;> simp
theorem State.raise_obj (s : State) (c : Nat) (a : EvArgs) (k : Nat) (h : k ≠ O.EVENTS_LOST) : (s.raise c a).obj k = s.obj k := by
  unfold State.raise; split
  · rfl
  · exact State.obj_put_ne _ _ _ _ h
theorem State.raiseEvery_obj (s : State) (c w i : Nat) (a : EvArgs) (k : Nat) (h : k ≠ O.EVENTS_LOST) :
    (s.raiseEvery c w i a).obj k = s.obj k := by
  unfold State.raiseEvery; dsimp only; (repeat split) <;>
    first | rfl | (rw [State.raise_obj _ _ _ _ h]; rfl)

/-! Reference time moves the calendar and nothing else. -/

@[simp] theorem State.upTo_dict (s : State) (t : Nat) : (s.upTo t).dict = s.dict := by
  unfold State.upTo; split <;> rfl
@[simp] theorem State.upTo_fresh (s : State) (t : Nat) : (s.upTo t).fresh = s.fresh := by
  unfold State.upTo; split <;> rfl
@[simp] theorem State.upTo_out (s : State) (t : Nat) : (s.upTo t).out = s.out := by
  unfold State.upTo; split <;> rfl
@[simp] theorem State.upTo_fullConfig (s : State) (t : Nat) : (s.upTo t).fullConfig = s.fullConfig := by
  unfold State.upTo; split <;> rfl
@[simp] theorem State.upTo_layout (s : State) (t : Nat) : (s.upTo t).layout = s.layout := by
  unfold State.upTo; split <;> rfl
@[simp] theorem State.upTo_mgmt (s : State) (t : Nat) : (s.upTo t).mgmt = s.mgmt := by
  unfold State.upTo; split <;> rfl
@[simp] theorem State.upTo_sec (s : State) (t : Nat) : (s.upTo t).sec = s.sec := by
  unfold State.upTo; split <;> rfl
@[simp] theorem State.upTo_boot (s : State) (t : Nat) : (s.upTo t).boot = s.boot := by
  unfold State.upTo; split <;> rfl
@[simp] theorem State.upTo_dbg (s : State) (t : Nat) : (s.upTo t).dbg = s.dbg := by
  unfold State.upTo; split <;> rfl
@[simp] theorem State.upTo_beat (s : State) (t : Nat) : (s.upTo t).beat = s.beat := by
  unfold State.upTo; split <;> rfl
@[simp] theorem State.upTo_net (s : State) (t : Nat) : (s.upTo t).net = s.net := by
  unfold State.upTo; split <;> rfl
@[simp] theorem State.upTo_jobs (s : State) (t : Nat) : (s.upTo t).jobs = s.jobs := by
  unfold State.upTo; split <;> rfl
@[simp] theorem State.upTo_host (s : State) (t : Nat) : (s.upTo t).host = s.host := by
  unfold State.upTo; split <;> rfl
@[simp] theorem State.upTo_power (s : State) (t : Nat) : (s.upTo t).power = s.power := by
  unfold State.upTo; split <;> rfl
@[simp] theorem State.upTo_optics (s : State) (t : Nat) : (s.upTo t).optics = s.optics := by
  unfold State.upTo; split <;> rfl
@[simp] theorem State.upTo_flashCk (s : State) (t : Nat) : (s.upTo t).flashCk = s.flashCk := by
  unfold State.upTo; split <;> rfl
@[simp] theorem State.upTo_storeCk (s : State) (t : Nat) : (s.upTo t).storeCk = s.storeCk := by
  unfold State.upTo; split <;> rfl
@[simp] theorem State.upTo_mem (s : State) (t : Nat) : (s.upTo t).mem = s.mem := by
  unfold State.upTo; split <;> rfl
@[simp] theorem State.upTo_poison (s : State) (t : Nat) : (s.upTo t).poison = s.poison := by
  unfold State.upTo; split <;> rfl
@[simp] theorem State.upTo_pending (s : State) (t : Nat) : (s.upTo t).pending = s.pending := by
  unfold State.upTo; split <;> rfl
@[simp] theorem State.upTo_obj (s : State) (t k : Nat) : (s.upTo t).obj k = s.obj k := by
  simp [State.obj]
@[simp] theorem State.upTo_now (s : State) (t : Nat) : (s.upTo t).now = max s.now t := by
  unfold State.upTo; split
  · omega
  · simp only []; omega

end Sys2Proof.Machine
end

