-- ==== Sys2Proof/Tests/Slice0.lean ====
section
/-! SUPPORT. Tests/Slice0.lean: one ill-formed term for each check of WellFormed; for every statement with hypotheses, states and
operands that meet them, clause by clause, at boundary values; and small tests of commands. Expected values come from the spec's
tables and worked examples. -/

namespace Sys2Proof.Tests

open Sys2Proof Sys2Proof.Machine

set_option Elab.async false

/-- A requester inside the module, which has the owner's privilege (R505). -/
def me : Who := ⟨.internal, 0, 0, 0⟩

/-- The driver of host port n, over its mailbox. -/
def mbx (n : Fin 4) : Who := ⟨.mailbox n, 0, 0, 0⟩

/-- A requester over the field network, without a session. -/
def net : Who := ⟨.field, 0, 7, 9⟩

/-- A module whose bring-up has ended (S9). -/
def up : State := State.reset.put O.BRINGUP_STAGE 9

/-- A root that places edges. -/
def root : State := ((up.put O.BEAT_ROLE 1).put O.BEAT_STATE 3)

/-- A follower that places edges, with TL0 its primary upstream link, UP and MATCH. -/
def locked : State :=
  ((((up.put O.BEAT_STATE 2).put O.UPSTREAM_PRIMARY 0).put (O.at O.LINK_STATE 0) 3).setLink 0 { outcome := 1, outMap := 15 }).put O.DOWNSTREAM_MASK 2

/-- A root with TL1 downstream, UP and MATCH. -/
def rootTree : State :=
  ((root.put O.DOWNSTREAM_MASK 2).put (O.at O.LINK_STATE 1) 3).setLink 1 { outcome := 1, outMap := 15 }

/-- TLn in a state of Table 11.5. -/
def linkIn (n st : Nat) (l : LinkSt) : State := (up.put (O.at O.LINK_STATE n) st).setLink n l

/-- A pair whose first part is known is that pair. -/
theorem fst_is {α β : Type} {x : Option α × β} {w : α} (h : x.1 = some w) : x = (some w, x.2) := by
  rw [← h]

/-- A message without flags. -/
def msg0 : Msg := { version := 1, status := 0, flags := 0, seq := 0, session := 0, count := 0, bodyLen := 0, retry := 0, resv := 0, body := [], mac := 0 }

/-- A packet with no payload. -/
def pkt0 : Packet := ⟨1, 0, 0, 0, 0, 0, 0, 0, 0, 0, 0, 0, 0, 0, []⟩

/-- An Announce. -/
def ann0 : Announce := ⟨0, 1, 128, 6, 0x21, 0, 128, 5, 0, 0, 37, true, false, false⟩

/-- A stage that finds nothing. -/
def obs0 : StageObs := ⟨none, none, [], 0, none, none, 0, false⟩

theorem test_wf_who : Who.wf { me with session := 2 ^ 16 } = false ∧ Who.wf { me with addr := 2 ^ 128 } = false ∧
    Who.wf { me with port := 2 ^ 16 } = false ∧ Who.wf me = true := by decide +kernel

theorem test_wf_value : Instr.wf (.beatPeriodNsWrite me (256 ^ 1025)) = false ∧ Instr.wf (.beatPeriodNsWrite me 50000) = true := by
  decide +kernel

theorem test_wf_msg : Msg.wf { msg0 with version := 256 } = false ∧ Msg.wf { msg0 with status := 256 } = false ∧
    Msg.wf { msg0 with flags := 256 } = false ∧ Msg.wf { msg0 with seq := 65536 } = false ∧ Msg.wf { msg0 with session := 65536 } = false ∧
    Msg.wf { msg0 with count := 65536 } = false ∧ Msg.wf { msg0 with bodyLen := 65536 } = false ∧ Msg.wf { msg0 with retry := 65536 } = false ∧
    Msg.wf { msg0 with resv := 65536 } = false ∧ Msg.wf { msg0 with mac := 2 ^ 128 } = false ∧
    Msg.wf { msg0 with dest := some (2 ^ 128) } = false ∧ Msg.wf { msg0 with dport := 65536 } = false ∧
    Msg.wf { msg0 with checksum := 65536 } = false ∧ Msg.wf msg0 = true ∧
    Instr.wf (.access me { msg0 with seq := 65536 } false) = false := by decide +kernel

theorem test_wf_packet : Packet.wf { pkt0 with len := 1 } = false ∧ Packet.wf { pkt0 with typ := 256 } = false ∧
    Packet.wf { pkt0 with flags := 256 } = false ∧ Packet.wf { pkt0 with srcChip := 65536 } = false ∧
    Packet.wf { pkt0 with srcEpoch := 65536 } = false ∧ Packet.wf { pkt0 with dstChip := 65536 } = false ∧
    Packet.wf { pkt0 with dstEpoch := 65536 } = false ∧ Packet.wf { pkt0 with tag := 65536 } = false ∧
    Packet.wf { pkt0 with route := 256 } = false ∧ Packet.wf { pkt0 with hops := 256 } = false ∧
    Packet.wf { pkt0 with addr := 2 ^ 64 } = false ∧ Packet.wf { pkt0 with step := 2 ^ 32 } = false ∧
    Packet.wf { pkt0 with sync := 65536 } = false ∧ Packet.wf { pkt0 with arg := 65536 } = false ∧ Packet.wf pkt0 = true ∧
    Instr.wf (.writeRx 0 { pkt0 with len := 1 }) = false := by decide +kernel

theorem test_wf_announce : Announce.wf { ann0 with domain := 256 } = false ∧ Announce.wf { ann0 with source := 2 ^ 80 } = false ∧
    Announce.wf { ann0 with priority1 := 256 } = false ∧ Announce.wf { ann0 with clockClass := 256 } = false ∧
    Announce.wf { ann0 with accuracy := 256 } = false ∧ Announce.wf { ann0 with variance := 65536 } = false ∧
    Announce.wf { ann0 with priority2 := 256 } = false ∧ Announce.wf { ann0 with grandmaster := 2 ^ 64 } = false ∧
    Announce.wf { ann0 with stepsRemoved := 65536 } = false ∧ Announce.wf ann0 = true ∧
    Instr.wf (.ptpAnnounceRx 0 { ann0 with domain := 256 }) = false := by decide +kernel

theorem test_wf_stage : StageObs.wf { obs0 with lost := [2 ^ 24] } = false ∧ StageObs.wf { obs0 with readBack := 2 ^ 64 } = false ∧
    StageObs.wf { obs0 with express := 2 ^ 128 } = false ∧ StageObs.wf obs0 = true ∧
    Instr.wf (.bringupStageComplete 0 { obs0 with express := 2 ^ 128 }) = false := by decide +kernel

theorem test_wf_blocks : ([Instr.edgeRx 0 (2 ^ 120) 0 (List.replicate 24 0) 0, .edgeRx 0 0 0 [] 0, .beatnumRx 0 (2 ^ 120) 0, .slackReqRx 0 (2 ^ 120), .slipReqRx 0 (2 ^ 120),
    .trainParamRx 0 (2 ^ 120) 0, .trainParamRx 0 0 16, .loopReqRx 0 (2 ^ 120) 0, .loopReqRx 0 0 (2 ^ 32), .loopRspRx 0 (2 ^ 120) 0,
    .retrainReqRx 0 (2 ^ 120), .laneDropReqRx 0 (2 ^ 120), .laneSetRx 0 (2 ^ 120), .laneAddReadyRx 0 (2 ^ 120), .identRx 0 (2 ^ 120),
    .serialRx 0 0 (2 ^ 120), .fencedNoticeRx 0 (2 ^ 120), .flitRx 0 [], .flitRx 0 (List.replicate 288 1024)].all
      (fun c => !c.wf)) = true ∧ Instr.wf (.flitRx 0 (List.replicate 288 1023)) = true ∧
    Instr.wf (.edgeRx 0 (2 ^ 120 - 1) 0 (List.replicate 24 0) 0) = true := by decide +kernel

theorem test_wf_numbers : ([Instr.matmul 0 (2 ^ 16) 0, .transfer 0 (2 ^ 16) 0 [], .checkpointCopy 0 (2 ^ 16), .digest 0 (2 ^ 16),
    .operationComplete 0 (2 ^ 16) 0, .operationComplete 0 0 384, .epochValueWrite me (2 ^ 14) 0, .routeEntryWrite me (2 ^ 14) 0,
    .reqTimeout (2 ^ 16), .contextIdleClose (2 ^ 16), .collectiveStart 0 (2 ^ 16) 0, .collectiveComplete 0 (2 ^ 16),
    .restoreRequest me 0 (2 ^ 64), .restoreSourceDone 0 (2 ^ 512) [] [], .storeTargetWrite me 0 0 4, .queueEnableWrite 0 0 256,
    .sqDoorbell 0 0 (2 ^ 64), .cqDoorbell 0 0 (2 ^ 64), .descTransfer 0 0 (2 ^ 512) [], .descSyncArm 0 0 (2 ^ 512),
    .descMicrobatch 0 0 (2 ^ 512) [], .registerWrite me (2 ^ 24) 0, .publishTick (2 ^ 16) 0, .publishTick 0 (2 ^ 24),
    .sessionExpiry (2 ^ 16)].all (fun c => !c.wf)) = true := by decide +kernel

theorem test_wf_samples : ([Instr.lsmInserted 0 [], .lsmInserted 0 (List.replicate 8 (2 ^ 32)),
    .opticalPowerSample 0 [] [0, 0, 0, 0] (List.replicate 64 0) (List.replicate 64 0) [] (List.replicate 9 0),
    .opticalPowerSample 0 (List.replicate 8 0) [] (List.replicate 64 0) (List.replicate 64 0) [] (List.replicate 9 0),
    .opticalPowerSample 0 (List.replicate 8 0) [0, 0, 0, 0] [] (List.replicate 64 0) [] (List.replicate 9 0),
    .opticalPowerSample 0 (List.replicate 8 0) [0, 0, 0, 0] (List.replicate 64 0) [] [] (List.replicate 9 0),
    .opticalPowerSample 0 (List.replicate 8 0) [0, 0, 0, 0] (List.replicate 64 0) (List.replicate 64 0) [] [],
    .engineTempSample 0 [] (List.replicate 64 (0, 0)), .engineTempSample 0 [0, 0, 0, 0] [], .calTimelinePhase 0 true 65536,
    .supplySample 0 (2 ^ 32) 0 0 0 0, .supplySample 0 0 0 0 0 (2 ^ 32), .thermalSample 0 [] (List.replicate 6 0),
    .thermalSample 0 (List.replicate 112 0) [], .thermalSample 0 (List.replicate 112 0) (List.replicate 6 (2 ^ 32)),
    .backupLow (2 ^ 32) 0, .backupLow 0 (2 ^ 32), .ptpSyncRx 0 256 0 0 0 0 false, .ptpSyncRx 0 0 (2 ^ 80) 0 0 0 false,
    .ptpFollowUpRx 0 0 0 65536 0, .ptpDelayRespRx 0 256 0 0 0, .capacitanceMeasure (2 ^ 32) 0, .capacitanceMeasure 0 (2 ^ 32),
    .bistPowerSample (2 ^ 32)].all (fun c => !c.wf)) = true := by decide +kernel

/-! ## Witnesses -/

theorem witness_StepRunsFrontCommand : ({ State.reset with pending := [.localEdge, .stopPending] }).pending = .localEdge :: [.stopPending] := rfl

theorem witness_IdleStepServesOrTicks : State.reset.pending = [] ∧ State.reset.mgmt.queue = [] ∧
    (let s := { up with mgmt := { up.mgmt with queue := [{ cls := 3, item := .publish 1 O.BEAT_COUNT }] } }
     s.pending = [] ∧ s.boot.alwaysOn = true ∧ s.boot.mpUp = true ∧ s.nextEntry 3 = some { cls := 3, item := .publish 1 O.BEAT_COUNT }) := by
  decide +kernel

theorem witness_ExecLeavesTheQueue : ∃ t, exec .lateBeatResume State.reset = .next t := ⟨_, rfl⟩

theorem witness_StepKeepsCanonicalForms : Inv { State.reset with mem := [⟨0, 1⟩, ⟨5, 2⟩] } ∧
    ∃ t, step { State.reset with mem := [⟨0, 1⟩, ⟨5, 2⟩] } = .next t := ⟨by decide +kernel, _, rfl⟩

theorem witness_BeatSettingsInUnlockedOnly :
    (Admits up me O.BEAT_PERIOD_NS 8000 ∧ Admits up me O.BEAT_PERIOD_NS 1000000 ∧ up.obj O.BEAT_STATE = 0) ∧
    (Admits root me O.BEAT_PERIOD_NS 50000 ∧ root.obj O.BEAT_STATE ≠ 0) ∧ (Admits up me O.BEAT_ROLE 1 ∧ up.obj O.BEAT_STATE = 0) ∧
    Admits root me O.BEAT_ROLE 0 := by decide +kernel

theorem witness_BeatTreeAndReleaseWrites :
    (let s := up.put O.BEAT_ROLE 1
     Admits s me O.BEAT_START_COUNT 0 ∧ Admits s me O.BEAT_START_COUNT (2 ^ 64 - 1) ∧ s.obj O.BEAT_ROLE = 1 ∧ s.obj O.BEAT_STATE = 0) ∧
    (Admits root me O.BEAT_START_COUNT 5 ∧ root.obj O.BEAT_ROLE ≠ 0 ∧ root.obj O.BEAT_STATE ≠ 0) ∧
    (Admits locked me (treeKey 0) 23 ∧ Admits locked me (treeKey 1) 0xFF ∧ Admits locked me (treeKey 2) (2 ^ 24 - 1) ∧
      locked.obj O.BEAT_STATE = 2 ∧ locked.fullConfig = true) ∧
    (Admits up me (treeKey 0) 0 ∧ Admits up me (treeKey 1) 23 ∧ Admits up me (treeKey 2) 0 ∧
      ¬(up.obj O.BEAT_STATE = 2 ∨ up.obj O.BEAT_STATE = 3)) ∧
    (Admits up me O.BEAT_RELEASE 1 ∧ up.allEmpty = true ∧ up.noRestore = true ∧ up.obj O.BEAT_STATE = 0) ∧
    (Admits root me O.BEAT_RELEASE 1 ∧ root.allEmpty = true ∧ root.noRestore = true ∧ root.obj O.BEAT_STATE = 3) ∧
    (Admits root me O.HOLD_RELEASE 1 ∧ root.obj O.BEAT_ROLE = 1) := by decide +kernel

theorem witness_RootDecidesTheEdge : root.obj O.BEAT_STATE = 3 ∧ root.beat.decided = false ∧ root.boot.stopCause = none ∧
    root.optics.wins = [] ∧
    (let s := { root with optics := { root.optics with wins := [(0, { kind := 0, openedAt := 0, closeBeat := 4 })] } }
     s.nominal + 8 * (min s.beat.reqMax (s.obj O.SLACK_MAX_N) * s.obj O.BEAT_PERIOD_NS / 64) ≤ 0 + 16000000) := by decide +kernel

theorem witness_EdgeStepsInOrder :
    let s := { root with beat := { root.beat with placed := some ⟨12000, edgeWord 1 0 false false 12000, false⟩, firstEdge := true } }
    s.beat.placed = some ⟨12000, edgeWord 1 0 false false 12000, false⟩ ∧ s.onBeat = true ∧ s.boot.stopCause = none ∧
      s.power.stopPending = false ∧ s.obj O.BEAT_STATE = 3 ∧ s.beat.firstEdge = true := by decide +kernel

/-- An EDGE for count 1 with SLACK_N and REMAIN. -/
def edgeBlk (slack : Nat) (slip hold : Bool) (remain : Nat) : Nat := Fec.block 1 1 (edgeWord 1 slack slip hold remain)

theorem witness_FollowerPlacesItsEdge :
    (let s1 := ((locked.upTo 388000).ctlRx 0 (edgeBlk 0 false false 12000) 1 1 (2 ^ 41 - 2 ^ 16)).2
     let w := edgeWord 1 0 false false 12000
     locked.hears 0 = true ∧ locked.boot.stopCause = none ∧
     ((locked.upTo 388000).ctlRx 0 (edgeBlk 0 false false 12000) 1 1 (2 ^ 41 - 2 ^ 16)).1 = some w ∧
     s1.usable 0 = true ∧ s1.obj O.UPSTREAM_PRIMARY = 0 ∧ Edge.slack w ≤ 16 ∧ ¬(Edge.slip w = true ∧ Edge.hold w = true) ∧
     s1.obj O.BEAT_STATE = 2 ∧ s1.beat.placed = none ∧ Edge.low w = s1.nextCount % 65536 ∧ s1.optics.wins = [] ∧
     (∀ err : Fin 13, let t := 388000 + 12000 + err.val - 6
       t + s1.obj (O.EDGE_DELAY_TL0 + 0) + 6 = 388000 + Edge.remain w + 8 * (Edge.slack w * s1.obj O.BEAT_PERIOD_NS / 64) + err.val ∧
       388000 ≤ t ∧ t ≤ s1.nominal + 64 ∧ s1.nominal ≤ t + 64)) ∧
    (let s1 := ((locked.upTo 388000).ctlRx 0 (edgeBlk 17 false false 12000) 1 1 (2 ^ 41 - 2 ^ 16))
     s1.1 = some (edgeWord 1 17 false false 12000) ∧ 16 < Edge.slack (edgeWord 1 17 false false 12000)) ∧
    (let s1 := ((locked.upTo 388000).ctlRx 0 (edgeBlk 0 true true 12000) 1 1 (2 ^ 41 - 2 ^ 16))
     s1.1 = some (edgeWord 1 0 true true 12000) ∧ Edge.slip (edgeWord 1 0 true true 12000) = true ∧
       Edge.hold (edgeWord 1 0 true true 12000) = true) ∧
    (let s := locked.put O.UPSTREAM_PRIMARY 5
     (s.hears 0 = true ∧ ((s.upTo 388000).ctlRx 0 (edgeBlk 0 false false 12000) 1 1 (2 ^ 41 - 2 ^ 16)).1 = some (edgeWord 1 0 false false 12000) ∧
       ((s.upTo 388000).ctlRx 0 (edgeBlk 0 false false 12000) 1 1 (2 ^ 41 - 2 ^ 16)).2.obj O.UPSTREAM_PRIMARY ≠ 0 ∧
       ((s.upTo 388000).ctlRx 0 (edgeBlk 0 false false 12000) 1 1 (2 ^ 41 - 2 ^ 16)).2.obj O.UPSTREAM_SECONDARY ≠ 0)) := by decide +kernel

theorem witness_BeatnumAndLostEdges :
    (let s := locked.put O.BEAT_STATE 1
     let r := (s.upTo 100).ctlRx 0 (Fec.block 1 4 77) 1 4 0
     s.hears 0 = true ∧ s.boot.stopCause = none ∧ r.1 = some 77 ∧ r.2.usable 0 = true ∧ r.2.obj O.UPSTREAM_PRIMARY = 0 ∧
       r.2.obj O.BEAT_STATE = 1 ∧ r.2.beat.acqCount ≠ some 77) ∧
    (locked.obj O.BEAT_STATE = 2 ∧ locked.beat.placed = none ∧ locked.boot.stopCause = none) ∧
    (let s := { locked with beat := { locked.beat with second := [⟨0, 5, 512⟩, ⟨1, 6, 600⟩] } }
     s.beat.second = ⟨0, 5, 512⟩ :: [⟨1, 6, 600⟩] ∧ s.usable 0 = true) := by decide +kernel

theorem witness_RequestsClimbTheTree :
    (∀ n : Fin 17, 1 ≤ n.val →
      let r := rootTree.reqRx 1 (Fec.block 1 2 (reqWord 1 n.val 1 3 0)) 2 (3 * 2 ^ 38 + 255) 5
      let w := reqWord 1 n.val 1 3 0
      r.1 = some w ∧ 1 ≤ bits w 47 43 ∧ bits w 47 43 ≤ 16 ∧ bits w 63 48 = r.2.nextCount % 65536 ∧ r.2.obj O.BEAT_STATE = 3 ∧
        r.2.beat.decided = false) ∧
    (let s := { rootTree with beat := { rootTree.beat with decided := true } }
     let r := s.reqRx 1 (Fec.block 1 2 (reqWord 1 4 1 3 0)) 2 (3 * 2 ^ 38 + 255) 5
     r.1 = some (reqWord 1 4 1 3 0) ∧ r.2.obj O.BEAT_STATE = 3 ∧ r.2.beat.decided = true) ∧
    (let s := (locked.put (O.at O.LINK_STATE 1) 3).setLink 1 { outcome := 1, outMap := 15 }
     let r := s.reqRx 1 (Fec.block 1 2 (reqWord 1 4 1 3 0)) 2 (3 * 2 ^ 38 + 255) 5
     let q := s.reqRx 1 (Fec.block 1 3 (reqWord 1 0 1 3 0)) 3 (31 * 2 ^ 43 + 3 * 2 ^ 38 + 255) 2
     r.1 = some (reqWord 1 4 1 3 0) ∧ r.2.obj O.BEAT_STATE ≠ 3 ∧ r.2.upLink = some 0 ∧ r.2.beat.sentLow ≠ some (bits (reqWord 1 4 1 3 0) 63 48) ∧
     q.1 = some (reqWord 1 0 1 3 0) ∧ q.2.obj O.BEAT_STATE ≠ 3 ∧ q.2.upLink = some 0 ∧ q.2.beatOf (bits (reqWord 1 0 1 3 0) 63 48) ∉ q.2.beat.slipPassed) ∧
    (let q := rootTree.reqRx 1 (Fec.block 1 3 (reqWord 1 0 2 3 0)) 3 (31 * 2 ^ 43 + 3 * 2 ^ 38 + 255) 2
     q.1 = some (reqWord 1 0 2 3 0) ∧ q.2.obj O.BEAT_STATE = 3 ∧ q.2.beat.rootHold = false) ∧
    (let s := (locked.put O.CHIP_STATE 1).put O.CHIP_NUMBER 3
     let s := (s.setLink 0 { s.link 0 with degradedAt := some 0 })
     let s := { s with power := { s.power with slots := [(1, 4)] } }
     let a := s.accountPower
     let x : Int := 1 + s.obj O.SLACK_GUARD_NS
     let n := min 16 ((64 * x.toNat + s.obj O.BEAT_PERIOD_NS - 1) / s.obj O.BEAT_PERIOD_NS)
     s.obj O.BEAT_STATE = 2 ∧ s.beat.firstEdge = false ∧ 0 < x ∧ s.boot.stopCause = none ∧ a.slackCause 1 = 1 ∧
       a.slackCause 5 = 5 ∧ s.heldCause = 1 ∧ up.heldCause = 0 ∧ s.now + 24000 ≤ s.nominal ∧ s.beat.holdOn = false ∧ s.power.holdOn = false ∧
       s.obj O.CHIP_STATE = 1 ∧ s.beat.ownN < n ∧ s.upLink = some 0 ∧
       s.beat.sentLow ≠ some (bits (reqWord s.nextCount n 1 3 (s.obj O.CHIP_EPOCH)) 63 48)) := by decide +kernel

theorem witness_LateWorkAndDeadlines :
    let s := { up with net := { up.net with sync := [(4, { state := 1, deadlineSet := true, timeoutKind := 2, deadline := 7 }),
                                                       (5, { state := 1, deadlineSet := true, timeoutKind := 2, deadline := 3 })] } }
    ∃ d ds, s.nsStanding = d :: ds := ⟨_, _, rfl⟩

theorem witness_FormatsKeepTheirValues :
    (∀ F ∈ [Fmt.fj4, Fmt.fj8a, Fmt.fj8g, Fmt.fj16, Fmt.fp32, Fmt.w48], 0 < 2 ^ F.width ∧ (F.dec 0).isNan = false) ∧
    (Fmt.fp32.dec 0x7FC00000).isNan = true ∧ (Fmt.fj8a.dec 0x80).isNan = true := by decide +kernel

theorem witness_NonFiniteSourceMakesNanBlock : [Machine.Num.nan].any Num.bad = true ∧ [Machine.Num.zero, Machine.Num.inf true].any Num.bad = true := by
  decide +kernel

/-- A partition whose one release is due at its one operation. -/
def opJob (code : Nat) : Job :=
  { image := some { lists := [⟨0, 0, 0, 0xFFFF, [⟨code, 0, 0, 0, 0xFFFF, 0xFFFF, 0xFFFF, 0xFFFF, 0xFFFF, 0xFFFF, 0, 0⟩]⟩] },
    rels := [⟨0, 0, 0, 0xFFFF, 0xFFFF, 0, true, false, 0, none⟩], progs := [⟨0, 0, 0⟩] }

/-- That partition running. -/
def opState (code : Nat) : State := (up.put (O.at O.IMAGE_STATE 0) 3).setJob 0 (opJob code)

/-- An answer that is there is some answer. -/
theorem isSome_is {α β γ : Type} {x : Option (α × β × γ)} (h : x.isSome = true) : ∃ a b c, x = some (a, b, c) := by
  cases x with
  | none => cases h
  | some v => exact ⟨v.1, v.2.1, v.2.2, rfl⟩

theorem witness_TileOperationsIssue : ∀ code ∈ [0x0101, 0x0102, 0x0201, 0x0301, 0x0302, 0x0311, 0x0312, 0x0313, 0x0314, 0x0321, 0x0322,
    0x0323, 0x0401, 0x0501, 0x0502, 0x0503, 0x0601, 0x0701],
    ((opState code).findOp 0 0 code).any (fun x => !x.1.stands x.2.1) = true := by decide +kernel

theorem witness_MovingOperationsIssue : ∀ code ∈ [0x0801, 0x0901, 0x0A01, 0x0A02], ∃ s1 c r,
    (opState code).findOp 0 0 code = some (s1, c, r) := by
  intro code h
  refine isSome_is ?_
  revert code; decide +kernel

/-- A collective entry of one member, all of whose work is done. -/
def collJob : Job :=
  { image := some { colls := [⟨1, 0, 0xFFFF, 0xFFFF, 0, 0, 0, 0xFFFF, 0, [0]⟩] },
    colls := [{ entry := 0, step := 0, mb := 0xFFFF, grain := 0xFFFF, tagged := false, srcPre := none, dstPre := none, srcBank := 0,
                dstBank := 0 }] }

theorem witness_WorkCompletes :
    (let x : Share := ⟨3, 383, 0, 0, 0, 0, 0, 0, 0, false, true, 0, 0, false, [], [], [], none, [], [], 0, 0⟩
     let s := up.setJob 3 { shares := [x] }
     let due := fun (s : State) => (s.job 3).shares.find? (fun y => decide (y.rel = 3) && decide (y.tile = 383)) = some x ∧
       s.workStopped 383 = false
     let halted := { s with boot.stopCause := some 1 }
     let hot := { s with power.holdOn := true }
     let leaving := s.put (O.at O.IMAGE_STATE 3) 4
     let two := leaving.setJob 3 { shares := [x, { x with tile := 0 }] }
     ((halted.job 3).shares = [x] ∧ halted.workStopped 383 = true ∧ hot.workStopped 383 = true) ∧
     (due s ∧ (s.completeShare 3 x).imageState 3 ≠ 4) ∧
     (due leaving ∧ (leaving.completeShare 3 x).imageState 3 = 4 ∧ ((leaving.completeShare 3 x).job 3).shares = []) ∧
     due two ∧ (two.completeShare 3 x).imageState 3 = 4 ∧ ((two.completeShare 3 x).job 3).shares ≠ []) ∧
    (let s := up.setJob 0 collJob
     ∃ c r, (s.job 0).coll 0 = some c ∧ (s.job 0).colls.find? (fun y => decide (y.entry = 0)) = some r ∧ s.collDone 0 c r = true ∧ s.boot.stopCause = none) :=
  ⟨by decide +kernel, _, _, rfl, rfl, by decide +kernel, rfl⟩

theorem witness_VoteTimesOut :
    (let s := (up.put O.BEAT_COUNT 256).setJob 0 { voteDeadline := some 256 }
     (s.job 0).voteDeadline = some 256 ∧ 256 ≤ s.obj O.BEAT_COUNT) ∧
    (let s := (up.put O.BEAT_COUNT 255).setJob 0 { voteDeadline := some 256 }
     (s.job 0).voteDeadline = some 256 ∧ s.obj O.BEAT_COUNT < 256) ∧ (up.job 0).voteDeadline = none ∧
    (let s := up.setJob 0 { formed := some {} }
     (s.job 0).formed = some {} ∧ s.finalHanded 0 (s.stepNo 0) = true) := by decide +kernel

theorem witness_JobControlWrites :
    (∀ p : Fin 4,
      let good := fld 0 1 + fld 8 0x3F800000 + fld 12 0
      let bad := fld 8 0x7F800000
      Admits up me (O.at O.STEP_PARAM p.val) good ∧ paramOk (recF good 8 4) = true ∧ paramOk (recF good 12 4) = true ∧
      Admits up me (O.at O.STEP_PARAM p.val) bad ∧ paramOk (recF bad 8 4) = false ∧
      (let s := up.put (O.at O.IMAGE_STATE p.val) 2
       Admits s me (O.at O.START_BEAT p.val) 2 ∧ s.imageState p.val = 2 ∧ s.obj O.BEAT_COUNT + 2 ≤ 2 ∧
       Admits s me (O.at O.START_BEAT p.val) 1 ∧ 1 < s.obj O.BEAT_COUNT + 2) ∧
      (Admits up me (O.at O.START_BEAT p.val) 2 ∧ up.imageState p.val ≠ 2) ∧
      (let s := root.put (O.at O.IMAGE_STATE p.val) 3
       Admits s me (O.at O.UNLOAD p.val) 1 ∧ s.onBeat = true ∧ s.imageState p.val ≠ 0) ∧
      (Admits up me (O.at O.UNLOAD p.val) 1 ∧ up.onBeat = false ∧ up.imageState p.val = 0)) ∧
    (Admits up me O.DEBUG_ENABLE 1 ∧ up.obj O.DEBUG_ENABLE = 0 ∧ up.imageState up.debugPart = 0) ∧
    (let s := { up with dbg := { up.dbg with on := true } }.put O.DEBUG_ENABLE 1
     Admits s me O.DEBUG_HALT 1 ∧ Admits s me O.DEBUG_HALT 0) := by decide +kernel

theorem witness_BytesReadAsWritten : Memory.wf up.mem = true ∧ Memory.wf [⟨0, 1⟩, ⟨2 ^ 50 - 1, 255⟩] = true ∧
    ([1#8, 2#8] : List Byte)[1]? = some 2#8 := by decide +kernel

theorem witness_HostReachesItsMemory :
    up.portsUp = true ∧ up.portPart 0 = some 0 ∧ (1 : Fin 3).val ≠ 0 ∧ (2 : Fin 3).val ≠ 0 ∧ Memory.wf up.mem = true ∧
    (0 + 1 ≤ barSize 1 ∧ up.barCheck 0 0 (barAddr 1 0 0) 1 false = some Acc.ok) ∧
    (0 + 64 ≤ barSize 2 ∧ up.barCheck 0 0 (barAddr 2 0 0) 64 false = some Acc.ok) ∧
    (up.barCheck 0 0 (barAddr 1 0 0x10000) 4 true = some Acc.ok) ∧ up.barCheck 0 0 (barAddr 2 0 0) 4 true = some Acc.ok := by decide +kernel

theorem witness_HostAccessWaitsOrIsRefused :
    (let s := up.put (O.at O.IMAGE_STATE 0) 1
     s.portsUp = true ∧ s.portPart 0 = some 0 ∧ 0 + 1 ≤ barSize 2 ∧ s.barCheck 0 0 (barAddr 2 0 0) 1 false = none ∧
       s.barCheck 0 0 (barAddr 2 0 0) 1 true = none) ∧
    (let off := barSize 1 - 64
     off + 64 ≤ barSize 1 ∧ up.barCheck 0 0 (barAddr 1 0 off) 64 false ≠ none ∧ up.barCheck 0 0 (barAddr 1 0 off) 64 false ≠ some Acc.ok ∧
       up.barCheck 0 0 (barAddr 1 0 off) 64 true ≠ none ∧ up.barCheck 0 0 (barAddr 1 0 off) 64 true ≠ some Acc.ok) := by decide +kernel

theorem witness_ScrubFindsErrors :
    ((0 : Fin 396).val < 8 ∧ ¬(true = true ∧ (0 : Fin 396).val = 7 ∧ 0 % (stackSize / 64) * 64 + 64 = stackSize) ∧
      0 % (stackSize / 64) * 64 < resvBase) ∧
    ((7 : Fin 396).val < 8 ∧ ¬(true = true ∧ (7 : Fin 396).val = 7 ∧ (resvBase / 64 - 1) % (stackSize / 64) * 64 + 64 = stackSize) ∧
      (resvBase / 64 - 1) % (stackSize / 64) * 64 < resvBase) ∧
    (stackSize / 64 - 1) % (stackSize / 64) * 64 + 64 = stackSize ∧ (8 ≤ (8 : Fin 396).val ∧ 8 ≤ (395 : Fin 396).val) ∧ up.net.zeroHeld = [] ∧ (∀ n, (up.port n).qs = []) :=
  ⟨by decide +kernel, by decide +kernel, by decide +kernel, by decide +kernel, rfl, fun _ => rfl⟩

theorem witness_WireFormsReadBack : pkt0.wf = true ∧ Packet.wf { pkt0 with len := 1, payload := [0xFF], addr := 2 ^ 64 - 1 } = true ∧
    (List.replicate 272 1023).length = 272 ∧ (∀ x, x ∈ List.replicate 272 1023 → x < 1024) ∧
    (List.replicate 340 (0xFF : Byte)).length = 340 := by decide +kernel

/-- A demonstration image of 1,280 bytes, 64 bytes a row: one sheaf of one tile, a MATMUL and a CAST, one member; built from the
tables of 08_program_image.md and signed with the P-384 key below. Rows 0 to 9. -/
def demoLow : List Nat :=
  [0x100000000000000630000000000000007000000800000000000010100000005000009004050425653,
   0x78000002c00000000100000004000001400000018000000004000000030000002000000140000000010000000200000040000001000000000100000001,
   0x1400000400000000010000000c00000010000003c000000001000000090000002800000380000000010000000800000010000003400000000100000005,
   0x4000000440000000010000000d,
   0xffff000000010000000100001f4000001f400000000000010001000000400000000000010000,
   0x10100000000000100,
   0x2000000010000000100000040000000020000000000000000000000000000000000000001ffff00000102110200000000,
   0x10000000100000040000000400000000000000000000000000000000000000000ffff0000000201020000000100000000000000000000000000001000,
   0x1ffff0000ff020005000000020000000000000000000000000000300000000000000020000000000000000002,
   0x1ffff0000ff02130400000003000000000000000000000000000000000000000000004000000000000000000200000001000000010000004000000002]

/-- Rows 10 to 19. -/
def demoHigh : List Nat :=
  [0x800000000000000000020000000100000001000000400000000200000000000000000000000000000000,
   0x40ffffffff0000400000000000000000000001000100000000ffffffff0002ffff000100000000ffff00180101000000680000ffff0000000200000000,
   0x10001000000000000ffff0003ffffffff0002ffffffff00200501,
   0xffffffff000000000000,
   0x2000000000ffffffff000000000001ffffffffffff00060000,
   0xffff00000000000100010000,
   0xf0e0d0c0b0a0908070605040302010000000000,
   0x2000007d000000018000000000000000c0000010000400001358637bd3f8000000000000000000000,
   0x757f0300be33efecb9aaf12d97d8f88e14c78d9b3192ce19cd61e6220ebab370e957f3b64c7432768f80d49566406efd00000000000004800000010147535653,
   0x526d9596c8e356fa0d3f555c7804a6b76be346e25b7e786025ff3a39ffb2deb115a5de27c912c967794c973e7d7ee65]

/-- The image as a little-endian number. -/
def demoImage : Nat := (demoLow ++ demoHigh).foldr (fun r a => r + 2 ^ 512 * a) 0

/-- The public key that its signature verifies with. -/
def demoKey : Nat :=
  0x6617801961c2bfc242a1b1908912816bdae6faccb2ef967e38b09a3bdd2ae50ed7a820aef1554d1313dc711fd82cccc8b5d6e29505912eb8745f8a3c66fc286f0717cedf3c1b61ce6d158ac06032d8aa4a35a2ba857e2ca199c1c2057cd387c704

/-- A root that holds chip number 40 and the image's key. -/
def loadState : State :=
  let s := ((root.put O.CHIP_STATE 1).put O.CHIP_NUMBER 40).put (O.at O.IMAGE_STATE 0) 1
  { s with sec := { s.sec with imageKeys := [(0, demoKey)] } }

/-- The load request for it: length, one member, slot of chip 40. -/
def demoReq : LoadReq := ⟨fld 8 (recF demoImage 8 4) + fld 12 0 + fld 14 1, demoImage, 40, (0, 0, 0), none⟩

theorem witness_LoadEndsByItsChecks :
    (let s := loadState.setJob 0 { load := [demoReq] }
     (s.job 0).load = [demoReq] ∧ (∀ d, d ∈ s.diesOf 0 → bit s.host.zeroing d = false) ∧
     (s.setJob 0 { s.job 0 with load := [] }).loadCheck 0 demoReq.wrong demoReq.params demoReq.img demoReq.table = none) ∧
    (let r : LoadReq := { demoReq with wrong := some 0xFFFF }
     let s := loadState.setJob 0 { load := [r] }
     (s.job 0).load = [r] ∧ (∀ d, d ∈ s.diesOf 0 → bit s.host.zeroing d = false) ∧
     ((s.setJob 0 { s.job 0 with load := [] }).loadCheck 0 r.wrong r.params r.img r.table).isSome = true) := by decide +kernel

/-- A TRAIN_PARAM: version 1, lanes, no encryption, replay depth 3,072. -/
def trainBlk (lanes : Nat) : Nat := Fec.block 2 1 (1 * 2 ^ 56 + lanes * 2 ^ 52 + 3072 * 2 ^ 36)

theorem witness_LinksTrainToUp : ∀ link ∈ [(0 : Fin 24), 23],
    (Admits up me (O.at O.LINK_ENABLE link.val) 0 ∧ up.linkPresent link.val = true) ∧
    (Admits up me (O.at O.LINK_ENABLE link.val) 1 ∧ up.lstate link.val = LS.disabled ∧ (up.link link.val).express = false ∧
      up.boot.stopCause = none ∧ up.inResetHold = false) ∧
    (let s := (linkIn link.val LS.down {}).put (O.at O.LINK_ENABLE link.val) 1
     s.lstate link.val = LS.down ∧ s.obj (O.at O.LINK_ENABLE link.val) = 1 ∧ (s.link link.val).express = false ∧ s.inResetHold = false) ∧
    (let s := linkIn link.val LS.training {}
     let r := s.ctlRx link.val (trainBlk 15) 2 1 (3 * 2 ^ 48 + (2 ^ 36 - 1))
     let p := 1 * 2 ^ 56 + 15 * 2 ^ 52 + 3072 * 2 ^ 36
     (s.lstate link.val = LS.training ∨ s.lstate link.val = LS.retrain) ∧ r.1 = some p ∧ bits p 63 56 = 1 ∧ bits p 47 36 = 3072 ∧
       2 ≤ popcount (bits p 55 52 &&& (3 % 16)) 4 ∧ 2 ≤ popcount (bits p 55 52 &&& (15 % 16)) 4) ∧
    (let s := (linkIn link.val LS.identify { exch := true, heard := true, loopCount := 16 }).put (O.at O.LINK_ENABLE link.val) 1
     s.lstate link.val = LS.identify ∧ (s.link link.val).exch = true ∧ (s.link link.val).heard = true ∧ (s.link link.val).loopCount = 16 ∧
       s.obj (O.at O.LINK_ENABLE link.val) = 1 ∧ ((s.put O.LSM_PRESENT 1).obj O.LSM_PRESENT = 1) ∧ reachClass 0 ≠ 2) := by decide +kernel

theorem witness_FailedAttemptsAreCounted : ∀ st ∈ [LS.training, LS.identify, LS.retrain], ∀ link ∈ [(0 : Fin 24), 23],
    let s := linkIn link.val st { fails := 3 }
    s.linkPresent link.val = true ∧ s.boot.stopCause = none ∧ s.inResetHold = false ∧ s.lstate link.val = st ∧
      ((s.link link.val).exch && (s.link link.val).heard) = false := by decide +kernel

theorem witness_LinkDelayIsMeasured :
    (let s := linkIn 23 LS.identify { exch := true, heard := true, loopCount := 15 }
     s.linkPresent 23 = true ∧ s.measuring 23 = true ∧
       (s.link 23).loopCount + ((s.link 23).loopOut.filter (fun e => s.now < e.2 + 80000)).length < 16) ∧
    (let s := linkIn 23 LS.up {}
     s.hears 23 = true ∧ (s.ctlRx 23 (Fec.block 2 2 (5 * 2 ^ 48)) 2 2 (2 ^ 48 - 1)).1 = some (5 * 2 ^ 48)) ∧
    (let s := linkIn 23 LS.identify { exch := true, heard := true, loopCount := 15, loopOut := [(5, 100)] }
     let p := 5 * 2 ^ 48 + 900
     s.hears 23 = true ∧ s.measuring 23 = true ∧ ((s.upTo 80099).ctlRx 23 (Fec.block 2 3 p) 2 3 (2 ^ 48 - 2 ^ 32)).1 = some p ∧
       (s.link 23).loopOut.find (bits p 63 48) = some 100 ∧ 80099 < 100 + 80000 ∧ (s.link 23).loopCount + 1 = 16 ∧ (s.link 23).loopAdd = 0 ∧
       ((s.link 23).loopSum + ((80099 : Int) - 100 - (p % 2 ^ 32 : Nat))).toNat % 32 ≠ 16) ∧
    (let s := linkIn 23 LS.identify { exch := true, heard := true, loopCount := 14, loopOut := [(5, 100)] }
     s.measuring 23 = true ∧ (s.link 23).loopCount + 1 < 16) := by decide +kernel

theorem witness_FlitsArriveInOrder :
    (let s := linkIn 8 LS.up { outcome := 1 }
     Fec.rsDecode [] = none ∧ s.inSubslot 8 = false ∧ s.linkPresent 8 = true ∧ s.isUp 8 = true) ∧
    (let s := (linkIn 23 LS.up { outcome := 1 }).put O.BEAT_STATE 2
     s.inSubslot 23 = true ∧ s.linkPresent 23 = true ∧ s.isUp 23 = true ∧ (s.link 23).nak = false ∧ (s.link 23).credOwed = []) ∧
    (let s := linkIn 0 LS.up { outcome := 1, gapNext := some (1, 2) }
     s.inSubslot 0 = false ∧ (s.link 0).gapNext ≠ none ∧ ((linkIn 0 LS.up {}).link 0).gapNext = none) ∧
    (let s := linkIn 0 LS.up { rxNext := 4095 }
     recF (4094 * 65536 + 1) 2 2 ≠ (s.link 0).rxNext ∧ recF (4095 * 65536 + 1) 2 2 = (s.link 0).rxNext ∧ recF (4095 * 65536 + 1) 0 1 = 1 ∧
       s.inSubslot 0 = false ∧ s.rxEnc 0 = false) := by decide +kernel

/-- A plain data flit with SEQ 0 and a body of zeros, and its codeword. -/
def zeroFlit : List Byte := flitBytes 1 []

/-- Its codeword. -/
def zeroCw : List Nat := Fec.rsEncode (Fec.symbolsOf zeroFlit)

set_option maxRecDepth 100000 in
theorem test_zeroCw : Fec.rsDecode zeroCw = some (Fec.symbolsOf zeroFlit, []) := by decide +kernel

set_option maxRecDepth 100000 in
theorem test_zeroFlit : Fec.bytesOf (Fec.symbolsOf zeroFlit) = zeroFlit := by decide +kernel

set_option maxRecDepth 100000 in
theorem witness_FlitsArriveInOrder_data :
    let s := linkIn 0 LS.up { outcome := 1, outMap := 15 }
    let h := ofLE (zeroFlit.take 16)
    let c := (s.countFec 0 []).flitControl 0 h
    s.linkPresent 0 = true ∧ s.isUp 0 = true ∧
    crc32c (zeroFlit.take 336) = ofLE ((zeroFlit.drop 336).take 4) ∧ flitHeaderOk h = true ∧ c.isUp 0 = true ∧ recF h 0 1 = 1 ∧
    recF h 2 2 = (c.link 0).rxNext ∧ c.rxEnc 0 = false ∧ (c.link 0).rxMode = .idle ∧ (c.link 0).rxBuf = [] ∧
    (∀ b, b ∈ (zeroFlit.drop 16).take 320 → b = 0) ∧ (c.link 0).switchOut = none := by decide +kernel

theorem witness_ReplayResendsInOrder :
    (let s := linkIn 0 LS.up { replay := [⟨4, 1, 0, [], 7⟩, ⟨5, 1, 0, [], 0⟩] }
     s.linkPresent 0 = true ∧ s.isUp 0 = true ∧ (s.link 0).replay ≠ [] ∧ (s.link 0).replay.any (fun r => decide (8 ≤ r.count)) = false ∧
       s.idleSlot 0 = false ∧ (s.link 0).idleOnly = false) ∧
    (let s := linkIn 0 LS.up { replay := [⟨4, 1, 0, [], 7⟩], keyStop := true }
     s.isUp 0 = true ∧ (s.link 0).replay.any (fun r => decide (8 ≤ r.count)) = false ∧ (s.link 0).idleOnly = true) ∧
    (let s := (linkIn 23 LS.up { replay := [⟨4, 1, 0, [], 7⟩] }).put O.BEAT_STATE 2
     (s.upTo ((s.link 23).lastAckAt + s.obj O.REPLAY_TIMEOUT_NS * 8)).idleSlot 23 = false) ∧
    (let s := linkIn 0 LS.up { replay := [⟨4, 1, 0, [], 8⟩] }
     s.isUp 0 = true ∧ (s.link 0).replay ≠ [] ∧ (s.link 0).replay.any (fun r => decide (8 ≤ r.count)) = true) := by decide +kernel

theorem witness_LanesLeaveAndReturn :
    (let s := (linkIn 23 LS.up { outMap := 15 }).put (O.at O.ACTIVE_LANES 23) 15
     let q := 3 * 2 ^ 60
     s.linkPresent 23 = true ∧ s.isUp 23 = true ∧ bit (s.obj (O.at O.ACTIVE_LANES 23)) 3 = true ∧ s.inSubslot 23 = false ∧
       bit (s.obj (O.at O.ACTIVE_LANES 23) &&& (15 ^^^ (s.link 23).lostIn)) 3 = true ∧
       2 ≤ popcount (setBit (s.obj (O.at O.ACTIVE_LANES 23) &&& (15 ^^^ (s.link 23).lostIn)) 3 false) 4 ∧
       (let r := s.setLink 23 { s.link 23 with lostIn := 3 }
        popcount (setBit (r.obj (O.at O.ACTIVE_LANES 23) &&& (15 ^^^ (r.link 23).lostIn)) 3 false) 4 < 2 ∧
          bit (r.obj (O.at O.ACTIVE_LANES 23) &&& (15 ^^^ (r.link 23).lostIn)) 3 = true) ∧
       2 ≤ popcount (setBit (s.obj (O.at O.ACTIVE_LANES 23)) 3 false) 4 ∧ s.obj O.LANE_SER_LIMIT < 2 ^ 32 ∧
       (∀ cause ∈ [1, 2, 3, 4], let p := 3 * 2 ^ 60 + cause * 2 ^ 56
         (s.ctlRx 23 (Fec.block 2 4 p) 2 4 (2 ^ 56 - 1)).1 = some p ∧ ((s.link 23).outMap &&& (15 ^^^ bits p 63 60)) ≠ (s.link 23).outMap ∧
         ((s.link 23).pendMap &&& (15 ^^^ bits p 63 60)) ≠ (s.link 23).pendMap ∧ (s.link 23).switchOut = none ∧
         2 ≤ popcount ((s.link 23).outMap &&& (15 ^^^ bits p 63 60)) 4 ∧ 2 ≤ popcount ((s.link 23).pendMap &&& (15 ^^^ bits p 63 60)) 4 ∧
         bits p 59 56 = cause) ∧
       (s.ctlRx 23 (Fec.block 2 5 q) 2 5 (2 ^ 60 - 1)).1 = some q ∧ 2 ≤ popcount (bits q 63 60) 4 ∧
       (∀ reason ∈ [1, 3], (s.ctlRx 23 (Fec.block 2 7 (reason * 2 ^ 60)) 2 7 (2 ^ 60 - 1)).1 = some (reason * 2 ^ 60) ∧
         bits (reason * 2 ^ 60) 63 60 = reason)) ∧
    (let s := (linkIn 23 LS.up { outMap := 3, switchOut := some (3, 16), switchThen := some 1, switchIn := some (12, 1) }).put (O.at O.ACTIVE_LANES 23) 3
     let p := 3 * 2 ^ 60 + 2 ^ 56
     let q := 3 * 2 ^ 60 + 2 * 2 ^ 56
     let one := 2 ^ 60
     let a := 12 * 2 ^ 60
     popcount (setBit (s.obj (O.at O.ACTIVE_LANES 23)) 0 false) 4 < 2 ∧ bit (s.obj (O.at O.ACTIVE_LANES 23)) 0 = true ∧
       bit (s.obj (O.at O.ACTIVE_LANES 23)) 3 = false ∧
       (s.ctlRx 23 (Fec.block 2 4 p) 2 4 (2 ^ 56 - 1)).1 = some p ∧ popcount ((s.link 23).pendMap &&& (15 ^^^ bits p 63 60)) 4 < 2 ∧
       ((s.link 23).pendMap &&& (15 ^^^ bits p 63 60)) ≠ (s.link 23).pendMap ∧ bits p 59 56 = 1 ∧
       (s.ctlRx 23 (Fec.block 2 4 q) 2 4 (2 ^ 56 - 1)).1 = some q ∧ popcount ((s.link 23).outMap &&& (15 ^^^ bits q 63 60)) 4 < 2 ∧
       ((s.link 23).outMap &&& (15 ^^^ bits q 63 60)) ≠ (s.link 23).outMap ∧ bits q 59 56 = 2 ∧
       (s.ctlRx 23 (Fec.block 2 5 one) 2 5 (2 ^ 60 - 1)).1 = some one ∧ popcount (bits one 63 60) 4 < 2 ∧
       (s.link 23).switchOut = some (3, 16) ∧ (s.link 23).switchIn = some (12, 1) ∧
       (s.ctlRx 23 (Fec.block 2 6 a) 2 6 (2 ^ 60 - 1)).1 = some a ∧ (bits a 63 60 &&& (15 ^^^ (s.link 23).outMap)) ≠ 0) := by decide +kernel

/-- A packet of 64 bytes at an output: class 1, whole. -/
def outPkt : OutPkt := ⟨none, 1, List.replicate 64 0, true, 0, 0, 24, 0⟩

theorem witness_OutputsSpendCredit :
    (let s := linkIn 0 LS.up { outcome := 1, queue := [outPkt], credTx := [(1, 64)] }
     s.packetsOn 0 = true ∧ (s.link 0).keyStop = false ∧ (s.link 0).authStop = false ∧ (s.link 0).replayDue = false ∧ (s.link 0).cur = none ∧
       (s.link 0).nextPkt = some outPkt) ∧
    (let s := linkIn 0 LS.up { outcome := 1, queue := [outPkt], credTx := [] }
     s.packetsOn 0 = true ∧ (s.link 0).cur = none ∧ (s.link 0).nextPkt = none) ∧
    (let s := linkIn 0 LS.up { outcome := 1, cur := some outPkt }
     s.packetsOn 0 = true ∧ (s.link 0).cur = some outPkt) ∧
    (let s := linkIn 0 LS.up { outcome := 1, authStop := true }
     s.packetsOn 0 = true ∧ (s.link 0).idleOnly = true) ∧
    (let s := { up with sec := { up.sec with linkKeys := [(1, 5)] } }
     s.linkPresent 0 = true ∧ s.linkKey 0 0 (1 - (s.link 0).txPhase % 2) = some 5 ∧ (s.link 0).txRetired = false) ∧
    (up.setLink 0 { txRetired := true }).linkPresent 0 = true ∧ ((up.setLink 0 { txRetired := true }).link 0).txRetired = true ∧
    ({ up with sec := { up.sec with keyNeeded := [23] } }).sec.keyNeeded.contains 23 = true ∧
    (up.linkPresent 23 = true ∧ up.linkKey 23 0 (1 - (up.link 23).txPhase % 2) = none ∧ up.sec.keyNeeded.contains 23 = false) := by decide +kernel

/-- A packet of 64 bytes from chip 41 to chip 40: a WRITE into its HBM. -/
def fwd : Packet := ⟨1, 0, 64, 41, 0, 40, 0, 0, 2, 1, 40 * 2 ^ 50, 0, 0, 0, List.replicate 64 0x11⟩

/-- TL0 UP and MATCH, TL1 too, and chip 40 routed by TL1; the module is chip 50. -/
def netState : State :=
  let s := ((((up.put (O.at O.LINK_STATE 0) 3).put (O.at O.LINK_STATE 1) 3).put O.CHIP_STATE 1).put O.CHIP_NUMBER 50)
  let s := (s.setLink 0 { outcome := 1, outMap := 15 }).setLink 1 { outcome := 1, outMap := 15 }
  { s with net := { s.net with route := [(40, 0xFFFFFF0100000001)], epoch := [(42, 7)] } }

theorem witness_PacketsAreTested :
    ((linkIn 0 LS.up { outcome := 3 }).quarantined 0 = true) ∧ (up.quarantined 0 = false ∧ up.packetsOn 0 = false) ∧
    (netState.quarantined 0 = false ∧ netState.packetsOn 0 = true ∧ fwd.payload.length ≠ ({ fwd with len := 128 } : Packet).len) ∧
    Packet.headerOk { fwd with typ := 0 } = false ∧
    (let k := { fwd with srcChip := 42, srcEpoch := 6 }
     k.headerOk = true ∧ k.typ ≠ 9 ∧ k.srcEpoch < netState.epochOf k.srcChip) ∧
    (let k := { fwd with srcChip := 42, srcEpoch := 8 }
     k.headerOk = true ∧ k.typ ≠ 9 ∧ netState.epochOf k.srcChip < k.srcEpoch) ∧
    (let k := { fwd with dstChip := 50, addr := 50 * 2 ^ 50 }
     k.headerOk = true ∧ k.srcEpoch = netState.epochOf k.srcChip ∧ netState.ownChip k.dstChip = true) ∧
    (fwd.headerOk = true ∧ fwd.typ ≠ 9 ∧ fwd.srcEpoch = netState.epochOf fwd.srcChip ∧ netState.ownChip fwd.dstChip = false ∧
      fwd.hops ≠ 0 ∧ netState.obj O.CHIP_STATE ≠ 2 ∧ (netState.chooseOut fwd.dstChip fwd.cls (some 0) anyLink).isSome = true ∧
      netState.chooseOut 39 fwd.cls (some 0) anyLink = none) ∧
    (recF (ofLE (toLE 16 (fld 4 1))) 4 1 = 1 ∧ recF (ofLE (toLE 16 5)) 4 1 = 0 ∧ recF (ofLE (toLE 16 5)) 5 11 = 0 ∧
      Packet.crcOk { fwd with hops := 255 } (recF (ofLE (toLE 16 5)) 0 4) = false) := by decide +kernel

/-- A collective entry of a kind, of one member. -/
def entryOf (kind : Nat) : Coll := ⟨kind, 0, 0xFFFF, 0xFFFF, 0, 0, 0, 0xFFFF, 0, [0]⟩

/-- A job whose image has entries of kinds 1, 7 and 5, and a partner reserve of two slots of 16,384 bytes. -/
def rxJob : Job :=
  let im : Image := { stage := { mbs := 1, maxGrains := 1, grainRows := 64 }, colls := [entryOf 1, entryOf 7, entryOf 5] }
  let im := { im with ckpt := some { reserve := 0 } }
  let im := { im with pieces := [⟨0, 0, 5, 0, 2, 1, 0, 0xFFFF, 1, [0, 0], [2, 4096], 0, 0, 0x10000, 0, 0⟩] }
  { members := [(41, 0)], image := some im }

/-- The module that takes packets for its partition 0. -/
def rxState : State :=
  let s := (netState.put (O.at O.IMAGE_STATE 0) 3).setJob 0 rxJob
  let tags := [(9, ⟨2, 0, 0, 41, 0, 0, 64, true, 0x3FFF * 2 ^ 50, 100⟩), (10, ⟨2, 0, 0, 41, 0, 0, 64, false, 0, 100⟩)]
  { s with net := { s.net with tags := tags } }

/-- A good packet of each type from chip 41 for chip 50. -/
def rx (typ : Nat) : Packet :=
  let k : Packet := ⟨typ, 0, 0, 41, 0, 50, 0, 0, 0, 0, 0, 0, 0, 0, []⟩
  if typ = 1 then { k with route := 2, len := 64, payload := List.replicate 64 0x11, addr := 50 * 2 ^ 50 }
  else if typ = 2 then { k with route := 5, arg := 1, addr := 50 * 2 ^ 50 }
  else if typ = 3 then { k with route := 1, tag := 2 * 8192 + 9, len := 64, payload := List.replicate 64 0x11 }
  else if typ = 4 then { k with flags := 16, arg := 1 }
  else if typ = 5 then { k with tag := 2 * 8192 + 10 }
  else if typ = 6 then { k with route := 2, len := 64, payload := List.replicate 64 0x11 }
  else if typ = 7 then { k with len := 128, payload := List.replicate 128 0 }
  else if typ = 8 then { k with len := 16, payload := toLE 16 (fld 10 1 + fld 12 64) }
  else { k with dstChip := 0x3FFF, len := 16, payload := toLE 16 (fld 0 50) }

theorem witness_PacketsDoWhatTheirTypesSay :
    (∀ typ ∈ [1, 2, 3, 4, 5, 6, 7, 8, 9], let k := rx typ
      rxState.quarantined 0 = false ∧ rxState.packetsOn 0 = true ∧ k.payload.length = k.len ∧
      (rxState.headTests 0 k).2 = .eject ∧ k.spec < 2 ∧
      (typ ≠ 9 → k.dstEpoch = (if rxState.obj O.CHIP_STATE = 1 then rxState.obj O.CHIP_EPOCH else 0) ∧ rxState.memberOf k.dstPart k = true)) ∧
    (let k := rx 1
     rxState.access (.remote 0 k.srcChip k.srcPart) k.addr k.len true false = Acc.ok ∧
       rxState.ckTouches ((rxState.ownerOf (k.addr % 2 ^ 50)).getD 4) (k.addr % 2 ^ 50) k.len = false ∧
       rxState.beingZeroed (k.addr % 2 ^ 50) k.len = false ∧
       ({ rxState with host := { rxState.host with zeroing := 1 } }).beingZeroed (k.addr % 2 ^ 50) k.len = true) ∧
    (let k := rx 2
     rxState.access (.remote 0 k.srcChip k.srcPart) k.addr (64 * k.arg) false false = Acc.ok ∧
       rxState.touchesReserve ((rxState.ownerOf (k.addr % 2 ^ 50)).getD 4) (k.addr % 2 ^ 50) (64 * k.arg) = false ∧
       rxState.beingZeroed (k.addr % 2 ^ 50) (64 * k.arg) = false ∧
       ({ rxState with host := { rxState.host with zeroing := 1 } }).beingZeroed (k.addr % 2 ^ 50) (64 * k.arg) = true) ∧
    (let k := rx 3
     ∃ g, rxState.net.tags.find (k.tag % 8192) = some g ∧ g.gen = k.tag / 8192 ∧ g.chip = k.srcChip ∧ g.isRead = true ∧ k.len = g.len ∧
       rxState.reqCkpt g = false ∧ rxState.ckTouches g.owner (g.dst % 2 ^ 50) g.len = false ∧
       ({ rxState with net := { rxState.net with reqs := [(0, ⟨(0, 0, 0), 0xFFFF, 0, 41, 7, true, 0, 0, 64, 0, 0, 0, 0, 0, none, true⟩)] } }).reqCkpt g = true) ∧
    (let k := rx 5
     ∃ g, rxState.net.tags.find (k.tag % 8192) = some g ∧ g.gen = k.tag / 8192 ∧ g.chip = k.srcChip ∧ g.isRead = false) ∧
    rxState.net.tags.find ((2 * 8192 + 11) % 8192) = none ∧ (rx 4).ackReq = false ∧
    (∃ c, (rxState.job 0).coll 0 = some c ∧ c.kind ≠ 7 ∧ rxState.collInReserve 0 c = false) ∧
    (let k := { rx 6 with arg := 1 }
     (∃ c, (rxState.job 0).coll k.arg = some c ∧ c.kind = 7) ∧ (rxState.partnerRx 0 k).2 = Acc.ok) ∧
    (let k := { rx 8 with arg := 2 }
     (∃ c, (rxState.job 0).coll k.arg = some c ∧ c.kind = 5) ∧ (rxState.takeMb 0 (ofLE k.payload)).2 = true) ∧
    recF (ofLE (rx 9).payload) 6 10 = 0 ∧
    (({ up with net := { up.net with localQ := [(rx 4, 0)] } }).net.localQ = (rx 4, 0) :: [] ∧ up.boot.stopCause = none) ∧
    ({ up with boot := { up.boot with stopCause := some 1 } }).boot.stopCause ≠ none :=
  ⟨by decide +kernel, by decide +kernel, by decide +kernel, ⟨_, rfl, by decide +kernel⟩, ⟨_, rfl, by decide +kernel⟩,
    by decide +kernel, by decide +kernel, ⟨_, rfl, by decide +kernel⟩, ⟨⟨_, rfl, by decide +kernel⟩, by decide +kernel⟩,
    ⟨⟨_, rfl, by decide +kernel⟩, by decide +kernel⟩, by decide +kernel, ⟨rfl, rfl⟩, by decide +kernel⟩

/-- The head tests leave the module as it is where they eject. -/
theorem witness_headTests : ∀ typ ∈ [1, 2, 3, 4, 5, 6, 7, 8, 9], rxState.headTests 0 (rx typ) = (rxState, .eject) := by decide +kernel

theorem witness_TransportTablesAndTimers :
    (let s := { up with net := { up.net with epoch := [(16382, 5)] } }
     Admits s me O.EPOCH_VALUE 4 ∧ Admits s me O.EPOCH_VALUE 5 ∧ Admits s me O.EPOCH_VALUE 6 ∧ (16382 ≤ 16382) ∧ 4 < s.epochOf 16382 ∧
       5 = s.epochOf 16382 ∧ s.epochOf 16382 < 6 ∧ (∀ e, e ∈ s.net.tags → e.2.chip ≠ 16382) ∧
       ¬(s.obj O.CHIP_STATE = 1 ∧ 16382 = s.obj O.CHIP_NUMBER)) ∧
    (Admits up me O.ROUTE_ENTRY 0xFFFFFF0100000001 ∧ Route.bad 0xFFFFFF0100000001 up.linkPresent = false ∧
      Admits up me O.ROUTE_ENTRY 0xFFFF010100000001 ∧ Route.bad 0xFFFF010100000001 up.linkPresent = true) ∧
    (∃ g, rxState.net.tags.find 9 = some g ∧
      (rxState.job g.owner).ckpt.held.any (fun k => decide (k.typ = 3) && decide (k.tag = g.gen * 8192 + 9)) = false) ∧
    up.boot.stopCause = none ∧
    (let s := { up with net := { up.net with ctxs := [(3, { state := 2 })] } }
     ∃ c, s.net.ctxs.find 3 = some c ∧ c.state = 2 ∧ c.tagsOut = 0 ∧
       (∀ e, e ∈ s.net.reqs → ¬(e.2.part = c.owner ∧ e.2.chip = c.chip ∧ e.2.cls = c.cls ∧ e.2.next < e.2.total))) :=
  ⟨by decide +kernel, by decide +kernel, ⟨_, rfl, by decide +kernel⟩, rfl, ⟨_, rfl, by decide +kernel⟩⟩

/-- A module with every laser in a state, and its LSM present. -/
def lit (st : Nat) : State := (List.range 8).foldl (fun s l => s.put (O.LASER_STATE_0 + l) st) (up.put O.LSM_PRESENT 1)

theorem witness_LightFeedsTheWavelengths :
    up.fullConfig = true ∧ (up.put O.LSM_PRESENT 0).obj O.LSM_PRESENT ≠ 1 ∧ up.obj O.BRINGUP_STAGE = 9 ∧
    (State.reset.obj O.BRINGUP_STAGE ≠ 8 ∧ State.reset.obj O.BRINGUP_STAGE ≠ 9) ∧ (lit 4).obj O.LSM_PRESENT ≠ 0 ∧
    (∀ l : Fin 8, (lit 2).laser l.val = 2) ∧
    (∀ l : Fin 8, let s := (lit 4).put (O.LASER_STATE_0 + partnerOf l.val) 3
      s.laser l.val ≠ 0 ∧ s.laser l.val ≠ 6 ∧ s.laser l.val ≠ 7 ∧ s.laser (partnerOf l.val) = 3) ∧
    (∀ l : Fin 8, let s := ((lit 2).put O.ACTIVE_SELECT 0)
      s.laser l.val < 3 ∧ s.laserUsable (partnerOf l.val) = true ∧
      (s.put (O.LASER_STATE_0 + partnerOf l.val) 7).laserUsable (partnerOf l.val) = false) ∧
    ((lit 2).feedLaser 0 = 0 ∧ (lit 2).feedLaser 0 ≠ 1 ∧ (lit 2).laserUsable ((lit 2).feedLaser 0) = true ∧
      ((lit 2).put O.LASER_STATE_0 7).laserUsable 0 = false) ∧
    (∀ n, n ∈ classO → (lit 4).isUp n = false) ∧ (23 ∈ classO ∧ (linkIn 23 LS.up {}).isUp 23 = true) ∧
    ((lit 4).feedLaser 0 = 0 ∧ (lit 4).laser (partnerOf 0) ≠ 3 ∧ (lit 4).feedLaser 3 ≠ 7 ∧ (lit 4).optics.pending.find 3 = none) ∧
    (let s := { lit 4 with optics := { (lit 4).optics with pending := [(3, 5)] } }
     s.feedLaser 3 ≠ 7 ∧ s.optics.pending.find 3 ≠ none) ∧
    (∀ k : Fin 4, let s := { lit 4 with optics := { (lit 4).optics with crossed := [(k.val, 100)] } }
      s.optics.crossed.find k.val = some 100) ∧
    Admits (lit 4) me O.COMMISSION 1 ∧
    (let s := { (lit 4).put O.REFERENCE_SOURCE 1 with optics := { (lit 4).optics with readySince := some 0 } }
     s.optics.readySince = some 0 ∧ s.obj O.REFERENCE_SOURCE = 1) := by decide +kernel

theorem witness_RingsAreCalibrated : ∀ c ∈ [(0 : Fin 64), 63], let n := 8 + c.val / 4
    (let s := up.setChan c.val { lostDrop := some 5, lostMod := some 5, dropAt := some 7, modAt := some 7 }
     s.fullConfig = true ∧ (s.chan c.val).lostDrop = some 5 ∧ (s.chan c.val).lostMod = some 5 ∧
       (s.chan c.val).dropAt = some 7 ∧ (s.chan c.val).modAt = some 7 ∧ (s.chan c.val).overdue = false ∧ s.isUp n = false) ∧
    ((up.chan c.val).modAt = none ∧ (up.chan c.val).dropAt = none ∧ (up.chan c.val).overdue = false ∧
      ((linkIn n LS.up { outMap := 15 }).put (O.at O.ACTIVE_LANES n) 7).obj (O.at O.ACTIVE_LANES n) ≠ 15) ∧
    (let s := linkIn n LS.up { outcome := 1, outMap := 15 }
     (s.chan c.val).asked = false ∧ s.isUp n = true) := by decide +kernel

theorem witness_RingsAreCalibrated_idle : ∀ link ∈ [(8 : Fin 24), 23], let n := link.val
    (8 ≤ n ∧ (locked.scheduling && !locked.inHold) = false ∧ locked.onBeat = true) ∧
    (let s := linkIn n LS.up { outcome := 1, outMap := 15 }
     (s.scheduling && !s.inHold) = false ∧ s.onBeat = false ∧ s.isUp n = true ∧ (s.link n).express = false ∧ (s.link n).outMap = 15 ∧
       (s.link n).pendMap = 15 ∧ (s.link n).switchOut = none ∧ s.winOpen n = false) := by decide +kernel

/-- A channel with a calibration window in a phase, its lane out of or in the lane map. -/
def winState (c phase map : Nat) : State :=
  let s := linkIn (8 + c / 4) LS.up { outMap := map }
  { s with optics := { s.optics with wins := [(c, ⟨2, 0, 9, phase, 0, 0, true, false⟩)] } }

/-- A channel with a receiver's calibration in a phase. -/
def rxsState (c phase : Nat) : State :=
  { up.put (O.at O.ACTIVE_LANES (8 + c / 4)) 15 with optics := { up.optics with rxs := [(c, ⟨0, phase⟩)] } }

theorem witness_RingsAreCalibrated_windows : ∀ c ∈ [(0 : Fin 64), 63], let c := c.val; let n := 8 + c / 4; let lane := c % 4
    (∀ ph : Fin 5, let s := winState c ph.val (setBit 15 lane false)
      s.optics.wins.find c = some ⟨2, 0, 9, ph.val, 0, 0, true, false⟩ ∧ bit (s.link n).outMap lane = false) ∧
    (∀ ph ∈ [4, 5], let s := winState c ph 15
      s.optics.wins.find c = some ⟨2, 0, 9, ph, 0, 0, true, false⟩ ∧ bit (s.link n).outMap lane = true) ∧
    (rxsState c 1).optics.rxs.find c = some ⟨0, 1⟩ ∧ (rxsState c 2).optics.rxs.find c = some ⟨0, 2⟩ ∧
    bit ((rxsState c 2).obj (O.at O.ACTIVE_LANES n)) lane = true := by decide +kernel

theorem witness_RingsAreCalibrated_plan :
    (Admits up me (planKey 0) (up.obj (planKey 0)) ∧ up.noneRunning = true ∧ up.planFits (up.obj (planKey 0)) = true ∧
      Admits up me (planKey 1) (4 * up.obj O.CAL_WINDOW_BEATS) ∧ Admits up me (planKey 17) (up.obj O.CAL_STRIDE_BEATS - 1) ∧
      up.obj O.CAL_STRIDE_BEATS - 1 < up.obj O.CAL_STRIDE_BEATS) ∧
    (let s := up.put (O.at O.IMAGE_STATE 3) 3
     Admits s me (planKey 17) 0 ∧ s.noneRunning = false) := by decide +kernel

/-- TL8 and TL9 paired in an express map. -/
def mapPair : Nat := 2 ^ 128 - 1 - (0xFF - 9) - (0xFF - 8) * 256

theorem witness_ReshapeMovesLinks :
    (let s := up.put O.EXPRESS_PENDING mapPair
     Admits s me O.RESHAPE_ARM 1 ∧ s.reshapeCheck = 0 ∧ s.noneRunning = true ∧ s.onBeat = false) ∧
    (let s := locked.put O.EXPRESS_PENDING mapPair
     Admits s me O.RESHAPE_ARM 1 ∧ s.reshapeCheck = 0 ∧ s.onBeat = true) ∧
    (let s := up.put O.EXPRESS_PENDING 0
     Admits s me O.RESHAPE_ARM 1 ∧ s.reshapeCheck ≠ 0) ∧
    (let s := { up.put O.RESHAPE_STATE 2 with optics := { up.optics with armed := some mapPair } }
     s.optics.armed = some mapPair ∧ s.obj O.RESHAPE_STATE = 2 ∧ 8 ∈ touched (s.obj O.EXPRESS_ACTIVE) mapPair ∧ mapByte mapPair 8 = 9) := by
  decide +kernel

theorem witness_NeighboursAreKnownAndJudged :
    (∀ n ∈ [(0 : Fin 24), 23], let n := n.val
      (let s := linkIn n LS.identify {}
       s.linkPresent n = true ∧ s.lstate n = LS.identify) ∧
      (let s := linkIn n LS.up { identSets := 4 }
       s.lstate n = LS.up ∧ (s.link n).identSets ≠ 0) ∧
      (let w := 41 * 2 ^ 50 + 3 * 2 ^ 26
       let s := linkIn n LS.identify { newIdent := some w, newS0 := some 1, newS1 := some 2 }
       (s.ctlRx n (Fec.block 3 1 w) 3 1 (2 ^ 23 - 1)).1 = some w ∧ (s.link n).newIdent = some w ∧ (s.link n).newS0 = some 1 ∧
         (s.link n).newS1 = some 2 ∧ Ident.plain w = Ident.plain w) ∧
      (let w := 41 * 2 ^ 50 + 3 * 2 ^ 26
       let s := linkIn n LS.up { ident := w }
       (s.ctlRx n (Fec.block 3 1 w) 3 1 (2 ^ 23 - 1)).1 = some w ∧ Ident.same (s.link n).ident w = true ∧
         Ident.same (s.link n).ident (42 * 2 ^ 50) = false ∧ (s.ctlRx n (Fec.block 3 1 (42 * 2 ^ 50)) 3 1 (2 ^ 23 - 1)).1 = some (42 * 2 ^ 50)) ∧
      (∀ half : Fin 2, let s := linkIn n LS.up { serial0 := 1, serial1 := 1 }
        (s.ctlRx n (Fec.block 3 (2 + half.val) (2 ^ 64 - 1)) 3 (2 + half.val) 0).1 = some (2 ^ 64 - 1) ∧
          (if half.val = 0 then (s.link n).serial0 else (s.link n).serial1) ≠ 2 ^ 64 - 1) ∧
      Admits up me O.WIRING_ENTRY (1 + 41 * 2 ^ 34 + 5 * 2 ^ 48) ∧ Admits up me O.WIRING_ENTRY 5 ∧ Wire.bad 5 = true ∧
      (let s := linkIn n LS.up { reason := 6 }
       (s.link n).reason = 6 ∧ s.hears n = true)) ∧
    ∃ v, Admits up me O.WIRING_ENTRY v ∧ Wire.bad v = false := ⟨by decide +kernel, up.wiring 0, by decide +kernel⟩

theorem witness_ChipsAreAdoptedReleasedAndFenced :
    (let v := 16382
     Admits up me O.ADOPT v ∧ up.obj O.RTV_MODE ≠ 1 ∧ up.obj O.CHIP_STATE = 0 ∧ v % 65536 ≤ 16382 ∧
       v / 65536 % 65536 = up.epochOf (v % 65536) ∧ up.obj O.CRITICAL_NOT_MATCH = 0) ∧
    (Admits up me O.ADOPT 16383 ∧ up.adoptResult 16383 0 ≠ 0) ∧
    (let s := up.put O.CHIP_STATE 1
     Admits s me O.RELEASE 1 ∧ s.obj O.CHIP_STATE = 1 ∧ s.allEmpty = true) ∧
    (Admits up me O.RELEASE 1 ∧ up.obj O.CHIP_STATE ≠ 1) ∧
    (let s := ((linkIn 0 LS.up {}).put O.CHIP_STATE 1).put O.CHIP_NUMBER 50
     let w := 50 * 2 ^ 50 + 9 * 2 ^ 18
     let o := 51 * 2 ^ 50 + 9 * 2 ^ 18
     s.hears 0 = true ∧ (s.ctlRx 0 (Fec.block 3 4 w) 3 4 (2 ^ 18 - 1)).1 = some w ∧ s.obj O.CHIP_STATE = 1 ∧ bits w 63 50 = s.obj O.CHIP_NUMBER ∧
       bits w 49 34 = s.obj O.CHIP_EPOCH ∧ Memory.wf s.mem = true ∧ (s.ctlRx 0 (Fec.block 3 4 o) 3 4 (2 ^ 18 - 1)).1 = some o ∧
       ¬(s.obj O.CHIP_STATE = 1 ∧ bits o 63 50 = s.obj O.CHIP_NUMBER ∧ bits o 49 34 = s.obj O.CHIP_EPOCH)) ∧
    (let s := ((linkIn 0 LS.up {}).put O.CHIP_STATE 2).put O.FENCE_RECORD (fenceRecord 4 0xFF 50 0 1 0 0)
     let s := { s with net := { s.net with fencedAt := some s.now } }
     let w := 50 * 2 ^ 50 + 9 * 2 ^ 18
     let r := s.ctlRx 0 (Fec.block 3 4 w) 3 4 (2 ^ 18 - 1)
     s.hears 0 = true ∧ r.1 = some w ∧ r.2.justFenced (bits w 63 50) (bits w 49 34) = true) ∧
    ({ up with net := { up.net with fenceZeroing := true } }).net.fenceZeroing = true := by decide +kernel

/-- A checkpoint of a layer that has been handed over. -/
def ckJob (layer : Nat) : Job :=
  { image := some {}, ckpt := { runs := [{ layer := layer, boundary := 5, head := [], live := [], left := [], slot := some 1, handed := true }] } }

theorem witness_CheckpointsComplete :
    (∀ p : Fin 4, let p := p.val
      (Admits up me (O.at O.DATA_CURSORS p) (fld 8 16) ∧ recF (fld 8 16) 8 1 ≤ 16 ∧ recF (fld 8 16) 9 7 = 0) ∧
      (Admits up me (O.at O.DATA_CURSORS p) (fld 8 17) ∧ 16 < recF (fld 8 17) 8 1) ∧
      (Admits up me (O.at O.STORE_TARGET p) 0 ∧ recF 0 18 2 = 0 ∧ recF 0 41 7 = 0) ∧
      (let v := 1 + fld 40 8
       Admits up me (O.at O.STORE_TARGET p) v ∧ recF v 18 2 = 0 ∧ recF v 41 7 = 0 ∧ v ≠ 0 ∧ 1 ≤ recF v 40 1 ∧ recF v 40 1 ≤ 8) ∧
      (let v := fld 40 9
       Admits up me (O.at O.STORE_TARGET p) v ∧ v ≠ 0 ∧ 8 < recF v 40 1) ∧
      (∀ layer ∈ [2, 3], let s := up.setJob p (ckJob layer)
        ((s.job p).image = some {} ∧ ((s.job p).ckpt.runs.find? (fun x => decide (x.layer = layer) && x.handed)).isSome = true) ∧
        (s.put O.FLASH_WRITE_ENABLED 1).obj O.FLASH_WRITE_ENABLED ≠ 0)) := by decide +kernel

/-- A partition with an image loaded, of a module that may restore it; its restore block is 64 bytes of zeros at address 0. -/
def restState : State :=
  (((root.put O.CHIP_STATE 1).put O.CHIP_NUMBER 40).put (O.at O.IMAGE_STATE 0) 2).setJob 0 { image := some {} }

/-- That partition with a restore under way from one source. -/
def restFrom (source : Nat) (ok : Bool) : State :=
  let r : Restore := { boundary := 0, mask := 15, since := 0, who := none, source := source, liveOk := ok }
  restState.setJob 0 { image := some {}, ckpt := { restore := some r } }

theorem witness_RestoreTriesItsSources :
    (let a := 0x3FFF * 2 ^ 50
     Admits restState me (O.at O.RESTORE_REQUEST 0) a ∧ restState.restoreWrong 0 = false ∧ (restState.job 0).image = some {} ∧
       restState.tableOk 0 a 64 = true ∧ restState.badBlock 0 (restState.readLE (a % 2 ^ 50) 64) {} = false ∧
       Admits up me (O.at O.RESTORE_REQUEST 0) a ∧ up.restoreWrong 0 = true ∧
       Admits restState me (O.at O.RESTORE_REQUEST 0) 1 ∧ restState.tableOk 0 1 64 = false) ∧
    (let s := restFrom 2 false
     let r : Restore := { boundary := 0, mask := 15, since := 0, who := none, source := 2, liveOk := false }
     (s.job 0).ckpt.restore = some r ∧ (s.job 0).image = some {} ∧ ¬(r.source = 2 ∧ r.rd = 1) ∧
       s.openSource 0 r {} (s.sourceSlot 0 r {} 0 []).1 (s.sourceSlot 0 r {} 0 []).2 (s.sourceErr 0 r {} []) ≠ 0) ∧
    (let r : Restore := { boundary := 0, mask := 15, since := 0, who := none, source := 2, liveOk := false, rd := 1 }
     let j : Job := { (restFrom 2 false).job 0 with ckpt := { ((restFrom 2 false).job 0).ckpt with restore := some r } }
     let s := (restFrom 2 false).setJob 0 j
     (s.job 0).ckpt.restore = some r ∧ (s.job 0).image = some {} ∧ r.source = 2 ∧ r.rd = 1) ∧
    (let s := restFrom 1 true
     let r : Restore := { boundary := 0, mask := 15, since := 0, who := none, source := 1, liveOk := true }
     let put := s.fromSource 0 r {} [] (s.job 0).live
     (s.job 0).ckpt.restore = some r ∧ s.openSource 0 r {} (s.sourceSlot 0 r {} 0 []).1 (s.sourceSlot 0 r {} 0 []).2 (s.sourceErr 0 r {} []) = 0 ∧
       put.1.mismatch {} r (s.job 0).live (s.sourceDir 0 r {} []) = none) ∧
    (let s := restFrom 1 true
     let r : Restore := { boundary := 0, mask := 15, since := 0, who := none, source := 1, liveOk := true }
     ((s.fromSource 0 r {} [] []).1.mismatch {} r [] [(0, 0, 5)]).isSome = true) := by decide +kernel

/-- A module on which a time since a supply condition is noted. -/
def pow (f : Power → Power) : State := { up with power := f up.power }

theorem witness_SupplyEventsStopTheModule :
    (up.boot.alwaysOn = true ∧ up.running = true ∧ fLt 0x42100000 0x42180000 = true ∧ 2 ≤ up.obj O.BRINGUP_STAGE ∧
      up.boot.stopCause = none ∧ up.power.alert = false ∧ fLt 0x42370000 0x42380000 = true ∧ fLt 0x42380000 0x42380000 = false) ∧
    (let s := pow (fun p => { p with okSince := some 9, alert := true })
     s.power.okSince = some 9 ∧ s.power.alert = true ∧ s.boot.alwaysOn = true ∧ s.boot.stopCause = none ∧ s.power.stopPending = false ∧
       s.power.ovOpen = false) ∧
    (let s := pow (fun p => { p with lowSince := some 9 })
     s.power.lowSince = some 9 ∧ s.running = true ∧ s.power.stopPending = false ∧ s.power.ovOpen = false ∧ s.onBeat = false ∧
       (s.put O.BEAT_STATE 3).onBeat = true) ∧
    (let s := pow (fun p => { p with highSince := some 9 })
     s.power.highSince = some 9 ∧ s.boot.alwaysOn = true ∧ s.power.ovOpen = false) ∧
    (let s := pow (fun p => { p with busOkSince := some 9, ovOpen := true })
     s.power.busOkSince = some 9 ∧ s.power.ovOpen = true) ∧
    (∀ stage ∈ [3, 9], let s := (pow (fun p => { p with railBadSince := some 9 })).put O.BRINGUP_STAGE stage
      s.power.railBadSince = some 9 ∧ 3 ≤ s.obj O.BRINGUP_STAGE ∧ s.obj O.BRINGUP_STAGE ≤ 9 ∧ s.boot.alwaysOn = true ∧ s.boot.stopCause = none) ∧
    ({ up with boot := { up.boot with stopCause := some 1 } }).boot.stopCause ≠ none := by decide +kernel

theorem witness_ClockTrimAndBallast :
    up.running = true ∧
    (let s := (pow (fun p => { p with ballast := [(16 * 3 + 15, { level := 4, computed := 0, below := 0 })] })).put O.CLOCK_MHZ 2000
     let b := s.power.ballast.get (16 * 3 + 15) {}
     s.running = true ∧ b.computed < b.level ∧ 0 < s.obj O.CLOCK_MHZ) ∧
    (∀ mhz ∈ [2000, up.obj O.BOOST_MAX_MHZ - 50],
      let s := (pow (fun p => { p with lastRise := some 0, mode := 1 })).put O.CLOCK_MHZ mhz
      let s := { s with now := 8000000 }
      s.running = true ∧ s.power.mode = 1 ∧ s.power.moving = false ∧ 2000 ≤ s.obj O.CLOCK_MHZ ∧
        s.obj O.CLOCK_MHZ + 50 ≤ s.obj O.BOOST_MAX_MHZ ∧ s.power.lastRise = some 0 ∧ 0 + 8000000 ≤ s.now ∧ s.power.marginAt + 8000000 ≤ s.now ∧
        s.power.alert = false) ∧
    (Admits up me O.CLOCK_MODE 0 ∧ Admits up me O.CLOCK_MODE 2 ∧ up.onBeat = false ∧ root.onBeat = true ∧ Admits root me O.CLOCK_MODE 1 ∧
      Admits up me O.CLOCK_MODE 255) ∧
    (let s := up.setJob 3 { image := some { stage := { minFixed := 50001 } } }
     Admits s me O.CLOCK_MODE 2 ∧ (s.job 3).image = some { stage := { minFixed := 50001 } } ∧ s.obj O.BEAT_PERIOD_NS < 50001) ∧
    (let s := (pow (fun p => { p with moving := true, target := 1800 })).put O.CLOCK_MHZ 2000
     s.running = true ∧ s.power.moving = true ∧ s.obj O.CLOCK_MHZ ≠ s.power.target) := by decide +kernel

/-- What each die reads in a sample. -/
def reads (s : State) (rs : List Int) : List (Int × Nat × Bool) :=
  let base := fun (d : Nat) => if d < 4 then 24 * d else 96 + 8 * (d - 4)
  let step := fun (a : State × List (Int × Nat × Bool)) (d : Nat) =>
    let r := a.1.sampleDie d (rs.drop (base d)) 0
    (r.1, a.2 ++ [r.2])
  ([0, 1, 2, 3, 4, 5].foldl step (s, [])).2

theorem witness_TemperaturesCapTheDies :
    ((∀ i, up.power.sensors.find (32 * 5 + i) = none) ∧ sensorCount 5 ≤ (List.replicate 8 (1200 : Int)).length ∧
      (∀ r, r ∈ (List.replicate 8 (1200 : Int)).take (sensorCount 5) → -320 ≤ r ∧ r ≤ 1200) ∧
      (∀ r, r ∈ (List.replicate 8 (-320 : Int)).take (sensorCount 5) → -320 ≤ r ∧ r ≤ 1200)) ∧
    (up.running = true ∧ ((reads up (List.replicate 112 1000)).getD 0 (0, 0, true)).1 = 1000 ∧ (1000 : Int) ≤ 1000) ∧
    (∀ d, d < 6 → ((reads up (List.replicate 112 920)).getD d (0, 0, true)).2.2 = true ∧
      ((reads up (List.replicate 112 920)).getD d (0, 0, true)).1 = 920) ∧
    (up.obj O.BRINGUP_STAGE = 9 ∧ up.onBeat = false ∧ up.power.holdOn = false ∧ root.onBeat = true ∧ root.power.holdOn = false) ∧
    (∀ k : Fin 5, (880 : Int) + 8 * ((k.val : Nat) : Int) < 880 + 8 * ((k.val : Nat) : Int) + 1 ∧
      (880 : Int) + 8 * ((k.val : Nat) : Int) + 1 ≤ 880 + 8 * (((k.val : Nat) : Int) + 1)) ∧
    (let s := pow (fun p => { p with hotSince := [(5, 0)] })
     s.power.hotSince.find 5 = some 0 ∧ s.running = true ∧ s.power.hotDone.contains 5 = false) :=
  ⟨⟨fun _ => rfl, by decide +kernel⟩, by decide +kernel, by decide +kernel, by decide +kernel, by decide +kernel, by decide +kernel⟩

/-- A pair of 16 entries each way, enabled. -/
def pair : QPair := { sqBase := 0x1000, cqBase := 0x2000, sqSize := 16, cqSize := 16, enable := true, state := 1 }

/-- Port 0 with queue pair 63 as given. -/
def qpState (x : QPair) : State := up.setQp 0 63 x

theorem witness_QueuePairsFollowTheirRules :
    (let s := qpState { pair with enable := false, state := 0 }
     (s.qp 0 63).good = true ∧ (s.qp 0 63).held = [] ∧ (s.qp 0 63).waiting = [] ∧ (s.qp 0 63).running = [] ∧ (s.qp 0 63).done = []) ∧
    (bit 1 0 = true ∧ (qpState {}).qp 0 63 = {} ∧ QPair.good {} = false ∧ bit 3 0 = true ∧ 2 ≤ 3) ∧
    (let s := qpState pair
     (s.qp 0 63).state = 1 ∧ 15 % 65536 < (s.qp 0 63).sqSize ∧ (s.qp 0 63).sqSize ≤ 16 % 65536 ∧ 15 % 65536 < (s.qp 0 63).cqSize ∧
       (s.qp 0 63).cqSize ≤ 16 % 65536 ∧ (s.qp 0 63).held = [] ∧ ((qpState {}).qp 0 63).state ≠ 1) ∧
    (let s := qpState { pair with done := [⟨4, 5, 0, 0⟩], cqTail := 15 }
     let x := s.qp 0 63
     x.done = ⟨4, 5, 0, 0⟩ :: [] ∧ x.waiting = [] ∧ x.state = 1 ∧ x.enable = true ∧ x.held = [] ∧ x.full = true) ∧
    (let s := qpState { pair with done := [⟨4, 5, 0, 0⟩], cqHead := 5, cqTail := 15 }
     (s.qp 0 63).full = false) := by decide +kernel

/-- A descriptor TRANSFER of 64 bytes from local HBM to the local store of tile 0. -/
def copyDesc : Nat :=
  fld 0 0x01 + fld 2 7 + fld 8 (0x3FFF * 2 ^ 50) + fld 16 (0x3FFF * 2 ^ 50 + 0x1000) + fld 24 64 + fld 30 0xFFFF

theorem witness_DescriptorsStartTheirWork :
    (let s := qpState { pair with sqTail := 1 }
     let x := s.qp 0 63
     x.state = 1 ∧ x.enable = true ∧ x.sqHead ≠ x.sqTail ∧ x.held = [] ∧ x.full = false ∧ x.waiting = [] ∧
       ((qpState { pair with sqTail := 1, cqTail := 15 }).qp 0 63).full = true ∧
       (∀ raw ∈ [copyDesc, 0x10, 0x20], s.descHeld 0 { seq := x.seqNext, raw := raw, data := [] } = false) ∧ bit (recF copyDesc 1 1) 0 = false ∧
       (∀ r, r ∈ x.running → ¬(r.1 < x.seqNext)) ∧ (∀ d, d ∈ x.done → ¬(d.seq < x.seqNext)) ∧ s.portPart 0 = some 0 ∧ s.obj O.CHIP_STATE ≠ 2 ∧
       descOps.contains (recF 0xEE 0 1) = false ∧ descResv (fld 0 1 + fld 4 1) = true ∧
       (∀ raw ∈ [copyDesc, 0x02 + fld 8 4 + fld 12 1, 0x03 + fld 10 1, 0x10, 0x11, 0x12, 0x20, 0x21, 0x30 + fld 8 1 + fld 24 1, 0x31],
         recF raw 0 1 = raw % 256 ∧ descResv raw = false ∧ s.descRange raw = false)) ∧
    (let u := (qpState { pair with sqTail := 1 }).setQp 0 63 { pair with sqHead := 1, sqTail := 1, seqNext := 1, running := [(0, 7, 1)] }
     recF copyDesc 28 1 = 0 ∧ recF copyDesc 30 2 = 0xFFFF ∧ u.isLocal (recF copyDesc 8 8) = true ∧ u.isLocal (recF copyDesc 16 8) = true ∧
       u.sideCheck 0 (recF copyDesc 8 8) (recF copyDesc 24 4) false = 0 ∧ u.sideCheck 0 (recF copyDesc 16 8) (recF copyDesc 24 4) true = 0 ∧
       Memory.wf up.mem = true) := by decide +kernel

theorem witness_LayoutsTakeEffectWhole :
    (Admits up me O.LAYOUT_APPLY 1 ∧ up.layoutResult = 0 ∧ Memory.wf up.mem = true) ∧
    (let s := (up.put O.DIE_OWNER 0x1000).put O.PORT_PARTITION 0xFF10
     Admits s me O.LAYOUT_APPLY 1 ∧ s.movedDies (s.obj O.DIE_OWNER) = [3]) ∧
    (let s := up.put O.PARTITION_LAYOUT_LOCK 1
     Admits s me O.LAYOUT_APPLY 1 ∧ s.layoutResult ≠ 0) := by decide +kernel

/-- A field-network requester in session 3. -/
def udp : Who := ⟨.field, 3, 7, 9⟩

/-- A module with that session open. -/
def sessState (x : Session) : State := { up with mgmt := { up.mgmt with sessions := [(3, { x with addr := 7, port := 9, path := .field })] } }

/-- A request with a body. -/
def req (count : Nat) (body : List Byte) : Msg := { msg0 with count := count, body := body, bodyLen := body.length }

/-- A read of BEAT_COUNT as an item. -/
def readItem : List Byte := toLE 8 (O.BEAT_COUNT / 256 + O.BEAT_COUNT % 256 * 65536)

theorem witness_RequestsRunWhenTheyMay :
    ({ up with boot := { up.boot with alwaysOn := false } }).served net = false ∧
    (let s := up.put O.FIELD_MAC 0x060504030202
     s.reaches net { msg0 with dest := some 0x060504FEFF03020000000000000080FE } false = true) ∧
    (up.reaches net (req 1 readItem) false = true ∧ up.reaches net { msg0 with dest := some allNodes } true = true ∧
      up.reaches net { msg0 with dport := 5020 } false = false ∧ up.reaches (mbx 0) msg0 true = false) ∧
    (up.served net = true ∧ up.romServes = false ∧ Who.mbx net = none ∧ Msg.size (req 1 readItem) ≤ 1232 ∧ up.mgmt.queue = [] ∧
      Msg.size (req 1 readItem) ≤ 4032) ∧
    ((req 1 readItem).version = 1 ∧ (parseItems 1 readItem).isSome = true ∧ malformed 0x01 (req 1 readItem) = false ∧
      (∀ x, x ∈ (parseItems 1 readItem).getD [] → x.write = false)) ∧
    malformed 0x10 (req 0 []) = false ∧ malformed 0x11 (req 0 (toLE 16 5)) = false ∧ malformed 0x12 (req 0 []) = false ∧
    malformed 0x20 (req 0 (toLE 8 5)) = false ∧ malformed 0x21 (req 0 (toLE 8 5)) = false ∧ malformed 0x22 (req 0 (toLE 8 5)) = false ∧
    malformed 0x30 (req 0 (toLE 16 5)) = false ∧ malformed 0x01 msg0 = true ∧ malformed 0x22 msg0 = true ∧
    ({ msg0 with version := 2 } : Msg).version ≠ 1 := by decide +kernel

/-- The proof of mailbox 0 against nonce 5 under the owner key 0: the first 16 bytes of HMAC-SHA-256 (computed outside the model). -/
def proof5 : List Byte := toLE 16 0x2e895e98b44266cacb72b35a1dd4a5d6

/-- A module whose mailbox 0 has a session with nonce 5. -/
def mbxState (x : Session) : State :=
  let s := up.put O.OWNER_KEY_STATE 1
  { s with mgmt := { s.mgmt with mbx := [(0, { x with path := .mailbox 0, nonce := some 5 })] } }

theorem witness_SessionsGiveAndLosePrivilege :
    (Who.mbx (mbx 3) = some 3 ∧ up.obj O.SC_STATE ≠ 1) ∧ (Who.mbx net = none ∧ up.mgmt.sessions.length < 32) ∧
    (up.put O.SC_STATE 1).obj O.SC_STATE = 1 ∧
    (let s := mbxState {}
     ∃ x, s.sess (mbx 0) = some x ∧ x.nonce = some 5 ∧ s.keysUp = true ∧ ofLE (req 0 proof5).body = s.ownerMac (proofBytes (mbx 0) 5) ∧
       ofLE (req 0 (toLE 16 1)).body ≠ s.ownerMac (proofBytes (mbx 0) 5)) ∧
    (let s := mbxState { failed := 4 }
     ∃ x, s.sess (mbx 0) = some x ∧ 5 ≤ x.failed + 1) ∧
    (let s := sessState {}
     let m := req 0 (toLE 8 (O.BEAT_COUNT / 256 + O.BEAT_COUNT % 256 * 65536 + 10 * 2 ^ 32))
     ∃ x, s.sess udp = some x ∧ Who.mbx udp = none ∧ (s.readObj udp (subKey m.body)).2.1 = St.ok ∧ 10 ≤ recF (ofLE m.body) 4 4 ∧
       recF (ofLE m.body) 4 4 ≤ 60000 ∧ (x.subs.filter (fun u => u.key ≠ subKey m.body)).length < 8 ∧ s.subCount < 256) ∧
    (let m := req 0 (toLE 8 (O.BEAT_COUNT / 256 + O.BEAT_COUNT % 256 * 65536 + 9 * 2 ^ 32))
     recF (ofLE m.body) 4 4 < 10) ∧
    (let m := req 0 (toLE 16 (8 * 2 ^ 64))
     0 < recF (ofLE m.body) 8 1 ∧ recF (ofLE m.body) 8 1 ≤ 8) :=
  ⟨by decide +kernel, by decide +kernel, by decide +kernel, ⟨_, rfl, by decide +kernel⟩, ⟨_, rfl, by decide +kernel⟩,
    ⟨_, rfl, by decide +kernel⟩, by decide +kernel, by decide +kernel⟩

theorem witness_PlainObjectsTakeTheirValues :
    ((Dict.row O.DISC_SELECT).any (fun r => r.sel) = true ∧ up.ownRow me O.DISC_SELECT 23 = none ∧ Admits up me O.DISC_SELECT 23) ∧
    (let s := { up with fullConfig := false }
     Admits s me O.DISC_SELECT 8 ∧ s.ownRow me O.DISC_SELECT 8 = none ∧ s.linkPresent 8 = false) ∧
    ((Dict.row O.SENSOR_INDEX).any (fun r => r.sel) = true ∧ up.ownRow me O.SENSOR_INDEX 23 = none ∧ Admits up me O.SENSOR_INDEX 23 ∧
      23 < sensorCount (up.selOf me O.SENSOR_DIE) ∧
      sensorCount ((up.setSel me O.SENSOR_DIE 4).selOf me O.SENSOR_DIE) ≤ 8 ∧ Admits (up.setSel me O.SENSOR_DIE 4) me O.SENSOR_INDEX 8) ∧
    (Admits up me O.CAL_TEMP_FORCE_C 3 ∧ up.ownRow me O.CAL_TEMP_FORCE_C 3 = none ∧ 3 < up.obj O.CAL_TEMP_DELTA_C ∧
      Admits up me O.CAL_TEMP_FORCE_C 4 ∧ up.obj O.CAL_TEMP_DELTA_C ≤ 4) ∧
    up.linkPresent 23 = true ∧
    (Admits up me O.BOOST_MAX_MHZ 2001 ∧ up.ownRow me O.BOOST_MAX_MHZ 2001 = none ∧ 2001 % 50 ≠ 0) ∧
    ((Dict.row O.SLACK_GUARD_NS).any (fun r => !r.sel) = true ∧ up.ownRow me O.SLACK_GUARD_NS 5 = none ∧ Admits up me O.SLACK_GUARD_NS 5) ∧
    up.mgmt.persistQ = [] ∧
    (let s := { up with mgmt := { up.mgmt with persistQ := [⟨O.SLACK_GUARD_NS, 0, 5, 1⟩], held := [⟨1, udp, 1, msg0, none⟩] } }
     s.mgmt.persistQ = ⟨O.SLACK_GUARD_NS, 0, 5, 1⟩ :: [] ∧ O.SLACK_GUARD_NS ≠ O.FACTORY_INIT ∧ limitedKeys.contains O.SLACK_GUARD_NS = false ∧
       s.mgmt.held.find? (·.req = 1) = some ⟨1, udp, 1, msg0, none⟩ ∧ Who.mbx udp = none) ∧
    Admits up me O.FACTORY_INIT 1 ∧ up.factoryOpen = true ∧ root.factoryOpen = false := by decide +kernel

/-- A module with an address in the chain. -/
def chained (n : Nat) : State := up.put O.CHAIN_ADDRESS n

theorem witness_ManagementTimersAct :
    (let s := sessState { subs := [⟨O.BEAT_COUNT, 10, 5⟩] }
     ∃ x, s.mgmt.sessions.find 3 = some x ∧ x.subs.find? (·.key = O.BEAT_COUNT) = some ⟨O.BEAT_COUNT, 10, 5⟩ ∧ s.mgmt.queue.length < 32 ∧
       s.now < 2 ^ 64 ∧ x.lastReq + 60000000000 < 2 ^ 61) ∧
    (let s := { up with mgmt := { up.mgmt with queue := List.replicate 32 ⟨3, .publish 3 O.BEAT_COUNT⟩ } }
     32 ≤ s.mgmt.queue.length) ∧
    (up.boot.alwaysOn = true ∧ up.boot.mpUp = true ∧ up.sec.intents = [] ∧ up.mgmt.stored.find O.MP_RESTARTS = none) ∧
    ((chained 0).unaddressed = true ∧ (chained 0).mgmt.enumCand ≠ 16 ∧ (chained 0).mgmt.enumCand ≠ 1 ∧ (chained 0).mgmt.enumLate = false ∧
      ({ chained 0 with mgmt := { (chained 0).mgmt with enumLate := true } }).mgmt.enumLate = true) ∧
    (∀ n ∈ [1, 15, 16], let s := { chained 0 with mgmt := { (chained 0).mgmt with enumCand := n } }
      s.unaddressed = true ∧ s.mgmt.enumCand = n) ∧
    ((chained 1).boot.alwaysOn = true ∧ (chained 1).obj O.CHAIN_ADDRESS ≠ 0) ∧
    ((chained 2).plcaFollower = true ∧ ((chained 2).put O.FIELD_LINK_STATE 1).obj O.FIELD_LINK_STATE = 1) :=
  ⟨⟨_, rfl, by decide +kernel⟩, by decide +kernel, by decide +kernel, by decide +kernel, by decide +kernel, by decide +kernel, by decide +kernel⟩

theorem witness_CalendarSetStepsTheCounter :
    (Admits up me O.CALENDAR_SET 1 ∧ Admits up me O.CALENDAR_SET (2 ^ 64 - 1) ∧ up.ptpState ≠ 3) ∧ Admits up me O.CALENDAR_SET 0 ∧
    (let s := (up.put O.PTP_ENABLE 1).put O.PTP_STATE 3
     Admits s me O.CALENDAR_SET 1 ∧ s.ptpState = 3) := by decide +kernel

/-- A module whose EP0 runs PTP and follows source 1 there, in a PTP state. -/
def ptp (st : Nat) (f : TimeSt → TimeSt) : State :=
  let s := (up.put O.PTP_ENABLE 1).put O.PTP_STATE st
  { s with time := f { s.time with masters := [⟨0, 1, 5, 9, true⟩] } }

theorem witness_CalendarFollowsItsMaster :
    (ptp 2 id).bestMaster = some ⟨0, 1, 5, 9, true⟩ ∧ (up.put O.PTP_ENABLE 2).ptpOn 0 = false ∧
    (let s := up.put O.PTP_ENABLE 1
     s.ptpOn 0 = true ∧ ann0.domain = s.obj O.PTP_DOMAIN ∧ s.time.masters = []) ∧
    (∀ st ∈ [2, 3], let s := ptp st (fun t => { t with syncPending := true, syncSeq := 8, reqPending := true, reqSeq := 8, haveSync := true })
      s.ptpOn 0 = true ∧ 0 = s.obj O.PTP_DOMAIN ∧ s.follows 0 1 = true ∧ s.ptpState = st ∧ s.time.syncPending = true ∧ s.time.syncSeq = 8 ∧
        s.time.reqPending = true ∧ s.time.reqSeq = 8 ∧ s.time.haveSync = true ∧ s.follows 0 2 = false) ∧
    (let s := ptp 2 (fun t => { t with goodRun := 15 })
     let s := s.put O.CALENDAR_VALID 1
     15 ≤ s.time.goodRun ∧ ¬(1000000 < (250 : Int).natAbs ∨ s.obj O.CALENDAR_VALID = 0)) ∧
    (3 ≤ (ptp 3 (fun t => { t with badRun := 3 })).time.badRun) ∧ (ptp 4 id).ptpState = 4 ∧
    (let s := (up.put O.LEAP_PENDING 1).put O.CALENDAR_VALID 1
     s.obj O.LEAP_PENDING ≠ 0 ∧ s.obj O.CALENDAR_VALID ≠ 0) := by decide +kernel

/-- An owner key 01, 02 … 20 and a link key wrapped under the owner key 0 (RFC 3394, computed outside the model). -/
def wrappedOwner : Nat := 0x19a4264cf51590dd227105c00328522040711e00d956fd7869c24225ce4daef2c40447d9acc46d07

/-- The link key. -/
def wrappedLink : Nat := 0x586d8207e254eb7fb56b950af142f36e899c3ea989f8eecc23bfc47eaba3e692bd1f09bce05bed648ec03859bd04bba8

theorem witness_KeysFirmwareAndLimits :
    (Admits up me O.FW_UPDATE_OFFSET 1024 ∧ Admits up me O.FW_UPDATE_CHUNK 5 ∧ up.obj O.FW_UPDATE_OFFSET = 0) ∧
    ((up.put O.FW_UPDATE_OFFSET 1).obj O.FW_UPDATE_OFFSET % 1024 ≠ 0) ∧
    (let s := { up with sec := { up.sec with stage := [(1, 5)] } }
     Admits s me O.FW_UPDATE_COMMIT 1 ∧ s.fwResult ≠ 0) ∧
    (∀ n : Fin 4, up.served (mbx n) = true ∧ up.obj O.OWNER_KEY_STATE = 0 ∧ up.obj O.RTV_MODE = 0 ∧ Admits up (mbx n) O.OWNER_KEY_INIT 5) ∧
    (let s := up.put O.OWNER_KEY_STATE 1
     (Admits s me O.OWNER_KEY_NEXT wrappedOwner ∧ Admits s me O.OWNER_KEY_NEXT 5) ∧ s.obj O.OWNER_KEY_STATE ≠ 0 ∧ Admits s me O.OWNER_KEY_INIT 5) ∧
    (Admits up me O.IMAGE_KEY 5 ∧ Admits up me O.LINK_KEY wrappedLink ∧ Admits up me O.LINK_KEY 5 ∧ up.linkPresent 23 = true ∧
      (up.link 23).express = false ∧ up.linkPresent (127 / 4) = false ∧ (4 * 23) / 2 % 2 = 0 ∧ (4 * 23) % 2 = (up.link 23).txPhase % 2 ∧
      (4 * 23 + 1) / 2 % 2 = 0 ∧ (4 * 23 + 3) / 2 % 2 = 1) ∧
    (Admits up me O.VENDOR_KEY_REVOKED 2 ∧ Admits up me O.VENDOR_KEY_REVOKED 15 ∧ up.obj O.VENDOR_KEY_REVOKED &&& 2 = up.obj O.VENDOR_KEY_REVOKED ∧
      2 % 16 ≠ 15 ∧ up.sec.slotA.valid = true ∧ up.sec.slotB.valid = true ∧ bit 2 up.sec.slotA.keySlot = false ∧
      bit 2 up.sec.slotB.keySlot = false) := by decide +kernel

theorem witness_KeysFirmwareAndLimits_unwrap :
    up.unwrapKey 40 5 = none ∧ up.unwrapKey 40 wrappedOwner = some 0x201f1e1d1c1b1a191817161514131211100f0e0d0c0b0a090807060504030201 ∧
    up.unwrapKey 48 wrappedLink = some 0x24232221201f1e1d1c1b1a191817161514131211100f0e0d0c0b0a090807060504030201 ∧
    recF 0x24232221201f1e1d1c1b1a191817161514131211100f0e0d0c0b0a090807060504030201 36 4 = 0 := by decide +kernel

theorem witness_KeysFirmwareAndLimits_limits :
    (Admits up me O.POWER_CEILING_SET_W (up.obj O.POWER_CEILING_SET_W) ∧ up.limitedNow O.POWER_CEILING_SET_W = up.obj O.POWER_CEILING_SET_W) ∧
    (Admits up me O.PARTITION_LAYOUT_LOCK 1 ∧ 1 ≠ up.limitedNow O.PARTITION_LAYOUT_LOCK ∧ up.obj (leftKey O.PARTITION_LAYOUT_LOCK) ≠ 0 ∧
      up.auditRoom 1 = true ∧ up.mgmt.defer = none) ∧
    (let s := up.put (leftKey O.PARTITION_LAYOUT_LOCK) 0
     Admits s me O.PARTITION_LAYOUT_LOCK 1 ∧ s.obj (leftKey O.PARTITION_LAYOUT_LOCK) = 0) ∧
    (Admits up me O.SECURITY_VERSION_FLOOR 1 ∧ 1 ≠ up.limitedNow O.SECURITY_VERSION_FLOOR ∧ min up.sec.slotA.version up.sec.slotB.version < 1) ∧
    (Admits up me O.RTV_MODE 1 ∧ 1 ≠ up.limitedNow O.RTV_MODE ∧ up.rtvOpen = true ∧ up.obj (leftKey O.RTV_MODE) ≠ 0 ∧ Memory.wf up.mem = true) := by
  decide +kernel

/-- A commit that verifies, where the package is one by Config. -/
theorem witness_KeysFirmwareAndLimits_commit :
    let s := { up with sec := { up.sec with stage := [(0, 5)] } }
    Config.fwComplete s.stagedFw = true → Config.fwSigned s.stagedFw = true → Config.fwKeySlot s.stagedFw = 0 → Config.fwVersion s.stagedFw = 0 →
      Admits s me O.FW_UPDATE_COMMIT 1 ∧ s.obj O.FW_ACTIVE_SLOT = 0 ∧ s.fwResult = 0 := by
  intro s h1 h2 h3 h4
  refine ⟨by decide +kernel, by decide +kernel, ?_⟩
  unfold State.fwResult
  simp only [h1, h2, h3, h4]
  decide +kernel

/-- A module in a stage of bring-up. -/
def stage (k : Nat) (f : Boot → Boot) : State := { State.reset.put O.BRINGUP_STAGE k with boot := f State.reset.boot }

theorem witness_ResetsAndBringUpRunInOrder :
    (State.reset.boot.alwaysOn = true ∧ (stage 0 (fun b => { b with alwaysOn := false })).boot.alwaysOn = false) ∧
    (up.boot.alwaysOn = true ∧ up.afterTrip = false ∧ 10000 ≤ 10000 ∧ (1999 < 2000)) ∧
    (stage 9 (fun b => { b with tripEnd := some 5 })).afterTrip = true ∧ (Admits up me O.MODULE_RESET 1 ∧
      Admits (stage 9 (fun b => { b with tripEnd := some 5 })) me O.MODULE_RESET 1) ∧
    (stage 9 (fun b => { b with resetAt := some 5 })).boot.resetAt = some 5 ∧
    (∀ c ∈ [1, 2, 4], let s := { stage 9 (fun b => { b with stopCause := some c }) with power := { up.power with goodSince := some 5 } }
      s.power.goodSince = some 5 ∧ s.boot.alwaysOn = true ∧ s.boot.stopCause ∈ [some 1, some 2, some 4]) ∧
    (let s := stage 9 (fun b => { b with stopCause := some 3, tripEnd := some 5 })
     s.boot.tripEnd = some 5 ∧ s.boot.alwaysOn = true ∧ s.boot.stopCause = some 3) ∧
    (up.portsUp = true ∧ (25 : Nat) ∈ [25, 50, 80, 160, 320, 640] ∧ (8 : Nat) ∈ [1, 2, 4, 8]) := by decide +kernel

theorem witness_ResetsAndBringUpRunInOrder_stages :
    (∀ k ∈ [0, 1, 2, 3, 4, 5, 6, 7, 8], (stage k id).inStage k = true ∧ (stage k id).power.alert = false ∧ (stage k id).boot.paused = none) ∧
    8 < (stage 9 id).obj O.BRINGUP_STAGE ∧
    (let s := { stage 2 id with power := { up.power with alert := true } }
     s.inStage 2 = true ∧ s.power.alert = true) ∧
    (let s := stage 1 id
     s.obj O.FW_ACTIVE_SLOT = 0 ∧ obs0.slotA = none ∧ s.fwGood s.sec.slotA = true ∧ s.sec.intents = [] ∧ s.mgmt.stored = [] ∧ obs0.lost = []) ∧
    (let s := stage 1 (fun b => { b with mpUp := false })
     let s := s.put O.VENDOR_KEY_REVOKED 1
     s.fwGood s.sec.slotA = false ∧ s.fwGood s.sec.slotB = false) ∧
    (let s := { (stage 2 (fun b => { b with capDone := true })).put O.RAIL_1V8_V 0x3FE66666 with power := { up.power with goodSince := some 0 } }
     s.supplyMet.isSome = true ∧ s.railGood = true ∧ s.boot.capDone = true ∧ s.limitFrom.isSome = true) ∧
    (let s := stage 5 (fun b => { b with scanLatch := true, wave := 3 })
     s.inStage 5 = true ∧ s.boot.wave < 4 ∧ s.boot.scanLatch = true ∧ s.boot.waveHalved = false ∧ fLt 0x442A0000 0x442A0001 = true ∧
       inWave s.boot.wave 5 7 = true ∧ inWave s.boot.wave 3 23 = true) ∧
    (let s := stage 5 (fun b => { b with wave := 4, onchipDone := true, hbmDone := 255 })
     s.boot.wave = 4 ∧ s.boot.onchipDone = true ∧ s.boot.hbmDone = 255) := by decide +kernel

/-! ## Tests of commands and of the worked examples of the spec -/

/-- The state that a command leaves. -/
def after (c : Instr) (s : State) : State :=
  match exec c s with
  | .next t => t
  | _ => s

/-- The worked example of 03_fjoene_formats.md: one Fj8a block from FP32 source values. -/
theorem test_fj8a_block :
    let vs := ([0x40533333, 0xBC23D70A, 0x3C280000, 0x38D1B717, 0x80000000] ++ List.replicate 59 0).map f32
    let r := writeBlock Fmt.fj8a none vs
    r.1 = 0x78 ∧ (r.2.map (·.1)).take 6 = [0x7D, 0xBA, 0x3A, 0x07, 0x00, 0x00] ∧
    r.2.foldl (fun f e => f ||| e.2) 0 = Fl.inexact + Fl.underflow := by decide +kernel

/-- The same example with amax 3.8. -/
theorem test_fj8a_scale : chooseBx8 Fmt.fj8a [f32 0x40733333] = 0x79 := by decide +kernel

/-- The worked example of 04_matrix_engine.md: stochastic rounding under a zero key at step 0. -/
theorem test_grist : let keys := Aes.roundKeys (List.replicate 16 0)
    gristAt keys 0 0 0 0 = 0xE966 ∧ gristAt keys 0 0 3 0 = 0x3B2C ∧
    roundSr 59750 (.fin false (2 ^ 26 + 3) (-26)) = (0x3F800000, Fl.inexact) ∧
    roundSr 15148 (.fin false (2 ^ 26 + 3) (-26)) = (0x3F800001, Fl.inexact) := by decide +kernel

/-- The worked example of 05_vector_and_reduction.md: a norm slot over 3 * 2^12, -4 * 2^12, NaN and 61 zeros. -/
theorem test_norm_slot :
    let a := ([0x46400000, 0xC6800000, 0x7FC00000] ++ List.replicate 61 0).foldl (fun x w => NormAcc.plus x (NormAcc.one w)) {}
    a.sumF = 0xC5800000 ∧ a.sumsqF = 0x4DC80000 ∧ a.normF = 0x46A00000 ∧ a.maxabs = 0x46800000 ∧ a.elems = 63 ∧ a.nonfin = 1 := by decide +kernel

/-- The worked example of 07_step_commit_and_optimizer.md: the clip factor. -/
theorem test_clip : normOfSum (25 * 2 ^ (26 + 298)) 12 = 0x41200000 ∧
    (V.minMax false 0x3F800000 (V.div 0x3F800000 (V.add 0x41200000 0x358637BD).1).1).1 = 0x3DCCCCCC := by decide +kernel

/-- The worked example of 12_transport_sync_collectives.md: the member order of a reduction. -/
theorem test_reduce_order : (V.add (V.add 0x3F800000 0x33800000).1 0x33800000).1 = 0x3F800000 ∧
    (V.add (V.add 0x33800000 0x33800000).1 0x3F800000).1 = 0x3F800001 := by decide +kernel

/-- The worked examples of 00_scope.md and 10_memory_and_global_addressing.md: a global address and its fields. -/
theorem test_addresses : 5 * 2 ^ 50 + tileAddr 0 0x1000 = 0x0015000000001000 ∧ hbmAddr 3 0x123456780 = 0x3123456780 ∧
    storeOf (hbmAddr 3 0x123456780) = some 3 := by decide +kernel

/-- The worked example of 17_host_ports_and_partitions.md: two partitions. -/
theorem test_layout : let s := { up with layout := { dieOwner := 0xF100, portPart := 0xF1F0, links := [1, 2, 0, 0] } }
    s.diesOf 0 = [0, 1] ∧ s.diesOf 1 = [2] ∧ s.dieOwner 3 = none ∧ s.portPart 0 = some 0 ∧ s.portPart 2 = some 1 ∧ s.portPart 1 = none ∧
    s.ctxShare 0 = 5000 ∧ s.tagShare 0 = 4096 ∧ s.syncShare 0 = 4096 ∧ s.syncBase 1 = 4096 ∧ s.ctxShare 1 = 2500 := by decide +kernel

/-- Table 2.8: A forecasts 6,000 ns after the nominal edge and asks for 8 sixty-fourths, cause 0b011 (3), which withholds the most
slots of this beat; without withheld slots it asks for nothing. -/
theorem test_slack_req : let u := (locked.put O.CHIP_STATE 1).put O.CHIP_NUMBER 3
    let s := { u.setLink 0 { u.link 0 with degradedAt := some 0 } with power := { u.power with slots := [(2, 3), (3, 9)] } }
    (after (.slackReqSend 1 6000) u).out = [] ∧
    (after (.slackReqSend 1 6000) s).out = [.block 0 1 2 (reqWord 1 8 3 3 0) 0] ∧
    (after (.slackReqSend 5 1000) s).out = [.block 0 1 2 (reqWord 1 2 5 3 0) 0] := by decide +kernel

/-- Table 2.8: the root's edge with SLACK_N 8 lies 6,250 ns after the nominal edge. -/
theorem test_root_slack : let s := { root with beat := { root.beat with reqMax := 8 } }
    (after .rootEdgeEmit s).beat.placed = some ⟨8 * (50000 + 6250), edgeWord 1 8 false false 12000, false⟩ := by decide +kernel

theorem test_root_starts : let s := after (.beatStartCountWrite me 100) (up.put O.BEAT_ROLE 1)
    s.obj O.BEAT_STATE = 3 ∧ (s.beat.placed.map (·.time)) = some 12000 ∧ (after .rootFirstEdge s).obj O.BEAT_COUNT = 100 := by decide +kernel

/-- A loaded image. -/
theorem test_image_loads : (after (.imageLoadDone 0) (loadState.setJob 0 { load := [demoReq] })).imageState 0 = 2 := by decide +kernel

/-- A WRITE packet stores its bytes, and one for another destination epoch is dropped (R336). -/
theorem test_write_packet : Memory.read (after (.writeRx 0 (rx 1)) rxState).mem 5 = 0x11 ∧
    (after (.writeRx 0 { rx 1 with dstEpoch := 1 }) rxState).mem = [] ∧
    (after (.writeRx 0 { rx 1 with dstEpoch := 1 }) rxState).obj O.STALE_DEST_DROPPED = 1 := by decide +kernel

/-- The host writes and reads its HBM, port 0, BAR2-3. -/
theorem test_host_memory : let s := after (.hostBarWrite 0 1 0x40 [0xAB, 0xCD]) up
    (after (.hostBarRead 0 1 0x41 1) s).out.head? = some (.barData 0 0 [0xCD]) ∧ s.obj (O.at O.HOST_BYTES_WRITTEN 0) = 2 := by decide +kernel

/-- An uncorrectable error poisons its unit (R291), and a whole write of the unit heals it (R290). -/
theorem test_poison : let s := after (.patrolScrub 2 3 ⟨2, true⟩ 9) up
    s.poison = [hbmAddr 2 192] ∧ (s.writeMem (hbmAddr 2 192) (List.replicate 64 0)).poison = [] := by decide +kernel

/-- A descriptor copies 64 bytes. -/
theorem test_transfer : let s := { qpState { pair with sqTail := 1 } with mem := [⟨0, 0x5A⟩] }
    Memory.read (after (.descTransfer 0 63 copyDesc []) s).mem 0x1000 = 0x5A ∧
    ((after (.descTransfer 0 63 copyDesc []) s).qp 0 63).done = [⟨0, 7, 0, 64⟩] := by decide +kernel

/-- A module in STANDBY adopts chip 517, releases it, and refuses 16,383. -/
theorem test_adopt : (after (.adopt me 517) up).obj O.CHIP_NUMBER = 517 ∧
    (after (.releaseChip me 1) (after (.adopt me 517) up)).obj O.CHIP_NUMBER = 0x3FFF ∧
    (after (.adopt me 16383) up).obj O.ADOPT_RESULT = 2 := by decide +kernel

/-- The worked example of 14_discovery_spares_fencing.md on TL0: the planned neighbour matches, and another is a mismatch. -/
theorem test_judgement : let plan := 1 + 41 * 2 ^ 34 + 1 * 2 ^ 48
    let s := (after (.wiringEntryWrite me 0 plan) (linkIn 0 LS.up { ident := 41 * 2 ^ 50 + 1 * 2 ^ 26 }))
    Wire.bad plan = false ∧ s.judgement 0 = (1, 0) ∧
    (after (.wiringEntryWrite me 0 (1 + 42 * 2 ^ 34 + 1 * 2 ^ 48)) s).judgement 0 = (3, 4) := by decide +kernel

/-- Power: a sample below 38.0 V stops a running module with cause 2 (R453). -/
theorem test_supply_stop : let t := after (.supplySample 0 0x4217CCCD 0x4217CCCD 0 0x3FE66666 0) up
    t.boot.stopCause = some 2 ∧ t.obj O.CLOCK_MHZ = 0 := by decide +kernel

/-- Thermal caps (R465): 110.0 degrees and below 64; 110.125 gives 56; 115.0 gives 24. -/
theorem test_thermal_cap : thermalCap 880 = 64 ∧ thermalCap 881 = 56 ∧ thermalCap 920 = 24 := by decide +kernel

/-- The clock rises by 50 MHz a step, with its rails (Table 16.3). -/
theorem test_clock_step : let s := (pow (fun p => { p with moving := true, target := 2000 })).put O.CLOCK_MHZ 1800
    (after .clockStep s).obj O.CLOCK_MHZ = 1850 := by decide +kernel

/-- A dictionary read over UDP is answered (R497, R498), and BEAT_PERIOD_NS below its range is refused (R502). -/
theorem test_access : ((after (.access net (req 1 readItem) false) up).out.head?.map (fun o => match o with
      | .message w op m => decide (w = net ∧ op = 1 ∧ m.status = 0 ∧ m.count = 1)
      | _ => false)) = some true ∧
    (after (.beatPeriodNsWrite me 7999) up).out.head? = some (.status me O.BEAT_PERIOD_NS St.refused) := by decide +kernel

/-- A wrapped owner key replaces the key (R534). -/
theorem test_owner_key_init : (after (.ownerKeyInit (mbx 0) 5) up).sec.ownerKey = 5 := by decide +kernel

/-- A module reset comes 10 ms after its write, and starts at S1 with cause 3 (R545, R547). -/
theorem test_module_reset : let t := after .moduleResetDelay (after (.moduleReset me 1) up)
    t.obj O.RESET_CAUSE = 3 ∧ t.obj O.BRINGUP_STAGE = 1 ∧ t.now = 0 := by decide +kernel

/-- The calendar takes the owner's value (R528). -/
theorem test_calendar_set : (after (.calendarSet me 1000) up).cal = 1000 := by decide +kernel

/-- CRC-32C of the digits 1 to 9 (the check value that its definition gives). -/
theorem test_crc32c : crc32c (([0x31, 0x32, 0x33, 0x34, 0x35, 0x36, 0x37, 0x38, 0x39] : List Nat).map (BitVec.ofNat 8)) = 0xE3069283 := by
  decide +kernel

/-- No row of the table has bits, so no word spells a command. -/
theorem test_no_words : decodeTableWord 64 5 = none ∧ State.reset.withFetchWord 64 5 = State.reset := by decide +kernel

end Sys2Proof.Tests
end

/-! The operations that write memory: which units stay poisoned, and which bytes change (R15, R290). -/

namespace Sys2Proof.Machine

theorem State.writeMem_poison (s : State) (a : Nat) (bs : List Byte) :
    (s.writeMem a bs).poison = s.poison.filter (fun u => u < a || a + bs.length < u + 64) := by
  unfold State.writeMem; dsimp only; (repeat split) <;> rfl

theorem State.writeMem_layout (s : State) (a : Nat) (bs : List Byte) : (s.writeMem a bs).layout = s.layout := by
  unfold State.writeMem; dsimp only; (repeat split) <;> rfl

theorem State.writeMem_out (s : State) (a : Nat) (bs : List Byte) : (s.writeMem a bs).out = s.out := by
  unfold State.writeMem; dsimp only; (repeat split) <;> rfl

theorem State.mem_writeMem_poison (s : State) (a : Nat) (bs : List Byte) (u : Nat) :
    u ∈ (s.writeMem a bs).poison ↔ u ∈ s.poison ∧ ¬(a ≤ u ∧ u + 64 ≤ a + bs.length) := by
  rw [State.writeMem_poison, List.mem_filter]
  simp only [Bool.or_eq_true, decide_eq_true_eq, and_congr_right_iff]
  omega

theorem State.read_writeMem (s : State) (a : Nat) (bs : List Byte) (x : Nat) (h : Memory.wf s.mem = true) :
    Memory.read (s.writeMem a bs).mem x =
      if a ≤ x then bs.getD (x - a) (Memory.read s.mem x) else Memory.read s.mem x := by
  rw [State.writeMem_mem, Memory.read_writes bs s.mem a x h]

theorem State.read_writeMem_outside (s : State) (a : Nat) (bs : List Byte) (x : Nat) (h : Memory.wf s.mem = true)
    (hx : x < a ∨ a + bs.length ≤ x) : Memory.read (s.writeMem a bs).mem x = Memory.read s.mem x := by
  rw [State.read_writeMem s a bs x h]
  split
  · rw [List.getD_eq_getElem?_getD, List.getElem?_eq_none (by omega), Option.getD_none]
  · rfl

theorem State.read_writeMem_inside (s : State) (a : Nat) (bs : List Byte) (i : Nat) (b : Byte) (h : Memory.wf s.mem = true)
    (hb : bs[i]? = some b) : Memory.read (s.writeMem a bs).mem (a + i) = b := by
  rw [State.read_writeMem s a bs _ h, if_pos (Nat.le_add_right a i), Nat.add_sub_cancel_left, List.getD_eq_getElem?_getD, hb]
  rfl

/-- Settles O25: memory's own laws of writing and zeroing, lifted to the state, with the units that a write heals. -/
theorem bytesReadAsWritten : Obligations.BytesReadAsWritten := by
  intro s a bs n x h
  refine ⟨⟨s.writeMem_wf a bs h, s.read_writeMem_outside a bs x h, fun i b => s.read_writeMem_inside a bs i b h,
    s.mem_writeMem_poison a bs, s.writeMem_layout a bs, s.writeMem_out a bs⟩, s.zeroMem_wf a n h, ?_, rfl⟩
  exact Memory.read_clear s.mem a (a + n) x h

end Sys2Proof.Machine

/-! What no command changes: the command queue and the configuration (R4). `State.fixed` is that part of a state. Each function of
the model that answers states leaves it as it is: one lemma for each, in the order of the model's files, tagged for `simp` before
it visits the arguments, so that `simp` peels a state from the outside and reads no condition or operand on the way. The same
lemma of a command's meaning says that it answers a state at all (R8). Where a definition reckons with long times, it is unfolded
in a step of its own before `simp` peels it: in one step the kernel would count those times out. -/

namespace Sys2Proof.Machine

/-- What no command changes: the command queue and the configuration. -/
def State.fixed (s : State) : List Instr × Bool := (s.pending, s.fullConfig)

/-- The fixed part of the state that an outcome answers; none where it answers no state. -/
def Outcome.fixed : Outcome → Option (List Instr × Bool)
  | .next t => some t.fixed
  | _ => none

/-! ### The fixed part through records, branches, folds and options -/

@[simp ↓] theorem State.fixed_mk (dict now fresh out fullConfig layout mgmt time sec boot dbg beat net jobs host power optics
    flashCk storeCk mem poison pending) :
    State.fixed ⟨dict, now, fresh, out, fullConfig, layout, mgmt, time, sec, boot, dbg, beat, net, jobs, host, power, optics,
      flashCk, storeCk, mem, poison, pending⟩ = (pending, fullConfig) := Prod.ext rfl rfl

@[simp ↓] theorem State.fixed_eta (s : State) : (s.pending, s.fullConfig) = s.fixed := Prod.ext rfl rfl

@[simp ↓] theorem State.fixed_ite (c : Prop) [Decidable c] (a b : State) :
    (if c then a else b).fixed = if c then a.fixed else b.fixed := apply_ite ..

theorem State.fixed_ite_of {q : List Instr × Bool} (c : Prop) [Decidable c] (a b : State) (ha : a.fixed = q) (hb : b.fixed = q) :
    (if c then a else b).fixed = q := by
  split
  · exact ha
  · exact hb

@[simp ↓] theorem State.fixed_ite_fst {α : Type} (c : Prop) [Decidable c] (a b : State × α) :
    (if c then a else b).1.fixed = if c then a.1.fixed else b.1.fixed := apply_ite (fun x : State × α => x.1.fixed) ..

@[simp ↓] theorem State.fixed_ite_snd {α : Type} (c : Prop) [Decidable c] (a b : α × State) :
    (if c then a else b).2.fixed = if c then a.2.fixed else b.2.fixed := apply_ite (fun x : α × State => x.2.fixed) ..

@[simp ↓] theorem Outcome.fixed_ite (c : Prop) [Decidable c] (a b : Outcome) :
    Outcome.fixed (if c then a else b) = if c then a.fixed else b.fixed := apply_ite ..

@[simp ↓] theorem Outcome.fixed_next (s : State) : Outcome.fixed (.next s) = some s.fixed := congrArg some rfl

@[simp ↓] theorem Outcome.fixed_ok (s : State) : Outcome.fixed (ok s) = some s.fixed := congrArg some rfl

@[simp ↓] theorem foldl_fixed {α : Type} (f : State → α → State) (l : List α) (s : State)
    (h : ∀ s x, (f s x).fixed = s.fixed) : (l.foldl f s).fixed = s.fixed := by
  induction l generalizing s with
  | nil => rfl
  | cons x l ih => rw [List.foldl_cons, ih, h]

@[simp ↓] theorem foldl_fixed_fst {α β : Type} (f : State × β → α → State × β) (l : List α) (p : State × β)
    (h : ∀ p x, (f p x).1.fixed = p.1.fixed) : (l.foldl f p).1.fixed = p.1.fixed := by
  induction l generalizing p with
  | nil => rfl
  | cons x l ih => rw [List.foldl_cons, ih, h]

/-- Whatever an option holds, a function gives one value of it. -/
def Yields {α β : Type} (f : α → β) (q : β) (o : Option α) : Prop := ∀ x, o = some x → f x = q

@[simp ↓] theorem yields_none {α β : Type} (f : α → β) (q : β) : Yields f q none := fun _ h => nomatch h

@[simp ↓] theorem yields_some {α β : Type} (f : α → β) (q : β) (x : α) : Yields f q (some x) ↔ f x = q :=
  ⟨fun h => h x rfl, fun h _ hx => Option.some.inj hx ▸ h⟩

@[simp ↓] theorem yields_ite {α β : Type} (f : α → β) (q : β) (c : Prop) [Decidable c] (a b : Option α) :
    Yields f q (if c then a else b) ↔ if c then Yields f q a else Yields f q b := iff_of_eq (apply_ite ..)

@[simp ↓] theorem yields_map {α β γ : Type} (f : α → β) (q : β) (g : γ → α) (o : Option γ) (h : ∀ x, f (g x) = q) :
    Yields f q (o.map g) := by
  cases o <;> simp [h]

theorem yields_ite_of {α β : Type} (f : α → β) (q : β) (c : Prop) [Decidable c] (a b : Option α) (ha : Yields f q a)
    (hb : Yields f q b) : Yields f q (if c then a else b) := by
  split
  · exact ha
  · exact hb

theorem yields_or {α β : Type} (f : α → β) (q : β) (a b : Option α) (ha : Yields f q a) (hb : Yields f q b) :
    Yields f q (a <|> b) := by
  cases a with
  | none => exact hb
  | some x => exact ha

theorem fixed_of_fst {α : Type} {p : State × α} {t : State} {a : α} (h : p = (t, a)) : t.fixed = p.1.fixed := by rw [h]

theorem fixed_of_snd {α : Type} {p : α × State} {a : α} {t : State} (h : p = (a, t)) : t.fixed = p.2.fixed := by rw [h]

/-! ### Ops -/

@[simp ↓] theorem State.put_fixed (s : State) (k v : Nat) : (s.put k v).fixed = s.fixed := by simp [State.put]
@[simp ↓] theorem State.add_fixed (s : State) (k n : Nat) : (s.add k n).fixed = s.fixed := by simp [State.add]
@[simp ↓] theorem State.inc_fixed (s : State) (k : Nat) : (s.inc k).fixed = s.fixed := by simp [State.inc]
@[simp ↓] theorem State.incAll_fixed (s : State) (ks : List Nat) : (s.incAll ks).fixed = s.fixed := by simp [State.incAll]
@[simp ↓] theorem State.send_fixed (s : State) (o : Out) : (s.send o).fixed = s.fixed := by simp [State.send]
@[simp ↓] theorem State.sendAll_fixed (s : State) (os : List Out) : (s.sendAll os).fixed = s.fixed := by simp [State.sendAll]
@[simp ↓] theorem State.upTo_fixed (s : State) (t : Nat) : (s.upTo t).fixed = s.fixed := by simp [State.upTo]
@[simp ↓] theorem State.markCond_fixed (s : State) : s.markCond.fixed = s.fixed := by simp [State.markCond]

@[simp ↓] theorem State.raise_fixed (s : State) (code : Nat) (a : EvArgs) :
    (s.raise code a).fixed = s.fixed := by simp [State.raise]

@[simp ↓] theorem State.raiseEvery_fixed (s : State) (code who intervalNs : Nat) (a : EvArgs) :
    (s.raiseEvery code who intervalNs a).fixed = s.fixed := by
  simp only [State.raiseEvery]
  split <;> simp

@[simp ↓] theorem State.drawNonce_fixed (s : State) : s.drawNonce.2.fixed = s.fixed := by simp [State.drawNonce]
@[simp ↓] theorem State.drawChoice_fixed (s : State) : s.drawChoice.2.fixed = s.fixed := by simp [State.drawChoice]
@[simp ↓] theorem State.drawNat_fixed (s : State) (n : Nat) : (s.drawNat n).2.fixed = s.fixed := by simp [State.drawNat]

/-! ### DictOps -/

@[simp ↓] theorem State.setSess_fixed (s : State) (who : Who) (ss : Session) : (s.setSess who ss).fixed = s.fixed := by
  unfold State.setSess
  split <;> simp

@[simp ↓] theorem rowWrite_fixed (s : State) (who : Who) (k v : Nat) (act : State → State × Nat)
    (h : ∀ s, (act s).1.fixed = s.fixed) : (rowWrite s who k v act).fixed = some s.fixed := by
  unfold rowWrite
  split
  · simp
  · split <;> simp [h]

@[simp ↓] theorem State.storeInst_fixed (s : State) (k inst v : Nat) : (s.storeInst k inst v).fixed = s.fixed := by
  unfold State.storeInst
  split <;> simp

@[simp ↓] theorem State.store_fixed (s : State) (k v : Nat) : (s.store k v).fixed = s.fixed := by simp [State.store]

/-! ### Audit -/

@[simp ↓] theorem State.audit_fixed (s : State) (who : Who) (kind key remaining old new : Nat) :
    (s.audit who kind key remaining old new).fixed = s.fixed := by simp [State.audit]

/-! ### Mem -/

@[simp ↓] theorem State.writeMem_fixed (s : State) (a : Nat) (bs : List Byte) : (s.writeMem a bs).fixed = s.fixed := by
  unfold State.writeMem
  split <;> simp

@[simp ↓] theorem State.countRead_fixed (s : State) (a n : Nat) : (s.countRead a n).fixed = s.fixed := by
  unfold State.countRead
  split <;> simp

@[simp ↓] theorem State.zeroMem_fixed (s : State) (lo n : Nat) : (s.zeroMem lo n).fixed = s.fixed := by simp [State.zeroMem]
@[simp ↓] theorem State.poisonUnit_fixed (s : State) (a : Nat) : (s.poisonUnit a).fixed = s.fixed := by simp [State.poisonUnit]
@[simp ↓] theorem State.zeroDie_fixed (s : State) (d : Nat) : (s.zeroDie d).fixed = s.fixed := by simp [State.zeroDie]
@[simp ↓] theorem State.setJob_fixed (s : State) (p : Nat) (j : Job) : (s.setJob p j).fixed = s.fixed := by simp [State.setJob]

@[simp ↓] theorem State.refuseAt_fixed (s : State) (r : Requester) (p addr status : Nat) :
    (s.refuseAt r p addr status).fixed = s.fixed := by
  unfold State.refuseAt
  split <;> simp

@[simp ↓] theorem State.refuse_fixed (s : State) (r : Requester) (addr status : Nat) :
    (s.refuse r addr status).fixed = s.fixed := by simp [State.refuse]

/-! ### Tensor -/

@[simp ↓] theorem State.applyWrites_fixed (s : State) (ws : List ByteW) :
    (s.applyWrites ws).fixed = s.fixed := by simp [State.applyWrites]

@[simp ↓] theorem State.poisonRead_fixed (s : State) (p step u : Nat) :
    (s.poisonRead p step u).fixed = s.fixed := by simp [State.poisonRead]

@[simp ↓] theorem State.noteReads_fixed (s : State) (im : Image) (p step : Nat) (acc : List (View × List Nat)) :
    (s.noteReads im p step acc).fixed = s.fixed := by simp [State.noteReads]

@[simp ↓] theorem State.engineRead_fixed (s : State) (p a n : Nat) :
    (s.engineRead p a n).fixed = s.fixed := by simp [State.engineRead]

@[simp ↓] theorem State.engineReads_fixed (s : State) (p : Nat) (rs : List (Nat × Nat)) :
    (s.engineReads p rs).fixed = s.fixed := by simp [State.engineReads]

/-! ### Bank -/

@[simp ↓] theorem State.orSheaf_fixed (s : State) (p step sheaf f : Nat) (tagged : Bool) :
    (s.orSheaf p step sheaf f tagged).fixed = s.fixed := by simp [State.orSheaf]

@[simp ↓] theorem State.orTile_fixed (s : State) (p step sheaf tile f : Nat) (tagged : Bool) :
    (s.orTile p step sheaf tile f tagged).fixed = s.fixed := by simp [State.orTile]

@[simp ↓] theorem State.firstNf_fixed (s : State) (p step : Nat) (tagged : Bool) (rec_ : Nat) :
    (s.firstNf p step tagged rec_).fixed = s.fixed := by simp [State.firstNf]

@[simp ↓] theorem State.addTaps_fixed (s : State) (p step : Nat) (tagged : Bool) (taps : Tab NormAcc) :
    (s.addTaps p step tagged taps).fixed = s.fixed := by simp [State.addTaps]

@[simp ↓] theorem State.stepAdd_fixed (s : State) (p step ix n : Nat) : (s.stepAdd p step ix n).fixed = s.fixed := by
  unfold State.stepAdd
  split <;> simp

@[simp ↓] theorem State.retireBank_fixed (s : State) (p n : Nat) :
    (s.retireBank p n).fixed = s.fixed := by simp [State.retireBank]

@[simp ↓] theorem State.clearBanks_fixed (s : State) (p : Nat) : (s.clearBanks p).fixed = s.fixed := by simp [State.clearBanks]

@[simp ↓] theorem State.ratioCheck_fixed (s : State) (p step layer : Nat) : (s.ratioCheck p step layer).fixed = s.fixed := by
  simp only [State.ratioCheck]
  split <;> simp

/-! ### Disc -/

@[simp ↓] theorem State.setLink_fixed (s : State) (n : Nat) (l : LinkSt) :
    (s.setLink n l).fixed = s.fixed := by simp [State.setLink]

@[simp ↓] theorem State.setChan_fixed (s : State) (c : Nat) (x : Channel) :
    (s.setChan c x).fixed = s.fixed := by simp [State.setChan]

@[simp ↓] theorem State.chanFlag_fixed (s : State) (c b : Nat) (v : Bool) :
    (s.chanFlag c b v).fixed = s.fixed := by simp [State.chanFlag]

@[simp ↓] theorem State.raiseLink_fixed (s : State) (code n : Nat) :
    (s.raiseLink code n).fixed = s.fixed := by simp [State.raiseLink]

@[simp ↓] theorem State.raiseDisc_fixed (s : State) (code n : Nat) :
    (s.raiseDisc code n).fixed = s.fixed := by simp [State.raiseDisc]

@[simp ↓] theorem State.updCritical_fixed (s : State) : s.updCritical.fixed = s.fixed := by simp [State.updCritical]

@[simp ↓] theorem State.checkAcquire_fixed (s : State) (n : Nat) :
    (s.checkAcquire n).fixed = s.fixed := by simp [State.checkAcquire]

@[simp ↓] theorem State.judge_fixed (s : State) (n : Nat) : (s.judge n).fixed = s.fixed := by simp [State.judge]
@[simp ↓] theorem State.judgeAll_fixed (s : State) : s.judgeAll.fixed = s.fixed := by simp [State.judgeAll]
@[simp ↓] theorem State.identUpdate_fixed (s : State) : s.identUpdate.fixed = s.fixed := by simp [State.identUpdate]

@[simp ↓] theorem State.sendIdentSet_fixed (s : State) (n : Nat) :
    (s.sendIdentSet n).fixed = s.fixed := by simp [State.sendIdentSet]

@[simp ↓] theorem State.ctlRx_fixed (s : State) (n blk grp kind resv : Nat) :
    (s.ctlRx n blk grp kind resv).2.fixed = s.fixed := by
  unfold State.ctlRx
  split <;> simp

@[simp ↓] theorem execIdentSendTimer_fixed (link : Fin 24) (keepAlive : Bool) (s : State) :
    (execIdentSendTimer link keepAlive s).fixed = some s.fixed := by simp [execIdentSendTimer]

@[simp ↓] theorem execIdentRx_fixed (link : Fin 24) (blk : Nat) (s : State) : (execIdentRx link blk s).fixed = some s.fixed := by
  simp only [execIdentRx]
  split
  · simp
  · split <;> simp [fixed_of_snd ‹_ = (_, _)›]

@[simp ↓] theorem execSerialRx_fixed (link : Fin 24) (half : Fin 2) (blk : Nat) (s : State) :
    (execSerialRx link half blk s).fixed = some s.fixed := by
  simp only [execSerialRx]
  split
  · simp
  · split <;> simp [fixed_of_snd ‹_ = (_, _)›]

@[simp ↓] theorem execFencedNoticeRepeat_fixed (link : Fin 24) (s : State) :
    (execFencedNoticeRepeat link s).fixed = some s.fixed := by simp [execFencedNoticeRepeat]

@[simp ↓] theorem execMissingGraceExpiry_fixed (link : Fin 24) (s : State) :
    (execMissingGraceExpiry link s).fixed = some s.fixed := by simp [execMissingGraceExpiry]

@[simp ↓] theorem State.setWiring_fixed (s : State) (n e : Nat) : (s.setWiring n e).fixed = s.fixed := by simp [State.setWiring]

@[simp ↓] theorem execWiringEntryWrite_fixed (who : Who) (link : Fin 24) (v : Nat) (s : State) :
    (execWiringEntryWrite who link v s).fixed = some s.fixed := by simp [execWiringEntryWrite]

@[simp ↓] theorem State.adopt_fixed (s : State) (v : Nat) : (s.adopt v).1.fixed = s.fixed := by simp [State.adopt]

@[simp ↓] theorem execAdopt_fixed (who : Who) (v : Nat) (s : State) :
    (execAdopt who v s).fixed = some s.fixed := by simp [execAdopt]

/-! ### Links -/

@[simp ↓] theorem State.accountLanes_fixed (s : State) (n : Nat) : (s.accountLanes n).fixed = s.fixed := by
  simp only [State.accountLanes]
  split <;> simp

@[simp ↓] theorem State.abortInput_fixed (s : State) (n : Nat) : (s.abortInput n).fixed = s.fixed := by
  simp only [State.abortInput]
  split <;> simp

@[simp ↓] theorem State.setLstate_fixed (s : State) (n v : Nat) : (s.setLstate n v).fixed = s.fixed := by simp [State.setLstate]

@[simp ↓] theorem State.startTraining_fixed (s : State) (n : Nat) :
    (s.startTraining n).fixed = s.fixed := by simp [State.startTraining]

@[simp ↓] theorem State.startRetrain_fixed (s : State) (n : Nat) :
    (s.startRetrain n).fixed = s.fixed := by simp [State.startRetrain]

@[simp ↓] theorem State.failAttempt_fixed (s : State) (n : Nat) : (s.failAttempt n).fixed = s.fixed := by simp [State.failAttempt]

@[simp ↓] theorem State.linkEnable_fixed (s : State) (n v : Nat) :
    (s.linkEnable n v).fixed = s.fixed := by simp [State.linkEnable]

@[simp ↓] theorem execLinkEnableWrite_fixed (who : Who) (link : Fin 24) (v : Nat) (s : State) :
    (execLinkEnableWrite who link v s).fixed = some s.fixed := by simp [execLinkEnableWrite]

@[simp ↓] theorem execTrainAttemptTimeout_fixed (link : Fin 24) (s : State) :
    (execTrainAttemptTimeout link s).fixed = some s.fixed := by simp [execTrainAttemptTimeout]

@[simp ↓] theorem execTrainRetryTimer_fixed (link : Fin 24) (s : State) :
    (execTrainRetryTimer link s).fixed = some s.fixed := by simp [execTrainRetryTimer]

@[simp ↓] theorem execTrainParamRx_fixed (link : Fin 24) (blk lanes : Nat) (s : State) :
    (execTrainParamRx link blk lanes s).fixed = some s.fixed := by
  simp only [execTrainParamRx]
  split
  · simp
  · split <;> simp [fixed_of_snd ‹_ = (_, _)›]

@[simp ↓] theorem execIdentifyTimeout_fixed (link : Fin 24) (s : State) :
    (execIdentifyTimeout link s).fixed = some s.fixed := by simp [execIdentifyTimeout]

@[simp ↓] theorem execLoopReqSend_fixed (link : Fin 24) (s : State) :
    (execLoopReqSend link s).fixed = some s.fixed := by simp [execLoopReqSend]

@[simp ↓] theorem execLoopReqRx_fixed (link : Fin 24) (blk turnaround : Nat) (s : State) :
    (execLoopReqRx link blk turnaround s).fixed = some s.fixed := by
  simp only [execLoopReqRx]
  split
  · simp
  · split <;> simp [fixed_of_snd ‹_ = (_, _)›]

@[simp ↓] theorem State.edgeDelayOf_fixed (s : State) (sum : Int) :
    (s.edgeDelayOf sum).2.fixed = s.fixed := by simp [State.edgeDelayOf]

@[simp ↓] theorem execLoopRspRx_fixed (link : Fin 24) (blk at_ : Nat) (s : State) :
    (execLoopRspRx link blk at_ s).fixed = some s.fixed := by
  simp only [execLoopRspRx]
  split
  · simp
  · split
    · simp [fixed_of_snd ‹_ = (_, _)›]
    · have hs := fixed_of_snd ‹_ = (_, _)›
      split <;> simp [hs]

@[simp ↓] theorem State.ringLocked_fixed (s : State) (n lane flag : Nat) :
    (s.ringLocked n lane flag).fixed = s.fixed := by simp [State.ringLocked]

@[simp ↓] theorem State.lanesChanged_fixed (s : State) (n old new : Nat) (planned : Bool) :
    (s.lanesChanged n old new planned).fixed = s.fixed := by simp [State.lanesChanged]

@[simp ↓] theorem State.switchTo_fixed (s : State) (n m : Nat) : (s.switchTo n m).fixed = s.fixed := by
  simp only [State.switchTo]
  rw [State.lanesChanged_fixed, State.setLink_fixed, foldl_fixed]
  · simp
  · intro s k
    split <;> simp

@[simp ↓] theorem State.putFlit_fixed (s : State) (n typ seq phase : Nat) (replayed : Bool) (body : List Byte) (sw : Nat × Nat) :
    (s.putFlit n typ seq phase replayed body sw).fixed = s.fixed := by simp [State.putFlit]

@[simp ↓] theorem State.sendFlit_fixed (s : State) (n typ seq phase : Nat) (replayed : Bool) (body : List Byte) :
    (s.sendFlit n typ seq phase replayed body).fixed = s.fixed := by
  unfold State.sendFlit
  split <;> simp

@[simp ↓] theorem State.sendIdle_fixed (s : State) (n : Nat) : (s.sendIdle n).fixed = s.fixed := by simp [State.sendIdle]

@[simp ↓] theorem State.sendData_fixed (s : State) (n : Nat) (body : List Byte) :
    (s.sendData n body).fixed = s.fixed := by simp [State.sendData]

@[simp ↓] theorem State.owe_fixed (s : State) (n cls bytes : Nat) : (s.owe n cls bytes).fixed = s.fixed := by simp [State.owe]

@[simp ↓] theorem State.freeInput_fixed (s : State) (p : OutPkt) : (s.freeInput p).fixed = s.fixed := by
  unfold State.freeInput
  split <;> simp

@[simp ↓] theorem State.pump_fixed (fuel n : Nat) (s : State) : (State.pump fuel n s).fixed = s.fixed := by
  induction fuel generalizing s with
  | zero => rfl
  | succ fuel ih =>
    simp only [State.pump]
    split <;> simp [ih]

@[simp ↓] theorem State.askRetrain_fixed (s : State) (n cause : Nat) :
    (s.askRetrain n cause).fixed = s.fixed := by simp [State.askRetrain]

@[simp ↓] theorem State.replayAll_fixed (s : State) (n : Nat) : (s.replayAll n).fixed = s.fixed := by simp [State.replayAll]

@[simp ↓] theorem State.resumeReplay_fixed (s : State) (n : Nat) :
    (s.resumeReplay n).fixed = s.fixed := by simp [State.resumeReplay]

@[simp ↓] theorem execLinkTrainingComplete_fixed (link : Fin 24) (s : State) :
    (execLinkTrainingComplete link s).fixed = some s.fixed := by simp [execLinkTrainingComplete]

@[simp ↓] theorem execRetrainReqRx_fixed (link : Fin 24) (blk : Nat) (s : State) :
    (execRetrainReqRx link blk s).fixed = some s.fixed := by
  simp only [execRetrainReqRx]
  split
  · simp
  · split <;> simp [fixed_of_snd ‹_ = (_, _)›]

@[simp ↓] theorem execLaneSetRx_fixed (link : Fin 24) (blk : Nat) (s : State) :
    (execLaneSetRx link blk s).fixed = some s.fixed := by
  simp only [execLaneSetRx]
  split
  · simp
  · split <;> simp [fixed_of_snd ‹_ = (_, _)›]

@[simp ↓] theorem execLaneAddReadyRx_fixed (link : Fin 24) (blk : Nat) (s : State) :
    (execLaneAddReadyRx link blk s).fixed = some s.fixed := by
  simp only [execLaneAddReadyRx]
  split
  · simp
  · split <;> simp [fixed_of_snd ‹_ = (_, _)›]

@[simp ↓] theorem State.laneLost_fixed (s : State) (n lane : Nat) :
    (s.laneLost n lane).fixed = s.fixed := by simp [State.laneLost]

@[simp ↓] theorem execLaneLockLost_fixed (link : Fin 24) (lane : Fin 4) (s : State) :
    (execLaneLockLost link lane s).fixed = some s.fixed := by simp [execLaneLockLost]

@[simp ↓] theorem execLaneSerExceeded_fixed (link : Fin 24) (lane : Fin 4) (corrected : Nat) (s : State) :
    (execLaneSerExceeded link lane corrected s).fixed = some s.fixed := by simp [execLaneSerExceeded]

@[simp ↓] theorem State.calSeen_fixed (s : State) (n lane : Nat) : (s.calSeen n lane).fixed = s.fixed := by simp [State.calSeen]

@[simp ↓] theorem execLaneMapSwitch_fixed (link : Fin 24) (outbound : Bool) (s : State) :
    (execLaneMapSwitch link outbound s).fixed = some s.fixed := by
  simp only [execLaneMapSwitch]
  split <;> split <;> simp

@[simp ↓] theorem execLaneRetrained_fixed (link : Fin 24) (lane : Fin 4) (s : State) :
    (execLaneRetrained link lane s).fixed = some s.fixed := by simp [execLaneRetrained]

@[simp ↓] theorem State.dropRetired_fixed (s : State) (n : Nat) : (s.dropRetired n).fixed = s.fixed := by simp [State.dropRetired]
@[simp ↓] theorem State.togglePhase_fixed (s : State) (n : Nat) : (s.togglePhase n).fixed = s.fixed := by simp [State.togglePhase]

@[simp ↓] theorem execKeyExhausted_fixed (link : Fin 24) (s : State) :
    (execKeyExhausted link s).fixed = some s.fixed := by simp [execKeyExhausted]

@[simp ↓] theorem execLinkKeyNeeded_fixed (link : Fin 24) (s : State) :
    (execLinkKeyNeeded link s).fixed = some s.fixed := by simp [execLinkKeyNeeded]

@[simp ↓] theorem execReplayTimeout_fixed (link : Fin 24) (s : State) :
    (execReplayTimeout link s).fixed = some s.fixed := by simp [execReplayTimeout]

/-! ### Host -/

@[simp ↓] theorem State.setPort_fixed (s : State) (n : Nat) (x : Port) :
    (s.setPort n x).fixed = s.fixed := by simp [State.setPort]

@[simp ↓] theorem State.setQp_fixed (s : State) (n q : Nat) (x : QPair) : (s.setQp n q x).fixed = s.fixed := by simp [State.setQp]
@[simp ↓] theorem State.interrupt_fixed (s : State) (n v : Nat) : (s.interrupt n v).fixed = s.fixed := by simp [State.interrupt]

@[simp ↓] theorem State.writeCq_fixed (s : State) (n q rec_ vec : Nat) :
    (s.writeCq n q rec_ vec).fixed = s.fixed := by simp [State.writeCq]

@[simp ↓] theorem State.record_fixed (s : State) (n q rec_ vec : Nat) :
    (s.record n q rec_ vec).fixed = s.fixed := by simp [State.record]

@[simp ↓] theorem State.drainCq_fixed (n q k : Nat) (s : State) : (State.drainCq n q k s).fixed = s.fixed := by
  induction k generalizing s with
  | zero => rfl
  | succ k ih =>
    simp only [State.drainCq]
    split <;> simp [ih]

@[simp ↓] theorem State.syncRecord_fixed (s : State) (p rec_ vec : Nat) : (s.syncRecord p rec_ vec).fixed = s.fixed := by
  unfold State.syncRecord
  split <;> simp

@[simp ↓] theorem State.finishDesc_fixed (s : State) (who : Nat × Nat × Nat) (status info : Nat) :
    (s.finishDesc who status info).fixed = s.fixed := by
  simp only [State.finishDesc]
  split <;> simp

@[simp ↓] theorem State.queueError_fixed (s : State) (n q : Nat) :
    (s.queueError n q).fixed = s.fixed := by simp [State.queueError]

/-! ### Sync -/

@[simp ↓] theorem State.setSync_fixed (s : State) (o : Nat) (x : SyncObj) :
    (s.setSync o x).fixed = s.fixed := by simp [State.setSync]

@[simp ↓] theorem State.syncInterrupt_fixed (s : State) (o kind : Nat) : (s.syncInterrupt o kind).fixed = s.fixed := by
  simp only [State.syncInterrupt]
  split
  · simp
  · split
    · split <;> simp
    · simp

@[simp ↓] theorem State.fire_fixed (s : State) (o : Nat) : (s.fire o).fixed = s.fixed := by simp [State.fire]
@[simp ↓] theorem State.syncTry_fixed (s : State) (o : Nat) : (s.syncTry o).fixed = s.fixed := by simp [State.syncTry]

@[simp ↓] theorem State.syncReset_fixed (s : State) (o step : Nat) :
    (s.syncReset o step).fixed = s.fixed := by simp [State.syncReset]

@[simp ↓] theorem State.syncInit_fixed (s : State) (p step : Nat) :
    (s.syncInit p step).fixed = s.fixed := by simp [State.syncInit]

@[simp ↓] theorem State.syncRetire_fixed (s : State) (p n : Nat) :
    (s.syncRetire p n).fixed = s.fixed := by simp [State.syncRetire]

@[simp ↓] theorem State.syncArm_fixed (s : State) (p step beat ns : Nat) :
    (s.syncArm p step beat ns).fixed = s.fixed := by simp [State.syncArm]

@[simp ↓] theorem State.enterStep_fixed (s : State) (p m : Nat) : (s.enterStep p m).fixed = s.fixed := by
  simp only [State.enterStep]
  split
  · simp
  · split <;> simp

@[simp ↓] theorem State.syncFault_fixed (s : State) (x : SyncObj) : (s.syncFault x).fixed = s.fixed := by simp [State.syncFault]

@[simp ↓] theorem State.arrive_fixed (s : State) (o inc : Nat) (tagged : Bool) :
    (s.arrive o inc tagged).fixed = s.fixed := by simp [State.arrive]

@[simp ↓] theorem State.arrivePair_fixed (s : State) (p pair step inc : Nat) (tagged : Bool) :
    (s.arrivePair p pair step inc tagged).1.fixed = s.fixed := by simp [State.arrivePair]

@[simp ↓] theorem State.post_fixed (s : State) (p pair step : Nat) (tagged : Bool) :
    (s.post p pair step tagged).fixed = s.fixed := by simp [State.post]

@[simp ↓] theorem State.arrivePlain_fixed (s : State) (p ix inc : Nat) :
    (s.arrivePlain p ix inc).1.fixed = s.fixed := by simp [State.arrivePlain]

@[simp ↓] theorem State.syncTimeout_fixed (s : State) (o : Nat) : (s.syncTimeout o).fixed = s.fixed := by simp [State.syncTimeout]

@[simp ↓] theorem State.beatDeadlines_fixed (s : State) (beat : Nat) :
    (s.beatDeadlines beat).fixed = s.fixed := by simp [State.beatDeadlines]

@[simp ↓] theorem State.nsDeadlines_fixed (s : State) : s.nsDeadlines.fixed = s.fixed := by simp [State.nsDeadlines]
@[simp ↓] theorem State.syncCommit_fixed (s : State) (p : Nat) : (s.syncCommit p).fixed = s.fixed := by simp [State.syncCommit]
@[simp ↓] theorem State.syncSquash_fixed (s : State) (p : Nat) : (s.syncSquash p).1.fixed = s.fixed := by simp [State.syncSquash]

/-! ### Xport -/

@[simp ↓] theorem State.enqueue_fixed (s : State) (n : Nat) (p : OutPkt) :
    (s.enqueue n p).fixed = s.fixed := by simp [State.enqueue]

@[simp ↓] theorem State.originate_fixed (s : State) (n part : Nat) (p : Packet) :
    (s.originate n part p).fixed = s.fixed := by simp [State.originate]

@[simp ↓] theorem State.noRouteEvent_fixed (s : State) (chip : Nat) :
    (s.noRouteEvent chip).fixed = s.fixed := by simp [State.noRouteEvent]

@[simp ↓] theorem State.inject_fixed (s : State) (part : Nat) (p : Packet) (mask : Nat) :
    (s.inject part p mask).1.fixed = s.fixed := by
  simp only [State.inject]
  split
  · simp
  · split
    · simp
    · split <;> simp

@[simp ↓] theorem State.setCtx_fixed (s : State) (i : Nat) (c : Ctx) : (s.setCtx i c).fixed = s.fixed := by simp [State.setCtx]

@[simp ↓] theorem State.openCtx_fixed (s : State) (p chip cls kind : Nat) : (s.openCtx p chip cls kind).fixed = s.fixed := by
  unfold State.openCtx
  split
  · simp
  · split <;> simp

@[simp ↓] theorem State.noteTx_fixed (s : State) (p chip cls : Nat) : (s.noteTx p chip cls).fixed = s.fixed := by
  unfold State.noteTx
  split <;> simp

@[simp ↓] theorem State.sendColl_fixed (s : State) (p : Nat) (k : Packet) (mask : Nat) :
    (s.sendColl p k mask).fixed = s.fixed := by simp [State.sendColl]

@[simp ↓] theorem State.sendAnswer_fixed (s : State) (p : Nat) (k : Packet) :
    (s.sendAnswer p k).fixed = s.fixed := by simp [State.sendAnswer]

@[simp ↓] theorem State.dropWaiting_fixed (s : State) (p : Nat) : (s.dropWaiting p).fixed = s.fixed := by simp [State.dropWaiting]

@[simp ↓] theorem State.injectWaiting_fixed (s : State) (cycles : Nat) :
    (s.injectWaiting cycles).fixed = s.fixed := by simp [State.injectWaiting]

@[simp ↓] theorem State.setReq_fixed (s : State) (i : Nat) (r : Req) : (s.setReq i r).fixed = s.fixed := by simp [State.setReq]

@[simp ↓] theorem State.reqGo_fixed (s : State) (r : Req) : (s.reqGo r).fixed = s.fixed := by
  unfold State.reqGo
  split <;> simp

@[simp ↓] theorem State.reqWait_fixed (s : State) (i : Nat) (r : Req) (tag : Bool) : (s.reqWait i r tag).fixed = s.fixed := by
  unfold State.reqWait
  split <;> simp

@[simp ↓] theorem State.issue_fixed (fuel i : Nat) (s : State) : (State.issue fuel i s).fixed = s.fixed := by
  induction fuel generalizing s with
  | zero => rfl
  | succ fuel ih =>
    simp only [State.issue]
    split
    · rfl
    · split
      · rfl
      · split <;> simp [ih]

@[simp ↓] theorem State.restoreRead_fixed (s : State) (p st : Nat) : (s.restoreRead p st).fixed = s.fixed := by
  simp only [State.restoreRead]
  split <;> simp

@[simp ↓] theorem State.reqEnd_fixed (s : State) (i : Nat) : (s.reqEnd i).fixed = s.fixed := by
  unfold State.reqEnd
  split <;> simp

@[simp ↓] theorem State.issueAll_fixed (s : State) (p : Nat) : (s.issueAll p).fixed = s.fixed := by simp [State.issueAll]
@[simp ↓] theorem State.startReq_fixed (s : State) (r : Req) : (s.startReq r).fixed = s.fixed := by simp [State.startReq]

@[simp ↓] theorem State.tagDone_fixed (s : State) (ti st : Nat) : (s.tagDone ti st).fixed = s.fixed := by
  simp only [State.tagDone]
  (repeat' split) <;> simp

@[simp ↓] theorem execReqTimeout_fixed (tag : Nat) (s : State) : (execReqTimeout tag s).fixed = some s.fixed := by
  unfold execReqTimeout
  split <;> simp

@[simp ↓] theorem execContextIdleClose_fixed (ctx : Nat) (s : State) : (execContextIdleClose ctx s).fixed = some s.fixed := by
  unfold execContextIdleClose
  split <;> simp

@[simp ↓] theorem execRouteEntryWrite_fixed (who : Who) (chip v : Nat) (s : State) :
    (execRouteEntryWrite who chip v s).fixed = some s.fixed := by simp [execRouteEntryWrite]

@[simp ↓] theorem State.releaseXport_fixed (s : State) (p : Nat) :
    (s.releaseXport p).fixed = s.fixed := by simp [State.releaseXport]

/-! ### Load -/

@[simp ↓] theorem State.setImageState_fixed (s : State) (p v : Nat) :
    (s.setImageState p v).fixed = s.fixed := by simp [State.setImageState]

@[simp ↓] theorem State.loadRequest_fixed (s : State) (p params img table : Nat) (who : Nat × Nat × Nat) :
    (s.loadRequest p params img table who).fixed = s.fixed := by simp [State.loadRequest]

@[simp ↓] theorem State.refuseLoad_fixed (s : State) (p : Nat) (r : LoadReq) (f : Fail) :
    (s.refuseLoad p r f).fixed = s.fixed := by simp [State.refuseLoad]

@[simp ↓] theorem State.imageObjs_fixed (s : State) (p : Nat) (im : Image) (me digest : Nat) :
    (s.imageObjs p im me digest).fixed = s.fixed := by simp [State.imageObjs]

@[simp ↓] theorem State.zeroPlacements_fixed (s : State) (im : Image) :
    (s.zeroPlacements im).fixed = s.fixed := by simp [State.zeroPlacements]

@[simp ↓] theorem State.finishLoad_fixed (s : State) (p : Nat) (r : LoadReq) : (s.finishLoad p r).fixed = s.fixed := by
  simp only [State.finishLoad]
  simp

@[simp ↓] theorem execImageLoadDone_fixed (part : Fin 4) (s : State) : (execImageLoadDone part s).fixed = some s.fixed := by
  simp only [execImageLoadDone]
  split
  · simp
  · split
    · simp
    · split <;> simp

@[simp ↓] theorem State.endLoads_fixed (s : State) : s.endLoads.fixed = s.fixed := by simp [State.endLoads]
@[simp ↓] theorem State.startBeat_fixed (s : State) (p v : Nat) : (s.startBeat p v).1.fixed = s.fixed := by simp [State.startBeat]

@[simp ↓] theorem execStartBeatWrite_fixed (who : Who) (part : Fin 4) (v : Nat) (s : State) :
    (execStartBeatWrite who part v s).fixed = some s.fixed := by simp [execStartBeatWrite]

@[simp ↓] theorem State.releaseSync_fixed (s : State) (p : Nat) : (s.releaseSync p).fixed = s.fixed := by
  simp only [State.releaseSync]
  split <;> simp

@[simp ↓] theorem State.offloadDone_fixed (s : State) (p : Nat) : (s.offloadDone p).fixed = s.fixed := by simp [State.offloadDone]
@[simp ↓] theorem State.releaseOffloads_fixed (s : State) : s.releaseOffloads.fixed = s.fixed := by simp [State.releaseOffloads]
@[simp ↓] theorem State.flashWear_fixed (s : State) (n : Nat) : (s.flashWear n).fixed = s.fixed := by simp [State.flashWear]

@[simp ↓] theorem State.endCkpt_fixed (s : State) (p : Nat) : (s.endCkpt p).fixed = s.fixed := by
  simp only [State.endCkpt]
  split <;> simp

@[simp ↓] theorem State.unloadDone_fixed (s : State) (p : Nat) : (s.unloadDone p).fixed = s.fixed := by
  simp only [State.unloadDone]
  split <;> simp

@[simp ↓] theorem State.unloadNow_fixed (s : State) (p : Nat) : (s.unloadNow p).fixed = s.fixed := by simp [State.unloadNow]

@[simp ↓] theorem State.requestUnload_fixed (s : State) (p : Nat) (who : Option (Nat × Nat × Nat)) :
    (s.requestUnload p who).fixed = s.fixed := by simp [State.requestUnload]

@[simp ↓] theorem execUnload_fixed (who : Who) (part : Fin 4) (v : Nat) (s : State) :
    (execUnload who part v s).fixed = some s.fixed := by simp [execUnload]

@[simp ↓] theorem State.debugEnable_fixed (s : State) (who : Who) (v : Nat) :
    (s.debugEnable who v).1.fixed = s.fixed := by simp [State.debugEnable]

@[simp ↓] theorem execDebugEnableWrite_fixed (who : Who) (v : Nat) (s : State) :
    (execDebugEnableWrite who v s).fixed = some s.fixed := by simp [execDebugEnableWrite]

@[simp ↓] theorem execDebugHaltWrite_fixed (who : Who) (v : Nat) (s : State) :
    (execDebugHaltWrite who v s).fixed = some s.fixed := by simp [execDebugHaltWrite]

/-! ### Lanes -/

@[simp ↓] theorem State.oncePerStep_fixed (s : State) (p key step code : Nat) (a : EvArgs) :
    (s.oncePerStep p key step code a).fixed = s.fixed := by simp [State.oncePerStep]

/-! ### Mat -/

@[simp ↓] theorem State.matEvents_fixed (s : State) (c : OpCtx) (blocks rows : Nat) (beyond sat : Bool) :
    (s.matEvents c blocks rows beyond sat).fixed = s.fixed := by simp [State.matEvents]

/-! ### Issue -/

@[simp ↓] theorem State.spillGrain_fixed (s : State) (p step : Nat) (im : Image) (t grain : Nat) :
    (s.spillGrain p step im t grain).fixed = s.fixed := by
  unfold State.spillGrain
  split <;> simp

@[simp ↓] theorem State.retention_fixed (s : State) (c : OpCtx) (passes : Nat) :
    (s.retention c passes).fixed = s.fixed := by simp [State.retention]

@[simp ↓] theorem State.noteWaits_fixed (s : State) (c : OpCtx) (waited : Nat) :
    (s.noteWaits c waited).fixed = s.fixed := by simp [State.noteWaits]

@[simp ↓] theorem State.issueTiles_fixed (s : State) (c : OpCtx) (r : Rel) (waited : Nat) :
    (s.issueTiles c r waited).fixed = s.fixed := by simp [State.issueTiles]

@[simp ↓] theorem State.issueTransfer_fixed (s : State) (c : OpCtx) (r : Rel) (data : List Byte) :
    (s.issueTransfer c r data).fixed = s.fixed := by
  simp only [State.issueTransfer]
  split
  · simp
  · split <;> simp [State.issueTransfer.fault]

@[simp ↓] theorem State.findOp_fixed (s : State) (p rel opcode : Nat) :
    Yields (fun t => t.1.fixed) s.fixed (s.findOp p rel opcode) := by
  simp only [State.findOp]
  split
  · simp
  · split
    · simp
    · refine yields_ite_of _ _ _ _ _ ?_ ?_ <;> simp

/-! ### Coll -/

@[simp ↓] theorem State.writePlane_fixed (s : State) (im : Image) (v : View) (plane off : Nat) (bs : List Byte) :
    (s.writePlane im v plane off bs).fixed = s.fixed := by simp [State.writePlane]

@[simp ↓] theorem State.sendCollPkt_fixed (s : State) (p : Nat) (c : Coll) (r : CRun) (pos plane carry off : Nat) (bs : List Byte)
    : (s.sendCollPkt p c r pos plane carry off bs).fixed = s.fixed := by simp [State.sendCollPkt]

@[simp ↓] theorem State.ownShard_fixed (s : State) (p : Nat) (c : Coll) (r : CRun) (k e0 flags : Nat) (ws : List Nat) :
    (s.ownShard p c r k e0 flags ws).fixed = s.fixed := by
  simp only [State.ownShard]
  split <;> simp

@[simp ↓] theorem State.ringOn_fixed (s : State) (p : Nat) (c : Coll) (r : CRun) (pos owner plane off : Nat) (bs : List Byte) :
    (s.ringOn p c r pos owner plane off bs).fixed = s.fixed := by simp [State.ringOn]

@[simp ↓] theorem State.foldOn_fixed (s : State) (p : Nat) (c : Coll) (r : CRun) (pos off carry : Nat) (ws : List Nat) :
    (s.foldOn p c r pos off carry ws).fixed = s.fixed := by
  unfold State.foldOn
  split <;> simp

@[simp ↓] theorem State.noteSrc_fixed (s : State) (p : Nat) (im : Image) (v : View) (step k n : Nat) :
    (s.noteSrc p im v step k n).fixed = s.fixed := by simp [State.noteSrc]

@[simp ↓] theorem State.collBegin_fixed (s : State) (p : Nat) (c : Coll) (r : CRun) : (s.collBegin p c r).fixed = s.fixed := by
  simp only [State.collBegin]
  (repeat' split) <;> simp

@[simp ↓] theorem State.collTake_fixed (s : State) (p : Nat) (c : Coll) (r : CRun) (k : Packet) (tagged : Bool) :
    Yields State.fixed s.fixed (s.collTake p c r k tagged) := by
  simp only [State.collTake]
  split
  · simp
  · refine yields_ite_of _ _ _ _ _ (by simp) ?_
    split
    · simp
    · repeat' refine yields_ite_of _ _ _ _ _ ?_ ?_
      all_goals simp

@[simp ↓] theorem State.collRx_fixed (s : State) (p : Nat) (k : Packet) (tagged : Bool) :
    (s.collRx p k tagged).fixed = s.fixed := by
  simp only [State.collRx]
  split
  · rfl
  · split
    · obtain ⟨r, -, hr⟩ := Option.bind_eq_some_iff.mp ‹_ = some _›
      split at hr
      · cases hr
      · exact State.collTake_fixed _ _ _ _ _ _ _ hr
    · simp

@[simp ↓] theorem State.collOffer_fixed (s : State) (p entry : Nat) :
    (s.collOffer p entry).fixed = s.fixed := by simp [State.collOffer]

@[simp ↓] theorem State.collStart_fixed (s : State) (p : Nat) (w : CWait) : (s.collStart p w).fixed = s.fixed := by
  simp only [State.collStart]
  split <;> simp

@[simp ↓] theorem State.collRequest_fixed (s : State) (p : Nat) (w : CWait) :
    (s.collRequest p w).fixed = s.fixed := by simp [State.collRequest]

@[simp ↓] theorem State.collFreed_fixed (s : State) (p entry : Nat) : (s.collFreed p entry).fixed = s.fixed := by
  simp only [State.collFreed]
  split <;> simp

@[simp ↓] theorem State.collNext_fixed (s : State) (p entry waited : Nat) : (s.collNext p entry waited).fixed = s.fixed := by
  simp only [State.collNext]
  split <;> simp

@[simp ↓] theorem State.takeMb_fixed (s : State) (p : Nat) (rec_ : Nat) : (s.takeMb p rec_).1.fixed = s.fixed := by
  simp only [State.takeMb]
  split <;> simp

/-! ### Commit -/

@[simp ↓] theorem State.sendVote_fixed (s : State) (p : Nat) (c : Coll) (entry pos step : Nat) (x : Contrib) :
    (s.sendVote p c entry pos step x).fixed = s.fixed := by simp [State.sendVote]

@[simp ↓] theorem State.passDown_fixed (s : State) (p step : Nat) (x : Contrib) : (s.passDown p step x).fixed = s.fixed := by
  simp only [State.passDown]
  split <;> simp

@[simp ↓] theorem State.decide_fixed (s : State) (p : Nat) (f : Final) : (s.decide p f).fixed = s.fixed := by simp [State.decide]

@[simp ↓] theorem State.inconsistent_fixed (s : State) (p : Nat) (c : Contrib) :
    (s.inconsistent p c).1.fixed = s.fixed := by simp [State.inconsistent]

@[simp ↓] theorem State.normResult_fixed (s : State) (p : Nat) (c : Contrib) : (s.normResult p c).1.fixed = s.fixed := by
  simp only [State.normResult]
  split <;> simp

@[simp ↓] theorem State.commitResult_fixed (s : State) (p : Nat) (c : Contrib) :
    (s.commitResult p c).fixed = s.fixed := by simp [State.commitResult]

@[simp ↓] theorem State.voteHanded_fixed (s : State) (p : Nat) : (s.voteHanded p).fixed = s.fixed := by
  simp only [State.voteHanded]
  split <;> simp

@[simp ↓] theorem State.voteDone_fixed (s : State) (p : Nat) : (s.voteDone p).fixed = s.fixed := by simp [State.voteDone]

@[simp ↓] theorem State.acceptResult_fixed (s : State) (p step : Nat) (c : Contrib) :
    (s.acceptResult p step c).1.fixed = s.fixed := by simp [State.acceptResult]

@[simp ↓] theorem State.voteTry_fixed (s : State) (p round step : Nat) : (s.voteTry p round step).1.fixed = s.fixed := by
  simp only [State.voteTry]
  split
  · simp
  · split
    · simp
    · split <;> simp

@[simp ↓] theorem State.contribute_fixed (s : State) (p : Nat) (x : Contrib) :
    (s.contribute p x).1.fixed = s.fixed := by simp [State.contribute]

@[simp ↓] theorem State.takeParams_fixed (s : State) (p n : Nat) : (s.takeParams p n).1.fixed = s.fixed := by
  simp only [State.takeParams]
  split
  · simp
  · split <;> simp

@[simp ↓] theorem State.commitSend_fixed (s : State) (p : Nat) : (s.commitSend p).fixed = s.fixed := by simp [State.commitSend]
@[simp ↓] theorem State.commitOpen_fixed (s : State) (p : Nat) : (s.commitOpen p).fixed = s.fixed := by simp [State.commitOpen]

@[simp ↓] theorem State.normSend_fixed (s : State) (p : Nat) : (s.normSend p).fixed = s.fixed := by
  simp only [State.normSend]
  split <;> simp

@[simp ↓] theorem State.formNorm_fixed (s : State) (p : Nat) : (s.formNorm p).fixed = s.fixed := by simp [State.formNorm]

@[simp ↓] theorem State.voteRx_fixed (s : State) (p : Nat) (k : Packet) : (s.voteRx p k).fixed = s.fixed := by
  simp only [State.voteRx]
  (repeat' split) <;> simp

@[simp ↓] theorem execVoteTimeout_fixed (part : Fin 4) (s : State) : (execVoteTimeout part s).fixed = some s.fixed := by
  simp only [execVoteTimeout]
  split <;> simp

@[simp ↓] theorem State.stepParam_fixed (s : State) (p v : Nat) : (s.stepParam p v).1.fixed = s.fixed := by simp [State.stepParam]

@[simp ↓] theorem execStepParamWrite_fixed (who : Who) (part : Fin 4) (v : Nat) (s : State) :
    (execStepParamWrite who part v s).fixed = some s.fixed := by simp [execStepParamWrite]

@[simp ↓] theorem State.fireOne_fixed (s : State) (p : Nat) (f : Nat × Nat × Bool) : (s.fireOne p f).fixed = s.fixed := by
  simp only [State.fireOne]
  split <;> simp

@[simp ↓] theorem State.settle_fixed (s : State) (p : Nat) : (s.settle p).fixed = s.fixed := by simp [State.settle]
@[simp ↓] theorem State.settleAll_fixed (s : State) : s.settleAll.fixed = s.fixed := by simp [State.settleAll]

@[simp ↓] theorem State.tryWaiting_fixed (s : State) (cycles : Nat) :
    (s.tryWaiting cycles).fixed = s.fixed := by simp [State.tryWaiting]

@[simp ↓] theorem execNoRouteInject_fixed (cycles : Nat) (s : State) :
    (execNoRouteInject cycles s).fixed = some s.fixed := by simp [execNoRouteInject]

@[simp ↓] theorem execNormContributionSend_fixed (part : Fin 4) (s : State) :
    (execNormContributionSend part s).fixed = some s.fixed := by simp [execNormContributionSend]

@[simp ↓] theorem State.voteWork_fixed (s : State) (p : Nat) (commit : Bool) :
    (s.voteWork p commit).fixed = s.fixed := by simp [State.voteWork]

@[simp ↓] theorem State.voteSync_fixed (s : State) (p : Nat) (commit : Bool) : (s.voteSync p commit).fixed = s.fixed := by
  unfold State.voteSync
  split <;> simp

@[simp ↓] theorem State.voteBanks_fixed (s : State) (p : Nat) (commit : Bool) :
    (s.voteBanks p commit).fixed = s.fixed := by simp [State.voteBanks]

@[simp ↓] theorem State.recipe_fixed (s : State) (p : Nat) (commit : Bool) :
    (s.recipe p commit).fixed = s.fixed := by simp [State.recipe]

@[simp ↓] theorem State.voteRecord_fixed (s : State) (p : Nat) (f : Final) :
    (s.voteRecord p f).fixed = s.fixed := by simp [State.voteRecord]

@[simp ↓] theorem State.showBase_fixed (s : State) (p : Nat) : (s.showBase p).fixed = s.fixed := by
  unfold State.showBase
  split <;> simp

@[simp ↓] theorem State.voteProgram_fixed (s : State) (p n : Nat) (commit : Bool) :
    (s.voteProgram p n commit).fixed = s.fixed := by simp [State.voteProgram]

@[simp ↓] theorem State.applyVote_fixed (s : State) (p : Nat) : (s.applyVote p).fixed = s.fixed := by
  unfold State.applyVote
  split <;> simp

/-! ### Ckpt -/

@[simp ↓] theorem State.ckEvent_fixed (s : State) (code p layer cause c : Nat) :
    (s.ckEvent code p layer cause c).fixed = s.fixed := by simp [State.ckEvent]

@[simp ↓] theorem State.putSlot_fixed (s : State) (p layer k : Nat) (x : CkSlot) :
    (s.putSlot p layer k x).fixed = s.fixed := by simp [State.putSlot]

@[simp ↓] theorem State.abandon_fixed (s : State) (p : Nat) (r : CkRun) (cause : Nat) :
    (s.abandon p r cause).fixed = s.fixed := by
  simp only [State.abandon]
  split
  · simp
  · split <;> simp

@[simp ↓] theorem State.boundary_fixed (s : State) (p : Nat) : (s.boundary p).fixed = s.fixed := by
  simp only [State.boundary]
  split <;> simp

@[simp ↓] theorem State.sendCopy_fixed (s : State) (p entry c off : Nat) (bs : List Byte) :
    (s.sendCopy p entry c off bs).fixed = s.fixed := by
  unfold State.sendCopy
  split <;> simp

@[simp ↓] theorem State.ckProgress_fixed (s : State) (p : Nat) : (s.ckProgress p).fixed = s.fixed := by
  simp only [State.ckProgress]
  split
  · rfl
  · refine foldl_fixed _ _ _ fun s r => ?_
    split
    · rfl
    · split
      · split <;> simp
      · simp

@[simp ↓] theorem State.ckCopy_fixed (s : State) (c : OpCtx) : Yields State.fixed s.fixed (s.ckCopy c) := by
  simp only [State.ckCopy]
  split
  · simp
  · repeat' refine yields_ite_of _ _ _ _ _ ?_ ?_
    · simp
    · rw [yields_some]
      split <;> simp
    · simp

@[simp ↓] theorem State.ckDigest_fixed (s : State) (c : OpCtx) : Yields State.fixed s.fixed (s.ckDigest c) := by
  simp only [State.ckDigest]
  split
  · simp
  · simp

@[simp ↓] theorem State.ckFlushed_fixed (s : State) (p layer : Nat) (good : Bool) :
    (s.ckFlushed p layer good).fixed = s.fixed := by
  simp only [State.ckFlushed]
  split <;> simp

@[simp ↓] theorem execFlashCkptComplete_fixed (part : Fin 4) (good : Bool) (s : State) :
    (execFlashCkptComplete part good s).fixed = some s.fixed := by simp [execFlashCkptComplete]

@[simp ↓] theorem execStoreCkptComplete_fixed (part : Fin 4) (good : Bool) (s : State) :
    (execStoreCkptComplete part good s).fixed = some s.fixed := by simp [execStoreCkptComplete]

@[simp ↓] theorem State.writeReserve_fixed (s : State) (im : Image) (t slot off : Nat) (bs : List Byte) :
    (s.writeReserve im t slot off bs).fixed = s.fixed := by simp [State.writeReserve]

@[simp ↓] theorem State.partnerRx_fixed (s : State) (p : Nat) (k : Packet) : (s.partnerRx p k).1.fixed = s.fixed := by
  unfold State.partnerRx
  extract_lets j
  split
  · rfl
  · split
    · simp
    · rfl

@[simp ↓] theorem State.dataCursors_fixed (s : State) (p v : Nat) :
    (s.dataCursors p v).1.fixed = s.fixed := by simp [State.dataCursors]

@[simp ↓] theorem execDataCursorsWrite_fixed (who : Who) (part : Fin 4) (v : Nat) (s : State) :
    (execDataCursorsWrite who part v s).fixed = some s.fixed := by simp [execDataCursorsWrite]

@[simp ↓] theorem State.storeTarget_fixed (s : State) (p v status : Nat) :
    (s.storeTarget p v status).1.fixed = s.fixed := by simp [State.storeTarget]

@[simp ↓] theorem execStoreTargetWrite_fixed (who : Who) (part : Fin 4) (v status : Nat) (s : State) :
    (execStoreTargetWrite who part v status s).fixed = some s.fixed := by simp [execStoreTargetWrite]

/-! ### Fence -/

@[simp ↓] theorem State.dropRequests_fixed (s : State) : s.dropRequests.fixed = s.fixed := by simp [State.dropRequests]
@[simp ↓] theorem State.releaseChip_fixed (s : State) : s.releaseChip.1.fixed = s.fixed := by simp [State.releaseChip]

@[simp ↓] theorem execReleaseChip_fixed (who : Who) (v : Nat) (s : State) :
    (execReleaseChip who v s).fixed = some s.fixed := by simp [execReleaseChip]

@[simp ↓] theorem State.stopOutput_fixed (s : State) (n : Nat) : (s.stopOutput n).fixed = s.fixed := by
  simp only [State.stopOutput]
  split <;> simp

@[simp ↓] theorem State.fence_fixed (s : State) (cause link current : Nat) :
    (s.fence cause link current).fixed = s.fixed := by simp [State.fence]

@[simp ↓] theorem State.fenceAgain_fixed (s : State) (cause link current : Nat) :
    (s.fenceAgain cause link current).fixed = s.fixed := by simp [State.fenceAgain]

@[simp ↓] theorem execFenceZeroComplete_fixed (s : State) :
    (execFenceZeroComplete s).fixed = some s.fixed := by simp [execFenceZeroComplete]

@[simp ↓] theorem State.fenceBy_fixed (s : State) (cause link chip epoch current : Nat) :
    (s.fenceBy cause link chip epoch current).fixed = s.fixed := by simp [State.fenceBy]

@[simp ↓] theorem execFencedNoticeRx_fixed (link : Fin 24) (blk : Nat) (s : State) :
    (execFencedNoticeRx link blk s).fixed = some s.fixed := by
  simp only [execFencedNoticeRx]
  split
  · simp
  · split <;> simp [fixed_of_snd ‹_ = (_, _)›]

@[simp ↓] theorem State.raiseEpoch_fixed (s : State) (chip v : Nat) :
    (s.raiseEpoch chip v).fixed = s.fixed := by simp [State.raiseEpoch]

@[simp ↓] theorem State.epochValue_fixed (s : State) (chip v : Nat) :
    (s.epochValue chip v).1.fixed = s.fixed := by simp [State.epochValue]

@[simp ↓] theorem execEpochValueWrite_fixed (who : Who) (chip v : Nat) (s : State) :
    (execEpochValueWrite who chip v s).fixed = some s.fixed := by simp [execEpochValueWrite]

/-! ### Stop -/

@[simp ↓] theorem State.powerDown_fixed (s : State) : s.powerDown.fixed = s.fixed := by simp [State.powerDown]

@[simp ↓] theorem State.stopModule_fixed (s : State) (cause value die sensor : Nat) :
    (s.stopModule cause value die sensor).fixed = s.fixed := by
  simp only [State.stopModule]
  simp

@[simp ↓] theorem State.enterHold_fixed (s : State) (cause : Nat) (a : BistAt) : (s.enterHold cause a).fixed = s.fixed := by
  simp only [State.enterHold]
  simp

/-! ### Power -/

@[simp ↓] theorem State.supplyState_fixed (s : State) : s.supplyState.fixed = s.fixed := by simp [State.supplyState]
@[simp ↓] theorem State.accountPower_fixed (s : State) : s.accountPower.fixed = s.fixed := by simp [State.accountPower]
@[simp ↓] theorem State.setClock_fixed (s : State) (mhz : Nat) : (s.setClock mhz).fixed = s.fixed := by simp [State.setClock]
@[simp ↓] theorem State.moveEnd_fixed (s : State) : s.moveEnd.fixed = s.fixed := by simp [State.moveEnd]
@[simp ↓] theorem State.boostDrop_fixed (s : State) : s.boostDrop.fixed = s.fixed := by simp [State.boostDrop]
@[simp ↓] theorem State.retrim_fixed (s : State) : s.retrim.fixed = s.fixed := by simp [State.retrim]
@[simp ↓] theorem State.rollBuckets_fixed (s : State) : s.rollBuckets.fixed = s.fixed := by simp [State.rollBuckets]

@[simp ↓] theorem State.takePower_fixed (s : State) (power : Nat) :
    (s.takePower power).fixed = s.fixed := by simp [State.takePower]

@[simp ↓] theorem State.openSwitch_fixed (s : State) : s.openSwitch.fixed = s.fixed := by simp [State.openSwitch]
@[simp ↓] theorem State.powerAlert_fixed (s : State) : s.powerAlert.fixed = s.fixed := by simp [State.powerAlert]
@[simp ↓] theorem State.judgeVin_fixed (s : State) (vin : Nat) : (s.judgeVin vin).fixed = s.fixed := by simp [State.judgeVin]

@[simp ↓] theorem execSupplySample_fixed (at_ vin bus power railV railA : Nat) (s : State) :
    (execSupplySample at_ vin bus power railV railA s).fixed = some s.fixed := by simp [execSupplySample]

@[simp ↓] theorem execStopPending_fixed (s : State) : (execStopPending s).fixed = some s.fixed := by
  simp only [execStopPending]
  split <;> simp

@[simp ↓] theorem execOvervoltageSustained_fixed (s : State) : (execOvervoltageSustained s).fixed = some s.fixed := by
  unfold execOvervoltageSustained
  split <;> simp

@[simp ↓] theorem execInputSwitchReclose_fixed (s : State) : (execInputSwitchReclose s).fixed = some s.fixed := by
  simp only [execInputSwitchReclose]
  split <;> simp

@[simp ↓] theorem execRailFault_fixed (s : State) : (execRailFault s).fixed = some s.fixed := by
  unfold execRailFault
  split <;> simp

@[simp ↓] theorem execDroopSample_fixed (die : Fin 4) (domain : Fin 16) (rail at_ : Nat) (s : State) :
    (execDroopSample die domain rail at_ s).fixed = some s.fixed := by simp [execDroopSample]

@[simp ↓] theorem execBallastDecay_fixed (die : Fin 4) (domain : Fin 16) (s : State) :
    (execBallastDecay die domain s).fixed = some s.fixed := by simp [execBallastDecay]

@[simp ↓] theorem execGovernorTick_fixed (at_ : Nat) (s : State) : (execGovernorTick at_ s).fixed = some s.fixed := by
  simp only [execGovernorTick]
  split
  · simp
  · split <;> simp

@[simp ↓] theorem execBoostStep_fixed (s : State) : (execBoostStep s).fixed = some s.fixed := by simp [execBoostStep]
@[simp ↓] theorem State.beginMove_fixed (s : State) : s.beginMove.fixed = s.fixed := by simp [State.beginMove]
@[simp ↓] theorem State.clockMode_fixed (s : State) (v : Nat) : (s.clockMode v).1.fixed = s.fixed := by simp [State.clockMode]

@[simp ↓] theorem execClockModeWrite_fixed (who : Who) (v : Nat) (s : State) :
    (execClockModeWrite who v s).fixed = some s.fixed := by
  unfold execClockModeWrite
  split
  · simp
  · split <;> simp

@[simp ↓] theorem execClockStep_fixed (s : State) : (execClockStep s).fixed = some s.fixed := by simp [execClockStep]

@[simp ↓] theorem State.thermalStates_fixed (s : State) (caps : List Nat) :
    (s.thermalStates caps).fixed = s.fixed := by simp [State.thermalStates]

@[simp ↓] theorem State.applyHold_fixed (s : State) : s.applyHold.fixed = s.fixed := by simp [State.applyHold]
@[simp ↓] theorem State.releaseHold_fixed (s : State) : s.releaseHold.fixed = s.fixed := by simp [State.releaseHold]
@[simp ↓] theorem State.holdAtEdge_fixed (s : State) : s.holdAtEdge.1.fixed = s.fixed := by simp [State.holdAtEdge]

@[simp ↓] theorem State.sampleDie_fixed (s : State) (d : Nat) (rs : List Int) (pw : Nat) :
    (s.sampleDie d rs pw).1.fixed = s.fixed := by simp [State.sampleDie]

@[simp ↓] theorem State.thermalCaps_fixed (s : State) : s.thermalCaps.fixed = s.fixed := by simp [State.thermalCaps]
@[simp ↓] theorem State.judgeHold_fixed (s : State) : s.judgeHold.fixed = s.fixed := by simp [State.judgeHold]

@[simp ↓] theorem execThermalSample_fixed (at_ : Nat) (readings : List Int) (powers : List Nat) (s : State) :
    (execThermalSample at_ readings powers s).fixed = some s.fixed := by
  simp only [execThermalSample]
  split
  · simp
  · split
    · simp
    · split <;> simp

@[simp ↓] theorem execThermalMargin_fixed (die : Fin 6) (s : State) : (execThermalMargin die s).fixed = some s.fixed := by
  simp only [execThermalMargin]
  split <;> simp

@[simp ↓] theorem execAnalogThermalCutoff_fixed (_die : Fin 6) (s : State) :
    (execAnalogThermalCutoff _die s).fixed = some s.fixed := by simp [execAnalogThermalCutoff]

/-! ### Optics -/

@[simp ↓] theorem State.setLaser_fixed (s : State) (l v : Nat) : (s.setLaser l v).fixed = s.fixed := by simp [State.setLaser]
@[simp ↓] theorem State.readyMark_fixed (s : State) : s.readyMark.fixed = s.fixed := by simp [State.readyMark]
@[simp ↓] theorem State.supplyLsm_fixed (s : State) : s.supplyLsm.fixed = s.fixed := by simp [State.supplyLsm]

@[simp ↓] theorem execLsmInserted_fixed (serial : Nat) (nominal : List Nat) (s : State) :
    (execLsmInserted serial nominal s).fixed = some s.fixed := by simp [execLsmInserted]

@[simp ↓] theorem execLsmRemoved_fixed (s : State) : (execLsmRemoved s).fixed = some s.fixed := by simp [execLsmRemoved]
@[simp ↓] theorem State.selectOther_fixed (s : State) (k : Nat) : (s.selectOther k).fixed = s.fixed := by simp [State.selectOther]

@[simp ↓] theorem execLaserWarmed_fixed (laser : Fin 8) (s : State) :
    (execLaserWarmed laser s).fixed = some s.fixed := by simp [execLaserWarmed]

@[simp ↓] theorem State.crossOver_fixed (s : State) (k : Nat) : (s.crossOver k).fixed = s.fixed := by simp [State.crossOver]

@[simp ↓] theorem State.waveLost_fixed (s : State) (k : Nat) (planned : Bool) :
    (s.waveLost k planned).fixed = s.fixed := by simp [State.waveLost]

@[simp ↓] theorem State.feedLost_fixed (s : State) (k : Nat) : (s.feedLost k).fixed = s.fixed := by simp [State.feedLost]

@[simp ↓] theorem execLaserFaultReport_fixed (laser : Fin 8) (s : State) :
    (execLaserFaultReport laser s).fixed = some s.fixed := by simp [execLaserFaultReport]

@[simp ↓] theorem execSwitchoverOldLaserOff_fixed (wave : Fin 4) (s : State) :
    (execSwitchoverOldLaserOff wave s).fixed = some s.fixed := by
  simp only [execSwitchoverOldLaserOff]
  split <;> simp

@[simp ↓] theorem State.takeRefs_fixed (s : State) : s.takeRefs.fixed = s.fixed := by simp [State.takeRefs]

@[simp ↓] theorem execCommission_fixed (who : Who) (v : Nat) (s : State) :
    (execCommission who v s).fixed = some s.fixed := by simp [execCommission]

@[simp ↓] theorem execAutoReference_fixed (s : State) : (execAutoReference s).fixed = some s.fixed := by
  unfold execAutoReference
  split <;> simp

@[simp ↓] theorem State.openWindow_fixed (s : State) (n kind closeBeat : Nat) (forced blocked : Bool) :
    (s.openWindow n kind closeBeat forced blocked).fixed = s.fixed := by simp [State.openWindow]

@[simp ↓] theorem State.forceNow_fixed (s : State) (n : Nat) : (s.forceNow n).fixed = s.fixed := by simp [State.forceNow]

@[simp ↓] theorem execLaneDropReqRx_fixed (link : Fin 24) (blk : Nat) (s : State) :
    (execLaneDropReqRx link blk s).fixed = some s.fixed := by
  simp only [execLaneDropReqRx]
  split
  · simp
  · split <;> simp [fixed_of_snd ‹_ = (_, _)›]

@[simp ↓] theorem State.askDrop_fixed (s : State) (c : Nat) : (s.askDrop c).fixed = s.fixed := by simp [State.askDrop]

@[simp ↓] theorem State.ringLost_fixed (s : State) (c : Nat) (drop : Bool) :
    (s.ringLost c drop).fixed = s.fixed := by simp [State.ringLost]

@[simp ↓] theorem execRingLockLost_fixed (chan : Fin 64) (drop : Bool) (s : State) :
    (execRingLockLost chan drop s).fixed = some s.fixed := by simp [execRingLockLost]

@[simp ↓] theorem execRingReacquireTimeout_fixed (chan : Fin 64) (drop : Bool) (s : State) :
    (execRingReacquireTimeout chan drop s).fixed = some s.fixed := by
  simp only [execRingReacquireTimeout]
  split <;> simp

@[simp ↓] theorem execEngineTempSample_fixed (at_ : Nat) (temps : List Nat) (heaters : List (Nat × Nat)) (s : State) :
    (execEngineTempSample at_ temps heaters s).fixed = some s.fixed := by simp [execEngineTempSample]

@[simp ↓] theorem execCalForceDue_fixed (chan : Fin 64) (drop : Bool) (s : State) :
    (execCalForceDue chan drop s).fixed = some s.fixed := by
  simp only [execCalForceDue]
  (repeat' split) <;> simp

@[simp ↓] theorem execCalOverdue_fixed (chan : Fin 64) (drop : Bool) (s : State) :
    (execCalOverdue chan drop s).fixed = some s.fixed := by
  simp only [execCalOverdue]
  (repeat' split) <;> simp

@[simp ↓] theorem State.sampled_fixed (s : State) (key v : Nat) : (s.sampled key v).fixed = s.fixed := by simp [State.sampled]

@[simp ↓] theorem State.judgeFeed_fixed (s : State) (k sample : Nat) : (s.judgeFeed k sample).fixed = s.fixed := by
  simp only [State.judgeFeed]
  split <;> simp

@[simp ↓] theorem State.judgeChan_fixed (s : State) (c : Nat) : (s.judgeChan c).fixed = s.fixed := by simp [State.judgeChan]

@[simp ↓] theorem execOpticalPowerSample_fixed (at_ : Nat) (feeds paths tx rx : List Nat) (express : List (Nat × Nat))
    (lsm : List Nat) (s : State) :
    (execOpticalPowerSample at_ feeds paths tx rx express lsm s).fixed = some s.fixed := by simp [execOpticalPowerSample]

@[simp ↓] theorem State.takePath_fixed (s : State) (c : Nat) : (s.takePath c).fixed = s.fixed := by simp [State.takePath]

@[simp ↓] theorem execCalTimelinePhase_fixed (chan : Fin 64) (transmit : Bool) (code : Nat) (s : State) :
    (execCalTimelinePhase chan transmit code s).fixed = some s.fixed := by
  simp only [execCalTimelinePhase]
  split <;> split <;> simp

@[simp ↓] theorem State.calDone_fixed (s : State) (c : Nat) (transmit : Bool) :
    (s.calDone c transmit).fixed = s.fixed := by simp [State.calDone]

@[simp ↓] theorem State.closeWindow_fixed (s : State) (c : Nat) (w : CalWin) :
    (s.closeWindow c w).fixed = s.fixed := by simp [State.closeWindow]

@[simp ↓] theorem execCalibrationComplete_fixed (chan : Fin 64) (transmit : Bool) (s : State) :
    (execCalibrationComplete chan transmit s).fixed = some s.fixed := by
  simp only [execCalibrationComplete]
  split <;> split <;> simp

@[simp ↓] theorem execIdleCalWindow_fixed (link : Fin 24) (s : State) :
    (execIdleCalWindow link s).fixed = some s.fixed := by simp [execIdleCalWindow]

@[simp ↓] theorem State.calPlan_fixed (s : State) (i v : Nat) : (s.calPlan i v).1.fixed = s.fixed := by simp [State.calPlan]

@[simp ↓] theorem execCalPlanWrite_fixed (who : Who) (which : Fin 18) (v : Nat) (s : State) :
    (execCalPlanWrite who which v s).fixed = some s.fixed := by simp [execCalPlanWrite]

@[simp ↓] theorem State.reshapeApply_fixed (s : State) : s.reshapeApply.fixed = s.fixed := by simp [State.reshapeApply]
@[simp ↓] theorem State.reshapeArm_fixed (s : State) : s.reshapeArm.1.fixed = s.fixed := by simp [State.reshapeArm]

@[simp ↓] theorem execReshapeArm_fixed (who : Who) (v : Nat) (s : State) :
    (execReshapeArm who v s).fixed = some s.fixed := by simp [execReshapeArm]

@[simp ↓] theorem execReshapeSwitchComplete_fixed (s : State) : (execReshapeSwitchComplete s).fixed = some s.fixed := by
  unfold execReshapeSwitchComplete
  split <;> simp

@[simp ↓] theorem State.opticsE5_fixed (s : State) (edge : Nat) (slipOrHold : Bool) :
    (s.opticsE5 edge slipOrHold).1.fixed = s.fixed := by
  simp only [State.opticsE5]
  split <;> simp

@[simp ↓] theorem State.opticsE6_fixed (s : State) (period : Nat) (slip hold switched : Bool) :
    (s.opticsE6 period slip hold switched).fixed = s.fixed := by simp [State.opticsE6]

/-! ### Run -/

@[simp ↓] theorem State.nullEntry_fixed (s : State) (p : Nat) (r : Rel) : (s.nullEntry p r).fixed = s.fixed := by
  unfold State.nullEntry
  split <;> simp

@[simp ↓] theorem State.nullEntries_fixed (s : State) (p : Nat) : (s.nullEntries p).fixed = s.fixed := by simp [State.nullEntries]
@[simp ↓] theorem State.afterWork_fixed (s : State) (p : Nat) : (s.afterWork p).fixed = s.fixed := by simp [State.afterWork]

@[simp ↓] theorem State.runOp_fixed (s : State) (p rel opcode : Nat) (issue : State → OpCtx → Rel → State)
    (h : ∀ s c r, (issue s c r).fixed = s.fixed) : (s.runOp p rel opcode issue).fixed = s.fixed := by
  unfold State.runOp
  split
  · rfl
  · rename_i t c r ht
    simp [h, State.findOp_fixed _ _ _ _ _ ht]

@[simp ↓] theorem State.runTiles_fixed (s : State) (p rel opcode waited : Nat) :
    (s.runTiles p rel opcode waited).fixed = s.fixed := by simp [State.runTiles]

@[simp ↓] theorem State.slots_fixed (s : State) (p stalled trimmed : Nat) :
    (s.slots p stalled trimmed).fixed = s.fixed := by simp [State.slots]

@[simp ↓] theorem State.runVector_fixed (s : State) (p rel opcode waited stalled trimmed : Nat) :
    (s.runVector p rel opcode waited stalled trimmed).fixed = s.fixed := by simp [State.runVector]

@[simp ↓] theorem execMatmul_fixed (part : Fin 4) (rel waited : Nat) (s : State) :
    (execMatmul part rel waited s).fixed = some s.fixed := by simp [execMatmul]

@[simp ↓] theorem execEmbedGrad_fixed (part : Fin 4) (rel waited : Nat) (s : State) :
    (execEmbedGrad part rel waited s).fixed = some s.fixed := by simp [execEmbedGrad]

@[simp ↓] theorem execEwChain_fixed (part : Fin 4) (rel waited stalled trimmed : Nat) (s : State) :
    (execEwChain part rel waited stalled trimmed s).fixed = some s.fixed := by simp [execEwChain]

@[simp ↓] theorem execReduceRow_fixed (part : Fin 4) (rel waited stalled trimmed : Nat) (s : State) :
    (execReduceRow part rel waited stalled trimmed s).fixed = some s.fixed := by simp [execReduceRow]

@[simp ↓] theorem execReduceCols_fixed (part : Fin 4) (rel waited stalled trimmed : Nat) (s : State) :
    (execReduceCols part rel waited stalled trimmed s).fixed = some s.fixed := by simp [execReduceCols]

@[simp ↓] theorem execLayernorm_fixed (part : Fin 4) (rel waited stalled trimmed : Nat) (s : State) :
    (execLayernorm part rel waited stalled trimmed s).fixed = some s.fixed := by simp [execLayernorm]

@[simp ↓] theorem execLayernormGrad_fixed (part : Fin 4) (rel waited stalled trimmed : Nat) (s : State) :
    (execLayernormGrad part rel waited stalled trimmed s).fixed = some s.fixed := by simp [execLayernormGrad]

@[simp ↓] theorem execRmsnorm_fixed (part : Fin 4) (rel waited stalled trimmed : Nat) (s : State) :
    (execRmsnorm part rel waited stalled trimmed s).fixed = some s.fixed := by simp [execRmsnorm]

@[simp ↓] theorem execRmsnormGrad_fixed (part : Fin 4) (rel waited stalled trimmed : Nat) (s : State) :
    (execRmsnormGrad part rel waited stalled trimmed s).fixed = some s.fixed := by simp [execRmsnormGrad]

@[simp ↓] theorem execSoftmax_fixed (part : Fin 4) (rel waited stalled trimmed : Nat) (s : State) :
    (execSoftmax part rel waited stalled trimmed s).fixed = some s.fixed := by simp [execSoftmax]

@[simp ↓] theorem execSoftmaxGrad_fixed (part : Fin 4) (rel waited stalled trimmed : Nat) (s : State) :
    (execSoftmaxGrad part rel waited stalled trimmed s).fixed = some s.fixed := by simp [execSoftmaxGrad]

@[simp ↓] theorem execXent_fixed (part : Fin 4) (rel waited stalled trimmed : Nat) (s : State) :
    (execXent part rel waited stalled trimmed s).fixed = some s.fixed := by simp [execXent]

@[simp ↓] theorem execGather_fixed (part : Fin 4) (rel waited stalled trimmed : Nat) (s : State) :
    (execGather part rel waited stalled trimmed s).fixed = some s.fixed := by simp [execGather]

@[simp ↓] theorem execCast_fixed (part : Fin 4) (rel waited stalled trimmed : Nat) (s : State) :
    (execCast part rel waited stalled trimmed s).fixed = some s.fixed := by simp [execCast]

@[simp ↓] theorem execRequantize_fixed (part : Fin 4) (rel waited stalled trimmed : Nat) (s : State) :
    (execRequantize part rel waited stalled trimmed s).fixed = some s.fixed := by simp [execRequantize]

@[simp ↓] theorem execLossSeed_fixed (part : Fin 4) (rel waited stalled trimmed : Nat) (s : State) :
    (execLossSeed part rel waited stalled trimmed s).fixed = some s.fixed := by simp [execLossSeed]

@[simp ↓] theorem execOptStep_fixed (part : Fin 4) (rel waited stalled trimmed : Nat) (s : State) :
    (execOptStep part rel waited stalled trimmed s).fixed = some s.fixed := by simp [execOptStep]

@[simp ↓] theorem execFold_fixed (part : Fin 4) (rel waited stalled trimmed : Nat) (s : State) :
    (execFold part rel waited stalled trimmed s).fixed = some s.fixed := by simp [execFold]

@[simp ↓] theorem State.issueCollective_fixed (s : State) (c : OpCtx) (r : Rel) (waited : Nat) :
    (s.issueCollective c r waited).fixed = s.fixed := by
  simp only [State.issueCollective]
  split <;> simp

@[simp ↓] theorem execCollective_fixed (part : Fin 4) (rel waited : Nat) (s : State) :
    (execCollective part rel waited s).fixed = some s.fixed := by simp [execCollective]

@[simp ↓] theorem execTransfer_fixed (part : Fin 4) (rel waited : Nat) (data : List Byte) (s : State) :
    (execTransfer part rel waited data s).fixed = some s.fixed := by simp [execTransfer]

@[simp ↓] theorem State.issueCkpt_fixed (s : State) (c : OpCtx) (r : Rel) (act : Option State)
    (h : Yields State.fixed s.fixed act) : (s.issueCkpt c r act).fixed = s.fixed := by
  simp only [State.issueCkpt]
  split
  · simp
  · simp [h _ rfl]

@[simp ↓] theorem execCheckpointCopy_fixed (part : Fin 4) (rel : Nat) (s : State) :
    (execCheckpointCopy part rel s).fixed = some s.fixed := by
  simp [execCheckpointCopy]

@[simp ↓] theorem execDigest_fixed (part : Fin 4) (rel : Nat) (s : State) : (execDigest part rel s).fixed = some s.fixed := by
  simp [execDigest]

@[simp ↓] theorem State.shareFlags_fixed (s : State) (p : Nat) (x : Share) :
    (s.shareFlags p x).fixed = s.fixed := by simp [State.shareFlags]

@[simp ↓] theorem State.inplaceFault_fixed (s : State) (p : Nat) (x : Share) :
    (s.inplaceFault p x).fixed = s.fixed := by simp [State.inplaceFault]

@[simp ↓] theorem State.foldFrees_fixed (s : State) (p : Nat) (o : Op) :
    (s.foldFrees p o).fixed = s.fixed := by simp [State.foldFrees]

@[simp ↓] theorem State.completeShare_fixed (s : State) (p : Nat) (x : Share) : (s.completeShare p x).fixed = s.fixed := by
  simp only [State.completeShare]
  split <;> simp

@[simp ↓] theorem execOperationComplete_fixed (part : Fin 4) (rel tile : Nat) (s : State) :
    (execOperationComplete part rel tile s).fixed = some s.fixed := by
  simp only [execOperationComplete]
  split
  · simp
  · split <;> simp

@[simp ↓] theorem execCollectiveStart_fixed (part : Fin 4) (entry waited : Nat) (s : State) :
    (execCollectiveStart part entry waited s).fixed = some s.fixed := by simp [execCollectiveStart]

@[simp ↓] theorem execCollectiveComplete_fixed (part : Fin 4) (entry : Nat) (s : State) :
    (execCollectiveComplete part entry s).fixed = some s.fixed := by
  simp only [execCollectiveComplete]
  (repeat' split) <;> simp

/-! ### Program -/

@[simp ↓] theorem State.startJob_fixed (s : State) (p : Nat) : (s.startJob p).fixed = s.fixed := by simp [State.startJob]

@[simp ↓] theorem State.beginProg_fixed (s : State) (p step beat : Nat) :
    (s.beginProg p step beat).fixed = s.fixed := by simp [State.beginProg]

@[simp ↓] theorem State.beginProgs_fixed (s : State) (p beat : Nat) : (s.beginProgs p beat).fixed = s.fixed := by
  simp only [State.beginProgs]
  split
  · simp
  · split <;> simp

@[simp ↓] theorem State.releaseBeat_fixed (s : State) (p beat : Nat) : (s.releaseBeat p beat).fixed = s.fixed := by
  simp only [State.releaseBeat]
  split <;> simp

@[simp ↓] theorem State.catchUp_fixed (fuel p : Nat) (s : State) : (State.catchUp fuel p s).fixed = s.fixed := by
  induction fuel generalizing s with
  | zero => rfl
  | succ fuel ih => simp [State.catchUp, ih]

@[simp ↓] theorem State.releaseStep_fixed (s : State) (p : Nat) (advanced : Bool) :
    (s.releaseStep p advanced).fixed = s.fixed := by simp [State.releaseStep]

@[simp ↓] theorem State.resumeLate_fixed (s : State) (p : Nat) : (s.resumeLate p).fixed = s.fixed := by simp [State.resumeLate]

@[simp ↓] theorem execLateBeatResume_fixed (s : State) :
    (execLateBeatResume s).fixed = some s.fixed := by simp [execLateBeatResume]

/-! ### Beat -/

@[simp ↓] theorem State.beatnum_fixed (s : State) (n count : Nat) : (s.beatnum n count).fixed = s.fixed := by simp [State.beatnum]

@[simp ↓] theorem State.sendEdge_fixed (s : State) (word count : Nat) (remain : Nat → Int) :
    (s.sendEdge word count remain).fixed = s.fixed := by simp [State.sendEdge]

@[simp ↓] theorem execEdgeSecondCopy_fixed (s : State) : (execEdgeSecondCopy s).fixed = some s.fixed := by
  unfold execEdgeSecondCopy
  split <;> simp

@[simp ↓] theorem State.offBeat_fixed (s : State) : s.offBeat.fixed = s.fixed := by simp [State.offBeat]

@[simp ↓] theorem State.applyLink_fixed (s : State) (which v : Nat) :
    (s.applyLink which v).fixed = s.fixed := by simp [State.applyLink]

@[simp ↓] theorem State.applyStaged_fixed (s : State) : s.applyStaged.fixed = s.fixed := by
  simp only [State.applyStaged]
  (repeat' split) <;> simp

@[simp ↓] theorem State.enterLost_fixed (s : State) : s.enterLost.fixed = s.fixed := by simp [State.enterLost]
@[simp ↓] theorem State.doRelease_fixed (s : State) : s.doRelease.fixed = s.fixed := by simp [State.doRelease]
@[simp ↓] theorem State.beatRelease_fixed (s : State) : s.beatRelease.1.fixed = s.fixed := by simp [State.beatRelease]

@[simp ↓] theorem execBeatRelease_fixed (who : Who) (v : Nat) (s : State) :
    (execBeatRelease who v s).fixed = some s.fixed := by simp [execBeatRelease]

@[simp ↓] theorem execBeatPeriodNsWrite_fixed (who : Who) (v : Nat) (s : State) :
    (execBeatPeriodNsWrite who v s).fixed = some s.fixed := by simp [execBeatPeriodNsWrite]

@[simp ↓] theorem execBeatRoleWrite_fixed (who : Who) (v : Nat) (s : State) :
    (execBeatRoleWrite who v s).fixed = some s.fixed := by simp [execBeatRoleWrite]

@[simp ↓] theorem State.startCount_fixed (s : State) (v : Nat) : (s.startCount v).1.fixed = s.fixed := by simp [State.startCount]

@[simp ↓] theorem execBeatStartCountWrite_fixed (who : Who) (v : Nat) (s : State) :
    (execBeatStartCountWrite who v s).fixed = some s.fixed := by simp [execBeatStartCountWrite]

@[simp ↓] theorem State.upstreamLink_fixed (s : State) (which v : Nat) :
    (s.upstreamLink which v).1.fixed = s.fixed := by simp [State.upstreamLink]

@[simp ↓] theorem execUpstreamLinkWrite_fixed (who : Who) (which : Fin 3) (v : Nat) (s : State) :
    (execUpstreamLinkWrite who which v s).fixed = some s.fixed := by simp [execUpstreamLinkWrite]

@[simp ↓] theorem execHoldRelease_fixed (who : Who) (v : Nat) (s : State) :
    (execHoldRelease who v s).fixed = some s.fixed := by simp [execHoldRelease]

@[simp ↓] theorem State.closeLate_fixed (s : State) : s.closeLate.fixed = s.fixed := by
  unfold State.closeLate
  split <;> simp

@[simp ↓] theorem execRootEdgeEmit_fixed (s : State) : (execRootEdgeEmit s).fixed = some s.fixed := by simp [execRootEdgeEmit]
@[simp ↓] theorem State.badSymbol_fixed (s : State) (n : Nat) : (s.badSymbol n).fixed = s.fixed := by simp [State.badSymbol]

@[simp ↓] theorem State.compareEdge_fixed (s : State) (a : Placed) (word time : Nat) (secondary : Bool) :
    (s.compareEdge a word time secondary).fixed = s.fixed := by simp [State.compareEdge]

@[simp ↓] theorem State.acquireEdge_fixed (s : State) (word time : Nat) (remain : Nat → Int) :
    (s.acquireEdge word time remain).fixed = s.fixed := by
  unfold State.acquireEdge
  split <;> simp

@[simp ↓] theorem State.replaceEdge_fixed (s : State) (pl : Placed) (word time arrive : Nat) :
    (s.replaceEdge pl word time arrive).fixed = s.fixed := by simp [State.replaceEdge]

@[simp ↓] theorem State.lockedEdge_fixed (s : State) (word time : Nat) (arrive : Nat) (secondary : Bool) (remain : Nat → Int) :
    (s.lockedEdge word time arrive secondary remain).fixed = s.fixed := by
  simp only [State.lockedEdge]
  (repeat' split) <;> simp

@[simp ↓] theorem execEdgeRx_fixed (link : Fin 24) (blk at_ : Nat) (residences : List Nat) (err : Fin 13) (s : State) :
    (execEdgeRx link blk at_ residences err s).fixed = some s.fixed := by
  simp only [execEdgeRx]
  split
  · simp
  · split <;> simp [fixed_of_snd ‹_ = (_, _)›]

@[simp ↓] theorem execBeatnumRx_fixed (link : Fin 24) (blk at_ : Nat) (s : State) :
    (execBeatnumRx link blk at_ s).fixed = some s.fixed := by
  simp only [execBeatnumRx]
  split
  · simp
  · split <;> simp [fixed_of_snd ‹_ = (_, _)›]

@[simp ↓] theorem execBeatLostTimeout_fixed (s : State) :
    (execBeatLostTimeout s).fixed = some s.fixed := by simp [execBeatLostTimeout]

@[simp ↓] theorem State.slackReq_fixed (s : State) (word : Nat) : (s.slackReq word).fixed = s.fixed := by
  simp only [State.slackReq]
  split
  · simp
  · split
    · simp
    · split <;> simp

@[simp ↓] theorem State.slipReq_fixed (s : State) (word : Nat) : (s.slipReq word).fixed = s.fixed := by
  simp only [State.slipReq]
  split
  · simp
  · split
    · simp
    · split <;> simp

@[simp ↓] theorem State.reqRx_fixed (s : State) (n blk kind resv causes : Nat) :
    (s.reqRx n blk kind resv causes).2.fixed = s.fixed := by
  simp only [State.reqRx]
  split
  · simp
  · split <;> simp [fixed_of_snd ‹_ = (_, _)›]

@[simp ↓] theorem execSlackReqRx_fixed (link : Fin 24) (blk : Nat) (s : State) :
    (execSlackReqRx link blk s).fixed = some s.fixed := by
  unfold execSlackReqRx
  split <;> simp [fixed_of_snd ‹_ = (_, _)›]

@[simp ↓] theorem execSlipReqRx_fixed (link : Fin 24) (blk : Nat) (s : State) :
    (execSlipReqRx link blk s).fixed = some s.fixed := by
  unfold execSlipReqRx
  split <;> simp [fixed_of_snd ‹_ = (_, _)›]

@[simp ↓] theorem execSlackReqSend_fixed (cause : Nat) (excessNs : Int) (s : State) :
    (execSlackReqSend cause excessNs s).fixed = some s.fixed := by simp [execSlackReqSend]

@[simp ↓] theorem State.edgeE1_fixed (s : State) (advances : Bool) : (s.edgeE1 advances).fixed = s.fixed := by simp [State.edgeE1]
@[simp ↓] theorem State.edgeE2_fixed (s : State) : s.edgeE2.fixed = s.fixed := by simp [State.edgeE2]

@[simp ↓] theorem State.nearMissEdge_fixed (s : State) (edge beat : Nat) : (s.nearMissEdge edge beat).fixed = s.fixed := by
  unfold State.nearMissEdge
  refine foldl_fixed _ _ _ fun s e => ?_
  dsimp only
  split
  · split <;> simp
  · rfl

@[simp ↓] theorem State.edgeE3_fixed (s : State) (edge beat : Nat) :
    (s.edgeE3 edge beat).fixed = s.fixed := by simp [State.edgeE3]

@[simp ↓] theorem State.writeMap_fixed (s : State) (first slip hold : Bool) :
    (s.writeMap first slip hold).fixed = s.fixed := by simp [State.writeMap]

@[simp ↓] theorem State.countSlack_fixed (s : State) (n : Nat) : (s.countSlack n).fixed = s.fixed := by simp [State.countSlack]
@[simp ↓] theorem State.edgeE4_fixed (s : State) (pl : Placed) : (s.edgeE4 pl).fixed = s.fixed := by simp [State.edgeE4]
@[simp ↓] theorem State.edgeE7_fixed (s : State) (advanced : Bool) : (s.edgeE7 advanced).fixed = s.fixed := by simp [State.edgeE7]

@[simp ↓] theorem State.localEdge_fixed (s : State) : s.localEdge.fixed = s.fixed := by
  unfold State.localEdge
  split <;> simp

@[simp ↓] theorem execLocalEdge_fixed (s : State) : (execLocalEdge s).fixed = some s.fixed := by simp [execLocalEdge]
@[simp ↓] theorem execRootFirstEdge_fixed (s : State) : (execRootFirstEdge s).fixed = some s.fixed := by simp [execRootFirstEdge]
@[simp ↓] theorem State.nsCancel_fixed (s : State) (t k : Nat) : (s.nsCancel t k).fixed = s.fixed := by simp [State.nsCancel]
@[simp ↓] theorem State.nsFire_fixed (s : State) (t : Nat) : (s.nsFire t).fixed = s.fixed := by simp [State.nsFire]

@[simp ↓] theorem execNsDeadlineDue_fixed (s : State) : (execNsDeadlineDue s).fixed = some s.fixed := by
  unfold execNsDeadlineDue
  split <;> simp

/-! ### Eject -/

@[simp ↓] theorem State.answer_fixed (s : State) (k : Packet) (status : Nat) (data : List Byte) :
    (s.answer k status data).fixed = s.fixed := by simp [State.answer]

@[simp ↓] theorem State.answerDrop_fixed (s : State) (k : Packet) (status : Nat) :
    (s.answerDrop k status).fixed = s.fixed := by simp [State.answerDrop]

@[simp ↓] theorem State.fencedPacket_fixed (s : State) (n : Nat) (k : Packet) :
    (s.fencedPacket n k).fixed = s.fixed := by simp [State.fencedPacket]

@[simp ↓] theorem State.headTests_fixed (s : State) (n : Nat) (k : Packet) : (s.headTests n k).1.fixed = s.fixed := by
  simp only [State.headTests]
  (repeat' split) <;> simp

@[simp ↓] theorem State.notMember_fixed (s : State) (n : Nat) (k : Packet) :
    (s.notMember n k).fixed = s.fixed := by simp [State.notMember]

@[simp ↓] theorem State.deliver_fixed (s : State) (k : Packet) (tagged : Bool) :
    (s.deliver k tagged).1.fixed = s.fixed := by simp [State.deliver]

@[simp ↓] theorem State.applyWrite_fixed (s : State) (k : Packet) (tagged : Bool) :
    (s.applyWrite k tagged).fixed = s.fixed := by simp [State.applyWrite]

@[simp ↓] theorem State.writeIn_fixed (s : State) (n : Nat) (k : Packet) (tagged : Bool) :
    (s.writeIn n k tagged).fixed = s.fixed := by simp [State.writeIn]

@[simp ↓] theorem State.readIn_fixed (s : State) (n : Nat) (k : Packet) : (s.readIn n k).fixed = s.fixed := by simp [State.readIn]

@[simp ↓] theorem State.takeAnswer_fixed (s : State) (ti : Nat) (t : Tag) (k : Packet) :
    (s.takeAnswer ti t k).fixed = s.fixed := by
  simp only [State.takeAnswer]
  split
  · simp
  · split
    · split <;> simp
    · simp

@[simp ↓] theorem State.answerIn_fixed (s : State) (k : Packet) : (s.answerIn k).fixed = s.fixed := by
  simp only [State.answerIn]
  split <;> simp

@[simp ↓] theorem State.syncIn_fixed (s : State) (n : Nat) (k : Packet) (tagged : Bool) :
    (s.syncIn n k tagged).fixed = s.fixed := by simp [State.syncIn]

@[simp ↓] theorem State.collIn_fixed (s : State) (n : Nat) (k : Packet) (tagged : Bool) :
    (s.collIn n k tagged).fixed = s.fixed := by
  simp only [State.collIn]
  split
  · simp
  · split <;> simp

@[simp ↓] theorem State.mbIn_fixed (s : State) (n : Nat) (k : Packet) : (s.mbIn n k).fixed = s.fixed := by
  simp only [State.mbIn]
  split
  · simp
  · split <;> simp

@[simp ↓] theorem State.handle_fixed (s : State) (n : Nat) (k : Packet) (tagged : Bool) :
    (s.handle n k tagged).fixed = s.fixed := by
  unfold State.handle
  split <;> simp

@[simp ↓] theorem State.ejectGood_fixed (s : State) (n : Nat) (k : Packet) :
    (s.ejectGood n k).fixed = s.fixed := by simp [State.ejectGood]

@[simp ↓] theorem State.ejectPkt_fixed (s : State) (n : Nat) (k : Packet) (trailer : List Byte) :
    (s.ejectPkt n k trailer).fixed = s.fixed := by
  unfold State.ejectPkt
  split <;> simp

@[simp ↓] theorem State.packetIn_fixed (s : State) (n : Nat) (k : Packet) : (s.packetIn n k).fixed = s.fixed := by
  unfold State.packetIn
  (iterate 3 (split; · simp))
  split <;> simp [fixed_of_fst ‹_ = (_, _)›]

@[simp ↓] theorem State.rxCmd_fixed (s : State) (typ n : Nat) (k : Packet) :
    (s.rxCmd typ n k).fixed = s.fixed := by simp [State.rxCmd]

@[simp ↓] theorem execWriteRx_fixed (link : Fin 24) (pkt : Packet) (s : State) :
    (execWriteRx link pkt s).fixed = some s.fixed := by simp [execWriteRx]

@[simp ↓] theorem execReadReqRx_fixed (link : Fin 24) (pkt : Packet) (s : State) :
    (execReadReqRx link pkt s).fixed = some s.fixed := by simp [execReadReqRx]

@[simp ↓] theorem execReadRspRx_fixed (link : Fin 24) (pkt : Packet) (s : State) :
    (execReadRspRx link pkt s).fixed = some s.fixed := by simp [execReadRspRx]

@[simp ↓] theorem execSyncPostRx_fixed (link : Fin 24) (pkt : Packet) (s : State) :
    (execSyncPostRx link pkt s).fixed = some s.fixed := by simp [execSyncPostRx]

@[simp ↓] theorem execResponseRx_fixed (link : Fin 24) (pkt : Packet) (s : State) :
    (execResponseRx link pkt s).fixed = some s.fixed := by simp [execResponseRx]

@[simp ↓] theorem execCollRx_fixed (link : Fin 24) (pkt : Packet) (s : State) :
    (execCollRx link pkt s).fixed = some s.fixed := by simp [execCollRx]

@[simp ↓] theorem execVotePacketRx_fixed (link : Fin 24) (pkt : Packet) (s : State) :
    (execVotePacketRx link pkt s).fixed = some s.fixed := by simp [execVotePacketRx]

@[simp ↓] theorem execMbRecordRx_fixed (link : Fin 24) (pkt : Packet) (s : State) :
    (execMbRecordRx link pkt s).fixed = some s.fixed := by simp [execMbRecordRx]

@[simp ↓] theorem execFencedRx_fixed (link : Fin 24) (pkt : Packet) (s : State) :
    (execFencedRx link pkt s).fixed = some s.fixed := by simp [execFencedRx]

@[simp ↓] theorem execLocalPacketAccept_fixed (s : State) : (execLocalPacketAccept s).fixed = some s.fixed := by
  unfold execLocalPacketAccept
  split <;> simp

@[simp ↓] theorem State.resumeHeld_fixed (s : State) (p : Nat) : (s.resumeHeld p).fixed = s.fixed := by simp [State.resumeHeld]

@[simp ↓] theorem State.resumeColls_fixed (s : State) (p : Nat) : (s.resumeColls p).fixed = s.fixed := by
  unfold State.resumeColls
  dsimp only
  rw [foldl_fixed, foldl_fixed]
  · simp
  · intro s e
    split <;> simp

/-! ### Restore -/

@[simp ↓] theorem State.restoreAnswer_fixed (s : State) (who : Option (Nat × Nat × Nat)) (code : Nat) :
    (s.restoreAnswer who code).fixed = s.fixed := by
  unfold State.restoreAnswer
  split <;> simp

@[simp ↓] theorem State.zeroForRestore_fixed (s : State) (im : Image) (keep : List Nat) :
    (s.zeroForRestore im keep).fixed = s.fixed := by simp [State.zeroForRestore]

@[simp ↓] theorem State.zeroAllPlaced_fixed (s : State) (im : Image) :
    (s.zeroAllPlaced im).fixed = s.fixed := by simp [State.zeroAllPlaced]

@[simp ↓] theorem State.restoreFail_fixed (s : State) (p : Nat) (im : Image) (r : Restore) :
    (s.restoreFail p im r).fixed = s.fixed := by simp [State.restoreFail]

@[simp ↓] theorem State.partnerRead_fixed (s : State) (p : Nat) (im : Image) (r : Restore) :
    (s.partnerRead p im r).fixed = s.fixed := by
  unfold State.partnerRead
  split
  · simp
  · split <;> simp

@[simp ↓] theorem State.restoreNext_fixed (s : State) (p : Nat) (im : Image) (r : Restore) :
    (s.restoreNext p im r).fixed = s.fixed := by simp [State.restoreNext]

@[simp ↓] theorem State.restoreStart_fixed (s : State) (p addr : Nat) (who : Option (Nat × Nat × Nat)) :
    (s.restoreStart p addr who).1.fixed = s.fixed := by
  simp only [State.restoreStart]
  (repeat' split) <;> simp

@[simp ↓] theorem execRestoreRequest_fixed (who : Who) (part : Fin 4) (addr : Nat) (s : State) :
    (execRestoreRequest who part addr s).fixed = some s.fixed := by simp [execRestoreRequest]

@[simp ↓] theorem State.putTensor_fixed (s : State) (im : Image) (t bank off : Nat) (copy : List Byte) :
    (s.putTensor im t bank off copy).fixed = s.fixed := by simp [State.putTensor]

@[simp ↓] theorem State.rebuild_fixed (s : State) (im : Image) (live : Tab Nat) (t : Nat) :
    (s.rebuild im live t).fixed = s.fixed := by
  unfold State.rebuild
  split <;> simp

@[simp ↓] theorem State.fromSource_fixed (s : State) (p : Nat) (r : Restore) (im : Image) (copy : List Byte) (live : Tab Nat) :
    (s.fromSource p r im copy live).1.fixed = s.fixed := by simp [State.fromSource]

@[simp ↓] theorem State.takeManifest_fixed (s : State) (p : Nat) (im : Image) (r : Restore) (m : List Byte) :
    (s.takeManifest p im r m).fixed = s.fixed := by simp [State.takeManifest]

@[simp ↓] theorem State.restoreClear_fixed (s : State) (p : Nat) (im : Image) (c : Nat) :
    (s.restoreClear p im c).fixed = s.fixed := by simp [State.restoreClear]

@[simp ↓] theorem State.restoreDone_fixed (s : State) (p : Nat) (im : Image) (r : Restore) (m : List Byte)
    (dir : List (Nat × Nat × Nat)) : (s.restoreDone p im r m dir).fixed = s.fixed := by simp [State.restoreDone]

@[simp ↓] theorem State.rejectSource_fixed (s : State) (p : Nat) (im : Image) (r : Restore) (code ix bytes : Nat) :
    (s.rejectSource p im r code ix bytes).fixed = s.fixed := by simp [State.rejectSource]

@[simp ↓] theorem execRestoreSourceDone_fixed (part : Fin 4) (header : Nat) (copy : List Byte) (bad : List Nat) (s : State) :
    (execRestoreSourceDone part header copy bad s).fixed = some s.fixed := by
  simp only [execRestoreSourceDone]
  (repeat' split) <;> simp

/-! ### Sec -/

@[simp ↓] theorem State.endSessions_fixed (s : State) (keep : Option Who) :
    (s.endSessions keep).fixed = s.fixed := by simp [State.endSessions]

@[simp ↓] theorem execFwUpdateOffset_fixed (who : Who) (v : Nat) (s : State) :
    (execFwUpdateOffset who v s).fixed = some s.fixed := by simp [execFwUpdateOffset]

@[simp ↓] theorem State.fwChunk_fixed (s : State) (v : Nat) : (s.fwChunk v).1.fixed = s.fixed := by simp [State.fwChunk]

@[simp ↓] theorem execFwUpdateChunk_fixed (who : Who) (v : Nat) (s : State) :
    (execFwUpdateChunk who v s).fixed = some s.fixed := by simp [execFwUpdateChunk]

@[simp ↓] theorem State.fwCommit_fixed (s : State) (who : Who) : (s.fwCommit who).1.fixed = s.fixed := by simp [State.fwCommit]

@[simp ↓] theorem execFwUpdateCommit_fixed (who : Who) (v : Nat) (s : State) :
    (execFwUpdateCommit who v s).fixed = some s.fixed := by simp [execFwUpdateCommit]

@[simp ↓] theorem State.ownerInit_fixed (s : State) (who : Who) (v : Nat) :
    (s.ownerInit who v).1.fixed = s.fixed := by simp [State.ownerInit]

@[simp ↓] theorem execOwnerKeyInit_fixed (who : Who) (v : Nat) (s : State) :
    (execOwnerKeyInit who v s).fixed = some s.fixed := by simp [execOwnerKeyInit]

@[simp ↓] theorem State.ownerNext_fixed (s : State) (who : Who) (v : Nat) : (s.ownerNext who v).1.fixed = s.fixed := by
  unfold State.ownerNext
  split <;> simp

@[simp ↓] theorem execOwnerKeyNext_fixed (who : Who) (v : Nat) (s : State) :
    (execOwnerKeyNext who v s).fixed = some s.fixed := by simp [execOwnerKeyNext]

@[simp ↓] theorem State.imageKey_fixed (s : State) (who : Who) (slot v : Nat) :
    (s.imageKey who slot v).1.fixed = s.fixed := by simp [State.imageKey]

@[simp ↓] theorem execImageKeyWrite_fixed (who : Who) (slot : Fin 8) (v : Nat) (s : State) :
    (execImageKeyWrite who slot v s).fixed = some s.fixed := by simp [execImageKeyWrite]

@[simp ↓] theorem State.linkKeyPut_fixed (s : State) (who : Who) (sel v : Nat) : (s.linkKeyPut who sel v).1.fixed = s.fixed := by
  unfold State.linkKeyPut
  split <;> simp

@[simp ↓] theorem execLinkKeyWrite_fixed (who : Who) (sel : Fin 128) (v : Nat) (s : State) :
    (execLinkKeyWrite who sel v s).fixed = some s.fixed := by simp [execLinkKeyWrite]

@[simp ↓] theorem State.revoke_fixed (s : State) (who : Who) (v : Nat) :
    (s.revoke who v).1.fixed = s.fixed := by simp [State.revoke]

@[simp ↓] theorem execVendorKeyRevoked_fixed (who : Who) (v : Nat) (s : State) :
    (execVendorKeyRevoked who v s).fixed = some s.fixed := by simp [execVendorKeyRevoked]

@[simp ↓] theorem execRngHealthFail_fixed (s : State) : (execRngHealthFail s).fixed = some s.fixed := by simp [execRngHealthFail]

@[simp ↓] theorem execRngRestartTest_fixed (pass : Bool) (s : State) :
    (execRngRestartTest pass s).fixed = some s.fixed := by simp [execRngRestartTest]

@[simp ↓] theorem State.enterRtv_fixed (s : State) (who : Who) : (s.enterRtv who).fixed = s.fixed := by simp [State.enterRtv]

@[simp ↓] theorem State.finishLimited_fixed (s : State) (x : LimitIntent) (who : Who) :
    (s.finishLimited x who).fixed = s.fixed := by simp [State.finishLimited]

@[simp ↓] theorem State.limitedWrite_fixed (s : State) (who : Who) (k v : Nat) : (s.limitedWrite who k v).1.fixed = s.fixed := by
  simp only [State.limitedWrite]
  (repeat' split) <;> simp

@[simp ↓] theorem execPowerCeilingSetW_fixed (who : Who) (v : Nat) (s : State) :
    (execPowerCeilingSetW who v s).fixed = some s.fixed := by simp [execPowerCeilingSetW]

@[simp ↓] theorem execPartitionLayoutLock_fixed (who : Who) (v : Nat) (s : State) :
    (execPartitionLayoutLock who v s).fixed = some s.fixed := by simp [execPartitionLayoutLock]

@[simp ↓] theorem execSecurityVersionFloor_fixed (who : Who) (v : Nat) (s : State) :
    (execSecurityVersionFloor who v s).fixed = some s.fixed := by simp [execSecurityVersionFloor]

@[simp ↓] theorem execRtvMode_fixed (who : Who) (v : Nat) (s : State) :
    (execRtvMode who v s).fixed = some s.fixed := by simp [execRtvMode]

@[simp ↓] theorem State.limitedStored_fixed (s : State) (k : Nat) : (s.limitedStored k).fixed = s.fixed := by
  unfold State.limitedStored
  split <;> simp

@[simp ↓] theorem State.finishIntents_fixed (s : State) : s.finishIntents.fixed = s.fixed := by simp [State.finishIntents]

/-! ### HostPort -/

@[simp ↓] theorem State.settleQp_fixed (s : State) (n q : Nat) : (s.settleQp n q).fixed = s.fixed := by simp [State.settleQp]

@[simp ↓] theorem State.queueControl_fixed (s : State) (n q v : Nat) :
    (s.queueControl n q v).fixed = s.fixed := by simp [State.queueControl]

@[simp ↓] theorem execQueueEnableWrite_fixed (port : Fin 4) (q : Fin 64) (v : Nat) (s : State) :
    (execQueueEnableWrite port q v s).fixed = some s.fixed := by simp [execQueueEnableWrite]

@[simp ↓] theorem State.sqBell_fixed (s : State) (n q v : Nat) : (s.sqBell n q v).fixed = s.fixed := by simp [State.sqBell]

@[simp ↓] theorem execSqDoorbell_fixed (port : Fin 4) (q : Fin 64) (v : Nat) (s : State) :
    (execSqDoorbell port q v s).fixed = some s.fixed := by simp [execSqDoorbell]

@[simp ↓] theorem State.cqBell_fixed (s : State) (n q v : Nat) : (s.cqBell n q v).fixed = s.fixed := by simp [State.cqBell]

@[simp ↓] theorem execCqDoorbell_fixed (port : Fin 4) (q : Fin 64) (v : Nat) (s : State) :
    (execCqDoorbell port q v s).fixed = some s.fixed := by simp [execCqDoorbell]

@[simp ↓] theorem State.copyBytes_fixed (s : State) (p src dst n : Nat) :
    (s.copyBytes p src dst n).fixed = s.fixed := by simp [State.copyBytes]

@[simp ↓] theorem State.transferDone_fixed (s : State) (p post n : Nat) (who : Nat × Nat × Nat) :
    (s.transferDone p post n who).fixed = s.fixed := by simp [State.transferDone]

@[simp ↓] theorem State.descTransfer_fixed (s : State) (p : Nat) (who : Nat × Nat × Nat) (r : Nat) (data : List Byte) :
    (s.descTransfer p who r data).fixed = s.fixed := by simp [State.descTransfer]

@[simp ↓] theorem State.descSyncArm_fixed (s : State) (p : Nat) (who : Nat × Nat × Nat) (r : Nat) :
    (s.descSyncArm p who r).fixed = s.fixed := by simp [State.descSyncArm]

@[simp ↓] theorem State.descSyncPost_fixed (s : State) (p : Nat) (who : Nat × Nat × Nat) (r : Nat) :
    (s.descSyncPost p who r).fixed = s.fixed := by simp [State.descSyncPost]

@[simp ↓] theorem State.descLoad_fixed (s : State) (p : Nat) (who : Nat × Nat × Nat) (r : Nat) :
    (s.descLoad p who r).fixed = s.fixed := by simp [State.descLoad]

@[simp ↓] theorem State.descMicrobatch_fixed (s : State) (p : Nat) (who : Nat × Nat × Nat) (r : Nat) (data : List Byte) :
    (s.descMicrobatch p who r data).fixed = s.fixed := by
  unfold State.descMicrobatch
  split <;> simp

@[simp ↓] theorem State.descStepParam_fixed (s : State) (p : Nat) (who : Nat × Nat × Nat) (r : Nat) :
    (s.descStepParam p who r).fixed = s.fixed := by simp [State.descStepParam]

@[simp ↓] theorem State.descRegister_fixed (s : State) (p : Nat) (who : Nat × Nat × Nat) (r : Nat) :
    (s.descRegister p who r).fixed = s.fixed := by simp [State.descRegister]

@[simp ↓] theorem State.descRelease_fixed (s : State) (p : Nat) (who : Nat × Nat × Nat) (r : Nat) :
    (s.descRelease p who r).fixed = s.fixed := by simp [State.descRelease]

@[simp ↓] theorem State.runDesc_fixed (s : State) (n q : Nat) (d : Desc) : (s.runDesc n q d).fixed = s.fixed := by
  simp only [State.runDesc]
  split
  · simp
  · split
    · simp
    · split
      · simp
      · split <;> simp

@[simp ↓] theorem State.startWaiting_fixed (n q f : Nat) (s : State) : (State.startWaiting n q f s).fixed = s.fixed := by
  induction f generalizing s with
  | zero => rfl
  | succ f ih =>
    simp only [State.startWaiting]
    split <;> simp [ih]

@[simp ↓] theorem State.fetchDesc_fixed (s : State) (n q op raw : Nat) (data : List Byte) :
    (s.fetchDesc n q op raw data).fixed = s.fixed := by simp [State.fetchDesc]

@[simp ↓] theorem execDescTransfer_fixed (port : Fin 4) (q : Fin 64) (raw : Nat) (data : List Byte) (s : State) :
    (execDescTransfer port q raw data s).fixed = some s.fixed := by simp [execDescTransfer]

@[simp ↓] theorem execDescSyncArm_fixed (port : Fin 4) (q : Fin 64) (raw : Nat) (s : State) :
    (execDescSyncArm port q raw s).fixed = some s.fixed := by simp [execDescSyncArm]

@[simp ↓] theorem execDescSyncPost_fixed (port : Fin 4) (q : Fin 64) (raw : Nat) (s : State) :
    (execDescSyncPost port q raw s).fixed = some s.fixed := by simp [execDescSyncPost]

@[simp ↓] theorem execDescLoad_fixed (port : Fin 4) (q : Fin 64) (raw : Nat) (s : State) :
    (execDescLoad port q raw s).fixed = some s.fixed := by simp [execDescLoad]

@[simp ↓] theorem execDescUnload_fixed (port : Fin 4) (q : Fin 64) (raw : Nat) (s : State) :
    (execDescUnload port q raw s).fixed = some s.fixed := by simp [execDescUnload]

@[simp ↓] theorem execDescRestore_fixed (port : Fin 4) (q : Fin 64) (raw : Nat) (s : State) :
    (execDescRestore port q raw s).fixed = some s.fixed := by simp [execDescRestore]

@[simp ↓] theorem execDescMicrobatch_fixed (port : Fin 4) (q : Fin 64) (raw : Nat) (data : List Byte) (s : State) :
    (execDescMicrobatch port q raw data s).fixed = some s.fixed := by simp [execDescMicrobatch]

@[simp ↓] theorem execDescStepParam_fixed (port : Fin 4) (q : Fin 64) (raw : Nat) (s : State) :
    (execDescStepParam port q raw s).fixed = some s.fixed := by simp [execDescStepParam]

@[simp ↓] theorem execDescOffloadRegister_fixed (port : Fin 4) (q : Fin 64) (raw : Nat) (s : State) :
    (execDescOffloadRegister port q raw s).fixed = some s.fixed := by simp [execDescOffloadRegister]

@[simp ↓] theorem execDescOffloadRelease_fixed (port : Fin 4) (q : Fin 64) (raw : Nat) (s : State) :
    (execDescOffloadRelease port q raw s).fixed = some s.fixed := by simp [execDescOffloadRelease]

@[simp ↓] theorem State.startAllWaiting_fixed (s : State) : s.startAllWaiting.fixed = s.fixed := by simp [State.startAllWaiting]

@[simp ↓] theorem execCkptHoldResume_fixed (part : Fin 4) (cycles : Nat) (s : State) :
    (execCkptHoldResume part cycles s).fixed = some s.fixed := by simp [execCkptHoldResume]

@[simp ↓] theorem execDieZeroingComplete_fixed (die : Fin 4) (s : State) :
    (execDieZeroingComplete die s).fixed = some s.fixed := by simp [execDieZeroingComplete]

@[simp ↓] theorem execDescriptorComplete_fixed (port : Fin 4) (q : Fin 64) (s : State) :
    (execDescriptorComplete port q s).fixed = some s.fixed := by
  simp only [execDescriptorComplete]
  split <;> simp

@[simp ↓] theorem State.portReset_fixed (s : State) (n : Nat) : (s.portReset n).fixed = s.fixed := by simp [State.portReset]
@[simp ↓] theorem State.portDown_fixed (s : State) (n : Nat) : (s.portDown n).fixed = s.fixed := by simp [State.portDown]

@[simp ↓] theorem execPortReset_fixed (port : Fin 4) (kind : Fin 4) (s : State) :
    (execPortReset port kind s).fixed = some s.fixed := by simp [execPortReset]

@[simp ↓] theorem State.unmask_fixed (s : State) (n v : Nat) : (s.unmask n v).fixed = s.fixed := by simp [State.unmask]

@[simp ↓] theorem execMsixUnmask_fixed (port : Fin 4) (vector : Fin 2048) (s : State) :
    (execMsixUnmask port vector s).fixed = some s.fixed := by simp [execMsixUnmask]

@[simp ↓] theorem State.stagingUe_fixed (s : State) (d off : Nat) : (s.stagingUe d off).fixed = s.fixed := by
  unfold State.stagingUe
  split <;> simp

@[simp ↓] theorem State.workingUe_fixed (s : State) (d off : Nat) : (s.workingUe d off).fixed = s.fixed := by
  unfold State.workingUe
  split <;> simp

@[simp ↓] theorem State.reservedUe_fixed (s : State) (h off : Nat) : (s.reservedUe h off).fixed = s.fixed := by
  simp only [State.reservedUe]
  (repeat' split) <;> simp

@[simp ↓] theorem State.sramError_fixed (s : State) (store b : Nat) (err : Nat) :
    (s.sramError store b err).fixed = s.fixed := by simp [State.sramError]

@[simp ↓] theorem execPatrolScrub_fixed (store : Fin 396) (unit : Nat) (found : EccRead) (row : Nat) (s : State) :
    (execPatrolScrub store unit found row s).fixed = some s.fixed := by simp [execPatrolScrub]

/-! ### Layout -/

@[simp ↓] theorem State.layoutTake_fixed (s : State) : s.layoutTake.fixed = s.fixed := by simp [State.layoutTake]
@[simp ↓] theorem State.layoutApply_fixed (s : State) : s.layoutApply.1.fixed = s.fixed := by simp [State.layoutApply]

@[simp ↓] theorem execLayoutApply_fixed (who : Who) (v : Nat) (s : State) :
    (execLayoutApply who v s).fixed = some s.fixed := by simp [execLayoutApply]

/-! ### Read -/

@[simp ↓] theorem State.afterRead_fixed (s : State) (who : Who) (k : Nat) :
    (s.afterRead who k).fixed = s.fixed := by simp [State.afterRead]

@[simp ↓] theorem State.readObj_fixed (s : State) (who : Who) (k : Nat) : (s.readObj who k).1.fixed = s.fixed := by
  unfold State.readObj
  split <;> simp

/-! ### Time -/

@[simp ↓] theorem State.stepCal_fixed (s : State) (v : Nat) : (s.stepCal v).fixed = s.fixed := by simp [State.stepCal]
@[simp ↓] theorem State.setPtp_fixed (s : State) (v : Nat) : (s.setPtp v).fixed = s.fixed := by simp [State.setPtp]

@[simp ↓] theorem State.reselect_fixed (s : State) (was : Option PtpMaster) : (s.reselect was).fixed = s.fixed := by
  unfold State.reselect
  split
  · simp
  · split <;> simp

@[simp ↓] theorem execPtpAnnounceRx_fixed (port : Fin 2) (ann : Announce) (s : State) :
    (execPtpAnnounceRx port ann s).fixed = some s.fixed := by simp [execPtpAnnounceRx]

@[simp ↓] theorem State.enterHoldover_fixed (s : State) : s.enterHoldover.fixed = s.fixed := by simp [State.enterHoldover]

@[simp ↓] theorem State.syncResult_fixed (s : State) (t1 t2 : Nat) :
    (s.syncResult t1 t2).fixed = s.fixed := by
  simp only [State.syncResult]
  split
  · simp
  · split <;> simp

@[simp ↓] theorem execPtpSyncRx_fixed (port : Fin 2) (domain source seq at_ origin : Nat) (twoStep : Bool) (s : State) :
    (execPtpSyncRx port domain source seq at_ origin twoStep s).fixed = some s.fixed := by simp [execPtpSyncRx]

@[simp ↓] theorem execPtpFollowUpRx_fixed (port : Fin 2) (domain source seq origin : Nat) (s : State) :
    (execPtpFollowUpRx port domain source seq origin s).fixed = some s.fixed := by simp [execPtpFollowUpRx]

@[simp ↓] theorem execPtpDelayReqSend_fixed (s : State) : (execPtpDelayReqSend s).fixed = some s.fixed := by
  unfold execPtpDelayReqSend
  split <;> simp

@[simp ↓] theorem execPtpDelayRespRx_fixed (port : Fin 2) (domain source seq received : Nat) (s : State) :
    (execPtpDelayRespRx port domain source seq received s).fixed = some s.fixed := by simp [execPtpDelayRespRx]

@[simp ↓] theorem execPtpSyncLoss_fixed (s : State) : (execPtpSyncLoss s).fixed = some s.fixed := by simp [execPtpSyncLoss]

@[simp ↓] theorem execPtpHoldoverExpiry_fixed (s : State) :
    (execPtpHoldoverExpiry s).fixed = some s.fixed := by simp [execPtpHoldoverExpiry]

@[simp ↓] theorem State.calendarSet_fixed (s : State) (who : Who) (v : Nat) :
    (s.calendarSet who v).1.fixed = s.fixed := by simp [State.calendarSet]

@[simp ↓] theorem execCalendarSet_fixed (who : Who) (v : Nat) (s : State) :
    (execCalendarSet who v s).fixed = some s.fixed := by simp [execCalendarSet]

@[simp ↓] theorem execLeapSecond_fixed (at_ : Nat) (s : State) :
    (execLeapSecond at_ s).fixed = some s.fixed := by simp [execLeapSecond]

@[simp ↓] theorem execBackupLow_fixed (supercap coin : Nat) (s : State) :
    (execBackupLow supercap coin s).fixed = some s.fixed := by simp [execBackupLow]

/-! ### Mgmt -/

@[simp ↓] theorem State.sendMsg_fixed (s : State) (who : Who) (op : Nat) (m : Msg) (ctrl : Option Nat) :
    (s.sendMsg who op m ctrl).fixed = s.fixed := by
  unfold State.sendMsg
  split <;> simp

@[simp ↓] theorem State.makeRoom_fixed (s : State) (cls : Nat) : Yields State.fixed s.fixed (s.makeRoom cls) := by
  simp only [State.makeRoom]
  repeat' refine yields_ite_of _ _ _ _ _ ?_ ?_
  · simp
  · simp
  · split <;> simp

@[simp ↓] theorem State.highWater_fixed (s : State) (depth : Nat) :
    (s.highWater depth).fixed = s.fixed := by simp [State.highWater]

@[simp ↓] theorem State.enqueueMp_fixed (s : State) (e : QEntry) : Yields State.fixed s.fixed (s.enqueueMp e) := by
  intro t h
  obtain ⟨u, hu, rfl⟩ := Option.map_eq_some_iff.mp h
  simp [State.makeRoom_fixed _ _ _ hu]

@[simp ↓] theorem State.serveEntry_fixed (s : State) (e : QEntry) : (s.serveEntry e).fixed = s.fixed := by
  simp only [State.serveEntry]
  split
  · simp
  · split <;> simp

@[simp ↓] theorem State.serveUpTo_fixed (cls f : Nat) (s : State) : (State.serveUpTo cls f s).fixed = s.fixed := by
  induction f generalizing s with
  | zero => rfl
  | succ f ih =>
    simp only [State.serveUpTo]
    split <;> simp [ih]

@[simp ↓] theorem execPublishTick_fixed (session key : Nat) (s : State) :
    (execPublishTick session key s).fixed = some s.fixed := by
  simp only [execPublishTick]
  split
  · simp
  · split
    · simp
    · split
      · rename_i h
        simp [State.enqueueMp_fixed _ _ _ h]
      · simp

@[simp ↓] theorem execTelemetryLevelTick_fixed (at_ : Nat) (s : State) :
    (execTelemetryLevelTick at_ s).fixed = some s.fixed := by simp [execTelemetryLevelTick]

@[simp ↓] theorem execSessionExpiry_fixed (session : Nat) (s : State) : (execSessionExpiry session s).fixed = some s.fixed := by
  simp only [execSessionExpiry]
  split <;> simp

@[simp ↓] theorem State.notify_fixed (s : State) (n : Nat) (e : Event) : (s.notify n e).fixed = s.fixed := by
  unfold State.notify
  dsimp only
  split
  · rename_i h
    exact State.enqueueMp_fixed _ _ _ h
  · simp

@[simp ↓] theorem State.logEvent_fixed (s : State) (e : Event) : (s.logEvent e).fixed = s.fixed := by simp [State.logEvent]
@[simp ↓] theorem State.flushEvents_fixed (s : State) : s.flushEvents.fixed = s.fixed := by simp [State.flushEvents]
@[simp ↓] theorem execEventLogFlush_fixed (s : State) : (execEventLogFlush s).fixed = some s.fixed := by simp [execEventLogFlush]

@[simp ↓] theorem State.releaseAnswer_fixed (s : State) (req : Nat) : (s.releaseAnswer req).fixed = s.fixed := by
  unfold State.releaseAnswer
  split <;> simp

@[simp ↓] theorem State.persistDone_fixed (s : State) : s.persistDone.fixed = s.fixed := by
  unfold State.persistDone
  split <;> simp

@[simp ↓] theorem execPersistWriteComplete_fixed (s : State) :
    (execPersistWriteComplete s).fixed = some s.fixed := by simp [execPersistWriteComplete]

@[simp ↓] theorem State.reloadRwp_fixed (s : State) (bad : List Nat) :
    (s.reloadRwp bad).fixed = s.fixed := by simp [State.reloadRwp]

@[simp ↓] theorem execMpWatchdogExpiry_fixed (bad : List Nat) (s : State) :
    (execMpWatchdogExpiry bad s).fixed = some s.fixed := by simp [execMpWatchdogExpiry]

@[simp ↓] theorem State.layoutHome_fixed (s : State) : s.layoutHome.fixed = s.fixed := by simp [State.layoutHome]

@[simp ↓] theorem State.rwpDefaults_fixed (s : State) : s.rwpDefaults.fixed = s.fixed := by
  simp only [State.rwpDefaults]
  simp

@[simp ↓] theorem State.factoryInit_fixed (s : State) (who : Who) :
    (s.factoryInit who).1.fixed = s.fixed := by simp [State.factoryInit]

@[simp ↓] theorem execFactoryInit_fixed (who : Who) (v : Nat) (s : State) :
    (execFactoryInit who v s).fixed = some s.fixed := by simp [execFactoryInit]

@[simp ↓] theorem State.enumEvent_fixed (s : State) (code n : Nat) :
    (s.enumEvent code n).fixed = s.fixed := by simp [State.enumEvent]

@[simp ↓] theorem State.takeAddress_fixed (s : State) (a state n : Nat) :
    (s.takeAddress a state n).fixed = s.fixed := by simp [State.takeAddress]

@[simp ↓] theorem execEnumHeadDetect_fixed (s : State) :
    (execEnumHeadDetect s).fixed = some s.fixed := by simp [execEnumHeadDetect]

@[simp ↓] theorem execEnumBurstRx_fixed (count : Nat) (s : State) :
    (execEnumBurstRx count s).fixed = some s.fixed := by simp [execEnumBurstRx]

@[simp ↓] theorem execEnumBurstSend_fixed (s : State) : (execEnumBurstSend s).fixed = some s.fixed := by simp [execEnumBurstSend]

@[simp ↓] theorem execEnumFailed_fixed (s : State) : (execEnumFailed s).fixed = some s.fixed := by
  simp only [execEnumFailed]
  simp

@[simp ↓] theorem execPlcaBeaconTimeout_fixed (s : State) :
    (execPlcaBeaconTimeout s).fixed = some s.fixed := by simp [execPlcaBeaconTimeout]

@[simp ↓] theorem execPlcaBeaconRx_fixed (s : State) : (execPlcaBeaconRx s).fixed = some s.fixed := by simp [execPlcaBeaconRx]

/-! ### Reset -/

@[simp ↓] theorem State.kept_fixed (s : State) : s.kept.fixed = s.fixed := by simp [State.kept]

@[simp ↓] theorem State.startBringup_fixed (s : State) (cause stage : Nat) :
    (s.startBringup cause stage).fixed = s.fixed := by simp [State.startBringup]

@[simp ↓] theorem State.resetEntry_fixed (s : State) (cause : Nat) :
    (s.resetEntry cause).fixed = s.fixed := by simp [State.resetEntry]

@[simp ↓] theorem execPowerOn_fixed (lost : Bool) (unpowered : Nat) (s : State) :
    (execPowerOn lost unpowered s).fixed = some s.fixed := by simp [execPowerOn]

@[simp ↓] theorem execModuleResetNPin_fixed (lowNs : Nat) (s : State) :
    (execModuleResetNPin lowNs s).fixed = some s.fixed := by simp [execModuleResetNPin]

@[simp ↓] theorem State.moduleReset_fixed (s : State) : s.moduleReset.1.fixed = s.fixed := by simp [State.moduleReset]

@[simp ↓] theorem execModuleReset_fixed (who : Who) (v : Nat) (s : State) :
    (execModuleReset who v s).fixed = some s.fixed := by simp [execModuleReset]

@[simp ↓] theorem execModuleResetDelay_fixed (s : State) : (execModuleResetDelay s).fixed = some s.fixed := by
  unfold execModuleResetDelay
  split <;> simp

@[simp ↓] theorem execSelfResetAfterStop_fixed (s : State) : (execSelfResetAfterStop s).fixed = some s.fixed := by
  unfold execSelfResetAfterStop
  split <;> simp

@[simp ↓] theorem execSelfResetAfterTrip_fixed (s : State) : (execSelfResetAfterTrip s).fixed = some s.fixed := by
  unfold execSelfResetAfterTrip
  split <;> simp

@[simp ↓] theorem execScWatchdogExpiry_fixed (s : State) :
    (execScWatchdogExpiry s).fixed = some s.fixed := by simp [execScWatchdogExpiry]

@[simp ↓] theorem execPowerAlertClear_fixed (s : State) : (execPowerAlertClear s).fixed = some s.fixed := by
  simp only [execPowerAlertClear]
  split <;> simp

@[simp ↓] theorem execEngageAssert_fixed (s : State) : (execEngageAssert s).fixed = some s.fixed := by simp [execEngageAssert]
@[simp ↓] theorem execEngageRelease_fixed (s : State) : (execEngageRelease s).fixed = some s.fixed := by simp [execEngageRelease]

@[simp ↓] theorem execPerstNRelease_fixed (port : Fin 4) (refclk : Bool) (rate width : Nat) (s : State) :
    (execPerstNRelease port refclk rate width s).fixed = some s.fixed := by simp [execPerstNRelease]

@[simp ↓] theorem execCapacitanceMeasure_fixed (vStart fall : Nat) (s : State) :
    (execCapacitanceMeasure vStart fall s).fixed = some s.fixed := by simp [execCapacitanceMeasure]

@[simp ↓] theorem execLbistWaveComplete_fixed (bad : List BadSignature) (s : State) :
    (execLbistWaveComplete bad s).fixed = some s.fixed := by
  simp only [execLbistWaveComplete]
  split
  · simp
  · split <;> simp

@[simp ↓] theorem execBistPowerSample_fixed (power : Nat) (s : State) :
    (execBistPowerSample power s).fixed = some s.fixed := by simp [execBistPowerSample]

@[simp ↓] theorem execOnchipMbistComplete_fixed (bad : Option (Fin 6 × Fin 256)) (s : State) :
    (execOnchipMbistComplete bad s).fixed = some s.fixed := by
  unfold execOnchipMbistComplete
  split
  · simp
  · split <;> simp

@[simp ↓] theorem execHbmSelfTestComplete_fixed (stack : Fin 8) (found : List Nat) (spares : Nat) (s : State) :
    (execHbmSelfTestComplete stack found spares s).fixed = some s.fixed := by simp [execHbmSelfTestComplete]

@[simp ↓] theorem execStageTimeout_fixed (s : State) : (execStageTimeout s).fixed = some s.fixed := by
  unfold execStageTimeout
  split <;> simp

@[simp ↓] theorem State.nextStage_fixed (s : State) (k : Nat) : (s.nextStage k).fixed = s.fixed := by simp [State.nextStage]
@[simp ↓] theorem State.endS0_fixed (s : State) : s.endS0.fixed = s.fixed := by simp [State.endS0]

@[simp ↓] theorem State.startMp_fixed (s : State) (lost : List Nat) : (s.startMp lost).fixed = s.fixed := by
  simp only [State.startMp]
  simp

@[simp ↓] theorem State.endS1_fixed (s : State) (obs : StageObs) : (s.endS1 obs).fixed = s.fixed := by simp [State.endS1]
@[simp ↓] theorem State.endS4_fixed (s : State) (obs : StageObs) : (s.endS4 obs).fixed = s.fixed := by simp [State.endS4]

@[simp ↓] theorem State.endS6_fixed (s : State) (obs : StageObs) : (s.endS6 obs).fixed = s.fixed := by
  simp only [State.endS6]
  split <;> simp

@[simp ↓] theorem State.startS8_fixed (s : State) : s.startS8.fixed = s.fixed := by simp [State.startS8]
@[simp ↓] theorem State.endS7_fixed (s : State) (obs : StageObs) : (s.endS7 obs).fixed = s.fixed := by simp [State.endS7]
@[simp ↓] theorem State.endS8_fixed (s : State) : s.endS8.fixed = s.fixed := by simp [State.endS8]

@[simp ↓] theorem State.endStage_fixed (s : State) (k : Nat) (obs : StageObs) : (s.endStage k obs).fixed = s.fixed := by
  simp only [State.endStage]
  (repeat' split) <;> simp

@[simp ↓] theorem execBringupStageComplete_fixed (at_ : Nat) (obs : StageObs) (s : State) :
    (execBringupStageComplete at_ obs s).fixed = some s.fixed := by simp [execBringupStageComplete]

/-! ### Access -/

@[simp ↓] theorem State.ownModule_fixed (s : State) (who : Who) (k v : Nat) :
    Yields Outcome.fixed (some s.fixed) (s.ownModule who k v) := by
  simp [State.ownModule]

@[simp ↓] theorem State.ownIndexed_fixed (s : State) (who : Who) (k v : Nat) :
    Yields Outcome.fixed (some s.fixed) (s.ownIndexed who k v) := by
  unfold State.ownIndexed
  repeat' refine yields_or _ _ _ _ ?_ ?_
  all_goals simp

@[simp ↓] theorem State.ownRow_fixed (s : State) (who : Who) (k v : Nat) :
    Yields Outcome.fixed (some s.fixed) (s.ownRow who k v) :=
  yields_or _ _ _ _ (s.ownModule_fixed who k v) (s.ownIndexed_fixed who k v)

@[simp ↓] theorem State.setSel_fixed (s : State) (who : Who) (k v : Nat) : (s.setSel who k v).fixed = s.fixed := by
  unfold State.setSel
  split <;> simp

@[simp ↓] theorem State.ptpChanged_fixed (s : State) (k : Nat) : (s.ptpChanged k).fixed = s.fixed := by simp [State.ptpChanged]

@[simp ↓] theorem State.plainWrite_fixed (s : State) (who : Who) (k v : Nat) : (s.plainWrite who k v).1.fixed = s.fixed := by
  unfold State.plainWrite
  split <;> simp

@[simp ↓] theorem execRegisterWrite_fixed (who : Who) (key v : Nat) (s : State) :
    (execRegisterWrite who key v s).fixed = some s.fixed := by
  unfold execRegisterWrite
  split
  · exact State.ownRow_fixed _ _ _ _ _ ‹_›
  · simp

@[simp ↓] theorem writeResult_fixed (s : State) (o : Outcome) (h : Outcome.fixed o = some s.fixed) :
    (writeResult s o).1.fixed = s.fixed := by
  cases o with
  | next t =>
    have ht : t.fixed = s.fixed := by simpa using h
    simp only [writeResult]
    split <;> simp [ht]
  | fault r => cases h
  | refused r => cases h

@[simp ↓] theorem State.writeItem_fixed (s : State) (who : Who) (x : Item) : (s.writeItem who x).1.fixed = s.fixed := by
  unfold State.writeItem
  split <;> simp

@[simp ↓] theorem State.runItem_fixed (who : Who) (a : State × Bool × List Byte × Nat) (x : Item) :
    (State.runItem who a x).1.fixed = a.1.fixed := by
  simp [State.runItem]

@[simp ↓] theorem State.authFailed_fixed (s : State) (who : Who) :
    (s.authFailed who).fixed = s.fixed := by simp [State.authFailed]

@[simp ↓] theorem State.dropSess_fixed (s : State) (who : Who) : (s.dropSess who).fixed = s.fixed := by
  unfold State.dropSess
  split <;> simp

@[simp ↓] theorem State.checkSess_fixed (s : State) (who : Who) (op : Nat) (m : Msg) :
    (s.checkSess who op m).1.fixed = s.fixed := by
  unfold State.checkSess
  split <;> simp

@[simp ↓] theorem State.answerTo_fixed (s : State) (who : Who) (op : Nat) (m : Msg) (ctrl : Option Nat) (status count : Nat)
    (body : List Byte) : (s.answerTo who op m ctrl status count body).fixed = s.fixed := by simp [State.answerTo]

@[simp ↓] theorem State.busy_fixed (s : State) (who : Who) (op : Nat) (m : Msg) (ctrl : Option Nat) (cls : Nat) :
    (s.busy who op m ctrl cls).fixed = s.fixed := by simp [State.busy]

@[simp ↓] theorem State.newSession_fixed (s : State) : s.newSession.2.fixed = s.fixed := by simp [State.newSession]

@[simp ↓] theorem State.openSess_fixed (s : State) (who : Who) (m : Msg) (ctrl : Option Nat) (cls : Nat) :
    (s.openSess who m ctrl cls).fixed = s.fixed := by
  simp only [State.openSess]
  split
  · simp
  · split
    · simp
    · split
      · simp
      · rename_i h
        split at h
        · simp [fixed_of_snd h]
        · cases h

@[simp ↓] theorem State.auth_fixed (s : State) (who : Who) (m : Msg) (ctrl : Option Nat) :
    (s.auth who m ctrl).fixed = s.fixed := by
  unfold State.auth
  split <;> simp

@[simp ↓] theorem State.closeSess_fixed (s : State) (who : Who) (m : Msg) (ctrl : Option Nat) :
    (s.closeSess who m ctrl).fixed = s.fixed := by simp [State.closeSess]

@[simp ↓] theorem State.subscribe_fixed (s : State) (who : Who) (m : Msg) (ctrl : Option Nat) :
    (s.subscribe who m ctrl).fixed = s.fixed := by
  unfold State.subscribe
  split <;> simp

@[simp ↓] theorem State.unsubscribe_fixed (s : State) (who : Who) (m : Msg) (ctrl : Option Nat) :
    (s.unsubscribe who m ctrl).fixed = s.fixed := by
  unfold State.unsubscribe
  split <;> simp

@[simp ↓] theorem State.eventSubscribe_fixed (s : State) (who : Who) (m : Msg) (ctrl : Option Nat) :
    (s.eventSubscribe who m ctrl).fixed = s.fixed := by
  unfold State.eventSubscribe
  split <;> simp

@[simp ↓] theorem State.logRead_fixed (s : State) (who : Who) (m : Msg) (ctrl : Option Nat) :
    (s.logRead who m ctrl).fixed = s.fixed := by simp [State.logRead]

@[simp ↓] theorem State.accessMsg_fixed (s : State) (who : Who) (m : Msg) (ctrl : Option Nat) (items : List Item) :
    (s.accessMsg who m ctrl items).fixed = s.fixed := by
  simp [State.accessMsg]

@[simp ↓] theorem State.runOpcode_fixed (s : State) (who : Who) (op : Nat) (m : Msg) (ctrl : Option Nat) (cls : Nat)
    (items : List Item) : (s.runOpcode who op m ctrl cls items).fixed = s.fixed := by
  unfold State.runOpcode
  split <;> simp

@[simp ↓] theorem State.serveRequest_fixed (s : State) (who : Who) (op : Nat) (m : Msg) (ctrl : Option Nat) (cls : Nat)
    (items : List Item) : (s.serveRequest who op m ctrl cls items).fixed = s.fixed := by
  simp only [State.serveRequest]
  split <;> simp [fixed_of_fst ‹_ = (_, _)›]

@[simp ↓] theorem State.request_fixed (s : State) (who : Who) (op : Nat) (m : Msg) (ctrl : Option Nat) (multicast : Bool) :
    (s.request who op m ctrl multicast).fixed = s.fixed := by
  simp only [State.request]
  iterate 6 refine State.fixed_ite_of _ _ _ (by simp) ?_
  split
  · simp
  · simp [State.makeRoom_fixed _ _ _ ‹_›]

@[simp ↓] theorem execAccess_fixed (who : Who) (msg : Msg) (multicast : Bool) (s : State) :
    (execAccess who msg multicast s).fixed = some s.fixed := by simp [execAccess]

@[simp ↓] theorem execOpenSession_fixed (who : Who) (msg : Msg) (s : State) :
    (execOpenSession who msg s).fixed = some s.fixed := by simp [execOpenSession]

@[simp ↓] theorem execAuth_fixed (who : Who) (msg : Msg) (s : State) :
    (execAuth who msg s).fixed = some s.fixed := by simp [execAuth]

@[simp ↓] theorem execCloseSession_fixed (who : Who) (msg : Msg) (s : State) :
    (execCloseSession who msg s).fixed = some s.fixed := by simp [execCloseSession]

@[simp ↓] theorem execSubscribe_fixed (who : Who) (msg : Msg) (s : State) :
    (execSubscribe who msg s).fixed = some s.fixed := by simp [execSubscribe]

@[simp ↓] theorem execUnsubscribe_fixed (who : Who) (msg : Msg) (s : State) :
    (execUnsubscribe who msg s).fixed = some s.fixed := by simp [execUnsubscribe]

@[simp ↓] theorem execEventSubscribe_fixed (who : Who) (msg : Msg) (s : State) :
    (execEventSubscribe who msg s).fixed = some s.fixed := by simp [execEventSubscribe]

@[simp ↓] theorem execLogRead_fixed (who : Who) (msg : Msg) (s : State) :
    (execLogRead who msg s).fixed = some s.fixed := by simp [execLogRead]

/-! ### Flit -/

@[simp ↓] theorem State.rxEnd_fixed (s : State) (n cls : Nat) (owed : Bool) :
    (s.rxEnd n cls owed).fixed = s.fixed := by simp [State.rxEnd]

@[simp ↓] theorem State.rxHeader_fixed (s : State) (n : Nat) (h : List Byte) : (s.rxHeader n h).fixed = s.fixed := by
  simp only [State.rxHeader]
  split
  · simp
  · split
    · simp
    · split <;> simp [fixed_of_fst ‹_ = (_, _)›]

@[simp ↓] theorem State.rxChunk_fixed (n : Nat) (s : State) (c : List Byte) : (State.rxChunk n s c).fixed = s.fixed := by
  simp only [State.rxChunk]
  split <;> split <;> simp

@[simp ↓] theorem State.refuseFlit_fixed (s : State) (n : Nat) : (s.refuseFlit n).fixed = s.fixed := by simp [State.refuseFlit]

@[simp ↓] theorem State.flitControl_fixed (s : State) (n h : Nat) :
    (s.flitControl n h).fixed = s.fixed := by simp [State.flitControl]

@[simp ↓] theorem State.authFail_fixed (s : State) (n : Nat) : (s.authFail n).fixed = s.fixed := by simp [State.authFail]

@[simp ↓] theorem State.dataFlit_fixed (s : State) (n h : Nat) (flit : List Byte) : (s.dataFlit n h flit).fixed = s.fixed := by
  unfold State.dataFlit
  split <;> simp

@[simp ↓] theorem State.countFec_fixed (s : State) (n : Nat) (fixed : List Nat) :
    (s.countFec n fixed).fixed = s.fixed := by simp [State.countFec]

@[simp ↓] theorem State.badCodeword_fixed (s : State) (n : Nat) : (s.badCodeword n).fixed = s.fixed := by simp [State.badCodeword]

@[simp ↓] theorem State.flitRx_fixed (s : State) (n : Nat) (cw : List Nat) : (s.flitRx n cw).fixed = s.fixed := by
  unfold State.flitRx
  split <;> simp

@[simp ↓] theorem execFlitRx_fixed (link : Fin 24) (cw : List Nat) (s : State) :
    (execFlitRx link cw s).fixed = some s.fixed := by simp [execFlitRx]

@[simp ↓] theorem execOutputPacketStart_fixed (link : Fin 24) (s : State) :
    (execOutputPacketStart link s).fixed = some s.fixed := by
  simp only [execOutputPacketStart]
  split
  · simp
  · split
    · simp
    · split
      · simp
      · split <;> simp

/-! ### HostBar -/

@[simp ↓] theorem State.queueWrite_fixed (s : State) (n q w at_ len v : Nat) :
    (s.queueWrite n q w at_ len v).fixed = s.fixed := by simp [State.queueWrite]

@[simp ↓] theorem State.mbxTake_fixed (s : State) (n ctrl : Nat) : (s.mbxTake n ctrl).fixed = s.fixed := by simp [State.mbxTake]

@[simp ↓] theorem State.mbxWrite_fixed (s : State) (n w at_ len v : Nat) :
    (s.mbxWrite n w at_ len v).fixed = s.fixed := by simp [State.mbxWrite]

@[simp ↓] theorem State.msixWrite_fixed (s : State) (n v half at_ len x : Nat) :
    (s.msixWrite n v half at_ len x).fixed = s.fixed := by simp [State.msixWrite]

@[simp ↓] theorem State.ctlWrite_fixed (s : State) (n : Nat) (r : CtlReg) (at_ len v : Nat) :
    (s.ctlWrite n r at_ len v).fixed = s.fixed := by
  unfold State.ctlWrite
  split <;> simp

@[simp ↓] theorem State.barAnswer_fixed (s : State) (n st : Nat) (bs : List Byte) :
    (s.barAnswer n st bs).fixed = s.fixed := by simp [State.barAnswer]

@[simp ↓] theorem State.barRefuse_fixed (s : State) (x : HeldAccess) (p addr st : Nat) :
    (s.barRefuse x p addr st).fixed = s.fixed := by simp [State.barRefuse]

@[simp ↓] theorem State.ctlAccess_fixed (s : State) (x : HeldAccess) : (s.ctlAccess x).fixed = s.fixed := by
  unfold State.ctlAccess
  split
  · simp
  · split <;> simp

@[simp ↓] theorem State.memAccess_fixed (s : State) (x : HeldAccess) (a : Nat) : (s.memAccess x a).fixed = s.fixed := by
  unfold State.memAccess
  split <;> simp

@[simp ↓] theorem State.barAccess_fixed (s : State) (x : HeldAccess) : (s.barAccess x).fixed = s.fixed := by
  simp only [State.barAccess]
  (repeat' split) <;> simp

@[simp ↓] theorem execHostBarRead_fixed (port : Fin 4) (bar : Fin 3) (off len : Nat) (s : State) :
    (execHostBarRead port bar off len s).fixed = some s.fixed := by simp [execHostBarRead]

@[simp ↓] theorem execHostBarWrite_fixed (port : Fin 4) (bar : Fin 3) (off : Nat) (bytes : List Byte) (s : State) :
    (execHostBarWrite port bar off bytes s).fixed = some s.fixed := by simp [execHostBarWrite]

@[simp ↓] theorem execHeldAccessResume_fixed (s : State) :
    (execHeldAccessResume s).fixed = some s.fixed := by simp [execHeldAccessResume]

/-! ### Dispatch -/

@[simp ↓] theorem exec_fixed (c : Instr) (s : State) : Outcome.fixed (exec c s) = some s.fixed := by
  cases c <;> simp [exec]

/-! ### Every command answers a state, and keeps the queue and the configuration (R4, R8) -/

theorem Outcome.exists_next_of_fixed {o : Outcome} {q : List Instr × Bool} (h : o.fixed = some q) :
    ∃ t, o = .next t ∧ t.fixed = q := by
  cases o with
  | next t => exact ⟨t, rfl, Option.some.inj h⟩
  | fault r => cases h
  | refused r => cases h

theorem exec_runs (c : Instr) (s : State) : Runs c s := by
  obtain ⟨t, ht, -⟩ := Outcome.exists_next_of_fixed (exec_fixed c s)
  exact ⟨t, ht⟩

/-- Settles O3: a command's meaning answers a state, and a step is such a meaning or the idle step, which always does. -/
theorem everyCommandRuns : Obligations.EveryCommandRuns := by
  refine ⟨exec_runs, fun s => ?_⟩
  unfold step
  split
  · exact ⟨_, rfl⟩
  · exact exec_runs _ _

/-- Settles O4: the state that a command's meaning answers has the queue and the configuration of the state before. -/
theorem execLeavesTheQueue : Obligations.ExecLeavesTheQueue := by
  intro c s t h
  have ht := exec_fixed c s
  rw [h, Outcome.fixed_next] at ht
  exact Prod.ext_iff.mp (Option.some.inj ht)

end Sys2Proof.Machine

/-! The formats' encoder after their decoder: a value read from a pattern lies on the format's own grid, so rounding keeps its
magnitude pattern exactly (R85), and the sign bit goes back where it came from (R91). -/

namespace Sys2Proof.Machine

/-! ### Magnitudes -/

theorem bitLen_le_of_lt_two_pow {m f : Nat} (h : m < 2 ^ f) : bitLen m ≤ f := by
  unfold bitLen
  split
  · exact Nat.zero_le f
  case isFalse hm => exact (Nat.log2_lt hm).mpr h

theorem bitLen_of_leading_one {m f : Nat} (h : m < 2 ^ f) : bitLen (2 ^ f + m) = f + 1 := by
  have hne : 2 ^ f + m ≠ 0 := by have := Nat.two_pow_pos f; omega
  rw [bitLen, if_neg hne, (Nat.log2_eq_iff hne).mpr ⟨Nat.le_add_right _ _, by rw [Nat.pow_succ]; omega⟩]

theorem Fmt.round_zero (F : Fmt) (e : Int) : F.round 0 e = (0, false) := rfl

/-- A magnitude whose last place is the format's own place at its size is not rounded: its pattern counts the binades below it
and adds its integer. -/
theorem Fmt.round_on_grid (F : Fmt) {m : Nat} {e : Int} (hm : m ≠ 0)
    (he : max (e + (bitLen m : Int) - (F.f + 1 : Nat)) F.qmin = e) :
    F.round m e = ((e - F.qmin).toNat * 2 ^ F.f + m, false) := by
  rw [Fmt.round, if_neg hm]
  simp only [he, Int.le_refl, if_true, Int.sub_self, Int.toNat_zero, Nat.pow_zero, Nat.mul_one]

theorem Fmt.mag_subnormal (F : Fmt) {p : Nat} (h : p / 2 ^ F.f = 0) : F.mag p = (p, F.qmin) := by
  have hp : p < 2 ^ F.f := (Nat.div_eq_zero_iff_lt (Nat.two_pow_pos F.f)).mp h
  rw [Fmt.mag, if_pos h, Nat.mod_eq_of_lt hp]

theorem Fmt.mag_normal (F : Fmt) {p : Nat} (h : p / 2 ^ F.f ≠ 0) :
    F.mag p = (2 ^ F.f + p % 2 ^ F.f, F.qmin + (p / 2 ^ F.f : Nat) - 1) := if_neg h

/-- Rounding the magnitude of a pattern gives the pattern, exactly: a subnormal sits at the format's lowest place, and a normal
number fills its precision. -/
theorem Fmt.round_mag (F : Fmt) (p : Nat) : F.round (F.mag p).1 (F.mag p).2 = (p, false) := by
  have hlt : p % 2 ^ F.f < 2 ^ F.f := Nat.mod_lt _ (Nat.two_pow_pos F.f)
  by_cases h : p / 2 ^ F.f = 0
  case pos =>
    rw [F.mag_subnormal h]
    by_cases hp : p = 0
    · rw [hp, F.round_zero]
    · have hl := bitLen_le_of_lt_two_pow ((Nat.div_eq_zero_iff_lt (Nat.two_pow_pos F.f)).mp h)
      rw [F.round_on_grid hp (by omega), Int.sub_self, Int.toNat_zero, Nat.zero_mul, Nat.zero_add]
  case neg =>
    obtain ⟨k, hk⟩ := Nat.exists_eq_succ_of_ne_zero h
    have hpos := Nat.two_pow_pos F.f
    have hl := bitLen_of_leading_one hlt
    have hsplit := Nat.div_add_mod' p (2 ^ F.f)
    rw [hk, Nat.succ_mul] at hsplit
    have he : F.qmin + (k.succ : Nat) - 1 = F.qmin + k := by omega
    have hk' : (F.qmin + k - F.qmin).toNat = k := by omega
    rw [F.mag_normal h, hk, he, F.round_on_grid (by omega) (by rw [hl]; omega), hk', ← Nat.add_assoc, hsplit]

theorem Fmt.mag_fst_eq_zero (F : Fmt) (p : Nat) : (F.mag p).1 = 0 ↔ p = 0 := by
  by_cases h : p / 2 ^ F.f = 0
  · rw [F.mag_subnormal h]
  · have hp : p ≠ 0 := fun hp => h (by rw [hp, Nat.zero_div])
    have := Nat.two_pow_pos F.f
    simp only [F.mag_normal h]
    omega

/-! ### Signs -/

theorem Fmt.signed_zero {F : Fmt} (hs : F.sat = true) (n : Bool) : F.signed n 0 = 0 := by
  cases n with
  | false => rfl
  | true => rw [Fmt.signed, hs]; rfl

theorem Fmt.signed_of_not {F : Fmt} {p : Nat} (h : ¬(F.sat = true ∧ p = 0)) (n : Bool) :
    F.signed n p = if n = true then p + 2 ^ (F.width - 1) else p := by
  have hs : (F.sat && decide (p = 0)) = false :=
    Bool.eq_false_iff.mpr fun hb => h ⟨(Bool.and_eq_true_iff.mp hb).1, of_decide_eq_true (Bool.and_eq_true_iff.mp hb).2⟩
  rw [Fmt.signed, hs, Bool.not_false, Bool.and_true]

/-- A pattern is its sign bit set on its magnitude pattern, but a saturating format has no negative zero (R91). -/
theorem Fmt.signed_bit (F : Fmt) {w : Nat} (hF : 0 < F.width) (hw : w < 2 ^ F.width) :
    F.signed (bit w (F.width - 1)) (w % 2 ^ (F.width - 1)) =
      if F.sat = true ∧ w % 2 ^ (F.width - 1) = 0 then 0 else w := by
  have hpos := Nat.two_pow_pos (F.width - 1)
  have hsplit := Nat.div_add_mod' w (2 ^ (F.width - 1))
  have htop : w / 2 ^ (F.width - 1) < 2 := by
    rw [Nat.div_lt_iff_lt_mul hpos, Nat.mul_comm, ← Nat.pow_succ, Nat.succ_eq_add_one, Nat.sub_add_cancel hF]
    exact hw
  by_cases hz : F.sat = true ∧ w % 2 ^ (F.width - 1) = 0
  case pos =>
    obtain ⟨hs, hw0⟩ := hz
    rw [if_pos ⟨hs, hw0⟩, hw0, Fmt.signed_zero hs]
  case neg =>
    rw [if_neg hz, Fmt.signed_of_not hz, bit]
    obtain h | h := Nat.le_one_iff_eq_zero_or_eq_one.mp (Nat.le_of_lt_succ htop)
    · rw [h, if_neg (by decide)]
      rw [h] at hsplit
      omega
    · rw [h, if_pos (by decide)]
      rw [h] at hsplit
      omega

theorem Fmt.signed_and_ne_zero {F : Fmt} (hs : F.sat = true) (n : Bool) (p : Nat) :
    F.signed (n && !decide (p = 0)) p = F.signed n p := by
  by_cases hp : p = 0
  · rw [hp, Fmt.signed_zero hs, Fmt.signed_zero hs]
  · rw [decide_eq_false hp, Bool.not_false, Bool.and_true]

/-! ### Patterns -/

/-- A magnitude pattern up to the largest finite one is written back under its sign, without flags. -/
theorem Fmt.enc_mag (F : Fmt) (n : Bool) {p : Nat} (hp : p ≤ F.top) :
    F.enc (.fin n (F.mag p).1 (F.mag p).2) = (F.signed n p, 0) := by
  simp only [Fmt.enc, F.round_mag, if_neg (Nat.not_lt.mpr hp), Bool.false_and, Bool.false_eq_true, if_false]

theorem Fmt.enc_of_isNan (F : Fmt) {a : Num} (h : a.isNan = true) : F.enc a = (F.nan, 0) := by
  cases a with
  | nan => rfl
  | inf n => cases h
  | fin n m e => cases h

/-- In a saturating format the pattern of a value is a sign on a magnitude up to the largest one. -/
theorem Fmt.enc_dec_of_sat (F : Fmt) {w : Nat} (hs : F.sat = true) (htop : w % 2 ^ (F.width - 1) ≤ F.top)
    (hn : (F.dec w).isNan = false) :
    F.enc (F.dec w) = (F.signed (bit w (F.width - 1)) (w % 2 ^ (F.width - 1)), 0) := by
  rw [Fmt.dec, if_pos hs] at hn ⊢
  split at hn
  · cases hn
  case isFalse hnan =>
    rw [if_neg hnan, F.enc_mag _ htop]
    simp only [ne_eq, decide_not, F.mag_fst_eq_zero, Fmt.signed_and_ne_zero hs]

/-- In a format with infinities the pattern of a value is a sign on a finite magnitude or on the infinity above them. -/
theorem Fmt.enc_dec_of_not_sat (F : Fmt) {w : Nat} (hs : F.sat = false) (hn : (F.dec w).isNan = false) :
    F.enc (F.dec w) = (F.signed (bit w (F.width - 1)) (w % 2 ^ (F.width - 1)), 0) := by
  have hs' : ¬ F.sat = true := Bool.eq_false_iff.mp hs
  rw [Fmt.dec, if_neg hs'] at hn ⊢
  split at hn
  case isTrue hinf => rw [if_pos hinf, Fmt.enc, if_neg hs', ← hinf]
  case isFalse hinf =>
    split at hn
    · cases hn
    case isFalse hnan =>
      rw [if_neg hinf, if_neg hnan]
      exact F.enc_mag _ (by omega)

theorem Fmt.width_pos {F : Fmt} (hF : F ∈ [Fmt.fj4, Fmt.fj8a, Fmt.fj8g, Fmt.fj16, Fmt.fp32, Fmt.w48]) : 0 < F.width := by
  revert F; decide

/-- A saturating format of the module has every magnitude pattern of its width finite. -/
theorem Fmt.mod_le_top_of_sat {F : Fmt} (hF : F ∈ [Fmt.fj4, Fmt.fj8a, Fmt.fj8g, Fmt.fj16, Fmt.fp32, Fmt.w48])
    (hs : F.sat = true) (w : Nat) : w % 2 ^ (F.width - 1) ≤ F.top := by
  have htop : 2 ^ (F.width - 1) ≤ F.top + 1 := by
    revert F; decide
  have := Nat.mod_lt w (Nat.two_pow_pos (F.width - 1))
  omega

theorem Fmt.enc_dec {F : Fmt} (hF : F ∈ [Fmt.fj4, Fmt.fj8a, Fmt.fj8g, Fmt.fj16, Fmt.fp32, Fmt.w48]) {w : Nat}
    (hn : (F.dec w).isNan = false) :
    F.enc (F.dec w) = (F.signed (bit w (F.width - 1)) (w % 2 ^ (F.width - 1)), 0) := by
  cases hs : F.sat with
  | true => exact F.enc_dec_of_sat hs (Fmt.mod_le_top_of_sat hF hs w) hn
  | false => exact F.enc_dec_of_not_sat hs hn

/-- Settles O16: the encoder gives back sign and magnitude of a decoded pattern, which together are the pattern. -/
theorem formatsKeepTheirValues : Obligations.FormatsKeepTheirValues := by
  intro F hF w hw
  have hpos : 0 < F.width := Fmt.width_pos hF
  refine ⟨fun hn => ?_, F.enc_of_isNan⟩
  rw [Fmt.enc_dec hF hn, F.signed_bit hpos hw]

/-! ### Blocks with a non-finite source -/

theorem writeBlock_of_bad (F : Fmt) (given : Option Nat) {vs : List Num} (h : vs.any Num.bad = true) :
    writeBlock F given vs = (0xFF, vs.map (fun v => (F.nan, v.nf))) := if_pos h

/-- Settles O17: each element of the NaN block is the format's NaN code with its source's NONFINITE_IN, and one source has it. -/
theorem nonFiniteSourceMakesNanBlock : Obligations.NonFiniteSourceMakesNanBlock := by
  intro F given vs hF hbad
  obtain ⟨v, hv, hvbad⟩ := List.any_eq_true.mp hbad
  have hnan : F.nan = if F = Fmt.fj4 then 0 else 0x80 := by
    obtain rfl | rfl | rfl := hF <;> decide
  rw [writeBlock_of_bad F given hbad, hnan]
  refine ⟨rfl, by rw [List.map_map]; rfl, by rw [List.map_map]; rfl, ?_⟩
  exact List.any_eq_true.mpr ⟨_, List.mem_map_of_mem hv, decide_eq_true (if_pos hvbad)⟩

end Sys2Proof.Machine

/-! Writes of dictionary objects that a chapter rules: an admitted write is answered with the status that its rule gives (R502). Here the
rules of job control and of debug mode (R127, R197, R234, R235). -/

namespace Sys2Proof.Machine

/-! ### Admitted writes and their frames -/

theorem rowWrite_of_admits {s : State} {who : Who} {k v : Nat} (h : Admits s who k v) (act : State → State × Nat) :
    rowWrite s who k v act = .next ((act s).1.send (.status who k (act s).2)) := by
  obtain ⟨hserved, hgate⟩ := h
  rw [rowWrite, hserved, hgate]
  rfl

/-- A command that writes an object takes its rule's answer, when the write is admitted. -/
theorem exec_of_answer {c : Instr} {s t : State} {who : Who} {k v st : Nat} {act : State → State × Nat}
    (hc : exec c s = rowWrite s who k v act) (h : Admits s who k v) (ha : act s = (t, st)) :
    exec c s = .next (t.send (.status who k st)) := by
  rw [hc, rowWrite_of_admits h, ha]

theorem tells_send (s : State) (who : Who) (k st : Nat) : Tells (s.send (.status who k st)) who k st := rfl

theorem sameMemory_refl (s : State) : SameMemory s s := ⟨rfl, rfl, rfl⟩

theorem sameWork_refl (s : State) : SameWork s s := ⟨rfl, rfl, rfl, rfl, rfl⟩

theorem sameObjects_put (s : State) (k v : Nat) : SameObjects s (s.put k v) [k] :=
  fun i hi => s.obj_put_ne k v i (mt List.mem_singleton.mpr hi)

/-- An audit entry goes into the log's own part of the state, and may raise that the ring has come round (R542). -/
theorem State.audit_cases (s : State) (who : Who) (kind key remaining old new : Nat) :
    ∃ x, s.audit who kind key remaining old new = { s with sec := x } ∨
      s.audit who kind key remaining old new = State.raise { s with sec := x } 0x208D := by
  unfold State.audit
  dsimp only
  split
  · exact ⟨_, .inl rfl⟩
  · split
    · exact ⟨_, .inr rfl⟩
    · exact ⟨_, .inl rfl⟩

theorem State.audit_sameMemory (s : State) (who : Who) (kind key remaining old new : Nat) :
    SameMemory s (s.audit who kind key remaining old new) := by
  obtain ⟨x, h | h⟩ := s.audit_cases who kind key remaining old new <;> rw [h]
  · exact sameMemory_refl s
  · exact ⟨State.raise_mem .., State.raise_poison .., State.raise_layout ..⟩

theorem State.audit_beat (s : State) (who : Who) (kind key remaining old new : Nat) :
    (s.audit who kind key remaining old new).beat = s.beat := by
  obtain ⟨x, h | h⟩ := s.audit_cases who kind key remaining old new <;> rw [h]
  exact State.raise_beat ..

/-! ### Step parameters (R197) -/

theorem exec_stepParamWrite (who : Who) (part : Fin 4) (v : Nat) (s : State) :
    exec (.stepParamWrite who part v) s = rowWrite s who (O.at O.STEP_PARAM part.val) v (·.stepParam part.val v) := rfl

theorem State.stepParam_of_ok {s : State} {p v : Nat} (hlr : paramOk (recF v 8 4) = true) (hwd : paramOk (recF v 12 4) = true) :
    s.stepParam p v =
      ((s.put (O.at O.STEP_PARAM p) v).setJob p
        { s.job p with params := { step := recF v 0 8, lr := recF v 8 4, wd := recF v 12 4 } :: (s.job p).params }, St.ok) := by
  simp [State.stepParam, hlr, hwd]

theorem State.stepParam_of_bad {s : State} {p v : Nat}
    (h : paramOk (recF v 8 4) = false ∨ paramOk (recF v 12 4) = false) : s.stepParam p v = (s, St.refused) := by
  obtain h | h := h <;> simp [State.stepParam, h]

theorem stepParamWrite_kept {who : Who} {part : Fin 4} {v : Nat} {s : State} (h : Admits s who (O.at O.STEP_PARAM part.val) v)
    (hlr : paramOk (recF v 8 4) = true) (hwd : paramOk (recF v 12 4) = true) :
    Completes (.stepParamWrite who part v) s (fun t =>
      t.obj (O.at O.STEP_PARAM part.val) = v ∧ Tells t who (O.at O.STEP_PARAM part.val) St.ok ∧
      (t.job part.val).params = { step := recF v 0 8, lr := recF v 8 4, wd := recF v 12 4 } :: (s.job part.val).params ∧
      SameMemory s t ∧ t.beat = s.beat ∧ SameObjects s t [O.at O.STEP_PARAM part.val]) := by
  refine ⟨_, exec_of_answer (exec_stepParamWrite ..) h (State.stepParam_of_ok hlr hwd), State.obj_put_same .., tells_send .., ?_,
    sameMemory_refl s, rfl, sameObjects_put _ _ _⟩
  exact congrArg Job.params (State.job_setJob_same ..)

theorem stepParamWrite_refused {who : Who} {part : Fin 4} {v : Nat} {s : State} (h : Admits s who (O.at O.STEP_PARAM part.val) v)
    (hbad : paramOk (recF v 8 4) = false ∨ paramOk (recF v 12 4) = false) :
    exec (.stepParamWrite who part v) s = .next (s.send (.status who (O.at O.STEP_PARAM part.val) St.refused)) :=
  exec_of_answer (exec_stepParamWrite ..) h (State.stepParam_of_bad hbad)

/-! ### The start beat (R234) -/

theorem exec_startBeatWrite (who : Who) (part : Fin 4) (v : Nat) (s : State) :
    exec (.startBeatWrite who part v) s = rowWrite s who (O.at O.START_BEAT part.val) v (·.startBeat part.val v) := rfl

theorem State.startBeat_of_loaded {s : State} {p v : Nat} (hp : s.imageState p = 2) (hv : s.obj O.BEAT_COUNT + 2 ≤ v) :
    s.startBeat p v =
      ((s.put (O.at O.START_BEAT p) v).setJob p { s.job p with armed := true, startAt := v }, St.ok) := by
  simp [State.startBeat, hp, Nat.not_lt.mpr hv]

theorem State.startBeat_of_bad {s : State} {p v : Nat} (h : s.imageState p ≠ 2 ∨ v < s.obj O.BEAT_COUNT + 2) :
    s.startBeat p v = (s, St.refused) := by
  obtain h | h := h <;> simp [State.startBeat, h]

theorem startBeatWrite_arms {who : Who} {part : Fin 4} {v : Nat} {s : State} (h : Admits s who (O.at O.START_BEAT part.val) v)
    (hp : s.imageState part.val = 2) (hv : s.obj O.BEAT_COUNT + 2 ≤ v) :
    Completes (.startBeatWrite who part v) s (fun t =>
      t.obj (O.at O.START_BEAT part.val) = v ∧ Tells t who (O.at O.START_BEAT part.val) St.ok ∧
      t.job part.val = { s.job part.val with armed := true, startAt := v } ∧
      SameMemory s t ∧ SameObjects s t [O.at O.START_BEAT part.val]) :=
  ⟨_, exec_of_answer (exec_startBeatWrite ..) h (State.startBeat_of_loaded hp hv), State.obj_put_same .., tells_send ..,
    State.job_setJob_same .., sameMemory_refl s, sameObjects_put _ _ _⟩

theorem startBeatWrite_refused {who : Who} {part : Fin 4} {v : Nat} {s : State} (h : Admits s who (O.at O.START_BEAT part.val) v)
    (hbad : s.imageState part.val ≠ 2 ∨ v < s.obj O.BEAT_COUNT + 2) :
    exec (.startBeatWrite who part v) s = .next (s.send (.status who (O.at O.START_BEAT part.val) St.refused)) :=
  exec_of_answer (exec_startBeatWrite ..) h (State.startBeat_of_bad hbad)

/-! ### Unloading (R235) -/

theorem exec_unload (who : Who) (part : Fin 4) (v : Nat) (s : State) :
    exec (.unload who part v) s = rowWrite s who (O.at O.UNLOAD part.val) v (fun s => (s.requestUnload part.val none, St.ok)) := rfl

/-- An unload request that no descriptor makes marks the partition; where no edge comes or nothing is loaded it applies at once. -/
theorem State.requestUnload_none (s : State) (p : Nat) :
    s.requestUnload p none =
      if s.onBeat = true ∧ s.imageState p ≠ 0 then s.setJob p { s.job p with unload := true }
      else (s.setJob p { s.job p with unload := true }).unloadNow p := by
  simp only [State.requestUnload, Option.toList_none, List.append_nil, Bool.and_eq_true, decide_eq_true_eq]
  rfl

theorem exec_unload_of_admits {who : Who} {part : Fin 4} {v : Nat} {s : State} (h : Admits s who (O.at O.UNLOAD part.val) v) :
    exec (.unload who part v) s =
      .next ((s.requestUnload part.val none).send (.status who (O.at O.UNLOAD part.val) St.ok)) :=
  exec_of_answer (exec_unload ..) h rfl

theorem unload_waits {who : Who} {part : Fin 4} {v : Nat} {s : State} (h : Admits s who (O.at O.UNLOAD part.val) v)
    (hb : s.onBeat = true) (hp : s.imageState part.val ≠ 0) :
    exec (.unload who part v) s =
      .next ((s.setJob part.val { s.job part.val with unload := true }).send (.status who (O.at O.UNLOAD part.val) St.ok)) := by
  rw [exec_unload_of_admits h, State.requestUnload_none, if_pos ⟨hb, hp⟩]

theorem unload_at_once {who : Who} {part : Fin 4} {v : Nat} {s : State} (h : Admits s who (O.at O.UNLOAD part.val) v)
    (hn : s.onBeat = false ∨ s.imageState part.val = 0) :
    exec (.unload who part v) s =
      .next (((s.setJob part.val { s.job part.val with unload := true }).unloadNow part.val).send
        (.status who (O.at O.UNLOAD part.val) St.ok)) := by
  have hn' : ¬(s.onBeat = true ∧ s.imageState part.val ≠ 0) := by
    rintro ⟨hb, hp⟩
    exact hn.elim (fun hb' => absurd (hb.symm.trans hb') (by decide)) hp
  rw [exec_unload_of_admits h, State.requestUnload_none, if_neg hn']

/-! ### Debug mode (R127) -/

theorem exec_debugEnableWrite (who : Who) (v : Nat) (s : State) :
    exec (.debugEnableWrite who v) s = rowWrite s who O.DEBUG_ENABLE v (·.debugEnable who v) := rfl

theorem State.debugEnable_of_empty {s : State} {who : Who} (h0 : s.obj O.DEBUG_ENABLE = 0) (hp : s.imageState s.debugPart = 0) :
    s.debugEnable who 1 =
      ({ (s.audit who 10 O.DEBUG_ENABLE 0xFF 0 s.debugPart).put O.DEBUG_ENABLE 1 with dbg := { entering := true } }, St.ok) := by
  simp [State.debugEnable, h0, hp]

theorem debugEnableWrite_enters {who : Who} {v : Nat} {s : State} (h : Admits s who O.DEBUG_ENABLE v) (hv : v = 1)
    (h0 : s.obj O.DEBUG_ENABLE = 0) (hp : s.imageState s.debugPart = 0) :
    Completes (.debugEnableWrite who v) s (fun t => t.obj O.DEBUG_ENABLE = 1 ∧ t.dbg.entering = true ∧ t.dbg.on = false ∧
      Tells t who O.DEBUG_ENABLE St.ok ∧ SameMemory s t ∧ t.beat = s.beat) := by
  subst hv
  exact ⟨_, exec_of_answer (exec_debugEnableWrite ..) h (State.debugEnable_of_empty h0 hp), State.obj_put_same .., rfl, rfl,
    tells_send .., s.audit_sameMemory .., s.audit_beat ..⟩

theorem exec_debugHaltWrite (who : Who) (v : Nat) (s : State) :
    exec (.debugHaltWrite who v) s = rowWrite s who O.DEBUG_HALT v (fun s => (s.put O.DEBUG_HALT v, St.ok)) := rfl

theorem debugHaltWrite_takes {who : Who} {v : Nat} {s : State} (h : Admits s who O.DEBUG_HALT v) :
    Completes (.debugHaltWrite who v) s (fun t => t.obj O.DEBUG_HALT = v ∧ Tells t who O.DEBUG_HALT St.ok ∧
      SameMemory s t ∧ SameWork s t ∧ t.beat = s.beat ∧ SameObjects s t [O.DEBUG_HALT]) :=
  ⟨_, exec_of_answer (exec_debugHaltWrite ..) h rfl, State.obj_put_same .., tells_send .., sameMemory_refl s, sameWork_refl s, rfl,
    sameObjects_put _ _ _⟩

/-- Settles O23: each write's rule answers by its conditions, and an admitted write takes its rule's answer. -/
theorem jobControlWrites : Obligations.JobControlWrites := by
  intro who part v s
  exact ⟨fun h => ⟨stepParamWrite_kept h, stepParamWrite_refused h⟩, fun h => ⟨startBeatWrite_arms h, startBeatWrite_refused h⟩,
    fun h => ⟨unload_waits h, unload_at_once h⟩, debugEnableWrite_enters, debugHaltWrite_takes⟩

end Sys2Proof.Machine

/-! Writes of plain objects (R502 to R504, R507): a selector changes its session alone, a plain object itself alone, and a persistent
one goes on to flash. -/

namespace Sys2Proof.Machine

/-! ### Rows of the object tables -/

/-- Keys whose rows differ in a property are different. -/
theorem Dict.ne_of_row {k i : Nat} {r : ObjRow} (f : ObjRow → Bool) (hr : Dict.row k = some r) (hf : f r = false)
    (hi : (Dict.row i).all f = true) : k ≠ i := by
  rintro rfl
  rw [hr] at hi
  exact absurd (hf.symm.trans hi) Bool.false_ne_true

theorem Dict.row_discSelect_sel : (Dict.row O.DISC_SELECT).all (·.sel) = true := by decide

theorem Dict.row_sensorIndex_sel : (Dict.row O.SENSOR_INDEX).all (·.sel) = true := by decide

theorem Dict.row_persistWrites_acc : (Dict.row O.PERSIST_WRITES).all (fun r => decide (r.acc ≠ .rwp)) = true := by decide

/-! ### Selectors (R507) -/

/-- Setting a session leaves it to its requester: the same request finds it again. -/
theorem State.sess_setSess {s : State} {who : Who} {x y : Session} (h : s.sess who = some x) (haddr : y.addr = x.addr)
    (hport : y.port = x.port) (hpath : y.path = x.path) : (s.setSess who y).sess who = some y := by
  cases hp : who.path with
  | internal => simp [State.sess, hp] at h
  | mailbox n =>
    simp only [State.sess, State.setSess, hp] at h ⊢
    split at h
    next h0 => rw [if_pos h0, Tab.get_set, if_pos rfl]
    next => cases h
  | _ =>
    simp only [State.sess, State.setSess, hp] at h ⊢
    split at h
    · cases h
    next h0 =>
      rw [if_neg h0]
      cases hf : s.mgmt.sessions.find who.session with
      | none => simp [hf] at h
      | some z =>
        simp only [hf] at h
        split at h
        next hz =>
          obtain rfl := Option.some.inj h
          rw [Tab.find_set, if_pos rfl]
          exact if_pos (by rwa [haddr, hport, hpath])
        next => cases h

theorem State.selOf_setSel (s : State) (who : Who) (k v : Nat) : (s.setSel who k v).selOf who k = v := by
  unfold State.setSel
  split
  next x hx =>
    rw [State.selOf, State.sess_setSess (y := { x with sel := x.sel.set k v }) hx rfl rfl rfl]
    exact (Tab.get_set ..).trans (if_pos rfl)
  next hx =>
    have hx' : State.sess { s with mgmt.tempSel := s.mgmt.tempSel.set k v } who = none := hx
    rw [State.selOf, hx']
    exact (Tab.get_set ..).trans (if_pos rfl)

/-- A selector is written in the management part of the state alone. -/
theorem State.setSel_eq (s : State) (who : Who) (k v : Nat) : ∃ m, s.setSel who k v = { s with mgmt := m } := by
  unfold State.setSel
  split
  · unfold State.setSess
    split <;> exact ⟨_, rfl⟩
  · exact ⟨_, rfl⟩

/-! ### What a plain write answers -/

/-- The rules that refuse a value of an object that is no selector (R127, R397, R461, R470). -/
def State.RefusesPlain (s : State) (k v : Nat) : Prop :=
  (k = O.AVG_LIMIT_W ∧ s.obj O.POWER_CEILING_W < v) ∨ (k = O.BOOST_MAX_MHZ ∧ v % 50 ≠ 0) ∨
    (k = O.DEBUG_PARTITION ∧ s.obj O.DEBUG_ENABLE = 1) ∨ (k = O.CAL_TEMP_FORCE_C ∧ v < s.obj O.CAL_TEMP_DELTA_C)

theorem State.not_refusesPlain {s : State} {k v : Nat} (havg : k = O.AVG_LIMIT_W → v ≤ s.obj O.POWER_CEILING_W)
    (hboost : k = O.BOOST_MAX_MHZ → v % 50 = 0) (hdebug : k = O.DEBUG_PARTITION → s.obj O.DEBUG_ENABLE ≠ 1)
    (hcal : k = O.CAL_TEMP_FORCE_C → s.obj O.CAL_TEMP_DELTA_C ≤ v) : ¬s.RefusesPlain k v := by
  rintro (⟨hk, hv⟩ | ⟨hk, hv⟩ | ⟨hk, hv⟩ | ⟨hk, hv⟩)
  · exact Nat.not_lt.mpr (havg hk) hv
  · exact hv (hboost hk)
  · exact hdebug hk hv
  · exact Nat.not_lt.mpr (hcal hk) hv

section
variable {s : State} {who : Who} {k v : Nat} {r : ObjRow}

theorem State.plainWrite_absent_refused (hr : Dict.row k = some r)
    (h : (k = O.DISC_SELECT ∧ s.linkPresent v = false) ∨
      (k = O.SENSOR_INDEX ∧ sensorCount (s.selOf who O.SENSOR_DIE) ≤ v)) : s.plainWrite who k v = (s, St.refused) := by
  obtain ⟨rfl, hv⟩ | ⟨rfl, hv⟩ := h <;> simp [State.plainWrite, hr, hv]

theorem State.plainWrite_selector (hr : Dict.row k = some r) (hsel : r.sel = true)
    (hd : k = O.DISC_SELECT → s.linkPresent v = true)
    (hi : k = O.SENSOR_INDEX → v < sensorCount (s.selOf who O.SENSOR_DIE)) :
    s.plainWrite who k v = (s.setSel who k v, St.ok) := by
  have hd' : ¬(k = O.DISC_SELECT ∧ s.linkPresent v = false) := fun ⟨hk, hv⟩ => absurd (hd hk) (by simp [hv])
  have hi' : ¬(k = O.SENSOR_INDEX ∧ sensorCount (s.selOf who O.SENSOR_DIE) ≤ v) := fun ⟨hk, hv⟩ => absurd (hi hk) (by omega)
  simp [State.plainWrite, hr, hsel, hd', hi']

theorem State.plainWrite_refused (hr : Dict.row k = some r) (hsel : r.sel = false) (h : s.RefusesPlain k v) :
    s.plainWrite who k v = (s, St.refused) := by
  obtain ⟨rfl, hv⟩ | ⟨rfl, hv⟩ | ⟨rfl, hv⟩ | ⟨rfl, hv⟩ := h <;> simp [State.plainWrite, hr, hsel, hv]

/-- A value that no rule refuses is taken: at once, or through flash, and then PTP and the clock follow it. -/
theorem State.plainWrite_taken (hr : Dict.row k = some r) (hsel : r.sel = false) (hn : ¬s.RefusesPlain k v) :
    s.plainWrite who k v =
      if r.acc = .rwp then
        if (k = O.PTP_ENABLE ∨ k = O.PTP_DOMAIN) ∨ k = O.PTP_TRANSPORT then ((s.store k v).ptpChanged k, St.ok)
        else if (k = O.BOOST_MAX_MHZ ∧ v < (s.store k v).obj O.CLOCK_MHZ) ∧ 2000 < (s.store k v).obj O.CLOCK_MHZ then
          ((s.store k v).setClock v, St.ok)
        else (s.store k v, St.ok)
      else (s.put k v, St.ok) := by
  have hd : k ≠ O.DISC_SELECT := Dict.ne_of_row _ hr hsel Dict.row_discSelect_sel
  have hi : k ≠ O.SENSOR_INDEX := Dict.ne_of_row _ hr hsel Dict.row_sensorIndex_sel
  simp only [State.RefusesPlain, not_or] at hn
  obtain ⟨havg, hboost, hdebug, hcal⟩ := hn
  simp [State.plainWrite, hr, hsel, hd, hi, havg, hboost, hdebug, hcal]

end

/-! ### A value goes to flash (R504) -/

theorem State.storeInst_frame (s : State) (k i v : Nat) :
    SameMemory s (s.storeInst k i v) ∧ SameWork s (s.storeInst k i v) ∧ SameObjects s (s.storeInst k i v) [O.PERSIST_WRITES] := by
  unfold State.storeInst
  split
  · exact ⟨sameMemory_refl s, sameWork_refl s, fun _ _ => rfl⟩
  · exact ⟨sameMemory_refl s, sameWork_refl s, sameObjects_put _ _ _⟩

theorem State.storeInst_stored {s : State} (hd : s.mgmt.defer = none) (k i v : Nat) :
    (s.storeInst k i v).mgmt.stored = s.mgmt.stored.set (instKey k i) v := by
  rw [State.storeInst, hd]
  rfl

/-- A persistent object takes its value; flash has it already, or it goes there. -/
theorem State.store_cases (s : State) (k v : Nat) :
    (s.mgmt.stored.get k (Dict.dflt s.fullConfig k) = v ∧ s.store k v = s.put k v) ∨ s.store k v = (s.put k v).storeInst k 0 v := by
  unfold State.store
  split
  next h => exact .inl ⟨of_decide_eq_true (Bool.and_eq_true_iff.mp h).1, rfl⟩
  next => exact .inr rfl

theorem State.store_frame (s : State) (k v : Nat) :
    SameMemory s (s.store k v) ∧ SameWork s (s.store k v) ∧ SameObjects s (s.store k v) [k, O.PERSIST_WRITES] := by
  obtain ⟨-, h⟩ | h := s.store_cases k v <;> rw [h]
  · exact ⟨sameMemory_refl s, sameWork_refl s, fun i hi => s.obj_put_ne k v i (List.ne_of_not_mem_cons hi)⟩
  · obtain ⟨hm, hw, ho⟩ := (s.put k v).storeInst_frame k 0 v
    refine ⟨hm, hw, fun i hi => ?_⟩
    rw [ho i (List.not_mem_of_not_mem_cons hi), s.obj_put_ne k v i (List.ne_of_not_mem_cons hi)]

theorem State.store_obj (s : State) {k : Nat} (v : Nat) (hk : k ≠ O.PERSIST_WRITES) : (s.store k v).obj k = v := by
  obtain ⟨-, h⟩ | h := s.store_cases k v <;> rw [h]
  · exact State.obj_put_same ..
  · obtain ⟨-, -, ho⟩ := (s.put k v).storeInst_frame k 0 v
    rw [ho k (mt List.mem_singleton.mp hk), State.obj_put_same]

theorem instKey_zero (k : Nat) : instKey k 0 = k := by rw [instKey, Nat.zero_mul, Nat.add_zero]

theorem State.store_stored {s : State} (k v : Nat) (hd : s.mgmt.defer = none) :
    (s.store k v).mgmt.stored.get k (Dict.dflt s.fullConfig k) = v := by
  obtain ⟨hv, h⟩ | h := s.store_cases k v <;> rw [h]
  · exact hv
  · rw [State.storeInst_stored (s := s.put k v) hd, instKey_zero, Tab.get_set, if_pos rfl]

/-! ### Plain writes as commands -/

section
variable {s : State} {who : Who} {k v : Nat} {r : ObjRow}

theorem exec_registerWrite (ho : s.ownRow who k v = none) :
    exec (.registerWrite who k v) s = rowWrite s who k v (·.plainWrite who k v) := by
  have he : exec (.registerWrite who k v) s = execRegisterWrite who k v s := rfl
  rw [he, execRegisterWrite, ho]

theorem registerWrite_selector (ho : s.ownRow who k v = none) (h : Admits s who k v) (hr : Dict.row k = some r) (hsel : r.sel = true)
    (hd : k = O.DISC_SELECT → s.linkPresent v = true)
    (hi : k = O.SENSOR_INDEX → v < sensorCount (s.selOf who O.SENSOR_DIE)) :
    Completes (.registerWrite who k v) s (fun t => t.selOf who k = v ∧ Tells t who k St.ok ∧
      SameMemory s t ∧ SameWork s t ∧ SameObjects s t []) := by
  refine ⟨_, exec_of_answer (exec_registerWrite ho) h (State.plainWrite_selector hr hsel hd hi), s.selOf_setSel who k v,
    tells_send .., ?_⟩
  obtain ⟨m, hm⟩ := s.setSel_eq who k v
  rw [hm]
  exact ⟨sameMemory_refl s, sameWork_refl s, fun _ _ => rfl⟩

theorem registerWrite_persistent (ho : s.ownRow who k v = none) (h : Admits s who k v) (hr : Dict.row k = some r)
    (hacc : r.acc = .rwp) (ha : s.plainWrite who k v = (s.store k v, St.ok)) :
    Completes (.registerWrite who k v) s (fun t => t.obj k = v ∧ Tells t who k St.ok ∧
      (s.mgmt.defer = none → s.mgmt.persistQ = [] → t.mgmt.stored.get k (Dict.dflt s.fullConfig k) = v) ∧
      SameMemory s t ∧ SameWork s t ∧ SameObjects s t [k, O.PERSIST_WRITES]) := by
  have hk : k ≠ O.PERSIST_WRITES := Dict.ne_of_row _ hr (by simp [hacc]) Dict.row_persistWrites_acc
  exact ⟨_, exec_of_answer (exec_registerWrite ho) h ha, s.store_obj v hk, tells_send .., fun hd _ => State.store_stored k v hd,
    s.store_frame k v⟩

/-- A write that no rule refuses is taken at once, or goes on to flash. -/
theorem registerWrite_taken (ho : s.ownRow who k v = none) (h : Admits s who k v) (hr : Dict.row k = some r) (hsel : r.sel = false)
    (hn : ¬s.RefusesPlain k v) :
    (r.acc ≠ .rwp → exec (.registerWrite who k v) s = .next ((s.put k v).send (.status who k St.ok))) ∧
    (r.acc = .rwp → k ≠ O.PTP_ENABLE → k ≠ O.PTP_DOMAIN → k ≠ O.PTP_TRANSPORT → k ≠ O.BOOST_MAX_MHZ →
      Completes (.registerWrite who k v) s (fun t => t.obj k = v ∧ Tells t who k St.ok ∧
        (s.mgmt.defer = none → s.mgmt.persistQ = [] → t.mgmt.stored.get k (Dict.dflt s.fullConfig k) = v) ∧
        SameMemory s t ∧ SameWork s t ∧ SameObjects s t [k, O.PERSIST_WRITES])) := by
  have htaken := State.plainWrite_taken (who := who) hr hsel hn
  refine ⟨fun hacc => exec_of_answer (exec_registerWrite ho) h (htaken.trans (if_neg hacc)), fun hacc h1 h2 h3 h4 => ?_⟩
  exact registerWrite_persistent ho h hr hacc (by rw [htaken]; simp [hacc, h1, h2, h3, h4])

end

end Sys2Proof.Machine

/-! The end of a flash write: its value is stored, and the last one of a request lets its answer go (R502, R504). -/

namespace Sys2Proof.Machine

/-- What sending an answer leaves as it is. -/
structure OnlyAnswers (s t : State) : Prop where
  memory : SameMemory s t
  jobs : t.jobs = s.jobs
  net : t.net = s.net
  stored : t.mgmt.stored = s.mgmt.stored
  queue : t.mgmt.persistQ = s.mgmt.persistQ
  objects : SameObjects s t [O.FIELD_FRAMES_TX]

theorem State.interrupt_onlyAnswers (s : State) (n v : Nat) : OnlyAnswers s (s.interrupt n v) := by
  unfold State.interrupt
  dsimp only
  (repeat' split) <;> exact ⟨sameMemory_refl s, rfl, rfl, rfl, rfl, fun _ _ => rfl⟩

theorem State.sendMsg_onlyAnswers (s : State) (who : Who) (op : Nat) (m : Msg) (ctrl : Option Nat) :
    OnlyAnswers s (s.sendMsg who op m ctrl) := by
  unfold State.sendMsg
  split
  · dsimp only
    split
    · obtain ⟨hm, hj, hn, hs, hq, ho⟩ := State.interrupt_onlyAnswers _ _ _
      exact ⟨hm, hj, hn, hs, hq, ho⟩
    · exact ⟨sameMemory_refl s, rfl, rfl, rfl, rfl, fun _ _ => rfl⟩
  · split
    · exact ⟨sameMemory_refl s, rfl, rfl, rfl, rfl, sameObjects_put _ _ _⟩
    · exact ⟨sameMemory_refl s, rfl, rfl, rfl, rfl, fun _ _ => rfl⟩

theorem State.releaseAnswer_onlyAnswers (s : State) (req : Nat) : OnlyAnswers s (s.releaseAnswer req) := by
  unfold State.releaseAnswer
  split
  · exact ⟨sameMemory_refl s, rfl, rfl, rfl, rfl, fun _ _ => rfl⟩
  · obtain ⟨hm, hj, hn, hs, hq, ho⟩ := State.sendMsg_onlyAnswers _ _ _ _ _
    exact ⟨hm, hj, hn, hs, hq, ho⟩

/-- A message that does not go into a mailbox leaves as a datagram. -/
theorem State.sendMsg_datagram (s : State) {who : Who} (op : Nat) (m : Msg) (ctrl : Option Nat) (h : Who.mbx who = none) :
    s.sendMsg who op m ctrl = (if Who.isField who then s.inc O.FIELD_FRAMES_TX else s).send (.message who op m) := by
  unfold State.sendMsg
  split
  next hn => rw [h] at hn; cases hn
  next => rfl

theorem State.releaseAnswer_datagram {s : State} {req : Nat} {h : HeldAnswer} (hh : s.mgmt.held.find? (·.req = req) = some h)
    (hw : Who.mbx h.who = none) :
    (s.releaseAnswer req).mgmt.held = s.mgmt.held.erase h ∧
      (s.releaseAnswer req).out.head? = some (.message h.who h.op h.msg) := by
  rw [State.releaseAnswer, hh]
  dsimp only
  rw [State.sendMsg_datagram _ _ _ _ hw]
  split <;> exact ⟨rfl, rfl⟩

/-- The oldest flash write is stored and leaves the queue. -/
def State.persistStored (s : State) (j : PersistJob) (rest : List PersistJob) : State :=
  State.inc { s with mgmt.persistQ := rest, mgmt.stored := s.mgmt.stored.set (instKey j.key j.inst) j.val } O.PERSIST_WRITES

theorem State.persistDone_of_plain {s : State} {j : PersistJob} {rest : List PersistJob} (hq : s.mgmt.persistQ = j :: rest)
    (hf : j.key ≠ O.FACTORY_INIT) (hl : limitedKeys.contains j.key = false) :
    s.persistDone =
      if rest.any (·.req = j.req) then s.persistStored j rest else (s.persistStored j rest).releaseAnswer j.req := by
  simp only [State.persistDone, hq, if_neg hf, hl]
  rfl

theorem persistWriteComplete_idle {s : State} (hq : s.mgmt.persistQ = []) : exec .persistWriteComplete s = .next s := by
  have he : exec .persistWriteComplete s = .next s.persistDone := rfl
  rw [he, State.persistDone, hq]

theorem persistWriteComplete_stores {s : State} {j : PersistJob} {rest : List PersistJob} (hq : s.mgmt.persistQ = j :: rest)
    (hf : j.key ≠ O.FACTORY_INIT) (hl : limitedKeys.contains j.key = false) :
    Completes .persistWriteComplete s (fun t => t.mgmt.persistQ = rest ∧
      t.mgmt.stored.get (instKey j.key j.inst) 0 = j.val ∧
      t.obj O.PERSIST_WRITES = (s.obj O.PERSIST_WRITES + 1) % 2 ^ 64 ∧ SameMemory s t ∧ t.jobs = s.jobs ∧ t.net = s.net ∧
      (rest.any (·.req = j.req) = true → t.mgmt.held = s.mgmt.held ∧ t.out = s.out) ∧
      (∀ h, rest.any (·.req = j.req) = false → s.mgmt.held.find? (·.req = j.req) = some h → Who.mbx h.who = none →
        t.mgmt.held = s.mgmt.held.erase h ∧ t.out.head? = some (.message h.who h.op h.msg))) := by
  have hval : (s.persistStored j rest).mgmt.stored.get (instKey j.key j.inst) 0 = j.val := (Tab.get_set ..).trans (if_pos rfl)
  have hcount : (s.persistStored j rest).obj O.PERSIST_WRITES = (s.obj O.PERSIST_WRITES + 1) % 2 ^ 64 := State.obj_put_same ..
  refine ⟨s.persistDone, rfl, ?_⟩
  rw [State.persistDone_of_plain hq hf hl]
  split
  next hany =>
    exact ⟨rfl, hval, hcount, sameMemory_refl s, rfl, rfl, fun _ => ⟨rfl, rfl⟩, fun _ hn => absurd (hany.symm.trans hn) (by decide)⟩
  next hany =>
    obtain ⟨hm, hj, hn, hs, hq', ho⟩ := (s.persistStored j rest).releaseAnswer_onlyAnswers j.req
    refine ⟨hq', ?_, ?_, hm, hj, hn, fun hn => absurd hn hany, fun h _ hh hw => State.releaseAnswer_datagram hh hw⟩
    · rw [hs, hval]
    · rw [ho _ (by decide), hcount]

end Sys2Proof.Machine

/-! FACTORY_INIT (R510). `State.homed` is what the layout's return and the loss of the image keys concern. What acts by
the defaults of links, clock and PTP leaves it as it is: one lemma for each function, tagged for `simp` before it visits the
arguments. -/

namespace Sys2Proof.Machine

/-- The layout and the image keys. -/
def State.homed (s : State) : Layout × Tab Nat := (s.layout, s.sec.imageKeys)

@[simp ↓] theorem State.homed_mk (dict now fresh out fullConfig layout mgmt time sec boot dbg beat net jobs host power optics
    flashCk storeCk mem poison pending) :
    State.homed ⟨dict, now, fresh, out, fullConfig, layout, mgmt, time, sec, boot, dbg, beat, net, jobs, host, power, optics,
      flashCk, storeCk, mem, poison, pending⟩ = (layout, sec.imageKeys) := Prod.ext rfl rfl

@[simp ↓] theorem State.homed_eta (s : State) : (s.layout, s.sec.imageKeys) = s.homed := Prod.ext rfl rfl

@[simp ↓] theorem State.homed_ite (c : Prop) [Decidable c] (a b : State) :
    (if c then a else b).homed = if c then a.homed else b.homed := apply_ite ..

@[simp ↓] theorem foldl_homed {α : Type} (f : State → α → State) (l : List α) (s : State)
    (h : ∀ s x, (f s x).homed = s.homed) : (l.foldl f s).homed = s.homed := by
  induction l generalizing s with
  | nil => rfl
  | cons x l ih => rw [List.foldl_cons, ih, h]

@[simp ↓] theorem State.put_homed (s : State) (k v : Nat) : (s.put k v).homed = s.homed := rfl
@[simp ↓] theorem State.add_homed (s : State) (k n : Nat) : (s.add k n).homed = s.homed := rfl
@[simp ↓] theorem State.inc_homed (s : State) (k : Nat) : (s.inc k).homed = s.homed := rfl
@[simp ↓] theorem State.send_homed (s : State) (o : Out) : (s.send o).homed = s.homed := rfl
@[simp ↓] theorem State.setLink_homed (s : State) (n : Nat) (l : LinkSt) : (s.setLink n l).homed = s.homed := rfl
@[simp ↓] theorem State.markCond_homed (s : State) : s.markCond.homed = s.homed := rfl

@[simp ↓] theorem State.raise_homed (s : State) (code : Nat) (a : EvArgs) : (s.raise code a).homed = s.homed :=
  Prod.ext (State.raise_layout ..) (congrArg Sec.imageKeys (State.raise_sec ..))

@[simp ↓] theorem State.storeInst_homed (s : State) (k i v : Nat) : (s.storeInst k i v).homed = s.homed := by
  unfold State.storeInst
  split <;> simp

@[simp ↓] theorem State.store_homed (s : State) (k v : Nat) : (s.store k v).homed = s.homed := by simp [State.store]

/-! ### Links -/

@[simp ↓] theorem State.raiseDisc_homed (s : State) (code n : Nat) : (s.raiseDisc code n).homed = s.homed := by simp [State.raiseDisc]
@[simp ↓] theorem State.checkAcquire_homed (s : State) (n : Nat) : (s.checkAcquire n).homed = s.homed := by simp [State.checkAcquire]
@[simp ↓] theorem State.updCritical_homed (s : State) : s.updCritical.homed = s.homed := by simp [State.updCritical]
@[simp ↓] theorem State.judge_homed (s : State) (n : Nat) : (s.judge n).homed = s.homed := by simp [State.judge]
@[simp ↓] theorem State.judgeAll_homed (s : State) : s.judgeAll.homed = s.homed := by simp [State.judgeAll]

@[simp ↓] theorem State.accountLanes_homed (s : State) (n : Nat) : (s.accountLanes n).homed = s.homed := by
  simp only [State.accountLanes]
  split <;> simp

@[simp ↓] theorem State.abortInput_homed (s : State) (n : Nat) : (s.abortInput n).homed = s.homed := by
  simp only [State.abortInput]
  split <;> simp

@[simp ↓] theorem State.setLstate_homed (s : State) (n v : Nat) : (s.setLstate n v).homed = s.homed := by simp [State.setLstate]

@[simp ↓] theorem State.startTraining_homed (s : State) (n : Nat) : (s.startTraining n).homed = s.homed := by
  simp [State.startTraining]

@[simp ↓] theorem State.linkEnable_homed (s : State) (n v : Nat) : (s.linkEnable n v).homed = s.homed := by simp [State.linkEnable]

/-! ### Clock and PTP -/

@[simp ↓] theorem State.moveEnd_homed (s : State) : s.moveEnd.homed = s.homed := by simp [State.moveEnd]
@[simp ↓] theorem State.beginMove_homed (s : State) : s.beginMove.homed = s.homed := by simp [State.beginMove]
@[simp ↓] theorem State.setPtp_homed (s : State) (v : Nat) : (s.setPtp v).homed = s.homed := rfl

@[simp ↓] theorem State.reselect_homed (s : State) (was : Option PtpMaster) : (s.reselect was).homed = s.homed := by
  unfold State.reselect
  split
  · simp
  · split <;> simp

/-! ### The end of the other sessions -/

theorem Tab.find_drop {β : Type} (t : Tab β) (f : Nat → Bool) (i : Nat) :
    (t.drop f).find i = if f i = true then none else t.find i := by
  induction t with
  | nil => simp [Tab.drop, Tab.find]
  | cons e t ih =>
    obtain ⟨k, v⟩ := e
    rw [Tab.drop] at ih ⊢
    by_cases hk : f k = true
    case pos =>
      rw [List.filter_cons_of_neg (by simp [hk]), ih, Tab.find]
      split
      · rfl
      next hi => rw [if_neg (by rintro rfl; exact hi hk)]
    case neg =>
      rw [List.filter_cons_of_pos (by simp [hk]), Tab.find, Tab.find, ih]
      split
      next hi => rw [if_neg (by rwa [hi])]
      next => rfl

/-- Every session but the requester's is gone. -/
theorem State.endSessions_find (s : State) {who : Who} {n : Nat} (h : n ≠ who.session) :
    (s.endSessions (some who)).mgmt.sessions.find n = none := by
  unfold State.endSessions
  dsimp only
  refine (Tab.find_drop ..).trans (if_pos ?_)
  split
  · rfl
  · simp [h.symm]

/-! ### The return to the factory's values -/

theorem State.endSessions_homed (s : State) (keep : Option Who) : (s.endSessions keep).homed = s.homed := rfl

theorem State.rwpDefaults_homed (s : State) : s.rwpDefaults.homed = (s.layout, []) := by
  simp only [State.rwpDefaults]
  simp

theorem State.layoutHome_layout (s : State) : s.layoutHome.layout = s.factoryLayout := by
  have hhome : s.layoutHome.layout = s.layoutHome.factoryLayout := rfl
  have hcfg : s.layoutHome.fullConfig = s.fullConfig := congrArg Prod.snd s.layoutHome_fixed
  rw [hhome, State.factoryLayout, hcfg]
  rfl

theorem State.factoryInit_of_closed {s : State} {who : Who} (h : s.factoryOpen = false) : s.factoryInit who = (s, St.refused) := by
  rw [State.factoryInit, h]
  rfl

/-- An idle module keeps its audit's entry, takes the factory layout and the defaults, and ends the other sessions; the event is queued
behind the flash writes. -/
theorem State.factoryInit_of_open {s : State} {who : Who} (h : s.factoryOpen = true) :
    ∃ u : State, s.factoryInit who =
        ({ u with mgmt.persistQ := u.mgmt.persistQ ++ [{ key := O.FACTORY_INIT, inst := 0, val := 1, req := 0 }] }, St.ok) ∧
      u.homed = (s.factoryLayout, []) ∧
      ∀ n, n ≠ who.session → u.mgmt.sessions.find n = none := by
  refine ⟨((s.audit who 12 O.FACTORY_INIT 0xFF 0 0).layoutHome.rwpDefaults).endSessions (some who), ?_, ?_,
    fun n hn => State.endSessions_find _ hn⟩
  · rw [State.factoryInit, h]
    rfl
  · have hcfg : (s.audit who 12 O.FACTORY_INIT 0xFF 0 0).fullConfig = s.fullConfig := congrArg Prod.snd (s.audit_fixed ..)
    rw [State.endSessions_homed, State.rwpDefaults_homed, State.layoutHome_layout, State.factoryLayout, hcfg, State.factoryLayout]

theorem exec_factoryInit (who : Who) (v : Nat) (s : State) :
    exec (.factoryInit who v) s = rowWrite s who O.FACTORY_INIT v (·.factoryInit who) := rfl

theorem factoryInit_restores {s : State} {who : Who} {v : Nat} (h : Admits s who O.FACTORY_INIT v) (hopen : s.factoryOpen = true) :
    Completes (.factoryInit who v) s (fun t => t.layout = s.factoryLayout ∧ t.sec.imageKeys = [] ∧
      (∀ n, n ≠ who.session → t.mgmt.sessions.find n = none) ∧
      t.mgmt.persistQ.getLast? = some { key := O.FACTORY_INIT, inst := 0, val := 1, req := 0 } ∧
      Tells t who O.FACTORY_INIT St.ok) := by
  obtain ⟨u, hu, hhome, hsess⟩ := State.factoryInit_of_open (who := who) hopen
  exact ⟨_, exec_of_answer (exec_factoryInit ..) h hu, congrArg Prod.fst hhome, congrArg Prod.snd hhome, hsess,
    List.getLast?_concat .., tells_send ..⟩

theorem factoryInit_refused {s : State} {who : Who} {v : Nat} (h : Admits s who O.FACTORY_INIT v) (hc : s.factoryOpen = false) :
    exec (.factoryInit who v) s = .next (s.send (.status who O.FACTORY_INIT St.refused)) :=
  exec_of_answer (exec_factoryInit ..) h (State.factoryInit_of_closed hc)

/-- Settles O55: a plain write answers by its row, the oldest flash write is stored before its answer goes, and what follows the factory's
values leaves the layout and the keys. -/
theorem plainObjectsTakeTheirValues : Obligations.PlainObjectsTakeTheirValues := by
  intro s
  refine ⟨fun who k v r ho h hr => ⟨?_, ?_, ?_, ?_⟩, ?_, fun j rest hq hf hl => persistWriteComplete_stores hq hf hl,
    fun who v h => ⟨factoryInit_refused h, factoryInit_restores h⟩⟩
  · exact fun habs => exec_of_answer (exec_registerWrite ho) h (State.plainWrite_absent_refused hr habs)
  · exact registerWrite_selector ho h hr
  · exact fun hsel hbad => exec_of_answer (exec_registerWrite ho) h (State.plainWrite_refused hr hsel hbad)
  · exact fun hsel havg hboost hdebug hcal => registerWrite_taken ho h hr hsel (State.not_refusesPlain havg hboost hdebug hcal)
  · exact persistWriteComplete_idle

end Sys2Proof.Machine

/-! Operations on tiles (R226, R244): the operation that a command finds has the command's opcode, so what it computes is what the
opcode names, and a command that finds one issues it. -/

namespace Sys2Proof.Machine

/-! ### The operation found -/

/-- The next operation of a release is due and of a kind, and no untagged completion of it stands (R354). -/
def State.FindsDue (s : State) (p rel opcode : Nat) (s1 : State) (c : OpCtx) (r : Rel) : Prop :=
  s.findOp p rel opcode = some (s1, c, r) ∧ s1.stands c = false

theorem State.opcode_of_opDue {s : State} {p opcode : Nat} {r : Rel} {c : OpCtx} (h : s.opDue p r c opcode = true) :
    c.op.opcode = opcode := by
  simp only [State.opDue, Bool.and_eq_true, decide_eq_true_eq] at h
  simp only [h]

theorem State.opcode_of_findOp {s s1 : State} {p rel opcode : Nat} {c : OpCtx} {r : Rel}
    (h : s.findOp p rel opcode = some (s1, c, r)) : c.op.opcode = opcode := by
  unfold State.findOp at h
  split at h
  next => cases h
  next =>
    dsimp only at h
    split at h
    next => cases h
    next =>
      split at h
      next hdue =>
        have hopcode := State.opcode_of_opDue hdue
        cases h
        exact hopcode
      next => cases h

theorem State.FindsDue.opcode_eq {s s1 : State} {p rel opcode : Nat} {c : OpCtx} {r : Rel} (h : s.FindsDue p rel opcode s1 c r) :
    c.op.opcode = opcode := State.opcode_of_findOp h.1

/-! ### What an opcode computes -/

section
variable {s : State} {c : OpCtx}

theorem State.compute_matmul (h : c.op.opcode = 0x0101) : s.compute c = (s.matmul c, 0) := by simp [State.compute, h]

theorem State.compute_embedGrad (h : c.op.opcode = 0x0102) : s.compute c = s.embedGrad c := by simp [State.compute, h]

theorem State.compute_optStep (h : c.op.opcode = 0x0601) : s.compute c = (s.optStep c, 0) := by simp [State.compute, h]

theorem State.compute_fold (h : c.op.opcode = 0x0701) : s.compute c = ((s.foldStep c).1, 0) := by simp [State.compute, h]

/-- Every opcode without an engine of its own is the vector engine's (R247). -/
theorem State.compute_vector (h : c.op.opcode ∉ [0x0101, 0x0102, 0x0601, 0x0701]) : s.compute c = s.vector c := by
  simp only [List.mem_cons, List.not_mem_nil, or_false, not_or] at h
  obtain ⟨hmatmul, hembed, hopt, hfold⟩ := h
  simp [State.compute, hmatmul, hembed, hopt, hfold]

end

/-! ### The command that finds it -/

section
variable {s s1 : State} {p rel opcode : Nat} {c : OpCtx} {r : Rel} (h : s.FindsDue p rel opcode s1 c r)
include h

theorem State.runOp_of_findsDue (issue : State → OpCtx → Rel → State) :
    s.runOp p rel opcode issue = (issue s1 c r).afterWork p := by
  obtain ⟨hfind, hstands⟩ := h
  simp [State.runOp, hfind, hstands]

theorem State.runTiles_of_findsDue (waited : Nat) :
    s.runTiles p rel opcode waited = (s1.issueTiles c r waited).afterWork p := State.runOp_of_findsDue h _

theorem State.runVector_of_findsDue (waited stalled trimmed : Nat) :
    s.runVector p rel opcode waited stalled trimmed = ((s1.slots c.p stalled trimmed).issueTiles c r waited).afterWork p :=
  State.runOp_of_findsDue h _

end

section
variable {i : Instr} {s s1 : State} {p rel opcode waited stalled trimmed : Nat} {c : OpCtx} {r : Rel}

theorem exec_tiles_of_findsDue (hexec : exec i s = .next (s.runTiles p rel opcode waited)) (h : s.FindsDue p rel opcode s1 c r) :
    exec i s = .next ((s1.issueTiles c r waited).afterWork p) :=
  hexec.trans (congrArg _ (State.runTiles_of_findsDue h waited))

theorem exec_slots_of_findsDue (hexec : exec i s = .next (s.runVector p rel opcode waited stalled trimmed))
    (h : s.FindsDue p rel opcode s1 c r) :
    exec i s = .next (((s1.slots c.p stalled trimmed).issueTiles c r waited).afterWork p) :=
  hexec.trans (congrArg _ (State.runVector_of_findsDue h ..))

theorem exec_vector_of_findsDue (hexec : exec i s = .next (s.runVector p rel opcode waited stalled trimmed))
    (hopcode : opcode ∉ [0x0101, 0x0102, 0x0601, 0x0701]) (h : s.FindsDue p rel opcode s1 c r) :
    exec i s = .next (((s1.slots c.p stalled trimmed).issueTiles c r waited).afterWork p) ∧ s1.compute c = s1.vector c :=
  ⟨exec_slots_of_findsDue hexec h, State.compute_vector (h.opcode_eq ▸ hopcode)⟩

end

/-- Settles O18: each command issues the operation that it finds, whose opcode, the command's own, says what it computes. -/
theorem tileOperationsIssue : Obligations.TileOperationsIssue := by
  intro part rel waited stalled trimmed s s1 c r t u due
  have opcode_eq {opcode : Nat} (h : due opcode) : c.op.opcode = opcode := State.FindsDue.opcode_eq h
  refine ⟨?matmul, ?embedGrad, ?ewChain, ?reduceRow, ?reduceCols, ?layernorm, ?layernormGrad, ?rmsnorm, ?rmsnormGrad, ?softmax,
    ?softmaxGrad, ?xent, ?gather, ?cast, ?requantize, ?lossSeed, ?optStep, ?fold⟩
  case matmul => exact fun h => ⟨exec_tiles_of_findsDue rfl h, State.compute_matmul (opcode_eq h)⟩
  case embedGrad => exact fun h => ⟨exec_tiles_of_findsDue rfl h, State.compute_embedGrad (opcode_eq h)⟩
  case optStep => exact fun h => ⟨exec_slots_of_findsDue rfl h, State.compute_optStep (opcode_eq h)⟩
  case fold => exact fun h => ⟨exec_slots_of_findsDue rfl h, State.compute_fold (opcode_eq h)⟩
  all_goals exact exec_vector_of_findsDue rfl (by decide)

end Sys2Proof.Machine

/-! The step's vote (chapter 7): contributions combine in any order and grouping (R191), and the two commands of a vote that waits
(R193, R194, R209). -/

namespace Sys2Proof.Machine

/-! ### Contributions combine (Table 7.1, R191) -/

/-- What the equality rule compares of a contribution. -/
def Contrib.compared (a : Contrib) : Nat × Nat × Nat × Nat × Nat × Nat :=
  (a.step, a.round, a.layers.length, a.lr, a.wd, a.commitRound)

/-- The mark of an inconsistency that two contributions leave. -/
def Contrib.mark (a b : Contrib) : Nat := if a.compared = b.compared then 0 else 16

theorem Contrib.eq_of_fields {a b : Contrib} (hsumsq : a.sumsq = b.sumsq) (hnonfinite : a.nonfinite = b.nonfinite)
    (hstep : a.step = b.step) (hcontributors : a.contributors = b.contributors) (hfail : a.failChip = b.failChip)
    (hflags : a.flags = b.flags) (hround : a.round = b.round) (hlr : a.lr = b.lr) (hwd : a.wd = b.wd)
    (hcommit : a.commitRound = b.commitRound) (hlayers : a.layers = b.layers) : a = b := by
  cases a; cases b; congr

theorem Contrib.combine_flags (a b : Contrib) : (a.combine b).flags = a.flags ||| b.flags ||| a.mark b := by
  simp only [Contrib.combine, Contrib.mark, Contrib.compared, Prod.mk.injEq, Bool.and_eq_true, decide_eq_true_eq, and_assoc]

theorem Contrib.combine_compared (a b : Contrib) :
    (a.combine b).compared = (min a.step b.step, min a.round b.round, min a.layers.length b.layers.length, min a.lr b.lr,
      min a.wd b.wd, min a.commitRound b.commitRound) := by
  have hlayers : (a.combine b).layers.length = min a.layers.length b.layers.length := (List.length_map _).trans List.length_zip
  rw [Contrib.compared, hlayers]
  rfl

theorem Contrib.compared_combine {a b : Contrib} (h : a.compared = b.compared) : (a.combine b).compared = b.compared := by
  simp only [Contrib.compared, Prod.mk.injEq] at h
  rw [Contrib.combine_compared, Contrib.compared]
  simp only [h, Nat.min_self]

theorem Contrib.mark_comm (a b : Contrib) : a.mark b = b.mark a := by simp only [Contrib.mark, eq_comm]

/-- The marks of three contributions, whichever two combine first: none when all three agree. -/
theorem Contrib.mark_combine_left (a b c : Contrib) :
    a.mark b ||| (a.combine b).mark c = if a.compared = b.compared ∧ b.compared = c.compared then 0 else 16 := by
  by_cases h : a.compared = b.compared
  · simp [Contrib.mark, h, Contrib.compared_combine h]
  · simp only [Contrib.mark, h, false_and, if_false]
    split <;> rfl

theorem zip_addMod_comm (m : Nat) (xs ys : List Nat) :
    (xs.zip ys).map (fun x => (x.1 + x.2) % m) = (ys.zip xs).map (fun x => (x.1 + x.2) % m) := by
  refine List.ext_getElem (by simp [Nat.min_comm]) fun i _ _ => ?_
  simp only [List.getElem_map, List.getElem_zip]
  rw [Nat.add_comm]

theorem zip_addMod_assoc (m : Nat) (xs ys zs : List Nat) :
    (((xs.zip ys).map (fun x => (x.1 + x.2) % m)).zip zs).map (fun x => (x.1 + x.2) % m) =
      (xs.zip ((ys.zip zs).map (fun x => (x.1 + x.2) % m))).map (fun x => (x.1 + x.2) % m) :=
  List.ext_getElem (by simp [Nat.min_assoc]) (by simp [Nat.add_assoc])

theorem Contrib.combine_comm (a b : Contrib) : a.combine b = b.combine a := by
  apply Contrib.eq_of_fields
  case hflags => rw [Contrib.combine_flags, Contrib.combine_flags, Contrib.mark_comm, Nat.or_comm a.flags]
  case hlayers => exact zip_addMod_comm _ a.layers b.layers
  all_goals simp only [Contrib.combine, Nat.add_comm, Nat.min_comm]

theorem Contrib.mark_combine_right (a b c : Contrib) :
    b.mark c ||| a.mark (b.combine c) = if a.compared = b.compared ∧ b.compared = c.compared then 0 else 16 := by
  rw [Contrib.mark_comm b c, Contrib.mark_comm a, Contrib.combine_comm b c, Contrib.mark_combine_left]
  exact ite_congr (propext (and_comm.trans (and_congr eq_comm eq_comm))) (fun _ => rfl) (fun _ => rfl)

theorem Contrib.combine_flags_assoc (a b c : Contrib) :
    ((a.combine b).combine c).flags = (a.combine (b.combine c)).flags := by
  calc ((a.combine b).combine c).flags
      = a.flags ||| b.flags ||| c.flags ||| (a.mark b ||| (a.combine b).mark c) := by
        simp only [Contrib.combine_flags]; ac_rfl
    _ = a.flags ||| b.flags ||| c.flags ||| (b.mark c ||| a.mark (b.combine c)) := by
        rw [Contrib.mark_combine_left, Contrib.mark_combine_right]
    _ = (a.combine (b.combine c)).flags := by
        simp only [Contrib.combine_flags]; ac_rfl

theorem Contrib.combine_assoc (a b c : Contrib) : (a.combine b).combine c = a.combine (b.combine c) := by
  apply Contrib.eq_of_fields
  case hflags => exact Contrib.combine_flags_assoc a b c
  case hlayers => exact zip_addMod_assoc _ a.layers b.layers c.layers
  case hsumsq | hcontributors => simp only [Contrib.combine, Nat.mod_add_mod, Nat.add_mod_mod, Nat.add_assoc]
  case hnonfinite => simp only [Contrib.combine]; omega
  all_goals exact Nat.min_assoc ..

/-- Settles O21: every field is a sum, a minimum or an OR, and three contributions end up marked exactly when not all of them agree. -/
theorem contributionsCombineInAnyOrder : Obligations.ContributionsCombineInAnyOrder :=
  fun a b c => ⟨Contrib.combine_comm a b, Contrib.combine_assoc a b c⟩

/-! ### A vote's deadline (R209), and a contribution whose turn comes (R193, R194) -/

theorem exec_voteTimeout (part : Fin 4) (s : State) : exec (.voteTimeout part) s = execVoteTimeout part s := rfl

theorem State.dropWaiting_jobs (s : State) (p : Nat) : (s.dropWaiting p).jobs = s.jobs := rfl

theorem State.dropWaiting_obj (s : State) (p k : Nat) (h : k ≠ O.NO_ROUTE_DROPPED) : (s.dropWaiting p).obj k = s.obj k :=
  State.obj_put_ne _ _ _ _ h

/-- VOTE_STATE is neither of the two counters that a lost vote may move. -/
theorem voteState_ne_counters (part : Fin 4) :
    O.at O.VOTE_STATE part.val ≠ O.EVENTS_LOST ∧ O.at O.VOTE_STATE part.val ≠ O.NO_ROUTE_DROPPED := by
  revert part; decide

/-- A partition's vote is lost (R209): its deadline goes, VOTE_STATE reads 5, 0x3906 is raised, and its waiting packets are dropped. -/
def State.voteLost (s : State) (p : Nat) : State :=
  (((s.setJob p { s.job p with voteDeadline := none }).put (O.at O.VOTE_STATE p) 5).raise 0x3906 { part := p }).dropWaiting p

theorem State.voteLost_job (s : State) (p : Nat) : (s.voteLost p).job p = { s.job p with voteDeadline := none } := by
  rw [State.voteLost, State.job, State.dropWaiting_jobs, State.raise_jobs, State.put_jobs]
  exact State.job_setJob_same ..

theorem State.voteLost_obj (s : State) (part : Fin 4) : (s.voteLost part.val).obj (O.at O.VOTE_STATE part.val) = 5 := by
  obtain ⟨hlost, hdropped⟩ := voteState_ne_counters part
  rw [State.voteLost, State.dropWaiting_obj _ _ _ hdropped, State.raise_obj _ _ _ _ hlost, State.obj_put_same]

theorem State.voteLost_sameMemory (s : State) (p : Nat) : SameMemory s (s.voteLost p) :=
  ⟨State.raise_mem .., State.raise_poison .., State.raise_layout ..⟩

section
variable {part : Fin 4} {s : State} {d : Nat} (h : (s.job part.val).voteDeadline = some d)
include h

theorem exec_voteTimeout_reached (hd : d ≤ s.obj O.BEAT_COUNT) : exec (.voteTimeout part) s = .next (s.voteLost part.val) := by
  simp only [exec_voteTimeout, execVoteTimeout, h, if_pos hd, State.voteLost]

theorem exec_voteTimeout_early (hd : s.obj O.BEAT_COUNT < d) : exec (.voteTimeout part) s = .next s := by
  simp only [exec_voteTimeout, execVoteTimeout, h, if_neg (Nat.not_le.mpr hd)]

end

theorem exec_voteTimeout_idle {part : Fin 4} {s : State} (h : (s.job part.val).voteDeadline = none) :
    exec (.voteTimeout part) s = .next s := by
  simp only [exec_voteTimeout, execVoteTimeout, h]

/-- A formed contribution goes out once the FINAL weight's packets have gone (R194). -/
theorem State.normSend_of_formed {s : State} {p : Nat} {x : Contrib} (h : (s.job p).formed = some x)
    (hfinal : s.finalHanded p (s.stepNo p) = true) :
    let r := (s.setJob p { s.job p with formed := none }).contribute p x
    s.normSend p = if r.2 then r.1.commitOpen p else r.1 := by
  simp only [State.normSend, h, hfinal, if_true]

/-- Settles O22: the deadline decides between a lost vote and nothing, and a contribution that is formed and may go joins the vote. -/
theorem voteTimesOut : Obligations.VoteTimesOut := by
  refine fun part s => ⟨fun d h hd => ?reached, fun d h hd => ?early, fun h => ?idle, fun x h hfinal => ?contributes⟩
  case reached =>
    refine ⟨_, exec_voteTimeout_reached h hd, s.voteLost_obj part, ?_, rfl, s.voteLost_sameMemory part.val⟩
    rw [State.voteLost_job]
  case early => exact exec_voteTimeout_early h hd
  case idle => exact exec_voteTimeout_idle h
  case contributes => exact ⟨_, rfl, congrArg (State.settle · part.val) (State.normSend_of_formed h hfinal)⟩

end Sys2Proof.Machine

/-! Descriptors (R481 to R487): a queue pair with nothing waiting fetches a descriptor and starts it at once, and a started
descriptor does what its opcode names. -/

namespace Sys2Proof

theorem Tab.set_set {β : Type} (t : Tab β) (k : Nat) (v w : β) : (t.set k v).set k w = t.set k w := by
  induction t with
  | nil => simp [Tab.set]
  | cons e t ih =>
    obtain ⟨k', v'⟩ := e
    by_cases heq : k = k'
    · simp [Tab.set, heq]
    · by_cases hlt : k < k'
      · simp [Tab.set, heq, hlt]
      · simp [Tab.set, heq, hlt, ih]

end Sys2Proof

namespace Sys2Proof.Machine

/-! ### A queue pair replaced -/

section
variable (s : State) (n q : Nat) (x : QPair)

@[simp] theorem State.setQp_setQp (y : QPair) : (s.setQp n q x).setQp n q y = s.setQp n q y := by
  simp [State.setQp, State.setPort, State.port, Tab.get_set, Tab.set_set]

@[simp] theorem State.setQp_descHeld (m : Nat) (d : Desc) : (s.setQp n q x).descHeld m d = s.descHeld m d := rfl

@[simp] theorem State.setQp_descRange (r : Nat) : (s.setQp n q x).descRange r = s.descRange r := rfl

@[simp] theorem State.setQp_portPart (m : Nat) : (s.setQp n q x).portPart m = s.portPart m := rfl

end

/-! ### Starting (R483) -/

/-- What a descriptor that starts for partition p does: its opcode's operation. -/
def State.descWork (s : State) (p : Nat) (who : Nat × Nat × Nat) (raw : Nat) (data : List Byte) : State :=
  match recF raw 0 1 with
  | 0x01 => s.descTransfer p who raw data
  | 0x02 => s.descSyncArm p who raw
  | 0x03 => s.descSyncPost p who raw
  | 0x10 => s.descLoad p who raw
  | 0x11 => s.requestUnload p (some who)
  | 0x12 => (s.restoreStart p (recF raw 8 8) (some who)).1
  | 0x20 => s.descMicrobatch p who raw data
  | 0x21 => s.descStepParam p who raw
  | 0x30 => s.descRegister p who raw
  | _ => s.descRelease p who raw

/-- A queue pair with a descriptor among those that run. -/
def QPair.withRunning (x : QPair) (d : Desc) : QPair := { x with running := x.running ++ [(d.seq, recF d.raw 2 2, recF d.raw 0 1)] }

section
variable {s : State} {n q : Nat} {d : Desc}

theorem State.runDesc_malformed
    (hbad : descOps.contains (recF d.raw 0 1) = false ∨ descResv d.raw = true ∨ s.descRange d.raw = true) :
    s.runDesc n q d = (s.setQp n q ((s.qp n q).withRunning d)).finishDesc (n, q, d.seq) Ds.malformed 0 := by
  rw [State.runDesc, if_pos (by simpa [or_assoc] using hbad)]
  rfl

theorem State.runDesc_works {p : Nat} (hknown : descOps.contains (recF d.raw 0 1) = true) (hresv : descResv d.raw = false)
    (hrange : s.descRange d.raw = false) (hpart : s.portPart n = some p) (hchip : s.obj O.CHIP_STATE ≠ 2) :
    s.runDesc n q d = (s.setQp n q ((s.qp n q).withRunning d)).descWork p (n, q, d.seq) d.raw d.data := by
  simp only [State.runDesc, State.setQp_descRange, State.setQp_portPart, State.setQp_obj, hknown, hresv, hrange, hpart, hchip]
  rfl

end

/-! ### Fetching (R481, R482) -/

/-- The descriptor that a queue pair fetches next. -/
def QPair.next (x : QPair) (raw : Nat) (data : List Byte) : Desc := { seq := x.seqNext, raw := raw, data := data }

/-- A queue pair past its next descriptor, with none waiting. -/
def QPair.fetched (x : QPair) : QPair :=
  { x with sqHead := (x.sqHead + 1) % max 1 x.sqSize, seqNext := x.seqNext + 1, waiting := [] }

/-- The state in which a descriptor starts: the pair has fetched it, and it runs. -/
def State.started (s : State) (n q raw : Nat) (data : List Byte) : State :=
  s.setQp n q ((s.qp n q).fetched.withRunning ((s.qp n q).next raw data))

/-- A queue pair fetches this descriptor, and nothing holds the descriptor back (R279, R424, R481, R482). -/
structure State.FetchesFree (s : State) (n q raw : Nat) (data : List Byte) : Prop where
  enabled : (s.qp n q).state = 1
  control : (s.qp n q).enable = true
  entry : (s.qp n q).sqHead ≠ (s.qp n q).sqTail
  noRecord : (s.qp n q).held = []
  room : (s.qp n q).full = false
  alone : (s.qp n q).waiting = []
  fence : bit (recF raw 1 1) 0 = true →
    (∀ r, r ∈ (s.qp n q).running → ¬(r.1 < (s.qp n q).seqNext)) ∧ (∀ d, d ∈ (s.qp n q).done → ¬(d.seq < (s.qp n q).seqNext))
  free : s.descHeld n ((s.qp n q).next raw data) = false

theorem State.fetchDesc_of_full {s : State} {n q : Nat} (h : (s.qp n q).full = true) (op raw : Nat) (data : List Byte) :
    s.fetchDesc n q op raw data = s := by
  simp [State.fetchDesc, h]

/-- A descriptor that waits alone is ready when its FENCE, if it has one, finds nothing earlier under way (R482). -/
theorem QPair.ready_of_alone {x : QPair} {d : Desc} (hwaiting : x.waiting = [d])
    (hfence : bit (recF d.raw 1 1) 0 = true → (∀ r, r ∈ x.running → ¬(r.1 < d.seq)) ∧ (∀ e, e ∈ x.done → ¬(e.seq < d.seq))) :
    x.ready d = true := by
  cases hbit : bit (recF d.raw 1 1) 0 with
  | false => simp [QPair.ready, hwaiting, hbit]
  | true =>
    obtain ⟨hrunning, hdone⟩ := hfence hbit
    have hrun : x.running.any (·.1 < d.seq) = false := by simpa using hrunning
    have hend : x.done.any (·.seq < d.seq) = false := by simpa using hdone
    simp [QPair.ready, hwaiting, hrun, hend]

/-- The one waiting descriptor starts when it is ready and memory does not hold it. -/
theorem State.startWaiting_alone {s : State} {n q : Nat} {d : Desc} (hwaiting : (s.qp n q).waiting = [d])
    (hready : (s.qp n q).ready d = true) (hfree : s.descHeld n d = false) :
    State.startWaiting n q 1 s = (s.setQp n q { s.qp n q with waiting := [] }).runDesc n q d := by
  simp [State.startWaiting, hwaiting, hready, hfree]

section
variable {s : State} {n q op raw : Nat} {data : List Byte} (h : s.FetchesFree n q raw data)
include h

/-- The pair fetches a descriptor of the command's opcode, or of one that no command names. -/
theorem State.fetchDesc_eq_runDesc (hop : recF raw 0 1 = op ∨ descOps.contains (recF raw 0 1) = false) :
    s.fetchDesc n q op raw data =
      (s.setQp n q (s.qp n q).fetched).runDesc n q ((s.qp n q).next raw data) := by
  obtain ⟨henabled, hcontrol, hentry, hrecord, hroom, halone, hfence, hfree⟩ := h
  have hown : (recF raw 0 1 ≠ op && descOps.contains (recF raw 0 1)) = false := by
    rcases hop with hop | hop
    · simp [hop]
    · rw [hop, Bool.and_false]
  have hfetch : s.fetchDesc n q op raw data = State.startWaiting n q 1
      (s.setQp n q { (s.qp n q).fetched with waiting := [(s.qp n q).next raw data] }) := by
    simp only [State.fetchDesc, hown]
    rw [if_neg (by simp [henabled, hcontrol, hentry, hrecord, hroom]), halone]
    rfl
  rw [hfetch, State.startWaiting_alone (d := (s.qp n q).next raw data)]
  · simp [QPair.fetched]
  · simp
  · exact QPair.ready_of_alone (by simp) (by simpa [QPair.fetched, QPair.next] using hfence)
  · simpa using hfree

theorem State.fetchDesc_malformed (hop : recF raw 0 1 = op ∨ descOps.contains (recF raw 0 1) = false)
    (hbad : descOps.contains (recF raw 0 1) = false ∨ descResv raw = true ∨ s.descRange raw = true) :
    s.fetchDesc n q op raw data = (s.started n q raw data).finishDesc (n, q, (s.qp n q).seqNext) Ds.malformed 0 := by
  rw [State.fetchDesc_eq_runDesc h hop, State.runDesc_malformed (s := s.setQp n q (s.qp n q).fetched) hbad, State.setQp_setQp,
    State.qp_setQp_same]
  rfl

theorem State.fetchDesc_works {p : Nat} (hop : recF raw 0 1 = op) (hknown : descOps.contains op = true)
    (hresv : descResv raw = false) (hrange : s.descRange raw = false) (hpart : s.portPart n = some p)
    (hchip : s.obj O.CHIP_STATE ≠ 2) :
    s.fetchDesc n q op raw data = (s.started n q raw data).descWork p (n, q, (s.qp n q).seqNext) raw data := by
  have hworks := State.runDesc_works (s := s.setQp n q (s.qp n q).fetched) (q := q) (d := (s.qp n q).next raw data) (hop ▸ hknown)
    hresv hrange hpart hchip
  rw [State.fetchDesc_eq_runDesc h (.inl hop), hworks, State.setQp_setQp, State.qp_setQp_same]
  rfl

end

/-! ### A transfer between local addresses (R484) -/

theorem State.foldl_mem {α : Type} (f : State → α → State) (hf : ∀ s x, (f s x).mem = s.mem) (l : List α) (s : State) :
    (l.foldl f s).mem = s.mem :=
  List.foldlRecOn l f (motive := fun t => t.mem = s.mem) rfl fun t ht x _ => (hf t x).trans ht

theorem State.poisonRead_mem (s : State) (p step u : Nat) : (s.poisonRead p step u).mem = s.mem := by
  unfold State.poisonRead
  dsimp only
  split
  · rfl
  · exact State.raise_mem ..

theorem State.countRead_mem (s : State) (a n : Nat) : (s.countRead a n).mem = s.mem := by
  unfold State.countRead
  split
  · split <;> rfl
  · rfl

theorem State.engineRead_mem (s : State) (p a n : Nat) : (s.engineRead p a n).mem = s.mem :=
  (State.foldl_mem _ (fun _ _ => State.poisonRead_mem ..) _ _).trans (s.countRead_mem a n)

theorem State.poisonUnit_mem (s : State) (a : Nat) : (s.poisonUnit a).mem = s.mem := by
  unfold State.poisonUnit
  dsimp only
  split <;> rfl

theorem State.readMem_length (s : State) (a n : Nat) : (s.readMem a n).length = n := by simp [State.readMem]

theorem State.readMem_getElem? (s : State) (a : Nat) {i n : Nat} (h : i < n) :
    (s.readMem a n)[i]? = some (Memory.read s.mem (a + i)) := by simp [State.readMem, h]

theorem State.copyBytes_mem (s : State) (p src dst n : Nat) :
    (s.copyBytes p src dst n).mem = ((s.engineRead p src n).writeMem dst (s.readMem src n)).mem :=
  State.foldl_mem _ State.poisonUnit_mem _ _

section
variable {s : State} (hwf : Memory.wf s.mem = true) (p src dst n : Nat)
include hwf

theorem State.read_copyBytes_inside {i : Nat} (hi : i < n) :
    Memory.read (s.copyBytes p src dst n).mem (dst + i) = Memory.read s.mem (src + i) := by
  rw [State.copyBytes_mem]
  exact State.read_writeMem_inside _ dst _ i _ (by rwa [State.engineRead_mem]) (s.readMem_getElem? src hi)

theorem State.read_copyBytes_outside {a : Nat} (ha : a < dst ∨ dst + n ≤ a) :
    Memory.read (s.copyBytes p src dst n).mem a = Memory.read s.mem a := by
  rw [State.copyBytes_mem, State.read_writeMem_outside _ dst _ a (by rwa [State.engineRead_mem]) (by rwa [State.readMem_length]),
    State.engineRead_mem]

end

/-- A TRANSFER between local addresses that posts nothing copies its bytes and ends OK, when both its sides pass (R484). -/
theorem State.descTransfer_local {s : State} {p raw : Nat} (who : Nat × Nat × Nat) (data : List Byte) (hkind : recF raw 28 1 = 0)
    (hpost : recF raw 30 2 = 0xFFFF) (hsrc : s.isLocal (recF raw 8 8) = true) (hdst : s.isLocal (recF raw 16 8) = true)
    (hread : s.sideCheck p (recF raw 8 8) (recF raw 24 4) false = 0)
    (hwrite : s.sideCheck p (recF raw 16 8) (recF raw 24 4) true = 0) :
    s.descTransfer p who raw data =
      ((s.copyBytes p (recF raw 8 8 % 2 ^ 50) (recF raw 16 8 % 2 ^ 50) (recF raw 24 4)).finishDesc who 0 (recF raw 24 4)).afterWork p := by
  simp [State.descTransfer, State.transferDone, hkind, hpost, hsrc, hdst, hread, hwrite, bit]

theorem exec_descTransfer (port : Fin 4) (q : Fin 64) (raw : Nat) (data : List Byte) (s : State) :
    exec (.descTransfer port q raw data) s = .next (s.fetchDesc port.val q.val 0x01 raw data) := rfl

/-- Settles O51: a free pair's descriptor starts as it is fetched, and what starts is malformed or does its opcode's work, which for
a local TRANSFER is a copy. -/
theorem descriptorsStartTheirWork : Obligations.DescriptorsStartTheirWork := by
  intro port q raw p data s n x
  refine ⟨fun hfull => ⟨congrArg _ (State.fetchDesc_of_full hfull ..), congrArg _ (State.fetchDesc_of_full hfull ..)⟩, ?_⟩
  intro henabled hcontrol hentry hrecord hroom halone hfence hfree who u
  have h {data : List Byte} : s.FetchesFree n q.val raw data :=
    ⟨henabled, hcontrol, hentry, hrecord, hroom, halone, hfence, hfree⟩
  refine ⟨fun hbad => ?malformed, fun hresv hrange hpart hchip => ?_⟩
  case malformed =>
    rw [exec_descTransfer]
    rcases hbad with hunknown | ⟨hop, hbad⟩
    · exact congrArg _ (State.fetchDesc_malformed h (.inr hunknown) (.inl hunknown))
    · exact congrArg _ (State.fetchDesc_malformed h (.inl hop) (.inr (Bool.or_eq_true_iff.mp hbad)))
  have works {i : Instr} {op : Nat} {data : List Byte} (hexec : exec i s = .next (s.fetchDesc n q.val op raw data))
      (hknown : descOps.contains op = true) (hop : recF raw 0 1 = op) : exec i s = .next (u.descWork p who raw data) :=
    hexec.trans (congrArg _ (State.fetchDesc_works h hop hknown hresv hrange hpart hchip))
  refine ⟨fun hop => ?transfer, ?_, ?_, ?_, ?_, ?_, ?_, ?_, ?_, ?_⟩
  case transfer =>
    have hwork : exec (.descTransfer port q raw data) s = .next (u.descTransfer p who raw data) :=
      (works rfl rfl hop).trans (by simp only [State.descWork, hop])
    refine ⟨hwork, fun hkind hpost hsrc hdst hread hwrite hwf => ⟨_, hwork, _,
      State.descTransfer_local who data hkind hpost hsrc hdst hread hwrite, fun i hi => ?_, fun a ha => ?_⟩⟩
    · exact State.read_copyBytes_inside (s := u) hwf p _ _ _ hi
    · exact State.read_copyBytes_outside (s := u) hwf p _ _ _ ha
  all_goals exact fun hop => (works rfl rfl hop).trans (by simp only [State.descWork, hop])

end Sys2Proof.Machine

/-! What the sync objects, the transport's outputs and the completion queues leave as it is: memory and the layout of partitions; the
completion queues also the jobs. `State.storage` and `State.jobsStorage` are those parts of a state. One lemma for each function, tagged for
`simp` before it visits the arguments. -/

namespace Sys2Proof.Machine

/-! ### Memory, its poisoned units and the layout -/

/-- Memory's bytes, its poisoned units and the layout of partitions. -/
def State.storage (s : State) : List Host.Cell × List Nat × Layout := (s.mem, s.poison, s.layout)

theorem sameMemory_iff {s t : State} : SameMemory s t ↔ t.storage = s.storage := by simp [SameMemory, State.storage]

@[simp ↓] theorem State.storage_ite (c : Prop) [Decidable c] (a b : State) :
    (if c then a else b).storage = if c then a.storage else b.storage := apply_ite ..

@[simp ↓] theorem State.storage_ite_fst {α : Type} (c : Prop) [Decidable c] (a b : State × α) :
    (if c then a else b).1.storage = if c then a.1.storage else b.1.storage := apply_ite (fun x : State × α => x.1.storage) ..

@[simp ↓] theorem foldl_storage {α : Type} (f : State → α → State) (l : List α) (s : State)
    (h : ∀ s x, (f s x).storage = s.storage) : (l.foldl f s).storage = s.storage := by
  induction l generalizing s with
  | nil => rfl
  | cons x l ih => rw [List.foldl_cons, ih, h]

@[simp ↓] theorem State.put_storage (s : State) (k v : Nat) : (s.put k v).storage = s.storage := rfl
@[simp ↓] theorem State.add_storage (s : State) (k n : Nat) : (s.add k n).storage = s.storage := rfl
@[simp ↓] theorem State.inc_storage (s : State) (k : Nat) : (s.inc k).storage = s.storage := rfl
@[simp ↓] theorem State.setJob_storage (s : State) (p : Nat) (j : Job) : (s.setJob p j).storage = s.storage := rfl
@[simp ↓] theorem State.setSync_storage (s : State) (o : Nat) (x : SyncObj) : (s.setSync o x).storage = s.storage := rfl
@[simp ↓] theorem State.setLink_storage (s : State) (n : Nat) (l : LinkSt) : (s.setLink n l).storage = s.storage := rfl

@[simp ↓] theorem State.raise_storage (s : State) (code : Nat) (a : EvArgs) : (s.raise code a).storage = s.storage :=
  sameMemory_iff.mp ⟨State.raise_mem .., State.raise_poison .., State.raise_layout ..⟩

@[simp ↓] theorem State.raiseEvery_storage (s : State) (code who intervalNs : Nat) (a : EvArgs) :
    (s.raiseEvery code who intervalNs a).storage = s.storage :=
  sameMemory_iff.mp ⟨State.raiseEvery_mem .., State.raiseEvery_poison .., State.raiseEvery_layout ..⟩

/-! ### Completion queues (R481, R488) -/

/-- The jobs and memory. -/
def State.jobsStorage (s : State) : Tab Job × List Host.Cell × List Nat × Layout := (s.jobs, s.storage)

@[simp ↓] theorem State.jobsStorage_ite (c : Prop) [Decidable c] (a b : State) :
    (if c then a else b).jobsStorage = if c then a.jobsStorage else b.jobsStorage := apply_ite ..

@[simp ↓] theorem State.inc_jobsStorage (s : State) (k : Nat) : (s.inc k).jobsStorage = s.jobsStorage := rfl
@[simp ↓] theorem State.send_jobsStorage (s : State) (o : Out) : (s.send o).jobsStorage = s.jobsStorage := rfl
@[simp ↓] theorem State.setPort_jobsStorage (s : State) (n : Nat) (x : Port) : (s.setPort n x).jobsStorage = s.jobsStorage := rfl
@[simp ↓] theorem State.setQp_jobsStorage (s : State) (n q : Nat) (x : QPair) : (s.setQp n q x).jobsStorage = s.jobsStorage := rfl

@[simp ↓] theorem State.interrupt_jobsStorage (s : State) (n v : Nat) : (s.interrupt n v).jobsStorage = s.jobsStorage := by
  obtain ⟨hmemory, hjobs, -⟩ := s.interrupt_onlyAnswers n v
  exact Prod.ext hjobs (sameMemory_iff.mp hmemory)

@[simp ↓] theorem State.writeCq_jobsStorage (s : State) (n q rec_ vec : Nat) : (s.writeCq n q rec_ vec).jobsStorage = s.jobsStorage := by
  simp [State.writeCq]

@[simp ↓] theorem State.record_jobsStorage (s : State) (n q rec_ vec : Nat) : (s.record n q rec_ vec).jobsStorage = s.jobsStorage := by
  simp [State.record]

@[simp ↓] theorem State.syncRecord_jobsStorage (s : State) (p rec_ vec : Nat) :
    (s.syncRecord p rec_ vec).jobsStorage = s.jobsStorage := by
  unfold State.syncRecord
  split <;> simp

@[simp ↓] theorem State.syncInterrupt_jobsStorage (s : State) (o kind : Nat) : (s.syncInterrupt o kind).jobsStorage = s.jobsStorage := by
  simp only [State.syncInterrupt]
  split
  · rfl
  · split
    · split <;> rfl
    · simp

@[simp ↓] theorem State.syncInterrupt_storage (s : State) (o kind : Nat) : (s.syncInterrupt o kind).storage = s.storage :=
  congrArg Prod.snd (s.syncInterrupt_jobsStorage o kind)

@[simp] theorem State.syncInterrupt_jobs (s : State) (o kind : Nat) : (s.syncInterrupt o kind).jobs = s.jobs :=
  congrArg Prod.fst (s.syncInterrupt_jobsStorage o kind)

/-- The end of a descriptor that is not malformed moves its queue pair and is counted, unless a port reset made it silent (R490). -/
theorem State.finishDesc_cases (s : State) (who : Nat × Nat × Nat) {status : Nat} (info : Nat) (h : status ≠ Ds.malformed) :
    s.finishDesc who status info = s ∨
      ∃ x, s.finishDesc who status info = (s.setQp who.1 who.2.1 x).inc (O.at O.DESCRIPTORS_COMPLETED who.1) := by
  unfold State.finishDesc
  dsimp only
  split
  · exact .inl rfl
  · exact .inr ⟨_, if_neg h⟩

/-! ### Sync objects (R347 to R354) -/

@[simp ↓] theorem State.fire_storage (s : State) (o : Nat) : (s.fire o).storage = s.storage := by simp [State.fire]
@[simp ↓] theorem State.syncTry_storage (s : State) (o : Nat) : (s.syncTry o).storage = s.storage := by simp [State.syncTry]

@[simp ↓] theorem State.syncReset_storage (s : State) (o step : Nat) : (s.syncReset o step).storage = s.storage := by
  simp [State.syncReset]

@[simp ↓] theorem State.syncRetire_storage (s : State) (p n : Nat) : (s.syncRetire p n).storage = s.storage := by
  simp [State.syncRetire]

@[simp ↓] theorem State.syncArm_storage (s : State) (p step beat ns : Nat) : (s.syncArm p step beat ns).storage = s.storage := by
  simp [State.syncArm]

@[simp ↓] theorem State.retireBank_storage (s : State) (p n : Nat) : (s.retireBank p n).storage = s.storage := by
  simp [State.retireBank]

@[simp ↓] theorem State.enterStep_storage (s : State) (p m : Nat) : (s.enterStep p m).storage = s.storage := by
  simp only [State.enterStep]
  split
  · rfl
  · split <;> simp

@[simp ↓] theorem State.syncFault_storage (s : State) (x : SyncObj) : (s.syncFault x).storage = s.storage := by
  simp [State.syncFault, State.orSheaf]

@[simp ↓] theorem State.arrive_storage (s : State) (o inc : Nat) (tagged : Bool) : (s.arrive o inc tagged).storage = s.storage := by
  simp [State.arrive]

@[simp ↓] theorem State.arrivePair_storage (s : State) (p pair step inc : Nat) (tagged : Bool) :
    (s.arrivePair p pair step inc tagged).1.storage = s.storage := by simp [State.arrivePair]

@[simp ↓] theorem State.arrivePlain_storage (s : State) (p ix inc : Nat) : (s.arrivePlain p ix inc).1.storage = s.storage := by
  simp [State.arrivePlain]

@[simp ↓] theorem State.deliver_storage (s : State) (k : Packet) (tagged : Bool) : (s.deliver k tagged).1.storage = s.storage := by
  simp [State.deliver]

/-! ### Answers to remote requests (R343, R346) -/

@[simp ↓] theorem State.originate_storage (s : State) (n part : Nat) (p : Packet) : (s.originate n part p).storage = s.storage := by
  simp [State.originate, State.enqueue]

@[simp ↓] theorem State.inject_storage (s : State) (part : Nat) (p : Packet) (mask : Nat) :
    (s.inject part p mask).1.storage = s.storage := by
  simp only [State.inject]
  split
  · rfl
  · split
    · rfl
    · split <;> simp [State.noRouteEvent]

@[simp ↓] theorem State.answer_storage (s : State) (k : Packet) (status : Nat) (data : List Byte) :
    (s.answer k status data).storage = s.storage := by simp [State.answer, State.sendAnswer]

/-! ### Reads of the engines (R15) -/

@[simp ↓] theorem State.countRead_storage (s : State) (a n : Nat) : (s.countRead a n).storage = s.storage := by
  unfold State.countRead
  split <;> simp

@[simp ↓] theorem State.poisonRead_storage (s : State) (p step u : Nat) : (s.poisonRead p step u).storage = s.storage := by
  simp [State.poisonRead]

@[simp ↓] theorem State.engineRead_storage (s : State) (p a n : Nat) : (s.engineRead p a n).storage = s.storage := by
  simp [State.engineRead]

end Sys2Proof.Machine

/-! The end of a load (R233, R236, R239): the oldest request of a partition is refused with its record, or its image becomes the
partition's. -/

namespace Sys2Proof.Machine

/-- Objects whose keys differ in the last byte differ, whatever their blocks. -/
theorem O.at_ne {k i : Nat} (p q : Nat) (h : k % 256 ≠ i % 256) : O.at k p ≠ O.at i q := by
  unfold O.at
  omega

/-- An object of a partition that neither an event nor the end of a descriptor counts in. -/
abbrev O.uncounted (k : Nat) : Prop := k % 256 ≠ O.EVENTS_LOST % 256 ∧ k % 256 ≠ O.DESCRIPTORS_COMPLETED % 256

/-! ### The answer to a load request: its event, and the end of its descriptor -/

section
variable (s : State) (code : Nat) (a : EvArgs) (who : Nat × Nat × Nat) {status : Nat} (info : Nat) (h : status ≠ Ds.malformed)
include h

theorem State.loadAnswer_obj {k : Nat} (p : Nat) (hk : O.uncounted k) :
    ((s.raise code a).finishDesc who status info).obj (O.at k p) = s.obj (O.at k p) := by
  obtain ⟨hlost, hcompleted⟩ := hk
  have hraise : (s.raise code a).obj (O.at k p) = s.obj (O.at k p) := State.raise_obj _ _ _ _ (O.at_ne p 0 hlost)
  obtain heq | ⟨x, heq⟩ := (s.raise code a).finishDesc_cases who info h <;> rw [heq]
  · exact hraise
  · rw [State.obj_inc, if_neg (O.at_ne p who.1 hcompleted)]
    exact hraise

theorem State.loadAnswer_jobs : ((s.raise code a).finishDesc who status info).jobs = s.jobs := by
  obtain heq | ⟨x, heq⟩ := (s.raise code a).finishDesc_cases who info h <;> rw [heq]
  · exact State.raise_jobs ..
  · exact State.raise_jobs ..

theorem State.loadAnswer_storage : ((s.raise code a).finishDesc who status info).storage = s.storage := by
  obtain heq | ⟨x, heq⟩ := (s.raise code a).finishDesc_cases who info h <;> rw [heq]
  · exact State.raise_storage ..
  · exact State.raise_storage ..

theorem State.loadAnswer_beat : ((s.raise code a).finishDesc who status info).beat = s.beat := by
  obtain heq | ⟨x, heq⟩ := (s.raise code a).finishDesc_cases who info h <;> rw [heq]
  · exact State.raise_beat ..
  · exact State.raise_beat ..

end

/-! ### A refused load (R239) -/

section
variable (s : State) (p : Nat) (r : LoadReq) (f : Fail)

/-- A refused load as it stands before its answer: a partition that was LOADING for it is EMPTY again. -/
def State.emptied : State := if r.wrong.isNone then s.setImageState p IS.empty else s

theorem State.refuseLoad_eq : s.refuseLoad p r f =
    ((((s.emptied p r).put (O.at O.LOAD_STATUS p) f.record).inc (O.at O.REFUSALS p)).raise 0x2A02
      { part := p, pay := f.record, len := 32 }).finishDesc r.who 0x43 f.code := rfl

theorem State.emptied_imageState : (s.emptied p r).imageState p = if r.wrong.isNone then 0 else s.imageState p := by
  unfold State.emptied
  split
  · exact State.obj_put_same ..
  · rfl

theorem State.emptied_refusals : (s.emptied p r).obj (O.at O.REFUSALS p) = s.obj (O.at O.REFUSALS p) := by
  unfold State.emptied
  split
  · exact State.obj_put_ne _ _ _ _ (O.at_ne p p (by decide))
  · rfl

theorem State.refuseLoad_loadStatus : (s.refuseLoad p r f).obj (O.at O.LOAD_STATUS p) = f.record := by
  rw [State.refuseLoad_eq, State.loadAnswer_obj _ _ _ _ _ (by decide) p (by decide), State.obj_inc,
    if_neg (O.at_ne p p (by decide)), State.obj_put_same]

theorem State.refuseLoad_imageState :
    (s.refuseLoad p r f).imageState p = if r.wrong.isNone then 0 else s.imageState p := by
  rw [State.imageState, State.refuseLoad_eq, State.loadAnswer_obj _ _ _ _ _ (by decide) p (by decide), State.obj_inc,
    if_neg (O.at_ne p p (by decide)), State.obj_put_ne _ _ _ _ (O.at_ne p p (by decide))]
  exact s.emptied_imageState p r

theorem State.refuseLoad_refusals :
    (s.refuseLoad p r f).obj (O.at O.REFUSALS p) = (s.obj (O.at O.REFUSALS p) + 1) % 2 ^ 64 := by
  rw [State.refuseLoad_eq, State.loadAnswer_obj _ _ _ _ _ (by decide) p (by decide), State.obj_inc, if_pos rfl,
    State.obj_put_ne _ _ _ _ (O.at_ne p p (by decide)), State.emptied_refusals]

theorem State.refuseLoad_jobs : (s.refuseLoad p r f).jobs = s.jobs := by
  rw [State.refuseLoad_eq, State.loadAnswer_jobs _ _ _ _ _ (by decide)]
  exact (apply_ite State.jobs ..).trans (ite_self _)

theorem State.refuseLoad_storage : (s.refuseLoad p r f).storage = s.storage := by
  rw [State.refuseLoad_eq, State.loadAnswer_storage _ _ _ _ _ (by decide)]
  exact (apply_ite State.storage ..).trans (ite_self _)

theorem State.refuseLoad_beat : (s.refuseLoad p r f).beat = s.beat := by
  rw [State.refuseLoad_eq, State.loadAnswer_beat _ _ _ _ _ (by decide)]
  exact (apply_ite State.beat ..).trans (ite_self _)

end

/-! ### A load that succeeds (R233) -/

/-- The image of a partition and the load requests that it has still to answer. -/
def State.loading (s : State) (p : Nat) : Option Image × List LoadReq := ((s.job p).image, (s.job p).load)

theorem State.loading_of_jobs {s t : State} (h : t.jobs = s.jobs) (p : Nat) : t.loading p = s.loading p := by
  simp only [State.loading, State.job, h]

theorem State.put_loading (s : State) (k v p : Nat) : (s.put k v).loading p = s.loading p := rfl
theorem State.zeroMem_loading (s : State) (lo n p : Nat) : (s.zeroMem lo n).loading p = s.loading p := rfl
theorem State.add_loading (s : State) (k n p : Nat) : (s.add k n).loading p = s.loading p := rfl
theorem State.inc_loading (s : State) (k p : Nat) : (s.inc k).loading p = s.loading p := rfl

theorem State.setJob_loading (s : State) (p : Nat) (j : Job) : (s.setJob p j).loading p = (j.image, j.load) := by
  rw [State.loading, State.job_setJob_same]

theorem State.openCtx_jobs (s : State) (p chip cls kind : Nat) : (s.openCtx p chip cls kind).jobs = s.jobs := by
  unfold State.openCtx
  split
  · exact (apply_ite State.jobs ..).trans (ite_self _)
  · split <;> rfl

theorem State.openCtx_loading (s : State) (q chip cls kind p : Nat) : (s.openCtx q chip cls kind).loading p = s.loading p :=
  State.loading_of_jobs (s.openCtx_jobs q chip cls kind) p

theorem State.foldl_loading {α : Type} (f : State → α → State) (p : Nat) (hf : ∀ s x, (f s x).loading p = s.loading p) (l : List α)
    (s : State) : (l.foldl f s).loading p = s.loading p :=
  List.foldlRecOn l f (motive := fun t => t.loading p = s.loading p) rfl fun t ht x _ => (hf t x).trans ht

theorem State.zeroPlacements_loading (s : State) (im : Image) (p : Nat) : (s.zeroPlacements im).loading p = s.loading p := by
  unfold State.zeroPlacements
  refine State.foldl_loading _ p (fun s x => ?_) _ _
  rw [State.zeroMem_loading]

theorem State.imageObjs_loading (s : State) (q : Nat) (im : Image) (me digest p : Nat) :
    (s.imageObjs q im me digest).loading p = s.loading p := by
  unfold State.imageObjs
  dsimp only
  refine State.foldl_loading _ p (fun s e => ?_) _ _
  rw [State.put_loading]

theorem State.fire_loading (s : State) (o p : Nat) : (s.fire o).loading p = s.loading p := by
  simp only [State.fire]
  split
  · rfl
  · simp only [State.loading, State.job_setJob]
    split
    next hp => rw [hp]
    next => rfl

theorem State.syncTry_loading (s : State) (o p : Nat) : (s.syncTry o).loading p = s.loading p := by
  simp only [State.syncTry]
  split
  · exact (State.fire_loading ..).trans (State.loading_of_jobs (State.syncInterrupt_jobs ..) p)
  · rfl

theorem State.setSync_loading (s : State) (o : Nat) (x : SyncObj) (p : Nat) : (s.setSync o x).loading p = s.loading p := rfl

theorem State.syncReset_loading (s : State) (o step p : Nat) : (s.syncReset o step).loading p = s.loading p := by
  rw [State.syncReset, State.syncTry_loading, State.setSync_loading]

theorem State.syncInit_loading (s : State) (q step p : Nat) : (s.syncInit q step).loading p = s.loading p := by
  unfold State.syncInit
  refine State.foldl_loading _ p (fun s x => ?_) _ _
  refine State.foldl_loading _ p (fun s b => ?_) _ _
  rw [State.syncReset_loading, State.setSync_loading]

section
variable (s : State) (p : Nat) (r : LoadReq)

theorem State.finishLoad_imageState : (s.finishLoad p r).imageState p = 2 := by
  rw [State.imageState, State.finishLoad, State.loadAnswer_obj _ _ _ _ _ (by decide) p (by decide)]
  exact State.obj_put_same ..

theorem State.finishLoad_loadStatus : (s.finishLoad p r).obj (O.at O.LOAD_STATUS p) = loadedRecord := by
  rw [State.finishLoad, State.loadAnswer_obj _ _ _ _ _ (by decide) p (by decide), State.setImageState,
    State.obj_put_ne _ _ _ _ (O.at_ne p p (by decide)), State.obj_inc, if_neg (O.at_ne p p (by decide)), State.obj_put_same]

theorem State.finishLoad_loading : (s.finishLoad p r).loading p = (some (Img.parse r.img), (s.job p).load) := by
  rw [State.finishLoad, State.loading_of_jobs (State.loadAnswer_jobs _ _ _ _ _ (by decide)) p, State.setImageState,
    State.put_loading, State.inc_loading, State.put_loading, State.syncInit_loading,
    State.foldl_loading _ p (fun _ _ => State.openCtx_loading ..), State.setJob_loading]
  refine Prod.ext rfl ?_
  change (State.loading _ p).2 = (s.loading p).2
  rw [State.add_loading, State.imageObjs_loading, State.zeroPlacements_loading]
  rfl

theorem State.finishLoad_image : ((s.finishLoad p r).job p).image = some (Img.parse r.img) :=
  (Prod.mk.inj (s.finishLoad_loading p r)).1

theorem State.finishLoad_load : ((s.finishLoad p r).job p).load = (s.job p).load :=
  (Prod.mk.inj (s.finishLoad_loading p r)).2

end

/-! ### IMAGE_LOAD_DONE -/

section
variable {part : Fin 4} {s : State} {r : LoadReq} {rest : List LoadReq} (hload : (s.job part.val).load = r :: rest)
  (hzero : ∀ d, d ∈ s.diesOf part.val → bit s.host.zeroing d = false)

/-- The state in which the oldest request of a partition is checked: it has been taken. -/
def State.loadTaken (s : State) (p : Nat) (rest : List LoadReq) : State := s.setJob p { s.job p with load := rest }

theorem State.loadTaken_load (s : State) (p : Nat) (rest : List LoadReq) : ((s.loadTaken p rest).job p).load = rest := by
  rw [State.loadTaken, State.job_setJob_same]

include hload hzero

/-- The oldest request ends by what its checks find: nothing, or the first failure. -/
theorem exec_imageLoadDone : exec (.imageLoadDone part) s =
    .next (((s.loadTaken part.val rest).loadCheck part.val r.wrong r.params r.img r.table).elim
      ((s.loadTaken part.val rest).finishLoad part.val r) ((s.loadTaken part.val rest).refuseLoad part.val r)) := by
  have hany : (s.diesOf part.val).any (fun d => bit s.host.zeroing d) = false := by simpa using hzero
  have hexec : exec (.imageLoadDone part) s = execImageLoadDone part s := rfl
  simp only [hexec, execImageLoadDone, hload, hany, Bool.false_eq_true, if_false, State.loadTaken]
  cases State.loadCheck _ part.val r.wrong r.params r.img r.table with
  | none => rw [Option.elim_none]
  | some f => rw [Option.elim_some]

theorem imageLoadDone_refuses {f : Fail}
    (hcheck : (s.loadTaken part.val rest).loadCheck part.val r.wrong r.params r.img r.table = some f) :
    exec (.imageLoadDone part) s = .next ((s.loadTaken part.val rest).refuseLoad part.val r f) := by
  rw [exec_imageLoadDone hload hzero, hcheck, Option.elim_some]

theorem imageLoadDone_loads
    (hcheck : (s.loadTaken part.val rest).loadCheck part.val r.wrong r.params r.img r.table = none) :
    exec (.imageLoadDone part) s = .next ((s.loadTaken part.val rest).finishLoad part.val r) := by
  rw [exec_imageLoadDone hload hzero, hcheck, Option.elim_none]

end

/-- Settles O24: the checks of the request that is taken decide between a refusal, whose effects are the record, the count and
IMAGE_STATE, and a load, which ends by making the image the partition's. -/
theorem loadEndsByItsChecks : Obligations.LoadEndsByItsChecks := by
  intro part s r rest hload hzero taken
  refine ⟨fun f hcheck => ?refused, fun hcheck => ?loaded⟩
  case refused =>
    refine ⟨_, imageLoadDone_refuses hload hzero hcheck, State.refuseLoad_loadStatus .., State.refuseLoad_imageState ..,
      State.refuseLoad_refusals .., ?_, sameMemory_iff.mpr (State.refuseLoad_storage ..), State.refuseLoad_beat ..⟩
    rw [State.job, State.refuseLoad_jobs]
    exact s.loadTaken_load part.val rest
  case loaded =>
    refine ⟨_, imageLoadDone_loads hload hzero hcheck, rfl, State.finishLoad_imageState .., State.finishLoad_loadStatus ..,
      State.finishLoad_image .., ?_⟩
    rw [State.finishLoad_load]
    exact s.loadTaken_load part.val rest

end Sys2Proof.Machine

/-! Packets that come for this module (R227, R336, R339, R345, R346, R350, R356, R362, R424, R584): one that passes the tests of its
link and of the ejection stage acts by its type, and one that an engine handed over meets the tests of the ejection stage. -/

namespace Sys2Proof.Machine

/-- A command that answers one state completes with that state. -/
theorem completes_of_next {c : Instr} {s t : State} (h : exec c s = .next t) : Completes c s (fun z => z = t) := ⟨t, h, rfl⟩

/-! ### The tests (R279, R336, R339) -/

/-- Whether a packet is a WRITE or a READ_REQ whose memory is being zeroed. -/
def State.meetsZeroing (s : State) (k : Packet) : Bool :=
  (k.typ = 1 || k.typ = 2) && s.beingZeroed (k.addr % 2 ^ 50) (if k.typ = 1 then k.len else 64 * k.arg)

/-- A packet that waits for memory being zeroed, after those that wait already. -/
def State.zeroHold (s : State) (n : Nat) (k : Packet) : State :=
  { s with net := { s.net with zeroHeld := s.net.zeroHeld ++ [(n, k, s.pktTagged k.dstPart k)] } }

theorem State.meetsZeroing_write {s : State} {k : Packet} (htyp : k.typ = 1) :
    s.meetsZeroing k = s.beingZeroed (k.addr % 2 ^ 50) k.len := by
  simp [State.meetsZeroing, htyp]

theorem State.meetsZeroing_read {s : State} {k : Packet} (htyp : k.typ = 2) :
    s.meetsZeroing k = s.beingZeroed (k.addr % 2 ^ 50) (64 * k.arg) := by
  simp [State.meetsZeroing, htyp]

theorem State.meetsZeroing_other {s : State} {k : Packet} (hwrite : k.typ ≠ 1) (hread : k.typ ≠ 2) : s.meetsZeroing k = false := by
  simp [State.meetsZeroing, hwrite, hread]

/-- A packet that its link's tests pass to the ejection stage, under this module's epoch and of no failed speculation. -/
structure State.Ejects (s : State) (n : Nat) (k : Packet) : Prop where
  free : s.quarantined n = false
  on : s.packetsOn n = true
  length : k.payload.length = k.len
  head : s.headTests n k = (s, .eject)
  epoch : k.typ ≠ 9 → k.dstEpoch = (if s.obj O.CHIP_STATE = 1 then s.obj O.CHIP_EPOCH else 0)
  spec : 2 ≤ k.spec → s.pktTagged k.dstPart k = true ∨ (s.job k.dstPart).lastVote.get (k.spec % 2) 0 ≠ 2

section
variable {s : State} {n typ : Nat} {k : Packet} {c : Instr} (h : s.Ejects n k) (hexec : exec c s = .next (s.rxCmd typ n k))
  (htyp : k.typ = typ)
include h

theorem State.rxCmd_of_ejects (htyp : k.typ = typ) : s.rxCmd typ n k = s.ejectGood n k := by
  simp [State.rxCmd, State.packetIn, htyp, h.free, h.on, h.length, h.head]

/-- Past the tests of epoch and speculation a packet acts, or waits for the memory that it names. -/
theorem State.ejectGood_of_ejects (htyp : k.typ ≠ 9) :
    s.ejectGood n k = if s.meetsZeroing k then s.zeroHold n k else s.handle n k (s.pktTagged k.dstPart k) := by
  have hspec : ¬(2 ≤ k.spec && !s.pktTagged k.dstPart k && (s.job k.dstPart).lastVote.get (k.spec % 2) 0 = 2) = true := by
    simp only [Bool.and_eq_true, decide_eq_true_eq, Bool.not_eq_true']
    rintro ⟨⟨hspec, htagged⟩, hfailed⟩
    rcases h.spec hspec with htagged' | hfailed'
    · exact absurd (htagged.symm.trans htagged') Bool.false_ne_true
    · exact hfailed' hfailed
  unfold State.ejectGood
  rw [if_neg htyp, if_neg (not_not_intro (h.epoch htyp))]
  dsimp only
  rw [if_neg hspec]
  rfl

include hexec htyp

theorem exec_handles {t : State} (h9 : typ ≠ 9) (hzeroing : s.meetsZeroing k = false)
    (ht : s.handle n k (s.pktTagged k.dstPart k) = t) : exec c s = .next t := by
  rw [hexec, State.rxCmd_of_ejects h htyp, State.ejectGood_of_ejects h (htyp ▸ h9), hzeroing, if_neg Bool.false_ne_true, ht]

/-- A packet that names no memory acts once it has met the tests. -/
theorem exec_handles_other {t : State} (hother : typ ≠ 1 ∧ typ ≠ 2 ∧ typ ≠ 9)
    (ht : s.handle n k (s.pktTagged k.dstPart k) = t) : exec c s = .next t := by
  obtain ⟨hwrite, hread, h9⟩ := hother
  exact exec_handles h hexec htyp h9 (State.meetsZeroing_other (htyp ▸ hwrite) (htyp ▸ hread)) ht

theorem exec_zeroHolds (h9 : typ ≠ 9) (hzeroing : s.meetsZeroing k = true) : exec c s = .next (s.zeroHold n k) := by
  rw [hexec, State.rxCmd_of_ejects h htyp, State.ejectGood_of_ejects h (htyp ▸ h9), if_pos hzeroing]

end

/-! ### What each type does -/

section
variable {s : State} {n p : Nat} {k : Packet} {tagged : Bool}

section
variable {t : State}

theorem State.handle_write (htyp : k.typ = 1) (ht : s.writeIn n k tagged = t) :
    s.handle n k tagged = t.afterWork k.dstPart := by simp only [State.handle, htyp, ht]

theorem State.handle_readReq (htyp : k.typ = 2) (ht : s.readIn n k = t) : s.handle n k tagged = t := by
  simp only [State.handle, htyp, ht]

theorem State.handle_answer (htyp : k.typ = 3 ∨ k.typ = 5) (ht : s.answerIn k = t) :
    s.handle n k tagged = t.afterWork k.dstPart := by
  rcases htyp with htyp | htyp <;> simp only [State.handle, htyp, ht]

theorem State.handle_syncPost (htyp : k.typ = 4) (ht : s.syncIn n k tagged = t) :
    s.handle n k tagged = t.afterWork k.dstPart := by simp only [State.handle, htyp, ht]

theorem State.handle_coll (htyp : k.typ = 6) (ht : s.collIn n k tagged = t) :
    s.handle n k tagged = t.afterWork k.dstPart := by simp only [State.handle, htyp, ht]

theorem State.handle_vote (htyp : k.typ = 7) (hmember : s.memberOf k.dstPart k = true) :
    s.handle n k tagged = (s.voteRx k.dstPart k).afterWork k.dstPart := by
  simp only [State.handle, htyp, hmember, if_true]

theorem State.handle_mbRecord (htyp : k.typ = 8) (ht : s.mbIn n k = t) : s.handle n k tagged = t.afterWork k.dstPart := by
  simp only [State.handle, htyp, ht]

end

/-- A FENCED packet without reserved bits acts on the chip and epoch that it names (R339). -/
theorem State.ejectGood_fenced (htyp : k.typ = 9) (hresv : recF (ofLE k.payload) 6 10 = 0) :
    s.ejectGood n k =
      s.fenceBy 2 n (recF (ofLE k.payload) 0 2) (recF (ofLE k.payload) 2 2) (recF (ofLE k.payload) 4 2) := by
  simp only [State.ejectGood, State.handle, htyp, hresv, ne_eq, not_true_eq_false, if_false, if_true]

/-- A WRITE that may store its payload now does so, and posts and answers as it asks (R346, R424). -/
theorem State.writeIn_of_free (haccess : s.access (.remote n k.srcChip k.srcPart) k.addr k.len true false = Acc.ok)
    (hfree : s.ckTouches ((s.ownerOf (k.addr % 2 ^ 50)).getD 4) (k.addr % 2 ^ 50) k.len = false) :
    s.writeIn n k tagged = s.applyWrite k tagged := by
  unfold State.writeIn
  dsimp only
  rw [haccess, hfree, if_neg (by decide), if_neg Bool.false_ne_true]

theorem State.applyWrite_storage : (s.applyWrite k tagged).storage = (s.writeMem (k.addr % 2 ^ 50) k.payload).storage := by
  simp [State.applyWrite]

theorem State.readIn_of_free (haccess : s.access (.remote n k.srcChip k.srcPart) k.addr (64 * k.arg) false false = Acc.ok)
    (hfree : s.touchesReserve ((s.ownerOf (k.addr % 2 ^ 50)).getD 4) (k.addr % 2 ^ 50) (64 * k.arg) = false) :
    s.readIn n k = (s.engineRead ((s.ownerOf (k.addr % 2 ^ 50)).getD 4) (k.addr % 2 ^ 50) (64 * k.arg)).answer k 0
      (s.readMem (k.addr % 2 ^ 50) (64 * k.arg)) := by
  unfold State.readIn
  dsimp only
  rw [haccess, hfree, Bool.and_false, Bool.false_and, if_neg Bool.false_ne_true, if_neg (by decide)]

/-- An answer that names no outstanding tag is late (R345). -/
theorem State.answerIn_late (hfind : s.net.tags.find (k.tag % 8192) = none) : s.answerIn k = s.inc O.LATE_RESPONSES := by
  simp only [State.answerIn, hfind]

section
variable {g : Tag} (hfind : s.net.tags.find (k.tag % 8192) = some g) (hgen : g.gen = k.tag / 8192) (hchip : g.chip = k.srcChip)
include hfind hgen hchip

/-- An answer that names an outstanding tag of its kind, with the tag's data, is taken, or waits for a checkpoint (R345, R424). -/
theorem State.answerIn_of_tag (hread : g.isRead = (k.typ = 3 : Bool))
    (hlen : g.isRead = true → k.arg = 0 → k.payload.length = g.len) :
    s.answerIn k =
      if g.isRead && k.arg = 0 && !s.reqCkpt g && s.ckTouches g.owner (g.dst % 2 ^ 50) g.len then
        s.setJob g.owner { s.job g.owner with ckpt := { (s.job g.owner).ckpt with held := (s.job g.owner).ckpt.held ++ [k] } }
      else s.takeAnswer (k.tag % 8192) g k := by
  have hown : ¬(g.gen ≠ k.tag / 8192 || g.chip ≠ k.srcChip || g.isRead ≠ (k.typ = 3 : Bool)) = true := by simp [hgen, hchip, hread]
  have hdata : ¬(g.isRead && k.arg = 0 && k.payload.length ≠ g.len) = true := by
    simp only [Bool.and_eq_true, decide_eq_true_eq]
    exact fun ⟨⟨hisRead, harg⟩, hne⟩ => hne (hlen hisRead harg)
  simp only [State.answerIn, hfind]
  rw [if_neg hown, if_neg hdata]

theorem State.answerIn_response (htyp : k.typ = 5) (hread : g.isRead = false) :
    s.answerIn k = s.tagDone (k.tag % 8192) k.arg := by
  rw [State.answerIn_of_tag hfind hgen hchip (by simp [hread, htyp]) (by simp [hread])]
  simp [State.takeAnswer, hread]

section
variable (htyp : k.typ = 3) (hread : g.isRead = true) (hlen : k.arg = 0 → k.payload.length = g.len)
include htyp hread hlen

/-- Data of no restore that no checkpoint holds back goes to its place in memory, and its tag completes (R346). -/
theorem State.answerIn_readRsp (hreq : s.reqCkpt g = false)
    (hfree : k.arg = 0 → s.ckTouches g.owner (g.dst % 2 ^ 50) g.len = false) :
    s.answerIn k = (if k.arg = 0 then s.writeMem (g.dst % 2 ^ 50) k.payload else s).tagDone (k.tag % 8192) k.arg := by
  rw [State.answerIn_of_tag hfind hgen hchip (by simp [hread, htyp]) fun _ => hlen]
  by_cases harg : k.arg = 0
  · rw [hfree harg, Bool.and_false, if_neg Bool.false_ne_true]
    simp [State.takeAnswer, hread, hreq, harg]
  · simp [State.takeAnswer, harg]

theorem State.answerIn_held (harg : k.arg = 0) (hreq : s.reqCkpt g = false)
    (hheld : s.ckTouches g.owner (g.dst % 2 ^ 50) g.len = true) :
    s.answerIn k = s.setJob g.owner
      { s.job g.owner with ckpt := { (s.job g.owner).ckpt with held := (s.job g.owner).ckpt.held ++ [k] } } := by
  rw [State.answerIn_of_tag hfind hgen hchip (by simp [hread, htyp]) fun _ => hlen, hheld, hread, hreq, decide_eq_true harg]
  exact if_pos rfl

theorem State.answerIn_restores (hreq : s.reqCkpt g = true) : s.answerIn k = s.takeAnswer (k.tag % 8192) g k := by
  rw [State.answerIn_of_tag hfind hgen hchip (by simp [hread, htyp]) fun _ => hlen, hreq, Bool.not_true, Bool.and_false,
    Bool.false_and, if_neg Bool.false_ne_true]

end

end

section
variable (hmember : s.memberOf k.dstPart k = true)
include hmember

theorem State.syncIn_of_member (hack : k.ackReq = false) : s.syncIn n k tagged = (s.deliver k tagged).1 := by
  simp [State.syncIn, hmember, hack]

section
variable {c : Coll} (hcoll : (s.job k.dstPart).coll k.arg = some c)
include hcoll

theorem State.collIn_of_member (hkind : c.kind ≠ 7) (hreserve : s.collInReserve k.dstPart c = false) :
    s.collIn n k tagged = s.collRx k.dstPart k tagged := by
  simp [State.collIn, hmember, hcoll, hkind, hreserve]

/-- A part of a partner's copy that its entry takes (R431). -/
theorem State.collIn_partner (hkind : c.kind = 7) (hok : (s.partnerRx k.dstPart k).2 = Acc.ok) :
    s.collIn n k tagged = (s.partnerRx k.dstPart k).1 := by
  simp [State.collIn, hmember, hcoll, hkind, hok]

theorem State.mbIn_of_member (hkind : c.kind = 5) (hok : (s.takeMb k.dstPart (ofLE k.payload)).2 = true) :
    s.mbIn n k = (s.takeMb k.dstPart (ofLE k.payload)).1.collOffer k.dstPart k.arg := by
  simp [State.mbIn, hmember, hcoll, hkind, hok]

end

end

end

/-! ### Packets that an engine of this module hands over (R452, R584) -/

section
variable {k : Packet} {part : Nat} {rest : List (Packet × Nat)} {s : State}

theorem exec_localPacketAccept (s : State) : exec .localPacketAccept s = execLocalPacketAccept s := rfl

theorem localPacketAccept_ejects (hqueue : s.net.localQ = (k, part) :: rest) (hrun : s.boot.stopCause = none) :
    exec .localPacketAccept s = .next (({ s with net := { s.net with localQ := rest } }).ejectGood 0xFF k) := by
  simp only [exec_localPacketAccept, execLocalPacketAccept, hqueue, hrun, Option.isSome_none, Bool.false_eq_true, if_false]

theorem localPacketAccept_waits (hstop : s.boot.stopCause ≠ none) : exec .localPacketAccept s = .next s := by
  rw [exec_localPacketAccept, execLocalPacketAccept, if_pos (Option.isSome_iff_ne_none.mpr hstop)]

end

/-- Settles O38: a packet that ejects is handled by its type, and each type's clause is the branch that its premises choose; one that
waits for memory, one that an engine handed over and one after a stop take their own branches. -/
theorem packetsDoWhatTheirTypesSay : Obligations.PacketsDoWhatTheirTypesSay := by
  refine ⟨?arriving, fun k part rest s hqueue =>
    ⟨fun hrun => completes_of_next (localPacketAccept_ejects hqueue hrun), localPacketAccept_waits⟩⟩
  intro link k s n p tagged a hfree hon hlen hhead hepoch hspec
  have h : s.Ejects n k := ⟨hfree, hon, hlen, hhead, hepoch, hspec⟩
  refine ⟨?write, ?read, fun htyp hzeroing => ?writeHeld, fun htyp hzeroing => ?readHeld, ?tagged, ?untagged, ?member, ?fenced⟩
  case write =>
    intro htyp haccess hfree hzeroing
    obtain ⟨hmem, hpoison, hlayout⟩ := sameMemory_iff.mpr (State.applyWrite_storage (s := s) (k := k) (tagged := tagged))
    have hact := State.handle_write (tagged := tagged) htyp (State.writeIn_of_free haccess hfree)
    exact ⟨_, exec_handles h rfl htyp (by decide) ((State.meetsZeroing_write htyp).trans hzeroing) hact, _, rfl, hmem, hpoison,
      hlayout.trans (s.writeMem_layout a k.payload)⟩
  case read =>
    intro htyp haccess hreserve hzeroing
    have hact := State.handle_readReq (tagged := tagged) htyp (State.readIn_of_free haccess hreserve)
    exact ⟨_, exec_handles h rfl htyp (by decide) ((State.meetsZeroing_read htyp).trans hzeroing) hact, rfl,
      sameMemory_iff.mpr (by simp)⟩
  case writeHeld => exact exec_zeroHolds h rfl htyp (by decide) ((State.meetsZeroing_write htyp).trans hzeroing)
  case readHeld => exact exec_zeroHolds h rfl htyp (by decide) ((State.meetsZeroing_read htyp).trans hzeroing)
  case tagged =>
    intro _ g hfind hgen hchip
    have readRsp {t : State} (htyp : k.typ = 3) (ht : s.answerIn k = t) :
        Completes (.readRspRx link k) s (fun z => z = t.afterWork p) :=
      completes_of_next (exec_handles_other h rfl htyp (by decide) (State.handle_answer (.inl htyp) ht))
    refine ⟨fun htyp hread hdata hreq hfree => ?stores, fun htyp hread harg hdata hreq hheld => ?held,
      fun htyp hread hdata hreq => ?restores, fun htyp hread => ?response⟩
    case stores => exact readRsp htyp (State.answerIn_readRsp hfind hgen hchip htyp hread (hlen.trans <| hdata ·) hreq hfree)
    case held =>
      exact readRsp htyp (State.answerIn_held hfind hgen hchip htyp hread (fun _ => hlen.trans hdata) harg hreq hheld)
    case restores => exact readRsp htyp (State.answerIn_restores hfind hgen hchip htyp hread (hlen.trans <| hdata ·) hreq)
    case response =>
      exact completes_of_next (exec_handles_other h rfl htyp (by decide)
        (State.handle_answer (.inr htyp) (State.answerIn_response hfind hgen hchip htyp hread)))
  case untagged =>
    intro hfind
    have late (htyp : k.typ = 3 ∨ k.typ = 5) := State.handle_answer (n := n) (tagged := tagged) htyp (State.answerIn_late hfind)
    exact ⟨fun htyp => completes_of_next (exec_handles_other h rfl htyp (by decide) (late (.inl htyp))),
      fun htyp => completes_of_next (exec_handles_other h rfl htyp (by decide) (late (.inr htyp)))⟩
  case member =>
    intro hmember
    refine ⟨fun htyp hack => ?syncPost, fun c htyp hcoll => ⟨fun hkind hreserve => ?coll, fun hkind hok => ?partner⟩,
      fun htyp => ?vote, fun c htyp hcoll hkind hok => ?mbRecord⟩
    case syncPost =>
      exact completes_of_next (exec_handles_other h rfl htyp (by decide)
        (State.handle_syncPost htyp (State.syncIn_of_member hmember hack)))
    case coll =>
      exact completes_of_next (exec_handles_other h rfl htyp (by decide)
        (State.handle_coll htyp (State.collIn_of_member hmember hcoll hkind hreserve)))
    case partner =>
      exact exec_handles_other h rfl htyp (by decide) (State.handle_coll htyp (State.collIn_partner hmember hcoll hkind hok))
    case vote => exact completes_of_next (exec_handles_other h rfl htyp (by decide) (State.handle_vote htyp hmember))
    case mbRecord =>
      exact completes_of_next (exec_handles_other h rfl htyp (by decide)
        (State.handle_mbRecord htyp (State.mbIn_of_member hmember hcoll hkind hok)))
  case fenced =>
    intro htyp hresv
    exact completes_of_next (congrArg Host.Outcome.next ((State.rxCmd_of_ejects h htyp).trans (State.ejectGood_fenced htyp hresv)))

end Sys2Proof.Machine

/-! Operations that move data (R265, R266, R267, R354), and the completion of work under way (R246, R355): a moving operation issues or
is passed over, a tile's share completes unless its work is stopped, and an entry's run ends once all of its work is done. -/

namespace Sys2Proof.Machine

/-! ### A moving operation issues or is passed over -/

section
variable {i : Instr} {s s1 : State} {p rel opcode : Nat} {c : OpCtx} {r : Rel} {issue : State → OpCtx → Rel → State}

theorem State.runOp_of_findOp (h : s.findOp p rel opcode = some (s1, c, r)) :
    s.runOp p rel opcode issue =
      if s1.stands c = true then (s1.setJob p ((s1.job p).advance r.id false)).afterWork p else (issue s1 c r).afterWork p := by
  cases hstands : s1.stands c with
  | false => exact State.runOp_of_findsDue ⟨h, hstands⟩ issue
  | true => simp [State.runOp, h, hstands]

theorem exec_of_findOp (hexec : exec i s = .next (s.runOp p rel opcode issue)) (h : s.findOp p rel opcode = some (s1, c, r)) :
    exec i s = .next (if s1.stands c = true then (s1.setJob p ((s1.job p).advance r.id false)).afterWork p
      else (issue s1 c r).afterWork p) :=
  hexec.trans (congrArg _ (State.runOp_of_findOp h))

end

/-- Settles O19: each command runs the operation that it finds with its own way of issuing it. -/
theorem movingOperationsIssue : Obligations.MovingOperationsIssue := by
  intro part rel waited data s s1 c r due past
  refine ⟨?collective, ?transfer, ?checkpointCopy, ?digest⟩
  case collective => exact exec_of_findOp (issue := fun s c r => s.issueCollective c r waited) rfl
  case transfer => exact exec_of_findOp (issue := fun s c r => (s.noteWaits c waited).issueTransfer c r data) rfl
  case checkpointCopy => exact exec_of_findOp (issue := fun s c r => s.issueCkpt c r (s.ckCopy c)) rfl
  case digest => exact exec_of_findOp (issue := fun s c r => s.issueCkpt c r (s.ckDigest c)) rfl

/-! ### A tile's share completes (R246) -/

/-- The share of a tile in a release, if one is under way. -/
def Job.shareOf (j : Job) (rel tile : Nat) : Option Share :=
  j.shares.find? (fun y => decide (y.rel = rel) && decide (y.tile = tile))

theorem Job.shareOf_is {j : Job} {rel tile : Nat} {x : Share} (h : j.shareOf rel tile = some x) : x.rel = rel ∧ x.tile = tile := by
  simpa using List.find?_some h

theorem exec_operationComplete (part : Fin 4) (rel tile : Nat) (s : State) :
    exec (.operationComplete part rel tile) s = execOperationComplete part rel tile s := rfl

theorem operationComplete_stopped {part : Fin 4} {rel tile : Nat} {s : State} (hstop : s.workStopped tile = true) :
    exec (.operationComplete part rel tile) s = .next s := by
  rw [exec_operationComplete, execOperationComplete, if_pos hstop, ok]

/-- What a share that completed lets go on: nothing in UNLOADING, where the last one ends the unload (R235). -/
def State.afterShare (s : State) (p : Nat) : State :=
  if s.imageState p = IS.unloading then if (s.job p).shares.isEmpty = true then s.unloadDone p else s else s.afterWork p

section
variable {s : State} {p : Nat}

theorem State.afterShare_goesOn (hstate : s.imageState p ≠ 4) : s.afterShare p = s.afterWork p := if_neg hstate

theorem State.afterShare_unloading (hstate : s.imageState p = 4) (hleft : (s.job p).shares ≠ []) : s.afterShare p = s :=
  (if_pos hstate).trans (if_neg (mt List.isEmpty_iff.mp hleft))

theorem State.afterShare_last (hstate : s.imageState p = 4) (hlast : (s.job p).shares = []) : s.afterShare p = s.unloadDone p :=
  (if_pos hstate).trans (if_pos (List.isEmpty_iff.mpr hlast))

end

theorem operationComplete_completes {part : Fin 4} {rel tile : Nat} {s : State} {x : Share}
    (hshare : (s.job part.val).shareOf rel tile = some x) (hrun : s.workStopped tile = false) :
    exec (.operationComplete part rel tile) s = .next ((s.completeShare part.val x).afterShare part.val) := by
  rw [Job.shareOf] at hshare
  rw [exec_operationComplete, execOperationComplete, State.afterShare]
  simp only [hrun, hshare, Bool.false_eq_true, if_false, ok]
  split <;> rfl

/-! ### A collective's start and end (R355) -/

theorem exec_collectiveStart (part : Fin 4) (entry waited : Nat) (s : State) :
    exec (.collectiveStart part entry waited) s =
      .next (if s.boot.stopCause.isSome = true then s else (s.collNext part.val entry waited).afterWork part.val) := rfl

theorem collectiveStart_starts {part : Fin 4} {entry waited : Nat} {s : State} (hrun : s.boot.stopCause = none) :
    exec (.collectiveStart part entry waited) s = .next ((s.collNext part.val entry waited).afterWork part.val) := by
  rw [exec_collectiveStart, if_neg (by simp [hrun])]

theorem collectiveStart_stopped {part : Fin 4} {entry waited : Nat} {s : State} (hstop : s.boot.stopCause ≠ none) :
    exec (.collectiveStart part entry waited) s = .next s := by
  rw [exec_collectiveStart, if_pos (Option.isSome_iff_ne_none.mpr hstop)]

/-- The run of an entry leaves its partition; one whose operation is tagged is kept for the end of the step (R354). -/
def State.collRunEnded (s : State) (p : Nat) (r : CRun) : State :=
  s.setJob p { s.job p with
    colls := (s.job p).colls.erase r
    collTagged := if r.tagged && !r.own then r :: (s.job p).collTagged else (s.job p).collTagged }

/-- A grain that an entry received into its image's spill region is counted (R175). -/
def State.collSpilled (s : State) (p : Nat) (c : Coll) (r : CRun) : Option Image → State
  | some im => if c.kind = 5 ∧ r.dstPre.isSome = true then s.spillGrain p r.step im c.dst r.grain else s
  | none => s

theorem exec_collectiveComplete (part : Fin 4) (entry : Nat) (s : State) :
    exec (.collectiveComplete part entry) s = execCollectiveComplete part entry s := rfl

theorem collectiveComplete_ends {part : Fin 4} {entry : Nat} {s : State} {c : Coll} {r : CRun}
    (hcoll : (s.job part.val).coll entry = some c)
    (hfind : (s.job part.val).colls.find? (fun y => decide (y.entry = entry)) = some r)
    (hdone : s.collDone part.val c r = true) (hrun : s.boot.stopCause = none) :
    exec (.collectiveComplete part entry) s =
      .next (((((((s.collRunEnded part.val r).collSpilled part.val c r (s.job part.val).image).collFreed part.val entry).inc
        (O.at O.COLL_ENTRIES_COMPLETED part.val)).post part.val c.post r.step r.tagged).normSend part.val).afterWork part.val) := by
  rw [exec_collectiveComplete, execCollectiveComplete]
  simp only [hcoll, hfind, hdone, hrun, Option.isSome_none, Bool.false_eq_true, if_false, if_true, ok]
  cases himage : (s.job part.val).image with
  | none => simp only [State.collSpilled, State.collRunEnded, himage]
  | some im => simp only [State.collSpilled, State.collRunEnded, himage, Bool.and_eq_true, decide_eq_true_eq]

/-- Settles O20: what a completed share lets go on depends on UNLOADING, and a stop holds back a share and a start. -/
theorem workCompletes : Obligations.WorkCompletes := by
  refine ⟨fun part rel tile s x hshare =>
      ⟨fun hstop => completes_of_next (operationComplete_stopped hstop), fun hrun => ?share⟩,
    fun part entry waited s => ⟨fun hrun => completes_of_next (collectiveStart_starts hrun), collectiveStart_stopped⟩, ?coll⟩
  case share =>
    obtain ⟨hrel, htile⟩ := Job.shareOf_is hshare
    have hexec := operationComplete_completes hshare hrun
    refine ⟨hrel, htile, fun hstate => ?goesOn, fun hstate hleft => ?unloading, fun hstate hlast => ?last⟩
    case goesOn => exact ⟨_, hexec, State.afterShare_goesOn hstate⟩
    case unloading => exact ⟨_, hexec, State.afterShare_unloading hstate hleft⟩
    case last => exact ⟨_, hexec, State.afterShare_last hstate hlast⟩
  case coll =>
    intro part entry s c r hcoll hfind hdone hrun j s1 s2
    exact collectiveComplete_ends hcoll hfind hdone hrun

end Sys2Proof.Machine

/-! States that differ in the values of some dictionary objects and in what the management processor keeps, as after counts and
events; and a refused access, which is one such note (R277). -/

namespace Sys2Proof.Machine

theorem SameMemory.trans {s t u : State} (h : SameMemory s t) (h' : SameMemory t u) : SameMemory s u :=
  sameMemory_iff.mpr ((sameMemory_iff.mp h').trans (sameMemory_iff.mp h))

theorem SameWork.trans {s t u : State} (h : SameWork s t) (h' : SameWork t u) : SameWork s u := by
  obtain ⟨hjobs, hnet, hhost, hflash, hstore⟩ := h
  obtain ⟨hjobs', hnet', hhost', hflash', hstore'⟩ := h'
  exact ⟨hjobs'.trans hjobs, hnet'.trans hnet, hhost'.trans hhost, hflash'.trans hflash, hstore'.trans hstore⟩

/-- A state is another but for the values of some objects and for what the management processor keeps. -/
structure OnlyNotes (s t : State) (ks : List Nat) : Prop where
  rest : t = { s with dict := t.dict, mgmt := t.mgmt }
  objects : SameObjects s t ks

theorem State.raise_rest (s : State) (code : Nat) (a : EvArgs) :
    s.raise code a = { s with dict := (s.raise code a).dict, mgmt := (s.raise code a).mgmt } := by
  unfold State.raise
  split <;> rfl

namespace OnlyNotes

theorem refl (s : State) (ks : List Nat) : OnlyNotes s s ks := ⟨rfl, fun _ _ => rfl⟩

section
variable {s t : State} {ks : List Nat} (h : OnlyNotes s t ks)
include h

theorem mgmt (m : Mgmt) : OnlyNotes s { t with mgmt := m } ks :=
  ⟨congrArg (fun u : State => { u with dict := t.dict, mgmt := m }) h.rest, h.objects⟩

theorem put {k : Nat} (hk : k ∈ ks) (v : Nat) : OnlyNotes s (t.put k v) ks :=
  ⟨congrArg (fun u : State => { u with dict := (t.put k v).dict, mgmt := t.mgmt }) h.rest,
    fun i hi => (t.obj_put_ne k v i fun heq => hi (heq ▸ hk)).trans (h.objects i hi)⟩

theorem add {k : Nat} (hk : k ∈ ks) (n : Nat) : OnlyNotes s (t.add k n) ks := h.put hk _

theorem inc {k : Nat} (hk : k ∈ ks) : OnlyNotes s (t.inc k) ks := h.add hk 1

theorem raise (hk : O.EVENTS_LOST ∈ ks) (code : Nat) (a : EvArgs) : OnlyNotes s (t.raise code a) ks :=
  ⟨(t.raise_rest code a).trans
      (congrArg (fun u : State => { u with dict := (t.raise code a).dict, mgmt := (t.raise code a).mgmt }) h.rest),
    fun i hi => (t.raise_obj code a i fun heq => hi (heq ▸ hk)).trans (h.objects i hi)⟩

theorem ite (c : Prop) [Decidable c] {u : State} (h' : OnlyNotes s u ks) : OnlyNotes s (if c then u else t) ks := by
  split
  · exact h'
  · exact h

theorem raiseEvery (hk : O.EVENTS_LOST ∈ ks) (code who intervalNs : Nat) (a : EvArgs) :
    OnlyNotes s (t.raiseEvery code who intervalNs a) ks := by
  unfold State.raiseEvery
  dsimp only
  split
  · exact ((h.mgmt _).raise hk code a).ite _ (h.mgmt _)
  · exact (h.mgmt _).raise hk code a

theorem sameMemory : SameMemory s t := by
  rw [h.rest]
  exact sameMemory_refl s

theorem sameWork : SameWork s t := by
  rw [h.rest]
  exact sameWork_refl s

theorem out : t.out = s.out := by rw [h.rest]

theorem beat : t.beat = s.beat := by rw [h.rest]

end

end OnlyNotes

/-! ### A refused access is counted, recorded and raised (R277, R298) -/

/-- The objects beside the count of refusals that may change as an access to what partition p owns is refused. -/
abbrev refusalObjects (p : Nat) : List Nat :=
  [O.LAST_REFUSAL, O.at O.NOT_OWNER_COUNT p, O.at O.REMOTE_REFUSED p, O.at O.STORE_BUSY_COUNT p, O.EVENTS_LOST]

theorem State.refuseAt_onlyNotes (s : State) (r : Requester) (p addr status : Nat) :
    OnlyNotes (s.inc O.ACCESS_REFUSED) (s.refuseAt r p addr status) (refusalObjects p) := by
  have hrecord := (OnlyNotes.refl (s.inc O.ACCESS_REFUSED) (refusalObjects p)).put (k := O.LAST_REFUSAL) (by simp)
  have counted {t : State} (h : OnlyNotes (s.inc O.ACCESS_REFUSED) t (refusalObjects p)) (c : Prop) [Decidable c] {k : Nat}
      (hk : k ∈ refusalObjects p) := h.ite c (h.inc hk)
  exact (counted (counted (counted (hrecord _) _ (by simp)) _ (by simp)) _ (by simp)).raiseEvery (by simp) _ _ _ _

section
variable (s : State) (r : Requester) (addr status : Nat)

theorem State.refuse_onlyNotes : ∃ p, OnlyNotes (s.inc O.ACCESS_REFUSED) (s.refuse r addr status) (refusalObjects p) :=
  ⟨_, s.refuseAt_onlyNotes r _ addr status⟩

theorem State.refuse_sameMemory : SameMemory s (s.refuse r addr status) :=
  (s.refuse_onlyNotes r addr status).elim fun _ h => h.sameMemory

theorem State.refuse_sameWork : SameWork s (s.refuse r addr status) :=
  (s.refuse_onlyNotes r addr status).elim fun _ h => h.sameWork

theorem State.refuse_out : (s.refuse r addr status).out = s.out := (s.refuse_onlyNotes r addr status).elim fun _ h => h.out

theorem State.refuse_counts : (s.refuse r addr status).obj O.ACCESS_REFUSED = (s.obj O.ACCESS_REFUSED + 1) % 2 ^ 64 := by
  obtain ⟨p, h⟩ := s.refuse_onlyNotes r addr status
  have hother : O.ACCESS_REFUSED ∉ refusalObjects p := by
    simp only [List.mem_cons, List.not_mem_nil, or_false, not_or]
    exact ⟨by decide, O.at_ne 0 p (by decide), O.at_ne 0 p (by decide), O.at_ne 0 p (by decide), by decide⟩
  rw [h.objects _ hother, State.obj_inc, if_pos rfl]

end

end Sys2Proof.Machine

/-! Host accesses through the memory windows (R272 to R275, R279, R282, R474): the check of an access decides whether it passes, waits or is
refused, and each of the three has its own effects. -/

namespace Sys2Proof.Machine

/-! ### The check decides -/

/-- The access that a read through a BAR of a host port is. -/
abbrev barReadOf (port : Fin 4) (bar : Fin 3) (off len : Nat) : HeldAccess := ⟨port.val, bar.val, off, len, none⟩

/-- The access that a write through a BAR of a host port is. -/
abbrev barWriteOf (port : Fin 4) (bar : Fin 3) (off : Nat) (bs : List Byte) : HeldAccess :=
  ⟨port.val, bar.val, off, bs.length, some bs⟩

/-- A host access through a memory window of a port that belongs to partition p, within the BAR. -/
structure State.InWindow (s : State) (x : HeldAccess) (p : Nat) : Prop where
  part : s.portPart x.port = some p
  window : x.bar ≠ 0
  nonempty : x.len ≠ 0
  within : x.off + x.len ≤ barSize x.bar

section
variable {s : State} (port : Fin 4) (bar : Fin 3) (off : Nat) (hup : s.portsUp = true)
include hup

theorem exec_hostBarRead (len : Nat) :
    exec (.hostBarRead port bar off len) s = .next (s.barAccess (barReadOf port bar off len)) := by
  change execHostBarRead port bar off len s = _
  rw [execHostBarRead, hup]
  rfl

theorem exec_hostBarWrite (bs : List Byte) :
    exec (.hostBarWrite port bar off bs) s = .next (s.barAccess (barWriteOf port bar off bs)) := by
  change execHostBarWrite port bar off bs s = _
  rw [execHostBarWrite, hup]
  rfl

end

theorem exec_heldAccessResume (s : State) :
    exec .heldAccessResume s =
      .next (s.host.heldAcc.foldl State.barAccess { s with host := { s.host with heldAcc := [] } }) := rfl

/-- A host access after those that wait already. -/
def State.holdAccess (s : State) (x : HeldAccess) : State :=
  { s with host := { s.host with heldAcc := s.host.heldAcc ++ [x] } }

section
variable {s : State} {x : HeldAccess} {p : Nat} (h : s.InWindow x p)
include h

theorem State.barAccess_checks :
    s.barAccess x =
      match s.barCheck x.port p (barAddr x.bar p x.off) x.len x.write.isSome with
      | none => s.holdAccess x
      | some st =>
        if st = Acc.ok then s.memAccess x (barAddr x.bar p x.off % 2 ^ 50) else s.barRefuse x p (barAddr x.bar p x.off) st := by
  obtain ⟨hpart, hwindow, hnonempty, hwithin⟩ := h
  simp only [State.barAccess, hpart, hwindow, hnonempty, Nat.not_lt.mpr hwithin, if_false]
  rfl

theorem State.barAccess_waits (hcheck : s.barCheck x.port p (barAddr x.bar p x.off) x.len x.write.isSome = none) :
    s.barAccess x = s.holdAccess x := by
  rw [State.barAccess_checks h, hcheck]

theorem State.barAccess_passes (hcheck : s.barCheck x.port p (barAddr x.bar p x.off) x.len x.write.isSome = some Acc.ok) :
    s.barAccess x = s.memAccess x (barAddr x.bar p x.off % 2 ^ 50) := by
  rw [State.barAccess_checks h, hcheck]
  exact if_pos rfl

theorem State.barAccess_refused {st : Nat}
    (hcheck : s.barCheck x.port p (barAddr x.bar p x.off) x.len x.write.isSome = some st) (hst : st ≠ Acc.ok) :
    s.barAccess x = s.barRefuse x p (barAddr x.bar p x.off) st := by
  rw [State.barAccess_checks h, hcheck]
  exact if_neg hst

end

/-! ### An access that passes (R474) -/

theorem fin4_val (n : Fin 4) : fin4 n.val = n := Fin.ext (Nat.mod_eq_of_lt n.isLt)

/-- Bytes read from a stack are counted as its own. -/
theorem State.countRead_onlyNotes (s : State) (a n : Nat) {ks : List Nat} (hk : O.at O.BYTES_READ ((storeOf a).getD 0) ∈ ks) :
    OnlyNotes s (s.countRead a n) ks := by
  unfold State.countRead
  split
  next st hst =>
    rw [hst] at hk
    split
    · exact (OnlyNotes.refl s ks).add hk n
    · exact OnlyNotes.refl s ks
  next => exact OnlyNotes.refl s ks

/-- Bytes written change memory and heal units that they cover; those written to a stack are counted as its own. -/
theorem State.writeMem_onlyNotes (s : State) (a : Nat) (bs : List Byte) {ks : List Nat}
    (hk : O.at O.BYTES_WRITTEN ((storeOf a).getD 0) ∈ ks) :
    OnlyNotes { s with mem := (s.writeMem a bs).mem, poison := (s.writeMem a bs).poison } (s.writeMem a bs) ks := by
  rw [State.writeMem_mem, State.writeMem_poison]
  unfold State.writeMem
  dsimp only
  split
  next st hst =>
    rw [hst] at hk
    split
    · exact (OnlyNotes.refl _ ks).add hk bs.length
    · exact OnlyNotes.refl _ ks
  next => exact OnlyNotes.refl _ ks

theorem State.memAccess_read (s : State) (port : Fin 4) (bar : Fin 3) (off len a : Nat) :
    s.memAccess (barReadOf port bar off len) a =
      ((s.countRead a len).add (O.at O.HOST_BYTES_READ port.val) len).send (.barData port 0 (s.readMem a len)) := by
  rw [State.memAccess, State.barAnswer, fin4_val]

theorem State.memAccess_write (s : State) (port : Fin 4) (bar : Fin 3) (off a : Nat) (bs : List Byte) :
    s.memAccess (barWriteOf port bar off bs) a = (s.writeMem a bs).add (O.at O.HOST_BYTES_WRITTEN port.val) bs.length := rfl

/-- Settles O26: an access that passes its check reads or writes memory at the address of its offset, and beside that counts. -/
theorem hostReachesItsMemory : Obligations.HostReachesItsMemory := by
  intro port bar off p s hup hpart hbar
  refine ⟨fun len hlen hwithin hcheck => ?read, fun bs hbs hwithin hwf hcheck => ?write⟩
  case read =>
    have hin : s.InWindow (barReadOf port bar off len) p := ⟨hpart, hbar, Nat.ne_of_gt hlen, hwithin⟩
    have hcounts := (s.countRead_onlyNotes (barAddr bar.val p off % 2 ^ 50) len
      (ks := [O.at O.HOST_BYTES_READ port.val, O.at O.BYTES_READ ((storeOf (barAddr bar.val p off % 2 ^ 50)).getD 0)]) (by simp)).add
        (k := O.at O.HOST_BYTES_READ port.val) (by simp) len
    refine ⟨_, exec_hostBarRead port bar off hup len, ?_⟩
    rw [State.barAccess_passes hin hcheck, State.memAccess_read]
    exact ⟨congrArg _ hcounts.out, hcounts.sameMemory, hcounts.sameWork, hcounts.beat, hcounts.objects⟩
  case write =>
    have hin : s.InWindow (barWriteOf port bar off bs) p := ⟨hpart, hbar, mt List.length_eq_zero_iff.mp hbs, hwithin⟩
    have hcounts := (s.writeMem_onlyNotes (barAddr bar.val p off % 2 ^ 50) bs
      (ks := [O.at O.HOST_BYTES_WRITTEN port.val, O.at O.BYTES_WRITTEN ((storeOf (barAddr bar.val p off % 2 ^ 50)).getD 0)]) (by simp)).add
        (k := O.at O.HOST_BYTES_WRITTEN port.val) (by simp) bs.length
    refine ⟨_, exec_hostBarWrite port bar off hup bs, ?_⟩
    rw [State.barAccess_passes hin hcheck, State.memAccess_write]
    exact ⟨fun x => s.read_writeMem_outside _ bs x hwf, fun i b => s.read_writeMem_inside _ bs i b hwf, hcounts.out,
      s.writeMem_layout _ bs, hcounts.sameWork, hcounts.beat, hcounts.objects⟩

/-! ### An access that is refused (R474) -/

section
variable (s : State) (port : Fin 4) (bar : Fin 3) (off p addr st : Nat)

theorem State.barRefuse_read (len : Nat) :
    s.barRefuse (barReadOf port bar off len) p addr st =
      (s.refuse (.host port.val p) addr st).send (.barData port (if st = 1 ∨ st = 3 then 1 else 2) []) := by
  simp only [State.barRefuse, State.barAnswer, pcieStatus, fin4_val, Bool.or_eq_true, decide_eq_true_eq]
  rfl

theorem State.barRefuse_write (bs : List Byte) :
    s.barRefuse (barWriteOf port bar off bs) p addr st =
      (s.refuse (.host port.val p) addr st).setPort port.val
        { (s.refuse (.host port.val p) addr st).port port.val with aerUr := true } := rfl

end

/-- Settles O27: the check of an access decides that it waits or is refused, and resuming checks all that wait again. -/
theorem hostAccessWaitsOrIsRefused : Obligations.HostAccessWaitsOrIsRefused := by
  refine ⟨fun port bar off p s hup hpart hbar => ⟨fun len hlen hwithin => ?read, fun bs hbs hwithin => ?write⟩,
    fun s => completes_of_next (exec_heldAccessResume s)⟩
  case read =>
    have hin : s.InWindow (barReadOf port bar off len) p := ⟨hpart, hbar, Nat.ne_of_gt hlen, hwithin⟩
    refine ⟨fun hcheck => (exec_hostBarRead port bar off hup len).trans (congrArg _ (State.barAccess_waits hin hcheck)),
      fun st hcheck hst => ⟨_, exec_hostBarRead port bar off hup len, ?_⟩⟩
    rw [State.barAccess_refused hin hcheck hst, State.barRefuse_read]
    exact ⟨congrArg _ (State.refuse_out ..), State.refuse_sameMemory .., State.refuse_sameWork .., State.refuse_counts ..⟩
  case write =>
    have hin : s.InWindow (barWriteOf port bar off bs) p := ⟨hpart, hbar, mt List.length_eq_zero_iff.mp hbs, hwithin⟩
    refine ⟨fun hcheck => (exec_hostBarWrite port bar off hup bs).trans (congrArg _ (State.barAccess_waits hin hcheck)),
      fun st hcheck hst => ⟨_, exec_hostBarWrite port bar off hup bs, ?_⟩⟩
    rw [State.barAccess_refused hin hcheck hst, State.barRefuse_write]
    obtain ⟨hjobs, -⟩ := s.refuse_sameWork (.host port.val p) (barAddr bar.val p off) st
    exact ⟨State.refuse_out .., State.refuse_sameMemory .., congrArg Port.aerUr (State.port_setPort_same ..), hjobs,
      State.refuse_counts ..⟩

end Sys2Proof.Machine

/-! Errors in memory and the end of a die's zeroing (R279, R289 to R291, R295): what a read finds is counted, an uncorrectable error
poisons its unit, and a die whose zeroing ends lets go on what waited for it alone. -/

namespace Sys2Proof.Machine

/-! ### A poisoned unit (R290) -/

theorem State.poisonUnit_eq (s : State) (a : Nat) : s.poisonUnit a = { s with poison := (s.poisonUnit a).poison } := by
  unfold State.poisonUnit
  dsimp only
  split <;> rfl

theorem State.poisonUnit_obj (s : State) (a k : Nat) : (s.poisonUnit a).obj k = s.obj k := by
  rw [s.poisonUnit_eq a]
  rfl

theorem State.poisonUnit_boot (s : State) (a : Nat) : (s.poisonUnit a).boot = s.boot := by
  rw [s.poisonUnit_eq a]

theorem State.poisonUnit_sameWork (s : State) (a : Nat) : SameWork s (s.poisonUnit a) := by
  rw [s.poisonUnit_eq a]
  exact sameWork_refl s

theorem State.mem_poisonUnit_poison (s : State) {a : Nat} (ha : 64 ∣ a) (x : Nat) :
    x ∈ (s.poisonUnit a).poison ↔ x = a ∨ x ∈ s.poison := by
  rw [State.poisonUnit, Nat.div_mul_cancel ha]
  split
  next h => exact ⟨.inr, fun hx => hx.elim (fun heq => heq ▸ List.contains_iff_mem.mp h) id⟩
  next => exact List.mem_cons

section
variable (s : State) {a : Nat} (ha : 64 ∣ a)
include ha

theorem State.mem_poisonUnit_self : a ∈ (s.poisonUnit a).poison := (s.mem_poisonUnit_poison ha a).mpr (.inl rfl)

theorem State.mem_poisonUnit_other {x : Nat} (hx : x ≠ a) : x ∈ (s.poisonUnit a).poison ↔ x ∈ s.poison :=
  (s.mem_poisonUnit_poison ha x).trans (or_iff_right hx)

end

theorem dvd_hbmAddr {b : Nat} (h : Nat) (hb : 64 ∣ b) : 64 ∣ hbmAddr h b :=
  Nat.dvd_add (Nat.dvd_mul_left_of_dvd (by decide) h) hb

theorem dvd_storeAddr {b : Nat} (k : Nat) (hb : 64 ∣ b) : 64 ∣ storeAddr k b := by
  unfold storeAddr actAddr tileAddr space1
  split
  · exact dvd_hbmAddr k hb
  · split <;> omega

/-! ### Errors in a stack (R289, R290, R295) -/

/-- A row of a stack is listed for repair, once. -/
def State.listRepair (s : State) (k : Nat) : State :=
  if s.boot.repairs.contains k then s else { s with boot := { s.boot with repairs := s.boot.repairs ++ [k] } }

theorem State.listRepair_eq (s : State) (k : Nat) :
    s.listRepair k = { s with boot := { s.boot with repairs := (s.listRepair k).boot.repairs } } := by
  unfold State.listRepair
  split <;> rfl

theorem State.mem_listRepair (s : State) (k : Nat) : k ∈ (s.listRepair k).boot.repairs := by
  unfold State.listRepair
  split
  next h => exact List.contains_iff_mem.mp h
  next => simp

theorem State.listRepair_obj (s : State) (k i : Nat) : (s.listRepair k).obj i = s.obj i := by
  rw [s.listRepair_eq k]
  rfl

theorem State.listRepair_sameMemory (s : State) (k : Nat) : SameMemory s (s.listRepair k) := by
  rw [s.listRepair_eq k]
  exact sameMemory_refl s

theorem State.listRepair_sameWork (s : State) (k : Nat) : SameWork s (s.listRepair k) := by
  rw [s.listRepair_eq k]
  exact sameWork_refl s

/-- A corrected error of a stack is counted. -/
def State.stackCe (s : State) (h : Nat) : State := (s.inc O.HBM_CE_TOTAL).inc (O.at O.CE_COUNT h)

/-- An uncorrectable error of a stack is counted and named. -/
def State.stackUe (s : State) (h u : Nat) : State :=
  ((s.inc O.HBM_UE_TOTAL).inc (O.at O.UE_COUNT h)).put O.LAST_UE (fld 0 h + fld 8 u)

/-- What a read of the unit at byte b of stack h does by what the error correction finds, where the unit lies in `row`. -/
def State.stackRead (s : State) (h b row err : Nat) : State :=
  let poisoned := ((s.stackUe h (hbmAddr h b)).listRepair (h * 2 ^ 32 + row % 2 ^ 32)).poisonUnit (hbmAddr h b)
  if err = 1 then s.stackCe h
  else if err = 2 then (if resvBase ≤ b then poisoned.reservedUe h (b - resvBase) else poisoned)
  else s

/-- The last unit of H7, read by the scrub, ends a pass. -/
def State.scrubPass (s : State) (h b : Nat) (scrub : Bool) : State :=
  if scrub = true ∧ h = 7 ∧ b + 64 = stackSize then s.inc O.SCRUB_PASSES else s

theorem exec_patrolScrub (store : Fin 396) (unit row : Nat) (found : EccRead) (s : State) :
    exec (.patrolScrub store unit found row) s = execPatrolScrub store unit found row s := rfl

theorem patrolScrub_stack {stack : Fin 396} (hstack : stack.val < 8) (unit row : Nat) (err : Fin 3) (scrub : Bool) (s : State) :
    exec (.patrolScrub stack unit ⟨err, scrub⟩ row) s =
      .next ((s.scrubPass stack.val (unit % (stackSize / 64) * 64) scrub).stackRead stack.val (unit % (stackSize / 64) * 64) row
        err.val) := by
  have hsize : storeSize stack.val = stackSize := if_pos hstack
  simp only [exec_patrolScrub, execPatrolScrub, if_neg (Nat.not_le.mpr hstack), hsize, Bool.and_eq_true, decide_eq_true_eq, and_assoc]
  rw [State.stackRead]
  split
  · rfl
  · split <;> rfl

/-- An object whose key is below another's is none of the other's numbered ones. -/
theorem O.ne_at_of_lt {k i : Nat} (hlt : k < i) (n : Nat) : k ≠ O.at i n := Nat.ne_of_lt (Nat.lt_add_right _ hlt)

section
variable (s : State) (h : Nat)

theorem State.stackRead_ue {b : Nat} (hb : b < resvBase) (row : Nat) :
    s.stackRead h b row 2 =
      ((s.stackUe h (hbmAddr h b)).listRepair (h * 2 ^ 32 + row % 2 ^ 32)).poisonUnit (hbmAddr h b) :=
  if_neg (Nat.not_le.mpr hb)

theorem State.stackCe_onlyNotes : OnlyNotes s (s.stackCe h) [O.HBM_CE_TOTAL, O.at O.CE_COUNT h] :=
  ((OnlyNotes.refl s _).inc (by simp)).inc (by simp)

theorem State.stackCe_total : (s.stackCe h).obj O.HBM_CE_TOTAL = (s.obj O.HBM_CE_TOTAL + 1) % 2 ^ 64 := by
  rw [State.stackCe, State.obj_inc, if_neg (O.ne_at_of_lt (by decide) h), State.obj_inc, if_pos rfl]

theorem State.stackCe_count :
    (s.stackCe h).obj (O.at O.CE_COUNT h) = (s.obj (O.at O.CE_COUNT h) + 1) % 2 ^ 64 := by
  rw [State.stackCe, State.obj_inc, if_pos rfl, State.obj_inc, if_neg (O.ne_at_of_lt (by decide) h).symm]

variable (u : Nat)

theorem State.stackUe_onlyNotes :
    OnlyNotes s (s.stackUe h u) [O.HBM_UE_TOTAL, O.at O.UE_COUNT h, O.LAST_UE] :=
  (((OnlyNotes.refl s _).inc (by simp)).inc (by simp)).put (by simp) _

theorem State.stackUe_total : (s.stackUe h u).obj O.HBM_UE_TOTAL = (s.obj O.HBM_UE_TOTAL + 1) % 2 ^ 64 := by
  rw [State.stackUe, State.obj_put_ne _ _ _ _ (by decide), State.obj_inc, if_neg (O.ne_at_of_lt (by decide) h), State.obj_inc,
    if_pos rfl]

theorem State.stackUe_count :
    (s.stackUe h u).obj (O.at O.UE_COUNT h) = (s.obj (O.at O.UE_COUNT h) + 1) % 2 ^ 64 := by
  rw [State.stackUe, State.obj_put_ne _ _ _ _ (O.ne_at_of_lt (by decide) h).symm, State.obj_inc, if_pos rfl, State.obj_inc,
    if_neg (O.ne_at_of_lt (by decide) h).symm]

theorem State.stackUe_last : (s.stackUe h u).obj O.LAST_UE = fld 0 h + fld 8 u := State.obj_put_same ..

/-- What an uncorrectable error of a stack leaves, once the row k is listed and the unit at u poisoned. -/
theorem State.stackUe_poisons (hdvd : 64 ∣ u) (k : Nat) :
    let t := ((s.stackUe h u).listRepair k).poisonUnit u
    t.obj O.HBM_UE_TOTAL = (s.obj O.HBM_UE_TOTAL + 1) % 2 ^ 64 ∧
      t.obj (O.at O.UE_COUNT h) = (s.obj (O.at O.UE_COUNT h) + 1) % 2 ^ 64 ∧
      t.obj O.LAST_UE = fld 0 h + fld 8 u ∧ u ∈ t.poison ∧ (∀ x, x ≠ u → (x ∈ t.poison ↔ x ∈ s.poison)) ∧
      k ∈ t.boot.repairs ∧ t.mem = s.mem ∧ SameWork s t ∧ SameObjects s t [O.HBM_UE_TOTAL, O.at O.UE_COUNT h, O.LAST_UE] := by
  intro t
  have hcounts := s.stackUe_onlyNotes h u
  obtain ⟨hmem, hpoison, -⟩ := (s.stackUe h u).listRepair_sameMemory k
  have hwork := ((s.stackUe h u).listRepair_sameWork k).trans (State.poisonUnit_sameWork _ u)
  have hobj (i : Nat) : t.obj i = (s.stackUe h u).obj i := (State.poisonUnit_obj ..).trans (State.listRepair_obj ..)
  refine ⟨(hobj _).trans (s.stackUe_total h u), (hobj _).trans (s.stackUe_count h u), (hobj _).trans (s.stackUe_last h u),
    State.mem_poisonUnit_self _ hdvd, fun x hx => ?_, ?_, (State.poisonUnit_mem ..).trans hmem, hwork,
    fun i hi => (hobj i).trans (hcounts.objects i hi)⟩
  · rw [State.mem_poisonUnit_other _ hdvd hx, hpoison]
    rfl
  · rw [State.poisonUnit_boot]
    exact State.mem_listRepair ..

end

section
variable {stack : Fin 396} (hstack : stack.val < 8) (unit row : Nat) {scrub : Bool} (s : State)
include hstack

section
variable (hpass : ¬(scrub = true ∧ stack.val = 7 ∧ unit % (stackSize / 64) * 64 + 64 = stackSize))
include hpass

/-- A read that ends no pass of the scrub does what its finding says. -/
theorem patrolScrub_finds (err : Fin 3) :
    exec (.patrolScrub stack unit ⟨err, scrub⟩ row) s =
      .next (s.stackRead stack.val (unit % (stackSize / 64) * 64) row err.val) := by
  rw [patrolScrub_stack hstack, State.scrubPass, if_neg hpass]

theorem patrolScrub_corrects :
    Completes (.patrolScrub stack unit ⟨1, scrub⟩ row) s (fun t =>
      t.obj O.HBM_CE_TOTAL = (s.obj O.HBM_CE_TOTAL + 1) % 2 ^ 64 ∧
      t.obj (O.at O.CE_COUNT stack.val) = (s.obj (O.at O.CE_COUNT stack.val) + 1) % 2 ^ 64 ∧
      SameMemory s t ∧ SameWork s t ∧ SameObjects s t [O.HBM_CE_TOTAL, O.at O.CE_COUNT stack.val]) := by
  have hcounts := s.stackCe_onlyNotes stack.val
  exact ⟨_, patrolScrub_finds hstack unit row s hpass 1, s.stackCe_total stack.val, s.stackCe_count stack.val, hcounts.sameMemory,
    hcounts.sameWork, hcounts.objects⟩

theorem patrolScrub_poisons (hb : unit % (stackSize / 64) * 64 < resvBase) :
    Completes (.patrolScrub stack unit ⟨2, scrub⟩ row) s (fun t =>
      let u := hbmAddr stack.val (unit % (stackSize / 64) * 64)
      t.obj O.HBM_UE_TOTAL = (s.obj O.HBM_UE_TOTAL + 1) % 2 ^ 64 ∧
      t.obj (O.at O.UE_COUNT stack.val) = (s.obj (O.at O.UE_COUNT stack.val) + 1) % 2 ^ 64 ∧
      t.obj O.LAST_UE = fld 0 stack.val + fld 8 u ∧ u ∈ t.poison ∧ (∀ x, x ≠ u → (x ∈ t.poison ↔ x ∈ s.poison)) ∧
      stack.val * 2 ^ 32 + row % 2 ^ 32 ∈ t.boot.repairs ∧ t.mem = s.mem ∧ SameWork s t ∧
      SameObjects s t [O.HBM_UE_TOTAL, O.at O.UE_COUNT stack.val, O.LAST_UE]) := by
  have hdvd : 64 ∣ hbmAddr stack.val (unit % (stackSize / 64) * 64) := dvd_hbmAddr stack.val (Nat.dvd_mul_left 64 _)
  exact ⟨_, (patrolScrub_finds hstack unit row s hpass 2).trans (congrArg _ (s.stackRead_ue stack.val hb row)),
    s.stackUe_poisons stack.val _ hdvd _⟩

end

/-- The scrub's read of the last unit of H7 ends a pass. -/
theorem patrolScrub_endsPass (hlast : stack.val = 7) (hend : unit % (stackSize / 64) * 64 + 64 = stackSize) :
    exec (.patrolScrub stack unit ⟨0, true⟩ row) s = .next (s.inc O.SCRUB_PASSES) := by
  rw [patrolScrub_stack hstack, State.scrubPass, if_pos ⟨rfl, hlast, hend⟩]
  rfl

end

/-! ### Errors in an on-chip store (R289, R290) -/

section
variable {store : Fin 396} (hstore : 8 ≤ store.val) (unit row : Nat) (s : State)
include hstore

theorem patrolScrub_onChip (found : EccRead) :
    exec (.patrolScrub store unit found row) s =
      .next (if found.scrub then s else s.sramError store.val (unit % (storeSize store.val / 64) * 64) found.err.val) := by
  rw [exec_patrolScrub]
  exact if_pos hstore

theorem patrolScrub_correctsOnChip :
    Completes (.patrolScrub store unit ⟨1, false⟩ row) s (fun t => t.obj O.SRAM_CE_TOTAL = (s.obj O.SRAM_CE_TOTAL + 1) % 2 ^ 64 ∧
      SameMemory s t ∧ SameWork s t ∧ SameObjects s t [O.SRAM_CE_TOTAL]) :=
  ⟨_, patrolScrub_onChip hstore unit row s ⟨1, false⟩, State.obj_put_same .., sameMemory_refl s, sameWork_refl s,
    sameObjects_put _ _ _⟩

theorem patrolScrub_poisonsOnChip :
    let u := storeAddr store.val (unit % (storeSize store.val / 64) * 64)
    Completes (.patrolScrub store unit ⟨2, false⟩ row) s (fun t => t.obj O.SRAM_UE_TOTAL = (s.obj O.SRAM_UE_TOTAL + 1) % 2 ^ 64 ∧
      t.obj O.LAST_UE = fld 0 store.val + fld 8 u ∧ u ∈ t.poison ∧ (∀ x, x ≠ u → (x ∈ t.poison ↔ x ∈ s.poison)) ∧
      t.mem = s.mem ∧ SameWork s t ∧ SameObjects s t [O.SRAM_UE_TOTAL, O.LAST_UE]) := by
  intro u
  have hdvd : 64 ∣ u := dvd_storeAddr store.val (Nat.dvd_mul_left 64 _)
  have hcounts : OnlyNotes s ((s.inc O.SRAM_UE_TOTAL).put O.LAST_UE (fld 0 store.val + fld 8 u)) [O.SRAM_UE_TOTAL, O.LAST_UE] :=
    ((OnlyNotes.refl s _).inc (by simp)).put (by simp) _
  refine ⟨_, patrolScrub_onChip hstore unit row s ⟨2, false⟩, (State.poisonUnit_obj ..).trans ?_,
    (State.poisonUnit_obj ..).trans (State.obj_put_same ..), State.mem_poisonUnit_self _ hdvd,
    fun x hx => State.mem_poisonUnit_other _ hdvd hx, State.poisonUnit_mem .., State.poisonUnit_sameWork .., fun i hi =>
    (State.poisonUnit_obj ..).trans (hcounts.objects i hi)⟩
  rw [State.obj_put_ne _ _ _ _ (by decide), State.obj_inc, if_pos rfl]

end

/-! ### The zeroing of a die ends (R279) -/

theorem exec_dieZeroingComplete (die : Fin 4) (s : State) :
    exec (.dieZeroingComplete die) s =
      (let s1 := { s with host := { s.host with zeroing := setBit s.host.zeroing die.val false } }
      let s2 := { s1 with net := { s1.net with zeroHeld := s.net.zeroHeld.filter s1.pktHeld } }
      .next ((s.net.zeroHeld.filter (fun x => !s1.pktHeld x)).foldl (fun s x => s.handle x.1 x.2.1 x.2.2) s2).startAllWaiting) := rfl

theorem State.startAllWaiting_of_noPairs {s : State} (h : ∀ n, (s.port n).qs = []) : s.startAllWaiting = s := by
  simp [State.startAllWaiting, h]

theorem bit_zero (w : Nat) : bit w 0 = decide (w % 2 = 1) := by simp [bit]

theorem bit_eq_testBit (w i : Nat) : bit w i = w.testBit i := Nat.testBit_eq_decide_div_mod_eq.symm

theorem bit_succ (w i : Nat) : bit w (i + 1) = bit (w / 2) i := by
  rw [bit_eq_testBit, bit_eq_testBit, Nat.testBit_add_one]

theorem two_pow_le_of_bit {w i : Nat} (h : bit w i = true) : 2 ^ i ≤ w :=
  Nat.ge_two_pow_of_testBit ((bit_eq_testBit w i).symm.trans h)

theorem setBit_zero_false (w : Nat) : setBit w 0 false = 2 * (w / 2) := by
  simp only [setBit, bit_zero, Bool.false_eq_true, if_false, decide_eq_true_eq]
  split <;> omega

theorem setBit_succ_false (w i : Nat) : setBit w (i + 1) false = 2 * setBit (w / 2) i false + w % 2 := by
  simp only [setBit, bit_succ, Bool.false_eq_true, if_false]
  split
  next h =>
    have hle := two_pow_le_of_bit h
    rw [Nat.pow_succ']
    omega
  next => omega

theorem bit_setBit_false (w i d : Nat) : bit (setBit w i false) d = if d = i then false else bit w d := by
  induction i generalizing w d with
  | zero =>
    rw [setBit_zero_false]
    cases d with
    | zero => simp [bit_zero]
    | succ d => simp [bit_succ]
  | succ i ih =>
    rw [setBit_succ_false]
    cases d with
    | zero => simp [bit_zero]
    | succ d =>
      have hhalf : (2 * setBit (w / 2) i false + w % 2) / 2 = setBit (w / 2) i false := by omega
      rw [bit_succ, bit_succ, hhalf, ih]
      simp

/-- With no packet and no descriptor waiting, the end of a die's zeroing clears its mark and nothing else. -/
theorem dieZeroingComplete_alone {s : State} (hheld : s.net.zeroHeld = []) (hpairs : ∀ n, (s.port n).qs = []) (die : Fin 4) :
    exec (.dieZeroingComplete die) s =
      .next { s with host := { s.host with zeroing := setBit s.host.zeroing die.val false },
                     net := { s.net with zeroHeld := [] } } := by
  rw [exec_dieZeroingComplete, hheld]
  exact congrArg _ (State.startAllWaiting_of_noPairs hpairs)

/-- Settles O28: what a read finds decides what it counts and poisons, and the end of a die's zeroing clears the mark of that die. -/
theorem scrubFindsErrors : Obligations.ScrubFindsErrors := by
  refine ⟨fun stack unit row scrub s hstack hpass => ?stack, fun unit row s hend => ?pass, fun store unit row s hstore => ?onChip,
    fun s die => ⟨completes_of_next (exec_dieZeroingComplete die s), fun hheld hpairs d => ?zeroing⟩⟩
  case stack =>
    exact ⟨patrolScrub_finds hstack unit row s hpass 0, patrolScrub_corrects hstack unit row s hpass,
      patrolScrub_poisons hstack unit row s hpass⟩
  case pass =>
    exact ⟨_, patrolScrub_endsPass (stack := 7) (by decide) unit row s rfl hend, State.obj_put_same .., sameMemory_refl s,
      sameWork_refl s, sameObjects_put _ _ _⟩
  case onChip =>
    exact ⟨fun err => patrolScrub_onChip hstore unit row s ⟨err, true⟩, patrolScrub_correctsOnChip hstore unit row s,
      patrolScrub_poisonsOnChip hstore unit row s⟩
  case zeroing =>
    refine ⟨_, dieZeroingComplete_alone hheld hpairs die, ?_, rfl, sameMemory_refl s⟩
    rw [bit_setBit_false]
    simp only [Fin.ext_iff]

end Sys2Proof.Machine

/-! Checkpoint objects, and copies that are flushed (R297, R424, R429, R430, R435 to R437): a cursor block and a store target are kept
when they follow their tables, and a copy that has been handed over ends as its flush tells. -/

namespace Sys2Proof.Machine

/-! ### Cursors and the store target (R429, R436) -/

theorem exec_dataCursorsWrite (who : Who) (part : Fin 4) (v : Nat) (s : State) :
    exec (.dataCursorsWrite who part v) s = rowWrite s who (O.at O.DATA_CURSORS part.val) v (·.dataCursors part.val v) := rfl

theorem exec_storeTargetWrite (who : Who) (part : Fin 4) (v status : Nat) (s : State) :
    exec (.storeTargetWrite who part v status) s =
      rowWrite s who (O.at O.STORE_TARGET part.val) v (·.storeTarget part.val v status) := rfl

section
variable {s : State} {p v : Nat}

theorem State.dataCursors_of_ok (hcount : recF v 8 1 ≤ 16) (hresv : recF v 9 7 = 0) :
    s.dataCursors p v =
      ((s.put (O.at O.DATA_CURSORS p) v).setJob p
        { s.job p with ckpt := { (s.job p).ckpt with cursors := v :: (s.job p).ckpt.cursors } }, St.ok) := by
  simp [State.dataCursors, Nat.not_lt.mpr hcount, hresv]

theorem State.dataCursors_of_bad (h : 16 < recF v 8 1 ∨ recF v 9 7 ≠ 0) : s.dataCursors p v = (s, St.refused) := by
  obtain h | h := h <;> simp [State.dataCursors, h]

/-- A store target that breaks Table 15.7. -/
abbrev targetBad (v : Nat) : Prop := recF v 18 2 ≠ 0 ∨ recF v 41 7 ≠ 0 ∨ (v ≠ 0 ∧ (recF v 40 1 = 0 ∨ 8 < recF v 40 1))

/-- A partition's store target with the network's answer; its old slots are forgotten. -/
def State.targeted (s : State) (p v status : Nat) : State :=
  { s.store (O.at O.STORE_TARGET p) v with
      storeCk := (s.store (O.at O.STORE_TARGET p) v).storeCk.drop (fun k => k / 8 = p) }.put (O.at O.STORE_STATUS p)
    (if v = 0 then 0 else max 1 (min 4 status))

theorem State.storeTarget_eq (status : Nat) :
    s.storeTarget p v status = if targetBad v then (s, St.refused) else (s.targeted p v status, St.ok) := by
  simp only [State.storeTarget, Bool.or_eq_true, Bool.and_eq_true, decide_eq_true_eq, or_assoc]
  rfl

theorem not_targetBad (hport : recF v 18 2 = 0) (hresv : recF v 41 7 = 0) (hslots : v ≠ 0 → 1 ≤ recF v 40 1 ∧ recF v 40 1 ≤ 8) :
    ¬targetBad v := by
  rintro (h | h | ⟨hv, h⟩)
  · exact h hport
  · exact h hresv
  · obtain ⟨hlow, hhigh⟩ := hslots hv
    omega

variable (s p v)

theorem State.targeted_target (status : Nat) : (s.targeted p v status).obj (O.at O.STORE_TARGET p) = v :=
  (State.obj_put_ne _ _ _ _ (O.at_ne p p (by decide))).trans (s.store_obj v (O.at_ne p 0 (by decide)))

theorem State.targeted_storeCk (status k : Nat) :
    (s.targeted p v status).storeCk.find k = if k / 8 = p then none else s.storeCk.find k := by
  obtain ⟨-, ⟨-, -, -, -, hstore⟩, -⟩ := s.store_frame (O.at O.STORE_TARGET p) v
  have hdrop : (s.targeted p v status).storeCk = (s.store (O.at O.STORE_TARGET p) v).storeCk.drop (fun k => k / 8 = p) := rfl
  rw [hdrop, Tab.find_drop, hstore]
  simp only [decide_eq_true_eq]

theorem State.targeted_sameObjects (status : Nat) :
    SameObjects s (s.targeted p v status) [O.at O.STORE_TARGET p, O.at O.STORE_STATUS p, O.PERSIST_WRITES] := by
  intro k hk
  simp only [List.mem_cons, List.not_mem_nil, or_false, not_or] at hk
  obtain ⟨htarget, hstatus, hwrites⟩ := hk
  obtain ⟨-, -, hobjects⟩ := s.store_frame (O.at O.STORE_TARGET p) v
  exact (State.obj_put_ne _ _ _ _ hstatus).trans (hobjects k (by simp [htarget, hwrites]))

end

section
variable {who : Who} {part : Fin 4} {v : Nat} {s : State}

theorem dataCursorsWrite_kept (h : Admits s who (O.at O.DATA_CURSORS part.val) v) (hcount : recF v 8 1 ≤ 16)
    (hresv : recF v 9 7 = 0) :
    Completes (.dataCursorsWrite who part v) s (fun t => t.obj (O.at O.DATA_CURSORS part.val) = v ∧
      t.job part.val = { s.job part.val with
        ckpt := { (s.job part.val).ckpt with cursors := v :: (s.job part.val).ckpt.cursors } } ∧
      Tells t who (O.at O.DATA_CURSORS part.val) St.ok ∧ SameMemory s t ∧ SameObjects s t [O.at O.DATA_CURSORS part.val]) :=
  ⟨_, exec_of_answer (exec_dataCursorsWrite ..) h (State.dataCursors_of_ok hcount hresv), State.obj_put_same ..,
    State.job_setJob_same .., tells_send .., sameMemory_refl s, sameObjects_put _ _ _⟩

theorem dataCursorsWrite_refused (h : Admits s who (O.at O.DATA_CURSORS part.val) v) (hbad : 16 < recF v 8 1 ∨ recF v 9 7 ≠ 0) :
    exec (.dataCursorsWrite who part v) s = .next (s.send (.status who (O.at O.DATA_CURSORS part.val) St.refused)) :=
  exec_of_answer (exec_dataCursorsWrite ..) h (State.dataCursors_of_bad hbad)

variable (status : Nat) (h : Admits s who (O.at O.STORE_TARGET part.val) v)
include h

theorem storeTargetWrite_stored (hgood : ¬targetBad v) :
    Completes (.storeTargetWrite who part v status) s (fun t => t.obj (O.at O.STORE_TARGET part.val) = v ∧
      t.obj (O.at O.STORE_STATUS part.val) = (if v = 0 then 0 else max 1 (min 4 status)) ∧
      (∀ k, k / 8 = part.val → t.storeCk.find k = none) ∧ (∀ k, k / 8 ≠ part.val → t.storeCk.find k = s.storeCk.find k) ∧
      Tells t who (O.at O.STORE_TARGET part.val) St.ok ∧ SameMemory s t ∧ t.jobs = s.jobs ∧
      SameObjects s t [O.at O.STORE_TARGET part.val, O.at O.STORE_STATUS part.val, O.PERSIST_WRITES]) := by
  obtain ⟨hmemory, ⟨hjobs, -⟩, -⟩ := s.store_frame (O.at O.STORE_TARGET part.val) v
  exact ⟨_, exec_of_answer (exec_storeTargetWrite ..) h ((State.storeTarget_eq status).trans (if_neg hgood)),
    s.targeted_target part.val v status, State.obj_put_same .., fun k hk => (s.targeted_storeCk part.val v status k).trans (if_pos hk),
    fun k hk => (s.targeted_storeCk part.val v status k).trans (if_neg hk), tells_send .., hmemory, hjobs,
    s.targeted_sameObjects part.val v status⟩

theorem storeTargetWrite_refused (hbad : targetBad v) :
    exec (.storeTargetWrite who part v status) s = .next (s.send (.status who (O.at O.STORE_TARGET part.val) St.refused)) :=
  exec_of_answer (exec_storeTargetWrite ..) h ((State.storeTarget_eq status).trans (if_pos hbad))

end

/-! ### Slot headers (Table 15.4) -/

section
variable (layer c job member chip epoch len cal crc : Nat)

/-- What a slot header holds from its BOUNDARY on. -/
def headerTail : Nat :=
  c + 256 ^ 8 * (job + 256 ^ 8 * (member + 256 ^ 2 * (chip + 256 ^ 2 * (epoch + 256 ^ 4 * (len + 256 ^ 8 * (cal + 256 ^ 8 * crc))))))

theorem slotHeader_eq (state : Nat) :
    slotHeader state layer c job member chip epoch len cal crc =
      0x534B4356 + 256 ^ 4 * (state + 256 * (layer + 256 ^ 3 * headerTail c job member chip epoch len cal crc)) := by
  unfold slotHeader fld headerTail
  omega

theorem headerTail_mod : headerTail c job member chip epoch len cal crc % 256 ^ 8 = c % 2 ^ 64 := Nat.add_mul_mod_self_left ..

theorem recF_slotHeader_state {state : Nat} (hstate : state < 256) :
    recF (slotHeader state layer c job member chip epoch len cal crc) 4 1 = state := by
  rw [recF, slotHeader_eq]
  omega

theorem recF_slotHeader_boundary {state : Nat} (hstate : state < 256) {layer : Nat} (hlayer : layer < 256 ^ 3) :
    recF (slotHeader state layer c job member chip epoch len cal crc) 8 8 = c % 2 ^ 64 := by
  rw [recF, slotHeader_eq]
  have hlow : (0x534B4356 + 256 ^ 4 * (state + 256 * (layer + 256 ^ 3 * headerTail c job member chip epoch len cal crc))) / 256 ^ 8 =
      headerTail c job member chip epoch len cal crc := by omega
  rw [hlow, headerTail_mod]

end

/-! ### A slot that is given a header (R296, R297) -/

/-- The objects that change as the flash wears. -/
abbrev wearObjects : List Nat := [O.FLASH_BYTES_WRITTEN, O.FLASH_LIFE_USED, O.FLASH_WRITE_ENABLED, O.EVENTS_LOST]

theorem OnlyNotes.flashWear {s t : State} {ks : List Nat} (h : OnlyNotes s t ks) (hk : wearObjects ⊆ ks) (n : Nat) :
    OnlyNotes s (t.flashWear n) ks := by
  simp only [List.cons_subset, List.nil_subset, and_true] at hk
  obtain ⟨hbytes, hlife, henabled, hlost⟩ := hk
  have hworn := (h.add hbytes n).put hlife
  have hwarned (v : Nat) (c : Prop) [Decidable c] := (hworn v).ite c ((hworn v).raise hlost 0x2C04 {})
  exact (hwarned _ _).ite _ (((hwarned _ _).put henabled 0).raise hlost 0x3C05 {})

theorem State.putSlot_flash (s : State) (p k : Nat) (x : CkSlot) :
    ∃ y, OnlyNotes { s with flashCk := s.flashCk.set (8 * p + k) y } (s.putSlot p 2 k x) wearObjects ∧
      y.header = x.header ∧ y.copy = x.copy :=
  ⟨_, (OnlyNotes.refl _ _).flashWear (List.Subset.refl _) 65536, rfl, rfl⟩

theorem State.putSlot_store (s : State) (p k : Nat) (x : CkSlot) :
    s.putSlot p 3 k x =
      ({ s with storeCk := s.storeCk.set (8 * p + k) { x with copy := [] } }).send (.store p (s.storeAt p k) (toLE 64 x.header)) := rfl

/-! ### A copy that has been handed over is flushed (R430, R435) -/

section
variable (s : State) (p layer : Nat) (r : CkRun) (im : Image)

/-- The header that a flushed copy gets. -/
def State.flushedHeader : Nat :=
  slotHeader 2 layer r.boundary im.jobId (s.job p).memberIx (s.obj O.CHIP_NUMBER) (s.obj O.CHIP_EPOCH) (r.data.get 0 []).length s.calNs
    (crc32c ((r.data.get 0 []).take (im.manifestLen layer)))

theorem State.flushedHeader_state : recF (s.flushedHeader p layer r im) 4 1 = 2 := recF_slotHeader_state _ _ _ _ _ _ _ _ _ (by decide)

theorem State.flushedHeader_boundary (hlayer : layer < 256 ^ 3) :
    recF (s.flushedHeader p layer r im) 8 8 = r.boundary % 2 ^ 64 :=
  recF_slotHeader_boundary _ _ _ _ _ _ _ _ (by decide) hlayer

/-- The slot of a flushed copy is filled, with the checkpoint no longer under way. -/
def State.slotFilled : State :=
  (s.setJob p ((s.job p).dropCkRun layer r.boundary)).putSlot p layer (r.slot.getD 0)
    { header := s.flushedHeader p layer r im, copy := r.data.get 0 [] }

theorem State.slotFilled_flash :
    SameMemory s (s.slotFilled p 2 r im) ∧ (s.slotFilled p 2 r im).net = s.net ∧
      ∃ y, (s.slotFilled p 2 r im).flashCk = s.flashCk.set (8 * p + r.slot.getD 0) y ∧
        y.header = s.flushedHeader p 2 r im ∧ y.copy = r.data.get 0 [] := by
  obtain ⟨y, hnotes, hheader, hcopy⟩ := (s.setJob p ((s.job p).dropCkRun 2 r.boundary)).putSlot_flash p (r.slot.getD 0)
    { header := s.flushedHeader p 2 r im, copy := r.data.get 0 [] }
  obtain ⟨-, hnet, -, hflash, -⟩ := hnotes.sameWork
  exact ⟨hnotes.sameMemory, hnet, y, hflash, hheader, hcopy⟩

theorem State.slotFilled_store :
    SameMemory s (s.slotFilled p 3 r im) ∧ (s.slotFilled p 3 r im).net = s.net ∧
      ∃ y, (s.slotFilled p 3 r im).storeCk = s.storeCk.set (8 * p + r.slot.getD 0) y ∧ y.header = s.flushedHeader p 3 r im :=
  ⟨sameMemory_refl s, rfl, _, rfl, rfl⟩

end

section
variable {s : State} {p layer : Nat} {r : CkRun} {im : Image}
  (hrun : (s.job p).ckpt.runs.find? (fun x => x.layer = layer && x.handed) = some r) (himage : (s.job p).image = some im)
include hrun himage

theorem State.ckFlushed_fails : s.ckFlushed p layer false = s.abandon p r 2 := by
  simp [State.ckFlushed, hrun, himage]

/-- A flushed flash copy names its boundary, is counted and wears the flash. -/
theorem State.ckFlushed_flash (hlayer : layer = 2) (hon : s.obj O.FLASH_WRITE_ENABLED ≠ 0) :
    OnlyNotes ((s.slotFilled p 2 r im).put (O.at O.LAST_BOUNDARY_FLASH p) r.boundary) (s.ckFlushed p layer true)
      (O.at O.FLASH_CKPT_BYTES p :: wearObjects) := by
  subst hlayer
  simp only [State.ckFlushed, hrun, himage, hon]
  exact (((OnlyNotes.refl _ _).raise (by simp) 0x1101 _).add (by simp) _).flashWear (List.subset_cons_self ..) _

/-- A flushed store copy names its boundary. -/
theorem State.ckFlushed_store (hlayer : layer = 3) :
    OnlyNotes ((s.slotFilled p 3 r im).put (O.at O.LAST_BOUNDARY_STORE p) r.boundary) (s.ckFlushed p layer true) [O.EVENTS_LOST] := by
  subst hlayer
  simp only [State.ckFlushed, hrun, himage]
  exact (OnlyNotes.refl _ _).raise (by simp) 0x1101 _

end

theorem exec_flashCkptComplete (part : Fin 4) (good : Bool) (s : State) :
    exec (.flashCkptComplete part good) s = .next (s.ckFlushed part.val 2 good) := rfl

theorem exec_storeCkptComplete (part : Fin 4) (good : Bool) (s : State) :
    exec (.storeCkptComplete part good) s = .next (s.ckFlushed part.val 3 good) := rfl

theorem exec_ckptHoldResume (part : Fin 4) (cycles : Nat) (s : State) :
    exec (.ckptHoldResume part cycles) s =
      .next (((((s.add (O.at O.CKPT_HOLD_WAIT_CYCLES part.val) cycles).resumeHeld part.val).resumeColls part.val).afterWork
        part.val).startAllWaiting) := rfl

section
variable {part : Fin 4} {s : State} {r : CkRun} {im : Image} (himage : (s.job part.val).image = some im)
include himage

theorem flashCkptComplete_fills
    (hrun : (s.job part.val).ckpt.runs.find? (fun x => decide (x.layer = 2) && x.handed) = some r)
    (hon : s.obj O.FLASH_WRITE_ENABLED ≠ 0) :
    Completes (.flashCkptComplete part true) s (fun t => t.obj (O.at O.LAST_BOUNDARY_FLASH part.val) = r.boundary ∧
      (∃ x, t.flashCk.find (8 * part.val + r.slot.getD 0) = some x ∧ recF x.header 4 1 = 2 ∧
        recF x.header 8 8 = r.boundary % 2 ^ 64 ∧ x.copy = r.data.get 0 []) ∧ SameMemory s t ∧ t.net = s.net) := by
  obtain ⟨hmemory, hnet, y, hslot, hheader, hcopy⟩ := s.slotFilled_flash part.val r im
  have hnotes := State.ckFlushed_flash hrun himage rfl hon
  obtain ⟨-, hnet', -, hflash, -⟩ := hnotes.sameWork
  have hother : O.at O.LAST_BOUNDARY_FLASH part.val ∉ O.at O.FLASH_CKPT_BYTES part.val :: wearObjects := by
    simp only [List.mem_cons, List.not_mem_nil, or_false, not_or]
    exact ⟨O.at_ne _ _ (by decide), O.at_ne _ 0 (by decide), O.at_ne _ 0 (by decide), O.at_ne _ 0 (by decide), O.at_ne _ 0 (by decide)⟩
  have hfind : (s.ckFlushed part.val 2 true).flashCk.find (8 * part.val + r.slot.getD 0) = some y := by
    rw [hflash.trans hslot, Tab.find_set, if_pos rfl]
  exact ⟨_, exec_flashCkptComplete .., (hnotes.objects _ hother).trans (State.obj_put_same ..),
    ⟨y, hfind, by rw [hheader, State.flushedHeader_state], by rw [hheader, State.flushedHeader_boundary _ _ _ _ _ (by decide)], hcopy⟩,
    hmemory.trans hnotes.sameMemory, hnet'.trans hnet⟩

theorem storeCkptComplete_fills
    (hrun : (s.job part.val).ckpt.runs.find? (fun x => decide (x.layer = 3) && x.handed) = some r) :
    Completes (.storeCkptComplete part true) s (fun t => t.obj (O.at O.LAST_BOUNDARY_STORE part.val) = r.boundary ∧
      (∃ x, t.storeCk.find (8 * part.val + r.slot.getD 0) = some x ∧ recF x.header 4 1 = 2 ∧
        recF x.header 8 8 = r.boundary % 2 ^ 64) ∧ SameMemory s t ∧ t.net = s.net) := by
  obtain ⟨hmemory, hnet, y, hslot, hheader⟩ := s.slotFilled_store part.val r im
  have hnotes := State.ckFlushed_store hrun himage rfl
  obtain ⟨-, hnet', -, -, hstore⟩ := hnotes.sameWork
  have hother : O.at O.LAST_BOUNDARY_STORE part.val ∉ [O.EVENTS_LOST] := by
    rw [List.mem_singleton]
    exact O.at_ne _ 0 (by decide)
  have hfind : (s.ckFlushed part.val 3 true).storeCk.find (8 * part.val + r.slot.getD 0) = some y := by
    rw [hstore.trans hslot, Tab.find_set, if_pos rfl]
  exact ⟨_, exec_storeCkptComplete .., (hnotes.objects _ hother).trans (State.obj_put_same ..),
    ⟨y, hfind, by rw [hheader, State.flushedHeader_state], by rw [hheader, State.flushedHeader_boundary _ _ _ _ _ (by decide)]⟩,
    hmemory.trans hnotes.sameMemory, hnet'.trans hnet⟩

end

/-- Settles O45: each object write answers by its table, and a flush fills the slot of its copy with a VALID header or abandons it. -/
theorem checkpointsComplete : Obligations.CheckpointsComplete := by
  intro part s p j
  refine ⟨fun who v hadmits => ⟨dataCursorsWrite_kept hadmits, dataCursorsWrite_refused hadmits⟩, fun who v status hadmits => ?target,
    fun r im himage => ⟨fun hrun => ?flash, fun hrun => ?store⟩, fun cycles => completes_of_next (exec_ckptHoldResume part cycles s)⟩
  case target =>
    exact ⟨fun hport hresv hslots => storeTargetWrite_stored status hadmits (not_targetBad hport hresv hslots),
      storeTargetWrite_refused status hadmits⟩
  case flash =>
    exact ⟨flashCkptComplete_fills himage hrun,
      (exec_flashCkptComplete ..).trans (congrArg _ (State.ckFlushed_fails hrun himage))⟩
  case store =>
    exact ⟨storeCkptComplete_fills himage hrun,
      (exec_storeCkptComplete ..).trans (congrArg _ (State.ckFlushed_fails hrun himage))⟩

end Sys2Proof.Machine

/-! The partition layout (R279, R475, R477, R487): the ranges of memory that go with a die, which of their bytes are zeroed, and what else
changes as a staged layout takes effect. -/

namespace Sys2Proof.Machine

/-! ### Zeroed ranges (R279) -/

/-- Whether an address lies in one of some ranges, each given by its first address and its length. -/
def inRanges (rs : List (Nat × Nat)) (x : Nat) : Bool := rs.any (fun r => r.1 ≤ x && x < r.1 + r.2)

theorem inRanges_cons (r : Nat × Nat) (rs : List (Nat × Nat)) (x : Nat) :
    inRanges (r :: rs) x = true ↔ (r.1 ≤ x ∧ x < r.1 + r.2) ∨ inRanges rs x = true := by simp [inRanges]

/-- Ranges of memory are zeroed. -/
def State.zeroRanges (s : State) (rs : List (Nat × Nat)) : State := rs.foldl (fun s r => s.zeroMem r.1 r.2) s

theorem State.zeroRanges_eq (s : State) (rs : List (Nat × Nat)) :
    s.zeroRanges rs = { s with mem := (s.zeroRanges rs).mem, poison := (s.zeroRanges rs).poison } := by
  induction rs generalizing s with
  | nil => rfl
  | cons r rs ih => exact ih (s.zeroMem r.1 r.2)

theorem State.read_zeroRanges {s : State} (h : Memory.wf s.mem = true) (rs : List (Nat × Nat)) (x : Nat) :
    Memory.read (s.zeroRanges rs).mem x = if inRanges rs x = true then 0 else Memory.read s.mem x := by
  induction rs generalizing s with
  | nil => rfl
  | cons r rs ih =>
    have hread : Memory.read (s.zeroMem r.1 r.2).mem x = if r.1 ≤ x ∧ x < r.1 + r.2 then 0 else Memory.read s.mem x :=
      Memory.read_clear s.mem r.1 (r.1 + r.2) x h
    have hstep : s.zeroRanges (r :: rs) = (s.zeroMem r.1 r.2).zeroRanges rs := rfl
    rw [hstep, ih (s.zeroMem_wf r.1 r.2 h), hread]
    by_cases hrest : inRanges rs x = true
    · rw [if_pos hrest, if_pos ((inRanges_cons ..).mpr (.inr hrest))]
    · simp only [inRanges_cons, hrest, or_false, Bool.false_eq_true, if_false]

/-- The ranges that are zeroed with a die: its tiles, its activation store, and of both its stacks what lies below the reserved region and
the checkpoint staging. -/
def dieRanges (d : Nat) : List (Nat × Nat) :=
  [(tileAddr (96 * d) 0, 96 * 0x200000), (actAddr d 0, 0x8000000),
   (hbmAddr (2 * d) 0, resvBase), (hbmAddr (2 * d) (resvBase + 0x8000000), 0x18000000),
   (hbmAddr (2 * d + 1) 0, resvBase), (hbmAddr (2 * d + 1) (resvBase + 0x8000000), 0x18000000)]

theorem State.zeroDie_eq (s : State) (d : Nat) : s.zeroDie d = s.zeroRanges (dieRanges d) := rfl

theorem State.foldl_zeroDie (s : State) (ds : List Nat) : ds.foldl State.zeroDie s = s.zeroRanges (ds.flatMap dieRanges) := by
  rw [State.zeroRanges, List.foldl_flatMap]
  exact congrArg (List.foldl · s ds) (funext fun s => funext s.zeroDie_eq)

section
variable {d : Nat} (hd : d < 4)
include hd

theorem inRanges_tile {tile b : Nat} (htile : tile < 384) (hb : b < 0x200000) :
    inRanges (dieRanges d) (tileAddr tile b) = true ↔ tile / 96 = d := by
  simp only [inRanges, dieRanges, List.any_cons, List.any_nil, Bool.or_false, Bool.or_eq_true, Bool.and_eq_true, decide_eq_true_eq]
  simp only [tileAddr, actAddr, hbmAddr, space1, resvBase]
  omega

theorem inRanges_hbm {h b : Nat} (hh : h < 8) (hb : b < resvBase) : inRanges (dieRanges d) (hbmAddr h b) = true ↔ h / 2 = d := by
  simp only [inRanges, dieRanges, List.any_cons, List.any_nil, Bool.or_false, Bool.or_eq_true, Bool.and_eq_true, decide_eq_true_eq]
  simp only [tileAddr, actAddr, hbmAddr, space1, resvBase] at hb ⊢
  omega

end

/-- An address that goes with one die alone reads as zero once the dies are zeroed, if its own is among them, and as before if not. -/
theorem State.read_foldl_zeroDie {s : State} (hwf : Memory.wf s.mem = true) {ds : List Nat} (hds : ∀ d ∈ ds, d < 4) {x die : Nat}
    (hx : ∀ d, d < 4 → (inRanges (dieRanges d) x = true ↔ die = d)) :
    Memory.read (ds.foldl State.zeroDie s).mem x = if die ∈ ds then 0 else Memory.read s.mem x := by
  have hin : inRanges (ds.flatMap dieRanges) x = true ↔ die ∈ ds := by
    rw [inRanges, List.any_flatMap, List.any_eq_true]
    constructor
    · rintro ⟨d, hd, hr⟩
      exact (hx d (hds d hd)).mp hr ▸ hd
    · exact fun hd => ⟨die, hd, (hx die (hds die hd)).mpr rfl⟩
  rw [State.foldl_zeroDie, State.read_zeroRanges hwf]
  simp only [hin]

theorem State.movedDies_lt (s : State) (w : Nat) : ∀ d ∈ s.movedDies w, d < 4 :=
  fun _ hd => List.mem_range.mp (List.mem_filter.mp hd).1

/-! ### Released handles (R487) -/

theorem State.releaseOffloads_eq (s : State) :
    s.releaseOffloads = { s with dict := s.releaseOffloads.dict, host := s.releaseOffloads.host } := by
  unfold State.releaseOffloads
  refine List.foldlRecOn _ _ (motive := fun t : State => t = { s with dict := t.dict, host := t.host }) rfl fun t ht who _ => ?_
  obtain heq | ⟨x, heq⟩ := t.finishDesc_cases who (status := 0) 0 (by decide) <;> rw [heq]
  · exact ht
  · let u := (t.setQp who.1 who.2.1 x).inc (O.at O.DESCRIPTORS_COMPLETED who.1)
    exact congrArg (fun v : State => { v with dict := u.dict, host := u.host }) ht

theorem State.releaseOffloads_obj (s : State) {k : Nat} (hk : k < O.DESCRIPTORS_COMPLETED) : s.releaseOffloads.obj k = s.obj k := by
  unfold State.releaseOffloads
  refine List.foldlRecOn _ _ (motive := fun t : State => t.obj k = s.obj k) rfl fun t ht who _ => ?_
  obtain heq | ⟨x, heq⟩ := t.finishDesc_cases who (status := 0) 0 (by decide) <;> rw [heq]
  · exact ht
  · rw [State.obj_inc, if_neg (O.ne_at_of_lt hk who.1)]
    exact ht

/-! ### A layout takes effect (R475) -/

/-- The staged layout. -/
def State.staged (s : State) : Layout :=
  { dieOwner := s.obj O.DIE_OWNER, portPart := s.obj O.PORT_PARTITION, links := s.stagedLinks }

/-- The staged layout is what the objects before LAYOUT_APPLY hold. -/
theorem State.staged_congr {s t : State} (h : ∀ k, k < O.LAYOUT_APPLY → t.obj k = s.obj k) : t.staged = s.staged := by
  have hlinks : t.stagedLinks = s.stagedLinks :=
    List.map_congr_left fun p hp => h _ (Nat.add_lt_add_left (List.mem_range.mp hp) O.LINK_SET_P0)
  rw [State.staged, State.staged, h _ (by decide), h _ (by decide), hlinks]

/-- The memory that changes owner is zeroed, and the offload handles are released. -/
def State.vacated (s : State) : State := ((s.movedDies (s.obj O.DIE_OWNER)).foldl State.zeroDie s).releaseOffloads

section
variable (s : State)

theorem State.vacated_mem : s.vacated.mem = ((s.movedDies (s.obj O.DIE_OWNER)).foldl State.zeroDie s).mem := by
  rw [State.vacated, State.releaseOffloads_eq]

theorem State.vacated_jobs : s.vacated.jobs = s.jobs := by
  rw [State.vacated, State.releaseOffloads_eq, State.foldl_zeroDie, State.zeroRanges_eq]

theorem State.vacated_beat : s.vacated.beat = s.beat := by
  rw [State.vacated, State.releaseOffloads_eq, State.foldl_zeroDie, State.zeroRanges_eq]

theorem State.vacated_obj {k : Nat} (hk : k < O.DESCRIPTORS_COMPLETED) : s.vacated.obj k = s.obj k := by
  rw [State.vacated, State.releaseOffloads_obj _ hk, State.foldl_zeroDie, State.zeroRanges_eq]
  rfl

theorem State.vacated_staged : s.vacated.staged = s.staged :=
  State.staged_congr fun _ hk => s.vacated_obj (Nat.lt_trans hk (by decide))

/-- As a layout takes effect, memory that changes owner is zeroed, the layout is the staged one, and what the old shares held of flash,
host ports and network goes; then the change is counted and raised. -/
theorem State.layoutTake_onlyNotes :
    ∃ flashCk host net, OnlyNotes
      (State.inc { s.vacated with layout := s.staged, flashCk := flashCk, host := host, net := net } O.LAYOUT_CHANGES)
      s.layoutTake [O.EVENTS_LOST] := by
  have hlayout : s.staged =
      { dieOwner := s.obj O.DIE_OWNER, portPart := s.vacated.obj O.PORT_PARTITION, links := s.vacated.stagedLinks } := by
    rw [← s.vacated_staged, State.staged, s.vacated_obj (k := O.DIE_OWNER) (by decide)]
  rw [hlayout]
  exact ⟨_, _, _, (OnlyNotes.refl _ _).raise (by simp) 0x1001 {}⟩

theorem State.layoutTake_layout : s.layoutTake.layout = s.staged := by
  obtain ⟨_, _, _, h⟩ := s.layoutTake_onlyNotes
  obtain ⟨-, -, hlayout⟩ := h.sameMemory
  exact hlayout

theorem State.layoutTake_mem : s.layoutTake.mem = ((s.movedDies (s.obj O.DIE_OWNER)).foldl State.zeroDie s).mem := by
  obtain ⟨_, _, _, h⟩ := s.layoutTake_onlyNotes
  obtain ⟨hmem, -, -⟩ := h.sameMemory
  exact hmem.trans s.vacated_mem

theorem State.layoutTake_jobs : s.layoutTake.jobs = s.jobs := by
  obtain ⟨_, _, _, h⟩ := s.layoutTake_onlyNotes
  obtain ⟨hjobs, -⟩ := h.sameWork
  exact hjobs.trans s.vacated_jobs

theorem State.layoutTake_beat : s.layoutTake.beat = s.beat := by
  obtain ⟨_, _, _, h⟩ := s.layoutTake_onlyNotes
  exact h.beat.trans s.vacated_beat

theorem State.layoutTake_result : s.layoutTake.obj O.LAYOUT_RESULT = s.obj O.LAYOUT_RESULT := by
  obtain ⟨_, _, _, h⟩ := s.layoutTake_onlyNotes
  rw [h.objects _ (by decide), State.obj_inc, if_neg (by decide)]
  exact s.vacated_obj (by decide)

theorem State.layoutTake_changes : s.layoutTake.obj O.LAYOUT_CHANGES = (s.obj O.LAYOUT_CHANGES + 1) % 2 ^ 64 := by
  obtain ⟨_, _, _, h⟩ := s.layoutTake_onlyNotes
  rw [h.objects _ (by decide), State.obj_inc, if_pos rfl]
  exact congrArg (fun n => (n + 1) % 2 ^ 64) (s.vacated_obj (by decide))

end

theorem exec_layoutApply (who : Who) (v : Nat) (s : State) :
    exec (.layoutApply who v) s = rowWrite s who O.LAYOUT_APPLY v (·.layoutApply) := rfl

theorem State.layoutApply_of_good {s : State} (h : s.layoutResult = 0) :
    s.layoutApply = ((s.put O.LAYOUT_RESULT 0).layoutTake, St.ok) := by
  rw [State.layoutApply, h]
  rfl

theorem State.layoutApply_of_bad {s : State} (h : s.layoutResult ≠ 0) :
    s.layoutApply = (s.put O.LAYOUT_RESULT s.layoutResult, St.refused) := if_neg h

/-- As a layout takes effect, an address that goes with one die alone is zeroed when that die moves. -/
theorem State.read_layoutTake {s : State} (hwf : Memory.wf s.mem = true) (v : Nat) {x die : Nat}
    (hx : ∀ d, d < 4 → (inRanges (dieRanges d) x = true ↔ die = d)) :
    Memory.read (s.put O.LAYOUT_RESULT v).layoutTake.mem x =
      if die ∈ s.movedDies (s.obj O.DIE_OWNER) then 0 else Memory.read s.mem x := by
  rw [State.layoutTake_mem, State.obj_put_ne _ _ _ _ (by decide)]
  exact State.read_foldl_zeroDie (s := s.put O.LAYOUT_RESULT v) hwf (State.movedDies_lt _ _) hx

/-- Settles O52: a layout whose result is 0 takes effect, with the bytes of the moved dies zeroed; another leaves its result only. -/
theorem layoutsTakeEffectWhole : Obligations.LayoutsTakeEffectWhole := by
  intro who v s hadmits
  refine ⟨fun hgood hwf => ?_, fun hbad => exec_of_answer (exec_layoutApply ..) hadmits (State.layoutApply_of_bad hbad)⟩
  have hobj (k : Nat) (hk : k ≠ O.LAYOUT_RESULT) := s.obj_put_ne O.LAYOUT_RESULT 0 k hk
  have hexec := exec_of_answer (exec_layoutApply ..) hadmits (State.layoutApply_of_good hgood)
  have hresult := (s.put O.LAYOUT_RESULT 0).layoutTake_result.trans (s.obj_put_same O.LAYOUT_RESULT 0)
  have hlayout := (s.put O.LAYOUT_RESULT 0).layoutTake_layout.trans
    (State.staged_congr fun k hk => hobj k (Nat.ne_of_lt (Nat.lt_trans hk (by decide))))
  have hchanges := (s.put O.LAYOUT_RESULT 0).layoutTake_changes
  rw [hobj _ (by decide)] at hchanges
  have hjobs : (s.put O.LAYOUT_RESULT 0).layoutTake.jobs = s.jobs := State.layoutTake_jobs _
  have hbeat : (s.put O.LAYOUT_RESULT 0).layoutTake.beat = s.beat := State.layoutTake_beat _
  have htile (tile b : Nat) (htile : tile < 384) (hb : b < 0x200000) :=
    State.read_layoutTake hwf 0 fun d hd => inRanges_tile hd htile hb
  have hhbm (h b : Nat) (hh : h < 8) (hb : b < resvBase) :=
    State.read_layoutTake hwf 0 fun d hd => inRanges_hbm hd hh hb
  -- The answer is sent from a state of which only these facts are needed: opaque, it is not unfolded to compare its parts.
  generalize (s.put O.LAYOUT_RESULT 0).layoutTake = t at *
  exact ⟨_, hexec, hresult, tells_send .., hlayout, hchanges, hjobs, hbeat, htile, hhbm⟩

end Sys2Proof.Machine

/-! The wire forms (R302, R303, R306, R330): what is written into a record, a control block, a codeword or a
flit is what reading it gives. -/

namespace Sys2Proof.Machine

/-! ### Packet headers (R330) -/

theorem toLE_length (n v : Nat) : (toLE n v).length = n := by
  induction n generalizing v with
  | zero => rfl
  | succ n ih => rw [toLE, List.length_cons, ih]

theorem ofLE_toLE (n v : Nat) : ofLE (toLE n v) = v % 256 ^ n := by
  induction n generalizing v with
  | zero => rw [Nat.pow_zero, Nat.mod_one]; rfl
  | succ n ih =>
    rw [toLE, ofLE, ih, BitVec.toNat_ofNat, Nat.mod_mod, Nat.pow_succ', Nat.mod_mul]

/-- A record given by the widths in bytes and the values of its fields, first field lowest. -/
def recordOf : List (Nat × Nat) → Nat
  | [] => 0
  | (w, v) :: fs => v + 256 ^ w * recordOf fs

theorem add_mul_lt_mul {low a v b : Nat} (hlow : low < a) (hv : v < b) : low + a * v < a * b := by
  refine Nat.lt_of_lt_of_le (Nat.add_lt_add_right hlow _) ?_
  rw [Nat.add_comm, ← Nat.mul_succ]
  exact Nat.mul_le_mul_left _ hv

theorem recordOf_lt {fs : List (Nat × Nat)} (h : ∀ f ∈ fs, f.2 < 256 ^ f.1) : recordOf fs < 256 ^ (fs.map Prod.fst).sum := by
  induction fs with
  | nil => exact Nat.one_pos
  | cons f fs ih =>
    obtain ⟨hf, hfs⟩ := List.forall_mem_cons.mp h
    rw [recordOf, List.map_cons, List.sum_cons, Nat.pow_add]
    exact add_mul_lt_mul hf (ih hfs)

/-- The fields of a record from an offset on, by their widths in bytes. -/
def readRecord (r : Nat) : Nat → List Nat → List Nat
  | _, [] => []
  | off, w :: ws => recF r off w :: readRecord r (off + w) ws

theorem readRecord_recordOf {fs : List (Nat × Nat)} (h : ∀ f ∈ fs, f.2 < 256 ^ f.1) {low off : Nat} (hlow : low < 256 ^ off) :
    readRecord (low + 256 ^ off * recordOf fs) off (fs.map Prod.fst) = fs.map Prod.snd := by
  induction fs generalizing low off with
  | nil => rfl
  | cons f fs ih =>
    obtain ⟨hf, hfs⟩ := List.forall_mem_cons.mp h
    have hfield : recF (low + 256 ^ off * recordOf (f :: fs)) off f.1 = f.2 := by
      rw [recF, Nat.add_mul_div_left _ _ (Nat.pow_pos (by decide)), Nat.div_eq_of_lt hlow, Nat.zero_add, recordOf,
        Nat.add_mul_mod_self_left, Nat.mod_eq_of_lt hf]
    have hrest : low + 256 ^ off * recordOf (f :: fs) = low + 256 ^ off * f.2 + 256 ^ (off + f.1) * recordOf fs := by
      rw [recordOf, Nat.pow_add, Nat.mul_add, Nat.mul_assoc, Nat.add_assoc]
    have hlow' : low + 256 ^ off * f.2 < 256 ^ (off + f.1) := by
      rw [Nat.pow_add]
      exact add_mul_lt_mul hlow hf
    rw [List.map_cons, List.map_cons, readRecord, hfield, hrest, ih hfs hlow']

end Sys2Proof.Machine

namespace Sys2Proof

open Machine

/-- The fields of a packet's header with their widths in bytes (Table 12.1). -/
def Packet.fields (k : Packet) : List (Nat × Nat) :=
  [(1, k.typ), (1, k.flags), (2, k.len), (2, k.srcChip), (2, k.srcEpoch), (2, k.dstChip), (2, k.dstEpoch), (2, k.tag), (1, k.route),
    (1, k.hops), (8, k.addr), (4, k.step), (2, k.sync), (2, k.arg)]

theorem Packet.fields_fit {k : Packet} (h : k.wf = true) : ∀ f ∈ k.fields, f.2 < 256 ^ f.1 := by
  simp only [Packet.wf, Bool.and_eq_true, decide_eq_true_eq] at h
  simp only [Packet.fields, List.forall_mem_cons, List.not_mem_nil, false_imp_iff, implies_true, and_true]
  omega

theorem Packet.header_eq (k : Packet) : k.header = toLE 32 (recordOf k.fields) := by
  have hsum : recordOf k.fields =
      fld 0 k.typ + fld 1 k.flags + fld 2 k.len + fld 4 k.srcChip + fld 6 k.srcEpoch + fld 8 k.dstChip + fld 10 k.dstEpoch +
        fld 12 k.tag + fld 14 k.route + fld 15 k.hops + fld 16 k.addr + fld 24 k.step + fld 28 k.sync + fld 30 k.arg := by
    simp only [Packet.fields, recordOf, fld]
    omega
  rw [hsum, Packet.header]

theorem Packet.ofLE_header {k : Packet} (h : k.wf = true) : ofLE k.header = recordOf k.fields := by
  have hwidth : (k.fields.map Prod.fst).sum = 32 := by simp [Packet.fields]
  have hlt := recordOf_lt (Packet.fields_fit h)
  rw [hwidth] at hlt
  rw [Packet.header_eq, ofLE_toLE, Nat.mod_eq_of_lt hlt]

theorem Packet.ofHeader_header {k : Packet} (h : k.wf = true) : Packet.ofHeader (ofLE k.header) k.payload = k := by
  have hread := readRecord_recordOf (Packet.fields_fit h) (low := 0) (off := 0) Nat.one_pos
  rw [Nat.zero_add, Nat.pow_zero, Nat.one_mul, ← Packet.ofLE_header h] at hread
  simp only [Packet.fields, List.map_cons, List.map_nil, readRecord, Nat.reduceAdd, List.cons.injEq, and_true] at hread
  obtain ⟨htyp, hflags, hlen, hsrcChip, hsrcEpoch, hdstChip, hdstEpoch, htag, hroute, hhops, haddr, hstep, hsync, harg⟩ := hread
  rw [Packet.ofHeader, htyp, hflags, hlen, hsrcChip, hsrcEpoch, hdstChip, hdstEpoch, htag, hroute, hhops, haddr, hstep, hsync, harg]

theorem Packet.header_length (k : Packet) : k.header.length = 32 := by rw [Packet.header, toLE_length]

end Sys2Proof

namespace Sys2Proof.Machine.Fec

/-! ### Control blocks (R306) -/

theorem bchGen_range : 2 ^ 40 ≤ bchGen ∧ bchGen < 2 ^ 41 := by decide +kernel

/-- A reduction step takes away the leading bit. -/
theorem xor_lt_of_leading {a b k : Nat} (ha : 2 ^ k ≤ a) (ha' : a < 2 ^ (k + 1)) (hb : 2 ^ k ≤ b) (hb' : b < 2 ^ (k + 1)) :
    a ^^^ b < 2 ^ k := by
  refine Nat.lt_pow_two_of_testBit _ fun i hi => ?_
  rw [Nat.testBit_xor]
  rcases Nat.eq_or_lt_of_le hi with rfl | hi
  · have lead {x : Nat} (h : 2 ^ k ≤ x) (h' : x < 2 ^ (k + 1)) : x.testBit k = true := by
      rw [Nat.testBit_eq_decide_div_mod_eq, Nat.div_eq_of_lt_le (k := 1) (by omega) (by omega)]
      rfl
    rw [lead ha ha', lead hb hb']
    rfl
  · have high {x : Nat} (h' : x < 2 ^ (k + 1)) : x.testBit i = false :=
      Nat.testBit_lt_two_pow (Nat.lt_of_lt_of_le h' (Nat.pow_le_pow_right (by decide) hi))
    rw [high ha', high hb']
    rfl

theorem bchMod_lt {g : Nat} (hg : 2 ^ 40 ≤ g) (hg' : g < 2 ^ 41) (n : Nat) {v : Nat} (hv : v < 2 ^ (n + 40)) :
    bchMod g n v < 2 ^ 40 := by
  induction n generalizing v with
  | zero => simpa [bchMod] using hv
  | succ n ih =>
    rw [bchMod]
    refine ih ?_
    have hpow : 2 ^ (n + 1 + 40) = 2 * 2 ^ (n + 40) := by rw [← Nat.pow_succ', Nat.add_right_comm]
    split
    next hbit =>
      have hv1 : 2 ^ (n + 40) ≤ v := by
        refine Nat.le_of_not_lt fun hlt => ?_
        rw [Nat.div_eq_of_lt hlt] at hbit
        exact absurd hbit (by decide)
      refine xor_lt_of_leading hv1 (by omega) ?_ ?_
      · rw [Nat.pow_add, Nat.mul_comm]; exact Nat.mul_le_mul_right _ hg
      · rw [show n + 40 + 1 = 41 + n by omega, Nat.pow_add]; exact Nat.mul_lt_mul_of_pos_right hg' (Nat.two_pow_pos _)
    next hbit =>
      have hlt : v / 2 ^ (n + 40) < 2 := (Nat.div_lt_iff_lt_mul (Nat.two_pow_pos _)).mpr (by omega)
      rw [Nat.mod_eq_of_lt hlt] at hbit
      exact (Nat.div_eq_zero_iff_lt (Nat.two_pow_pos _)).mp (Nat.lt_one_iff.mp (Nat.lt_of_le_of_ne (Nat.le_of_lt_succ hlt) hbit))

theorem bchParity_lt {m : Nat} (hm : m < 2 ^ 72) : bchParity m < 2 ^ 40 :=
  let ⟨hge, hlt⟩ := bchGen_range
  bchMod_lt hge hlt 72 (by omega)

theorem bchDecode_of_coded {m : Nat} (hm : m < 2 ^ 72) :
    bchDecode (bchParity m + 2 ^ 40 * m) = some (bchParity m + 2 ^ 40 * m) := by
  have hlow := bchParity_lt hm
  rw [bchDecode, if_pos]
  rw [Nat.add_mul_div_left _ _ (by decide), Nat.div_eq_of_lt hlow, Nat.zero_add, Nat.add_mul_mod_self_left, Nat.mod_eq_of_lt hlow]

theorem ctl_block {g kind p : Nat} (hg : g < 16) (hkind : kind < 16) (hp : p < 2 ^ 64) : ctl (block g kind p) = some (g, kind, p) := by
  have hm : g + 16 * kind + 256 * p < 2 ^ 72 := by omega
  have hlow := bchParity_lt hm
  have hcoded := bchDecode_of_coded hm
  rw [block, Nat.mod_eq_of_lt hp]
  generalize hpar : bchParity (g + 16 * kind + 256 * p) = par at *
  have hmarker : (0x5C + 256 * (g + 16 * kind + 256 * p) + 2 ^ 80 * par) % 256 = 0x5C := by omega
  have hpar' : (0x5C + 256 * (g + 16 * kind + 256 * p) + 2 ^ 80 * par) / 2 ^ 80 % 2 ^ 40 = par := by omega
  have hmsg : (0x5C + 256 * (g + 16 * kind + 256 * p) + 2 ^ 80 * par) / 256 % 2 ^ 72 = g + 16 * kind + 256 * p := by omega
  rw [ctl, hmarker, hpar', hmsg, hcoded, if_neg (by decide)]
  have hm' : (par + 2 ^ 40 * (g + 16 * kind + 256 * p)) / 2 ^ 40 = g + 16 * kind + 256 * p := by omega
  simp only [hm', Option.some.injEq, Prod.mk.injEq]
  omega

/-! ### Codewords (R302) -/

theorem mulLin_length (p : List Nat) (r : Nat) : (mulLin p r).length = p.length + 1 := by simp [mulLin]

theorem foldl_mulLin_length (is : List Nat) (f : Nat → Nat) (p : List Nat) :
    (is.foldl (fun p i => mulLin p (f i)) p).length = p.length + is.length := by
  induction is generalizing p with
  | nil => rfl
  | cons i is ih => rw [List.foldl_cons, ih, mulLin_length, List.length_cons]; omega

theorem rsGen_length : rsGen.length = 17 := by simp [rsGen, foldl_mulLin_length]

theorem rsStep_length {g r : List Nat} (hg : g.length = 16) (hr : r.length = 16) (d : Nat) : (rsStep g r d).length = 16 := by
  simp [rsStep, hg, hr]

theorem foldl_rsStep_length {g : List Nat} (hg : g.length = 16) (ds : List Nat) {r : List Nat} (hr : r.length = 16) :
    (ds.foldl (rsStep g) r).length = 16 := by
  induction ds generalizing r with
  | nil => exact hr
  | cons d ds ih => exact ih (rsStep_length hg hr d)

theorem rsParity_length (data : List Nat) : (rsParity data).length = 16 :=
  foldl_rsStep_length (by rw [List.length_take, rsGen_length]; rfl) _ List.length_replicate

theorem rsDecode_rsEncode {data : List Nat} (h : data.length = 272) : rsDecode (rsEncode data) = some (data, []) := by
  have hlen : (rsEncode data).length = 288 := by rw [rsEncode, List.length_append, h, rsParity_length]
  have hdata : (rsEncode data).take 272 = data := List.take_left' h
  have hpar : (rsEncode data).drop 272 = rsParity data := List.drop_left' h
  rw [rsDecode, hdata, hpar, if_neg (not_not_intro hlen), if_pos rfl]

/-! ### Flit bytes (R303) -/

/-- The lowest k bits of a number, lowest first. -/
def lowBits (k v : Nat) : List Nat := (List.range k).map (fun i => v / 2 ^ i % 2)

theorem lowBits_succ (k v : Nat) : lowBits (k + 1) v = v % 2 :: lowBits k (v / 2) := by
  simp only [lowBits, List.range_succ_eq_map, List.map_cons, List.map_map, Nat.pow_zero, Nat.div_one, List.cons.injEq, true_and]
  refine List.map_congr_left fun i _ => ?_
  rw [Function.comp_apply, Nat.div_div_eq_div_mul, Nat.succ_eq_add_one, Nat.pow_succ']

theorem lowBits_length (k v : Nat) : (lowBits k v).length = k := by simp [lowBits]

/-- The number that bits spell, lowest first. -/
def ofBits (bs : List Nat) : Nat := bs.foldr (fun b a => b + 2 * a) 0

theorem ofBits_lowBits (k v : Nat) : ofBits (lowBits k v) = v % 2 ^ k := by
  induction k generalizing v with
  | zero => rw [Nat.pow_zero, Nat.mod_one]; rfl
  | succ k ih =>
    rw [lowBits_succ, Nat.pow_succ', Nat.mod_mul, ← ih]
    rfl

theorem lowBits_ofBits {bs : List Nat} (h : ∀ b ∈ bs, b < 2) : lowBits bs.length (ofBits bs) = bs := by
  induction bs with
  | nil => rfl
  | cons b bs ih =>
    obtain ⟨hb, hbs⟩ := List.forall_mem_cons.mp h
    have hcons : ofBits (b :: bs) = b + 2 * ofBits bs := rfl
    rw [List.length_cons, lowBits_succ, hcons, Nat.add_mul_mod_self_left, Nat.mod_eq_of_lt hb, Nat.add_mul_div_left _ _ (by decide),
      Nat.div_eq_of_lt hb, Nat.zero_add, ih hbs]

theorem group_succ (k n : Nat) (l : List Nat) : group k (n + 1) l = ofBits (l.take k) :: group k n (l.drop k) := rfl

/-- Bits cut into numbers are the bits of those numbers. -/
theorem flatMap_lowBits_group {k n : Nat} {l : List Nat} (hlen : l.length = n * k) (h : ∀ b ∈ l, b < 2) :
    (group k n l).flatMap (lowBits k) = l := by
  induction n generalizing l with
  | zero => rw [Nat.zero_mul, List.length_eq_zero_iff] at hlen; rw [hlen]; rfl
  | succ n ih =>
    rw [Nat.succ_mul] at hlen
    have htake : (l.take k).length = k := by rw [List.length_take]; omega
    have hfirst := lowBits_ofBits (bs := l.take k) fun b hb => h b (List.mem_of_mem_take hb)
    rw [htake] at hfirst
    rw [group_succ, List.flatMap_cons, hfirst, ih (by rw [List.length_drop]; omega) fun b hb => h b (List.mem_of_mem_drop hb),
      List.take_append_drop]

/-- Numbers of k bits come back from their bits. -/
theorem group_flatMap_lowBits (k : Nat) (vs : List Nat) (h : ∀ v ∈ vs, v < 2 ^ k) : group k vs.length (vs.flatMap (lowBits k)) = vs := by
  induction vs with
  | nil => rfl
  | cons v vs ih =>
    obtain ⟨hv, hvs⟩ := List.forall_mem_cons.mp h
    rw [List.length_cons, List.flatMap_cons, group_succ, List.take_left' (lowBits_length k v), List.drop_left' (lowBits_length k v),
      ofBits_lowBits, Nat.mod_eq_of_lt hv, ih hvs]

theorem bitsOf_eq (bs : List Byte) : bitsOf bs = (bs.map BitVec.toNat).flatMap (lowBits 8) := by
  rw [List.flatMap_map]
  exact List.flatMap_def.symm

theorem bytesOf_eq (syms : List Nat) : bytesOf syms = (group 8 340 (syms.flatMap (lowBits 10))).map (BitVec.ofNat 8) := by
  rw [List.flatMap_def]
  rfl

theorem lt_two_of_mem_bitsOf {bs : List Byte} {b : Nat} (h : b ∈ bitsOf bs) : b < 2 := by
  rw [bitsOf_eq] at h
  obtain ⟨v, -, hb⟩ := List.mem_flatMap.mp h
  obtain ⟨i, -, rfl⟩ := List.mem_map.mp hb
  exact Nat.mod_lt _ (by decide)

theorem bitsOf_length (bs : List Byte) : (bitsOf bs).length = bs.length * 8 := by
  rw [bitsOf_eq, List.length_flatMap, List.map_congr_left fun v _ => lowBits_length 8 v]
  rw [List.map_const', List.sum_replicate_nat, List.length_map]

theorem bytesOf_symbolsOf {flit : List Byte} (h : flit.length = 340) : bytesOf (symbolsOf flit) = flit := by
  have hbits : (symbolsOf flit).flatMap (lowBits 10) = bitsOf flit :=
    flatMap_lowBits_group (by rw [bitsOf_length, h]) fun _ => lt_two_of_mem_bitsOf
  have hbytes : group 8 340 (bitsOf flit) = flit.map BitVec.toNat := by
    rw [bitsOf_eq, ← h, ← List.length_map (f := BitVec.toNat)]
    exact group_flatMap_lowBits 8 _ fun v hv => by
      obtain ⟨b, -, rfl⟩ := List.mem_map.mp hv
      exact b.isLt
  rw [bytesOf_eq, hbits, hbytes, List.map_map]
  exact (List.map_congr_left fun b _ => by simp).trans (List.map_id _)

end Sys2Proof.Machine.Fec

namespace Sys2Proof.Machine

/-- Settles O29: a header is the record of its fields, the parities of what is sent match, and symbols and bytes cut the same bits. -/
theorem wireFormsReadBack : Obligations.WireFormsReadBack := by
  refine ⟨fun k hk => ⟨Packet.ofHeader_header hk, k.header_length⟩, fun g kind p => Fec.ctl_block,
    fun data hlen _ => ⟨Fec.rsDecode_rsEncode hlen, ?_⟩,
    fun flit => Fec.bytesOf_symbolsOf⟩
  rw [Fec.rsEncode, List.length_append, hlen, Fec.rsParity_length]

end Sys2Proof.Machine

/-! What the links' own work leaves as it is (chapter 11). Judging a link, its state changes and its flit sender touch a few fields of
links, a few objects and the event buffer; `Keeps` says which, and one lemma for each function of the model says so of it. -/

namespace Sys2Proof.Machine

/-! ### A state but for links, some objects and what is sent -/

/-- What the links' own work never touches: reference time, the jobs, the host ports and memory. -/
structure Aside where
  now : Nat
  jobs : Tab Job
  host : HostSt
  mem : List Host.Cell
  poison : List Nat
  layout : Layout

/-- That part of a state. -/
def State.aside (s : State) : Aside := ⟨s.now, s.jobs, s.host, s.mem, s.poison, s.layout⟩

section
variable {s t : State} (h : t.aside = s.aside)
include h

theorem sameMemory_of_aside : SameMemory s t := ⟨congrArg Aside.mem h, congrArg Aside.poison h, congrArg Aside.layout h⟩
theorem jobs_of_aside : t.jobs = s.jobs := congrArg Aside.jobs h
theorem host_of_aside : t.host = s.host := congrArg Aside.host h
theorem now_of_aside : t.now = s.now := congrArg Aside.now h

end

section
variable {s t : State} {at_ : Nat} (h : t.aside = (s.upTo at_).aside)
include h

theorem sameMemory_of_aside_upTo : SameMemory s t :=
  SameMemory.trans ⟨s.upTo_mem at_, s.upTo_poison at_, s.upTo_layout at_⟩ (sameMemory_of_aside h)

theorem jobs_of_aside_upTo : t.jobs = s.jobs := (jobs_of_aside h).trans (s.upTo_jobs at_)
theorem host_of_aside_upTo : t.host = s.host := (host_of_aside h).trans (s.upTo_host at_)
theorem now_of_aside_upTo : t.now = max s.now at_ := (now_of_aside h).trans (s.upTo_now at_)

end

theorem State.upTo_link (s : State) (at_ n : Nat) : (s.upTo at_).link n = s.link n := by rw [State.link, State.upTo_net]; rfl

/-- A state comes after another, with reference time, jobs, host ports and memory as they were, the objects outside a list, and what a
view shows of each link; what was sent has been sent. -/
structure Keeps {α : Type} (view : LinkSt → α) (ks : List Nat) (s t : State) : Prop where
  aside : t.aside = s.aside
  objects : SameObjects s t ks
  links : ∀ m, view (t.link m) = view (s.link m)
  sent : s.out <:+ t.out

theorem Keeps.refl {α : Type} (view : LinkSt → α) (ks : List Nat) (s : State) : Keeps view ks s s :=
  ⟨rfl, fun _ _ => rfl, fun _ => rfl, List.suffix_rfl⟩

theorem State.link_setLink_view {α : Type} {view : LinkSt → α} {s : State} {n : Nat} {l : LinkSt} (h : view l = view (s.link n)) (m : Nat) :
    view ((s.setLink n l).link m) = view (s.link m) := by
  rw [State.link_setLink]
  split
  next hm => rw [hm, h]
  next => rfl

namespace Keeps

/-- A field that the view of a link shows as it is. -/
theorem field {view : LinkSt → LinkSt} {ks : List Nat} {s t : State} (h : Keeps view ks s t) {β : Type} (g : LinkSt → β) (m : Nat)
    (hg : ∀ l, g (view l) = g l) : g (t.link m) = g (s.link m) := by
  rw [← hg, h.links, hg]

section
variable {α : Type} {view : LinkSt → α} {ks : List Nat} {s t : State} (h : Keeps view ks s t)
include h

theorem sameMemory : SameMemory s t := sameMemory_of_aside h.aside
theorem jobs : t.jobs = s.jobs := jobs_of_aside h.aside
theorem host : t.host = s.host := host_of_aside h.aside
theorem obj {k : Nat} (hk : k ∉ ks) : t.obj k = s.obj k := h.objects k hk

/-- What one view shows, a coarser one shows too; objects outside a longer list are outside a shorter one. -/
theorem weaken {β : Type} (coarse : α → β) {ks' : List Nat} (hks : ks ⊆ ks') : Keeps (fun l => coarse (view l)) ks' s t :=
  ⟨h.aside, fun k hk => h.objects k fun hmem => hk (hks hmem), fun m => congrArg coarse (h.links m), h.sent⟩

theorem trans {u : State} (h' : Keeps view ks t u) : Keeps view ks s u :=
  ⟨h'.aside.trans h.aside, fun k hk => (h'.objects k hk).trans (h.objects k hk), fun m => (h'.links m).trans (h.links m),
    h.sent.trans h'.sent⟩

theorem ite {c : Prop} [Decidable c] {u : State} (h' : Keeps view ks s u) : Keeps view ks s (if c then u else t) := by
  split
  · exact h'
  · exact h

/-- A step that is made in one case only. -/
theorem onlyIf {c : Prop} [Decidable c] {u : State} (h' : Keeps view ks t u) : Keeps view ks s (if c then u else t) := h.ite (h.trans h')

theorem put {k v : Nat} (hk : k ∈ ks) : Keeps view ks s (t.put k v) :=
  ⟨h.aside, fun i hi => (t.obj_put_ne k v i fun heq => hi (heq ▸ hk)).trans (h.objects i hi), h.links, h.sent⟩

theorem add {k n : Nat} (hk : k ∈ ks) : Keeps view ks s (t.add k n) := h.put hk
theorem inc {k : Nat} (hk : k ∈ ks) : Keeps view ks s (t.inc k) := h.put hk

theorem setLink {n : Nat} {l : LinkSt} (hl : view l = view (t.link n)) : Keeps view ks s (t.setLink n l) :=
  ⟨h.aside, h.objects, fun m => (State.link_setLink_view hl m).trans (h.links m), h.sent⟩

theorem send {o : Out} : Keeps view ks s (t.send o) := ⟨h.aside, h.objects, h.links, h.sent.trans (List.suffix_cons _ _)⟩
theorem beat {b : Beat} : Keeps view ks s { t with beat := b } := ⟨h.aside, h.objects, h.links, h.sent⟩
theorem markCond : Keeps view ks s t.markCond := h.beat
theorem sec {x : Sec} : Keeps view ks s { t with sec := x } := ⟨h.aside, h.objects, h.links, h.sent⟩
theorem optics {x : Optics} : Keeps view ks s { t with optics := x } := ⟨h.aside, h.objects, h.links, h.sent⟩

/-- Counts and events are no links' work. -/
theorem notes {u : State} (hu : OnlyNotes t u ks) : Keeps view ks s u := by
  obtain ⟨hrest, hobjects⟩ := hu
  have hout : t.out = u.out := (congrArg State.out hrest).symm
  refine h.trans ⟨?_, hobjects, fun m => ?_, hout ▸ List.suffix_rfl⟩
  · rw [hrest]; rfl
  · rw [hrest]; rfl

theorem raise {code : Nat} {a : EvArgs} (hk : O.EVENTS_LOST ∈ ks) : Keeps view ks s (t.raise code a) :=
  h.notes ((OnlyNotes.refl t ks).raise hk code a)

theorem raiseLink {code n : Nat} (hk : O.EVENTS_LOST ∈ ks) : Keeps view ks s (t.raiseLink code n) := h.raise hk
theorem raiseDisc {code n : Nat} (hk : O.EVENTS_LOST ∈ ks) : Keeps view ks s (t.raiseDisc code n) := h.raise hk

theorem raiseEvery {code who intervalNs : Nat} {a : EvArgs} (hk : O.EVENTS_LOST ∈ ks) :
    Keeps view ks s (t.raiseEvery code who intervalNs a) :=
  h.notes ((OnlyNotes.refl t ks).raiseEvery hk code who intervalNs a)

theorem foldl {β : Type} {f : State → β → State} (hf : ∀ u x, Keeps view ks u (f u x)) (xs : List β) : Keeps view ks s (xs.foldl f t) := by
  induction xs generalizing t with
  | nil => exact h
  | cons x xs ih => exact ih (h.trans (hf t x))

theorem sendAll {os : List Out} : Keeps view ks s (t.sendAll os) := h.foldl (fun u _ => (Keeps.refl view ks u).send) os

end

end Keeps

/-! ### Judgement (chapter 14) -/

/-- A link apart from its judgement, its time with fewer lanes, when it last changed its state, and the packets at its output. -/
def LinkSt.settled (l : LinkSt) : LinkSt :=
  { l with outcome := 0, reason := 0, sinceNs := 0, judged := false, critRaised := false, noticed := none, degradedAt := none,
           downAt := 0, leftUp := 0, graceStart := 0, rxMode := .idle, cur := none, queue := [] }

/-- The objects that a judgement may change. -/
abbrev judgeObjects : List Nat := [O.OUTCOME_CHANGES, O.EVENTS_LOST, O.BEAT_STATE, O.STALE_NEIGHBOURS_SEEN, O.CRITICAL_NOT_MATCH]

section
variable {α : Type} {view : LinkSt → α} {ks : List Nat} {s t : State} {n : Nat}

theorem Keeps.checkAcquire (h : Keeps view ks s t) {n : Nat} (hk : O.BEAT_STATE ∈ ks) : Keeps view ks s (t.checkAcquire n) :=
  h.ite (h.put hk).beat

theorem Keeps.updCritical (h : Keeps view ks s t) (hk : O.CRITICAL_NOT_MATCH ∈ ks) : Keeps view ks s t.updCritical := h.put hk

theorem State.judge_keeps (s : State) (n : Nat) : Keeps LinkSt.settled judgeObjects s (s.judge n) := by
  have same (u : State) := Keeps.refl LinkSt.settled judgeObjects u
  unfold State.judge
  rcases s.judgement n with ⟨o, r⟩
  dsimp only
  refine Keeps.updCritical ?_ (by simp)
  refine Keeps.onlyIf ?_ (Keeps.ite ((((same _).send.setLink (by rfl)).inc (by simp)).raiseDisc (by simp)) (same _).send)
  refine Keeps.trans ?_ (Keeps.ite ((same _).onlyIf ((same _).setLink (by rfl))) (((same _).setLink (by rfl)).raiseDisc (by simp)))
  refine Keeps.onlyIf ?_ ((same _).raiseDisc (by simp))
  refine Keeps.onlyIf ?_ (((same _).raiseDisc (by simp)).checkAcquire (by simp))
  refine Keeps.onlyIf ?_ ((same _).inc (by simp))
  exact (same s).setLink (by rfl)

end

/-! ### Link states (Table 11.5) -/

/-- A link apart from its time with fewer lanes. -/
def LinkSt.undegraded (l : LinkSt) : LinkSt := { l with degradedAt := none }

theorem State.accountLanes_keeps (s : State) (n : Nat) : Keeps LinkSt.undegraded [O.at O.DEGRADED_NS n] s (s.accountLanes n) := by
  have same (u : State) := Keeps.refl LinkSt.undegraded [O.at O.DEGRADED_NS n] u
  unfold State.accountLanes
  dsimp only
  split
  · exact ((same s).setLink (by rfl)).markCond
  · exact ((same s).setLink (by rfl)).add (by simp)
  · exact same s

theorem State.abortInput_keeps (s : State) (n : Nat) : Keeps LinkSt.settled [O.ABORTS_SENT] s (s.abortInput n) := by
  have same (u : State) := Keeps.refl LinkSt.settled [O.ABORTS_SENT] u
  unfold State.abortInput
  dsimp only
  split
  · exact (((same s).setLink (by rfl)).setLink (by rfl)).inc (by simp)
  · exact same s

/-- The objects beside its state that may change as a link takes a state. -/
abbrev lstateObjects (n : Nat) : List Nat := [O.LINKS_UP, O.ABORTS_SENT, O.at O.DEGRADED_NS n] ++ judgeObjects

theorem State.setLstate_keeps (s : State) (n v : Nat) :
    Keeps LinkSt.settled (lstateObjects n) (s.put (O.at O.LINK_STATE n) v) (s.setLstate n v) := by
  have same (u : State) := Keeps.refl LinkSt.settled (lstateObjects n) u
  have judged (u : State) : Keeps LinkSt.settled (lstateObjects n) u (u.judge n) := (u.judge_keeps n).weaken id (by simp)
  have accounted (u : State) : Keeps LinkSt.settled (lstateObjects n) u (u.accountLanes n) :=
    (u.accountLanes_keeps n).weaken LinkSt.settled (by simp)
  have aborted (u : State) : Keeps LinkSt.settled (lstateObjects n) u (u.abortInput n) := (u.abortInput_keeps n).weaken id (by simp)
  unfold State.setLstate
  refine Keeps.trans (Keeps.trans ?_ (accounted _)) (judged _)
  refine Keeps.onlyIf ?_ (((same _).setLink (by rfl)).trans (aborted _))
  refine Keeps.put ?_ (by simp)
  exact Keeps.onlyIf (same _) ((same _).setLink (by rfl))

section
variable {s : State} {n : Nat} (hn : n < 24)
include hn

/-- An object of a link's own block is none that a change of a link's state touches, apart from that state and DEGRADED_NS. -/
theorem O.at_notMem_lstateObjects {k : Nat} (hblock : k / 256 = 0x3001) (hk : k % 256 ≠ O.DEGRADED_NS % 256) :
    O.at k n ∉ lstateObjects n := by
  simp only [lstateObjects, judgeObjects, List.cons_append, List.nil_append, List.mem_cons, List.not_mem_nil, or_false, not_or,
    O.LINKS_UP, O.ABORTS_SENT, O.OUTCOME_CHANGES, O.EVENTS_LOST, O.BEAT_STATE, O.STALE_NEIGHBOURS_SEEN, O.CRITICAL_NOT_MATCH]
  unfold O.DEGRADED_NS at *
  unfold O.at
  omega

theorem State.setLstate_lstate (v : Nat) : (s.setLstate n v).lstate n = v :=
  ((s.setLstate_keeps n v).obj (O.at_notMem_lstateObjects hn rfl (by decide))).trans (s.obj_put_same ..)

theorem State.setLstate_obj {k : Nat} (v : Nat) (hblock : k / 256 = 0x3001) (hk : k % 256 ∉ [O.DEGRADED_NS % 256, O.LINK_STATE % 256]) :
    (s.setLstate n v).obj (O.at k n) = s.obj (O.at k n) := by
  obtain ⟨hdegraded, hstate⟩ := by simpa only [List.mem_cons, List.not_mem_nil, or_false, not_or] using hk
  exact ((s.setLstate_keeps n v).obj (O.at_notMem_lstateObjects hn hblock hdegraded)).trans (s.obj_put_ne _ _ _ (O.at_ne n n hstate))

end

section
variable {s : State} {n v : Nat}

theorem State.setLstate_aside : (s.setLstate n v).aside = s.aside := (s.setLstate_keeps n v).aside
theorem State.setLstate_settled (m : Nat) : ((s.setLstate n v).link m).settled = (s.link m).settled := (s.setLstate_keeps n v).links m
theorem State.setLstate_sent : s.out <:+ (s.setLstate n v).out := (s.setLstate_keeps n v).sent

/-- A module that has not stopped and is not in reset-hold starts an attempt, which counts. -/
theorem State.startTraining_starts (hstop : s.boot.stopCause = none) (hhold : s.inResetHold = false) (n : Nat) :
    ∃ l, s.startTraining n = (s.setLink n l).setLstate n LS.training ∧ l.attempts = (s.link n).attempts + 1 ∧
      l.fails = (s.link n).fails :=
  ⟨_, if_neg (by simp [hstop, hhold]), rfl, rfl⟩

end

end Sys2Proof.Machine

namespace Sys2Proof.Machine

/-! ### Attempts that fail (R313, R315, R402) -/

/-- The objects that may change as a link takes a state. -/
abbrev stateObjects (n : Nat) : List Nat := O.at O.LINK_STATE n :: lstateObjects n

theorem State.setLstate_keepsRest (s : State) (n v : Nat) : Keeps LinkSt.settled (stateObjects n) s (s.setLstate n v) :=
  ((Keeps.refl _ _ s).put (by simp)).trans ((s.setLstate_keeps n v).weaken id (List.subset_cons_self _ _))

/-- A retrain keeps the replay buffer (R315). -/
theorem State.startRetrain_keeps (s : State) (n : Nat) :
    Keeps LinkSt.replay (O.at O.RETRAINS n :: stateObjects n) s (s.startRetrain n) :=
  (((Keeps.refl _ _ s).setLink (by rfl)).inc (by simp)).trans ((State.setLstate_keepsRest _ n _).weaken LinkSt.replay (List.subset_cons_self _ _))

theorem State.startRetrain_lstate {n : Nat} (hn : n < 24) (s : State) : (s.startRetrain n).lstate n = LS.retrain :=
  State.setLstate_lstate hn _

/-! ### Attempts that fail (R313, R315, R402) -/

/-- A link after an attempt has failed and is counted, before the next one starts. -/
def State.attemptFailed (s : State) (n : Nat) : State :=
  (s.inc (O.at O.TRAIN_ATTEMPTS_FAILED n)).setLink n { s.link n with fails := (s.link n).fails + 1 }

section
variable {s : State} {n : Nat}

theorem State.startTraining_keeps (s : State) (n : Nat) : Keeps LinkSt.fails (stateObjects n) s (s.startTraining n) := by
  have takes (u : State) (v : Nat) : Keeps LinkSt.fails (stateObjects n) u (u.setLstate n v) :=
    (u.setLstate_keepsRest n v).weaken LinkSt.fails (List.Subset.refl _)
  exact Keeps.ite (((Keeps.refl _ _ s).setLink (by rfl)).trans (takes _ _)) (takes _ _)

theorem State.attemptFailed_keeps (s : State) (n : Nat) :
    Keeps (fun _ => ()) [O.at O.TRAIN_ATTEMPTS_FAILED n] s (s.attemptFailed n) := ((Keeps.refl _ _ s).inc (by simp)).setLink (by rfl)

theorem State.attemptFailed_counts : (s.attemptFailed n).obj (O.at O.TRAIN_ATTEMPTS_FAILED n) =
    (s.obj (O.at O.TRAIN_ATTEMPTS_FAILED n) + 1) % 2 ^ 64 := State.obj_put_same ..

theorem State.attemptFailed_link : (s.attemptFailed n).link n = { s.link n with fails := (s.link n).fails + 1 } :=
  State.link_setLink_same ..

theorem State.attemptFailed_obj {k : Nat} (hk : k % 256 ≠ O.TRAIN_ATTEMPTS_FAILED % 256) : (s.attemptFailed n).obj k = s.obj k :=
  (s.attemptFailed_keeps n).obj fun h => O.at_ne 0 n hk (by simpa [O.at] using h)

theorem State.failAttempt_eq (s : State) (n : Nat) :
    s.failAttempt n =
      if s.obj O.TRAIN_ATTEMPTS ≤ (s.link n).fails + 1 then
        ((if (s.link n).failRaised then s.attemptFailed n
          else ((s.attemptFailed n).setLink n { (s.attemptFailed n).link n with failRaised := true }).raiseLink 0x2D06 n).setLstate n
            LS.down).raiseLink 0x3D05 n
      else (s.attemptFailed n).startTraining n := by
  rw [← s.attemptFailed_obj (n := n) (k := O.TRAIN_ATTEMPTS) (by decide)]
  have hraised : (s.link n).failRaised = ((s.attemptFailed n).link n).failRaised := by rw [State.attemptFailed_link]
  rw [hraised]
  rfl

theorem State.failAttempt_keeps (s : State) (n : Nat) : Keeps LinkSt.fails (stateObjects n) (s.attemptFailed n) (s.failAttempt n) := by
  have same (u : State) := Keeps.refl LinkSt.fails (stateObjects n) u
  have takes (u : State) (v : Nat) : Keeps LinkSt.fails (stateObjects n) u (u.setLstate n v) :=
    (u.setLstate_keepsRest n v).weaken LinkSt.fails (List.Subset.refl _)
  rw [State.failAttempt_eq]
  refine Keeps.ite (State.startTraining_keeps _ n) ?_
  exact ((Keeps.ite (((same _).setLink (by rfl)).raiseLink (by simp)) (same _)).trans (takes _ _)).raiseLink (by simp)

/-- A failed attempt leaves the link DOWN, or in the next attempt. -/
theorem State.failAttempt_lstate (hn : n < 24) (hstop : s.boot.stopCause = none) (hhold : s.inResetHold = false) :
    (s.failAttempt n).lstate n = if s.obj O.TRAIN_ATTEMPTS ≤ (s.link n).fails + 1 then LS.down else LS.training := by
  rw [State.failAttempt_eq]
  split
  · refine (State.raise_obj _ _ _ _ ?_).trans (State.setLstate_lstate hn _)
    simp only [O.at, O.LINK_STATE, O.EVENTS_LOST]
    omega
  · have hhold' : (s.attemptFailed n).inResetHold = false := by
      rw [State.inResetHold, State.attemptFailed_obj (by decide)]
      exact hhold
    obtain ⟨l, hstarts, -⟩ := State.startTraining_starts (s := s.attemptFailed n) hstop hhold' n
    rw [hstarts, State.setLstate_lstate hn]

theorem exec_trainAttemptTimeout (link : Fin 24) (s : State) : exec (.trainAttemptTimeout link) s = execTrainAttemptTimeout link s := rfl

theorem trainAttemptTimeout_fails {link : Fin 24} (hpresent : s.linkPresent link.val = true)
    (hstate : s.lstate link.val = LS.training ∨ s.lstate link.val = LS.identify ∨ s.lstate link.val = LS.retrain) :
    exec (.trainAttemptTimeout link) s =
      .next ((s.upTo ((s.link link.val).attemptAt + s.trainLimit link.val)).failAttempt link.val) := by
  rw [exec_trainAttemptTimeout]
  exact if_pos (by simpa [hpresent, or_assoc] using hstate)

theorem exec_identifyTimeout (link : Fin 24) (s : State) : exec (.identifyTimeout link) s = execIdentifyTimeout link s := rfl

theorem identifyTimeout_fails {link : Fin 24} (hpresent : s.linkPresent link.val = true) (hstate : s.lstate link.val = LS.identify)
    (hid : ((s.link link.val).exch && (s.link link.val).heard) = false) :
    exec (.identifyTimeout link) s = .next ((s.upTo ((s.link link.val).identAt + 8000000)).failAttempt link.val) := by
  rw [exec_identifyTimeout]
  exact if_pos (by rw [hpresent, hstate, hid]; rfl)

end

/-- What a failed attempt leaves, when reference time has reached its limit. -/
theorem State.failAttempt_upTo {s : State} {n : Nat} (hn : n < 24) (hstop : s.boot.stopCause = none) (hhold : s.inResetHold = false)
    (at_ : Nat) : let t := (s.upTo at_).failAttempt n
    (t.obj (O.at O.TRAIN_ATTEMPTS_FAILED n) = (s.obj (O.at O.TRAIN_ATTEMPTS_FAILED n) + 1) % 2 ^ 64 ∧
      t.lstate n = (if s.obj O.TRAIN_ATTEMPTS ≤ (s.link n).fails + 1 then LS.down else LS.training) ∧
      (t.link n).fails = (s.link n).fails + 1 ∧ SameMemory s t ∧ t.jobs = s.jobs ∧ t.host = s.host) ∧ t.now = max s.now at_ := by
  have hkeeps := (s.upTo at_).failAttempt_keeps n
  have hcount : O.at O.TRAIN_ATTEMPTS_FAILED n ∉ stateObjects n :=
    List.not_mem_cons_of_ne_of_not_mem (O.at_ne n n (by decide)) (O.at_notMem_lstateObjects hn rfl (by decide))
  have hlstate := (s.upTo at_).failAttempt_lstate hn (by rwa [State.upTo_boot])
    (by rwa [State.inResetHold, State.upTo_obj, ← State.inResetHold])
  rw [State.upTo_obj, State.upTo_link] at hlstate
  refine ⟨⟨?_, hlstate, ?_, sameMemory_of_aside_upTo hkeeps.aside, jobs_of_aside_upTo hkeeps.aside,
    host_of_aside_upTo hkeeps.aside⟩, now_of_aside_upTo hkeeps.aside⟩
  · rw [hkeeps.obj hcount, State.attemptFailed_counts, State.upTo_obj]
  · rw [hkeeps.links n, State.attemptFailed_link, State.upTo_link]

/-- Settles O31: either timeout takes time to its limit and fails the attempt, which is counted, and which the run of failures so far makes
the last one or not. -/
theorem failedAttemptsAreCounted : Obligations.FailedAttemptsAreCounted := by
  intro link s n hpresent hstop hhold after
  have fails (at_ : Nat) := State.failAttempt_upTo link.isLt hstop hhold at_
  exact ⟨fun hstate => ⟨_, trainAttemptTimeout_fails hpresent hstate, fails _⟩,
    fun hstate hid => ⟨_, identifyTimeout_fails hpresent hstate hid, fails _⟩⟩

end Sys2Proof.Machine

namespace Sys2Proof.Machine

/-! ### The lane map, and flits sent (R303, R316, R317) -/

/-- The objects that a change of a lane map may change. -/
abbrev laneObjects (n : Nat) (planned : Bool) : List Nat :=
  [O.at (if planned then O.LANE_DROPS_PLANNED else O.LANE_DROPS_UNPLANNED) n, O.EVENTS_LOST, O.at O.DEGRADED_NS n]

/-- The objects that an announced change of the outbound lane map may change. -/
abbrev outMapObjects (n : Nat) : List Nat := [O.at O.LANE_DROPS_PLANNED n, O.EVENTS_LOST, O.at O.DEGRADED_NS n]

/-- A link apart from what goes out with a flit: NAK, credit owed, gaps and waiting control blocks. -/
def LinkSt.unsent (l : LinkSt) : LinkSt :=
  { l with nak := false, credOwed := [], gapPlan := (0, 0), fill := 0, outMark := 0, ctlWait := [] }

/-- A link apart from what goes out with a flit and from the outbound lane map, with its time with fewer lanes. -/
def LinkSt.unmapped (l : LinkSt) : LinkSt :=
  { l.unsent with outMap := 0, switchOut := none, switchThen := none, switchCal := false, degradedAt := none }

section
variable {α : Type} {view : LinkSt → α} {ks : List Nat} {s t : State}

theorem Keeps.ringLocked (h : Keeps view ks s t) {n lane flag : Nat} : Keeps view ks s (t.ringLocked n lane flag) := h.ite h.optics

end

section
variable (s : State) (n : Nat)

theorem State.lanesChanged_keeps (old new : Nat) (planned : Bool) :
    Keeps LinkSt.undegraded (laneObjects n planned) s (s.lanesChanged n old new planned) := by
  have same (u : State) := Keeps.refl LinkSt.undegraded (laneObjects n planned) u
  unfold State.lanesChanged
  refine Keeps.trans ?_ ((State.accountLanes_keeps _ n).weaken id (by simp))
  exact ((same s).foldl (fun u _ => ((same u).inc (by simp)).raiseLink (by simp)) _).foldl (fun u _ => (same u).raiseLink (by simp)) _

theorem State.switchTo_keeps (m : Nat) : Keeps LinkSt.unmapped (outMapObjects n) s (s.switchTo n m) := by
  have same (u : State) := Keeps.refl LinkSt.unmapped (outMapObjects n) u
  have locked := (same s).foldl (f := fun u k => u.ringLocked n k 1) (fun u _ => (same u).ringLocked)
    (setBits (m &&& (15 ^^^ (s.link n).outMap)) 4)
  unfold State.switchTo
  refine Keeps.trans (Keeps.setLink (Keeps.foldl locked (fun u k => ?_) _) (by rfl)) ((State.lanesChanged_keeps ..).weaken LinkSt.unmapped (by simp))
  dsimp only
  split
  · exact (same u).onlyIf (same u).optics
  · exact same u

theorem State.putFlit_keeps (typ seq phase : Nat) (replayed : Bool) (body : List Byte) (sw : Nat × Nat) :
    Keeps LinkSt.unsent [] s (s.putFlit n typ seq phase replayed body sw) :=
  Keeps.setLink (Keeps.send (Keeps.refl _ _ s)) (by rfl)

theorem State.sendFlit_keeps (typ seq phase : Nat) (replayed : Bool) (body : List Byte) :
    Keeps LinkSt.unmapped (outMapObjects n) s (s.sendFlit n typ seq phase replayed body) := by
  have puts (sw : Nat × Nat) := (s.putFlit_keeps n typ seq phase replayed body sw).weaken LinkSt.unmapped
    (List.nil_subset (outMapObjects n))
  unfold State.sendFlit
  split
  · exact puts _
  · exact Keeps.ite (Keeps.setLink (puts _) (by rfl)) ((puts _).trans (State.switchTo_keeps _ n _))

/-- An object of a link whose key does not end as those of a lane map's change do is none of them. -/
theorem O.at_notMem_outMapObjects {k : Nat}
    (hk : k % 256 ∉ [O.LANE_DROPS_PLANNED % 256, O.EVENTS_LOST % 256, O.DEGRADED_NS % 256]) : O.at k n ∉ outMapObjects n := by
  simp only [List.mem_cons, List.not_mem_nil, or_false, not_or] at hk ⊢
  obtain ⟨hplanned, hlost, hdegraded⟩ := hk
  exact ⟨O.at_ne n n hplanned, O.at_ne n 0 hlost, O.at_ne n n hdegraded⟩

/-! What a flit adds to what the module has sent -/

theorem State.accountLanes_out : (s.accountLanes n).out = s.out := by
  unfold State.accountLanes
  dsimp only
  split <;> rfl

theorem State.foldl_out {α : Type} {f : State → α → State} (hf : ∀ u x, (f u x).out = u.out) (xs : List α) :
    (xs.foldl f s).out = s.out := by
  induction xs generalizing s with
  | nil => rfl
  | cons x xs ih => exact (ih (f s x)).trans (hf s x)

theorem State.raiseLink_out (code : Nat) : (s.raiseLink code n).out = s.out := State.raise_out ..

theorem State.lanesChanged_out (old new : Nat) (planned : Bool) : (s.lanesChanged n old new planned).out = s.out := by
  unfold State.lanesChanged
  rw [State.accountLanes_out, State.foldl_out _ fun u _ => State.raiseLink_out .., State.foldl_out]
  exact fun u _ => State.raiseLink_out ..

theorem State.ringLocked_out (lane flag : Nat) : (s.ringLocked n lane flag).out = s.out := by
  unfold State.ringLocked
  split <;> rfl

theorem State.switchTo_out (m : Nat) : (s.switchTo n m).out = s.out := by
  unfold State.switchTo
  rw [State.lanesChanged_out, State.setLink_out, State.foldl_out, State.foldl_out _ fun u k => u.ringLocked_out n k 1]
  intro u k
  split
  · split <;> rfl
  · rfl

theorem State.putFlit_out (typ seq phase : Nat) (replayed : Bool) (body : List Byte) (sw : Nat × Nat) :
    ∃ next, (s.putFlit n typ seq phase replayed body sw).out =
      Out.flit n (flitBytes (s.flitHeader n typ seq phase replayed next sw) body) :: s.out := ⟨_, rfl⟩

/-- A flit sent is the newest thing sent. -/
theorem State.sendFlit_out (typ seq phase : Nat) (replayed : Bool) (body : List Byte) :
    ∃ next sw, (s.sendFlit n typ seq phase replayed body).out =
      Out.flit n (flitBytes (s.flitHeader n typ seq phase replayed next sw) body) :: s.out := by
  unfold State.sendFlit
  split
  · exact ⟨_, _, rfl⟩
  next m k _ =>
    obtain ⟨next, hout⟩ := s.putFlit_out n typ seq phase replayed body (m, max k 1)
    refine ⟨next, (m, max k 1), hout ▸ ?_⟩
    dsimp only
    split
    · exact State.switchTo_out ..
    · rfl

end

end Sys2Proof.Machine

namespace Sys2Proof.Machine

/-! ### Replays (R310, R311) -/

/-- A link apart from its replay buffer, its outbound lane map, and what goes out with a flit. -/
def LinkSt.unreplayed (l : LinkSt) : LinkSt :=
  { l.unmapped with replay := [], replayDue := false, replayTimes := [], lastAckAt := 0 }

/-- A replay of every unacknowledged flit begins: each is marked as replayed once more, and all are counted. -/
def State.replayBegun (s : State) (n : Nat) : State :=
  let l := s.link n
  ((s.setLink n { l with replay := l.replay.map (fun r => { r with count := r.count + 1 }), replayDue := false,
                         replayTimes := s.now :: l.replayTimes.filter (fun t => s.now < t + 8000), lastAckAt := s.now }).inc
    (O.at O.REPLAYS n)).add (O.at O.REPLAYED_FLITS n) l.replay.length

/-- The flits of a list are sent again, in their order. -/
def State.resend (s : State) (n : Nat) (rs : List Replay) : State :=
  rs.foldl (fun s r => s.sendFlit n r.typ r.seq r.phase true r.body) s

section
variable {s : State} {n : Nat}

theorem State.resend_keeps (s : State) (n : Nat) (rs : List Replay) :
    Keeps LinkSt.unmapped (outMapObjects n) s (s.resend n rs) := by
  unfold State.resend
  have sends (u : State) (r : Replay) := u.sendFlit_keeps n r.typ r.seq r.phase true r.body
  exact (Keeps.refl _ _ s).foldl sends rs

theorem State.resend_out_length (s : State) (n : Nat) (rs : List Replay) : (s.resend n rs).out.length = s.out.length + rs.length := by
  induction rs generalizing s with
  | nil => rfl
  | cons r rs ih =>
    obtain ⟨next, sw, hout⟩ := s.sendFlit_out n r.typ r.seq r.phase true r.body
    rw [State.resend, List.foldl_cons, ← State.resend, ih, hout, List.length_cons, List.length_cons]
    omega

section
variable (hsome : (s.link n).replay ≠ []) (hcount : (s.link n).replay.any (fun r => 8 ≤ r.count) = false)
include hsome

theorem State.replayAll_limit (hcount : (s.link n).replay.any (fun r => 8 ≤ r.count) = true) :
    s.replayAll n = s.askRetrain n 2 := by
  rw [State.replayAll, if_neg (by simpa using hsome), if_pos hcount]

include hcount

theorem State.replayAll_waits (hidle : s.idleSlot n = true ∨ (s.link n).idleOnly = true) :
    s.replayAll n = s.setLink n { s.link n with replayDue := true } := by
  rw [State.replayAll, if_neg (by simpa using hsome), if_neg (by simp [hcount]), if_pos (by simpa using hidle)]

theorem State.replayAll_resends (hslot : s.idleSlot n = false) (hidle : (s.link n).idleOnly = false) :
    ∃ u, s.replayAll n = u ∧ Keeps LinkSt.unmapped [O.EVENTS_LOST] ((s.replayBegun n).resend n (s.link n).replay) u ∧
      u.out = ((s.replayBegun n).resend n (s.link n).replay).out := by
  have same (v : State) := Keeps.refl LinkSt.unmapped [O.EVENTS_LOST] v
  rw [State.replayAll, if_neg (by simpa using hsome), if_neg (by simp [hcount]), if_neg (by simp [hslot, hidle])]
  refine ⟨_, rfl, Keeps.onlyIf (same _) ((same _).raiseEvery (by simp)).markCond, ?_⟩
  dsimp only
  split
  · exact State.raiseEvery_out ..
  · rfl

end

theorem State.replayBegun_keeps (s : State) (n : Nat) :
    Keeps LinkSt.unreplayed [O.at O.REPLAYS n, O.at O.REPLAYED_FLITS n] s (s.replayBegun n) := 
      (((Keeps.refl _ _ s).setLink (by rfl)).inc (by simp)).add (by simp)

theorem State.replayBegun_link : ((s.replayBegun n).link n).replay = (s.link n).replay.map (fun r => { r with count := r.count + 1 }) :=
  congrArg LinkSt.replay (State.link_setLink_same s n _)

theorem State.replayBegun_counts :
    (s.replayBegun n).obj (O.at O.REPLAYS n) = (s.obj (O.at O.REPLAYS n) + 1) % 2 ^ 64 ∧
    (s.replayBegun n).obj (O.at O.REPLAYED_FLITS n) = (s.obj (O.at O.REPLAYED_FLITS n) + (s.link n).replay.length) % 2 ^ 64 := by
  have hne : O.at O.REPLAYED_FLITS n ≠ O.at O.REPLAYS n := O.at_ne n n (by decide)
  simp only [State.replayBegun, State.obj_add, State.obj_inc, State.setLink_obj, if_pos, if_neg hne, if_neg hne.symm, and_self]

/-- The buffer keeps its flits, each replayed once more, and each is sent. -/
theorem State.replayAll_done (hsome : (s.link n).replay ≠ []) (hcount : (s.link n).replay.any (fun r => 8 ≤ r.count) = false)
    (hslot : s.idleSlot n = false) (hidle : (s.link n).idleOnly = false) :
    Keeps LinkSt.unmapped (outMapObjects n) (s.replayBegun n) (s.replayAll n) ∧
      (s.replayAll n).out.length = s.out.length + (s.link n).replay.length := by
  obtain ⟨u, hu, hkeeps, hout⟩ := State.replayAll_resends hsome hcount hslot hidle
  rw [hu, hout, State.resend_out_length]
  exact ⟨(State.resend_keeps _ n _).trans (hkeeps.weaken id (by simp)), rfl⟩

/-- Whatever becomes of a replay whose flits are below their limit, it touches no more of a link. -/
theorem State.replayAll_keeps (hcount : (s.link n).replay.any (fun r => 8 ≤ r.count) = false) :
    Keeps LinkSt.unreplayed (O.at O.REPLAYS n :: O.at O.REPLAYED_FLITS n :: outMapObjects n) s (s.replayAll n) := by
  by_cases hsome : (s.link n).replay = []
  · rw [State.replayAll, if_pos (by rw [hsome]; rfl)]
    exact Keeps.refl _ _ s
  · by_cases hidle : s.idleSlot n = true ∨ (s.link n).idleOnly = true
    · rw [State.replayAll_waits hsome hcount hidle]
      exact (Keeps.refl _ _ s).setLink (by rfl)
    · simp only [not_or, Bool.not_eq_true] at hidle
      obtain ⟨hslot, hsends⟩ := hidle
      obtain ⟨hkeeps, -⟩ := State.replayAll_done hsome hcount hslot hsends
      exact ((s.replayBegun_keeps n).weaken id (by simp)).trans (hkeeps.weaken LinkSt.unreplayed (by simp))

theorem exec_replayTimeout (link : Fin 24) (s : State) : exec (.replayTimeout link) s = execReplayTimeout link s := rfl

theorem replayTimeout_replays {link : Fin 24} (hpresent : s.linkPresent link.val = true) (hup : s.isUp link.val = true)
    (hsome : (s.link link.val).replay ≠ []) :
    exec (.replayTimeout link) s =
      .next ((s.upTo ((s.link link.val).lastAckAt + s.obj O.REPLAY_TIMEOUT_NS * 8)).replayAll link.val) := by
  rw [exec_replayTimeout]
  exact if_pos (by simpa [hpresent, hup] using hsome)

end

/-- Settles O34: a replay that is due waits, meets its limit, or resends the buffer, by how often its flits were replayed and what the
direction may send. -/
theorem replayResendsInOrder : Obligations.ReplayResendsInOrder := by
  intro link s n l hpresent hup hsome
  have hexec := replayTimeout_replays hpresent hup hsome
  have hlink (at_ : Nat) : (s.upTo at_).link n = l := s.upTo_link at_ n
  refine ⟨fun hcount hslot hidle => ⟨_, hexec, ?resends⟩, fun hcount hwait => ⟨_, hexec, ?waits⟩, fun hcount => ⟨_, hexec, ?limit⟩⟩
  all_goals
    generalize l.lastAckAt + s.obj O.REPLAY_TIMEOUT_NS * 8 = at_ at *
    have hsome' : ((s.upTo at_).link n).replay ≠ [] := by rwa [hlink]
    have hcount' := (congrArg (fun l : LinkSt => l.replay.any (fun r => 8 ≤ r.count)) (hlink at_)).trans hcount
  case resends =>
    obtain ⟨hkeeps, hout⟩ := State.replayAll_done hsome' hcount' hslot (by rwa [hlink])
    obtain ⟨hreplays, hflits⟩ := State.replayBegun_counts (s := s.upTo at_) (n := n)
    rw [hlink] at hout hflits
    refine ⟨now_of_aside_upTo hkeeps.aside, ?_, ?_, ?_, ?_, ?_, sameMemory_of_aside_upTo hkeeps.aside, jobs_of_aside_upTo hkeeps.aside⟩
    · rw [hkeeps.obj (O.at_notMem_outMapObjects n (by decide)), hreplays, State.upTo_obj]
    · rw [hkeeps.obj (O.at_notMem_outMapObjects n (by decide)), hflits, State.upTo_obj]
    · rw [← hlink at_, ← State.replayBegun_link]
      exact hkeeps.field LinkSt.replay n fun _ => rfl
    · rw [← hlink at_]
      exact (hkeeps.field LinkSt.txNext n fun _ => rfl).trans ((State.replayBegun_keeps _ n).field LinkSt.txNext n fun _ => rfl)
    · rw [hout, State.upTo_out]
  case waits =>
    have hwaits := State.replayAll_waits hsome' hcount' (by rwa [hlink])
    rw [hlink] at hwaits
    rw [hwaits]
    have haside : ((s.upTo at_).setLink n { l with replayDue := true }).aside = (s.upTo at_).aside := rfl
    refine ⟨?_, ?_, s.upTo_out at_, now_of_aside_upTo haside, s.upTo_dict at_, sameMemory_of_aside_upTo haside, jobs_of_aside_upTo haside⟩
      <;> rw [State.link_setLink_same]
  case limit =>
    rw [State.replayAll_limit hsome' hcount']
    have hkeeps := State.startRetrain_keeps ((s.upTo at_).send (.block n 2 7 (2 * 2 ^ 60) 0)) n
    refine ⟨State.startRetrain_lstate link.isLt _, ?_, hkeeps.sent.mem List.mem_cons_self, sameMemory_of_aside_upTo hkeeps.aside⟩
    exact (hkeeps.links n).trans (congrArg LinkSt.replay (hlink at_))

end Sys2Proof.Machine

/-! Training (R313, R315, R402): a link goes from DISABLED or DOWN through TRAINING and IDENTIFY to UP. -/

namespace Sys2Proof.Machine

/-! ### LINK_ENABLE and the retry timer (R313) -/

theorem State.store_onlyNotes (s : State) (k v : Nat) : OnlyNotes s (s.store k v) [k, O.PERSIST_WRITES] := by
  have hput := (OnlyNotes.refl s [k, O.PERSIST_WRITES]).put (by simp) v (k := k)
  obtain ⟨-, h⟩ | h := s.store_cases k v <;> rw [h]
  · exact hput
  · unfold State.storeInst
    split
    · exact hput.mgmt _
    · exact (hput.mgmt _).inc (by simp)

theorem exec_linkEnableWrite (who : Who) (link : Fin 24) (v : Nat) (s : State) :
    exec (.linkEnableWrite who link v) s = rowWrite s who (O.at O.LINK_ENABLE link.val) v fun s => (s.linkEnable link.val v, St.ok) := rfl

theorem exec_trainRetryTimer (link : Fin 24) (s : State) : exec (.trainRetryTimer link) s = execTrainRetryTimer link s := rfl

section
variable {s : State} {n : Nat}

/-- LINK_ENABLE is stored, and the link's grace time and its run of failures begin anew. -/
def State.enabled (s : State) (n : Nat) : State :=
  let t := s.store (O.at O.LINK_ENABLE n) 1
  t.setLink n { t.link n with graceStart := t.now, fails := 0, failRaised := false }

theorem State.enabled_keeps (s : State) (n : Nat) :
    Keeps LinkSt.express [O.at O.LINK_ENABLE n, O.PERSIST_WRITES] s (s.enabled n) :=
  ((Keeps.refl _ _ s).notes (s.store_onlyNotes _ _)).setLink (by rfl)

theorem State.enabled_boot : (s.enabled n).boot = s.boot := by
  have h := (s.store_onlyNotes (O.at O.LINK_ENABLE n) 1).rest
  exact (congrArg State.boot h :)

/-- Training starts as a disabled link outside an express circuit is enabled. -/
theorem State.linkEnable_one (hstate : (s.enabled n).lstate n = LS.disabled) (hexpress : ((s.enabled n).link n).express = false) :
    s.linkEnable n 1 = (s.enabled n).startTraining n := by
  rw [State.linkEnable, if_neg (by decide)]
  exact if_pos (by rw [Bool.and_eq_true, decide_eq_true_eq]; exact ⟨hstate, by rw [Bool.not_eq_true']; exact hexpress⟩)

theorem notMem_pair {k a b : Nat} (ha : k ≠ a) (hb : k ≠ b) : k ∉ [a, b] := by simp [ha, hb]

theorem State.enabled_lstate : (s.enabled n).lstate n = s.lstate n :=
  (s.enabled_keeps n).obj (notMem_pair (O.at_ne n n (by decide)) (O.at_ne n 0 (by decide)))

theorem State.enabled_inResetHold : (s.enabled n).inResetHold = s.inResetHold := by
  have hstage : (s.enabled n).obj O.BRINGUP_STAGE = s.obj O.BRINGUP_STAGE :=
    (s.enabled_keeps n).obj (notMem_pair (O.ne_at_of_lt (by decide) n) (by decide))
  rw [State.inResetHold, hstage, ← State.inResetHold]

theorem State.enabled_enable : (s.enabled n).obj (O.at O.LINK_ENABLE n) = 1 := s.store_obj 1 (O.at_ne n 0 (by decide))

section
variable {link : Fin 24} {who : Who}

/-- What an admitted LINK_ENABLE leaves, by what its effect leaves. -/
theorem linkEnableWrite_completes {v state : Nat} {t : State} (h : Admits s who (O.at O.LINK_ENABLE link.val) v)
    (hanswer : s.linkEnable link.val v = t) (hstate : t.lstate link.val = state) (hvalue : t.obj (O.at O.LINK_ENABLE link.val) = v)
    (haside : t.aside = s.aside) :
    Completes (.linkEnableWrite who link v) s (fun t => t.lstate link.val = state ∧ t.obj (O.at O.LINK_ENABLE link.val) = v ∧
      Tells t who (O.at O.LINK_ENABLE link.val) St.ok ∧ SameMemory s t ∧ t.jobs = s.jobs ∧ t.host = s.host) :=
  ⟨_, exec_of_answer (exec_linkEnableWrite ..) h (congrArg (·, St.ok) hanswer), hstate, hvalue, tells_send .., sameMemory_of_aside haside,
    jobs_of_aside haside, host_of_aside haside⟩

theorem linkEnableWrite_disables (h : Admits s who (O.at O.LINK_ENABLE link.val) 0) :
    Completes (.linkEnableWrite who link 0) s (fun t => t.lstate link.val = LS.disabled ∧ t.obj (O.at O.LINK_ENABLE link.val) = 0 ∧
      Tells t who (O.at O.LINK_ENABLE link.val) St.ok ∧ SameMemory s t ∧ t.jobs = s.jobs ∧ t.host = s.host) := by
  have hstore : Keeps LinkSt.settled [O.at O.LINK_ENABLE link.val, O.PERSIST_WRITES] s (s.store (O.at O.LINK_ENABLE link.val) 0) :=
    (Keeps.refl _ _ s).notes (s.store_onlyNotes _ _)
  refine linkEnableWrite_completes h (by rw [State.linkEnable, if_pos rfl]) (State.setLstate_lstate link.isLt _) ?_
    (State.setLstate_aside.trans hstore.aside)
  rw [State.setLstate_obj link.isLt _ rfl (by decide), State.store_obj _ _ (O.at_ne link.val 0 (by decide))]

theorem linkEnableWrite_trains (h : Admits s who (O.at O.LINK_ENABLE link.val) 1) (hstate : s.lstate link.val = LS.disabled)
    (hexpress : (s.link link.val).express = false) (hstop : s.boot.stopCause = none) (hhold : s.inResetHold = false) :
    Completes (.linkEnableWrite who link 1) s (fun t => t.lstate link.val = LS.training ∧ t.obj (O.at O.LINK_ENABLE link.val) = 1 ∧
      Tells t who (O.at O.LINK_ENABLE link.val) St.ok ∧ SameMemory s t ∧ t.jobs = s.jobs ∧ t.host = s.host) := by
  have hkeeps := s.enabled_keeps link.val
  have hanswer := State.linkEnable_one (State.enabled_lstate.trans hstate) ((hkeeps.links _).trans hexpress)
  obtain ⟨l, hstarts, -⟩ := State.startTraining_starts (State.enabled_boot (s := s) (n := link.val) ▸ hstop)
    (State.enabled_inResetHold.trans hhold) link.val
  refine linkEnableWrite_completes h (hanswer.trans hstarts) (State.setLstate_lstate link.isLt _) ?_
    (State.setLstate_aside.trans hkeeps.aside)
  rw [State.setLstate_obj link.isLt _ rfl (by decide)]
  exact State.enabled_enable

theorem trainRetryTimer_starts (hpresent : s.linkPresent link.val = true) (hstate : s.lstate link.val = LS.down)
    (henable : s.obj (O.at O.LINK_ENABLE link.val) = 1) (hexpress : (s.link link.val).express = false) :
    exec (.trainRetryTimer link) s = .next ((s.upTo ((s.link link.val).downAt + 80000000000)).startTraining link.val) := by
  have hsec : 80 * sec1 = 80000000000 := rfl
  rw [exec_trainRetryTimer, execTrainRetryTimer, hsec]
  exact if_pos (by rw [hpresent, hstate, henable, hexpress]; rfl)

theorem trainRetryTimer_trains {at_ : Nat} (hexec : exec (.trainRetryTimer link) s = .next ((s.upTo at_).startTraining link.val))
    (hstop : s.boot.stopCause = none) (hhold : s.inResetHold = false) :
    Completes (.trainRetryTimer link) s (fun t => t.lstate link.val = LS.training ∧ t.now = max s.now at_ ∧
      (t.link link.val).attempts = (s.link link.val).attempts + 1 ∧ SameMemory s t ∧ t.jobs = s.jobs ∧ t.host = s.host) := by
  obtain ⟨l, hstarts, hattempts, -⟩ := State.startTraining_starts (s := s.upTo at_)
    (by rwa [State.upTo_boot]) (by rwa [State.inResetHold, State.upTo_obj, ← State.inResetHold]) link.val
  have hkeeps := ((s.upTo at_).setLink link.val l).setLstate_keepsRest link.val LS.training
  refine ⟨_, hexec.trans (congrArg _ hstarts), State.setLstate_lstate link.isLt _, now_of_aside_upTo hkeeps.aside, ?_,
    sameMemory_of_aside_upTo hkeeps.aside, jobs_of_aside_upTo hkeeps.aside, host_of_aside_upTo hkeeps.aside⟩
  refine (hkeeps.field LinkSt.attempts link.val fun _ => rfl).trans ?_
  rw [State.link_setLink_same, ← State.upTo_link s at_]
  exact hattempts

end

end

/-! ### The parameters' exchange (R313 step 5) -/

theorem State.ctlRx_some {s s1 : State} {n blk grp kind resv p : Nat} (h : s.ctlRx n blk grp kind resv = (some p, s1)) : s1 = s := by
  unfold State.ctlRx at h
  split at h
  · simp at h
  · dsimp only at h
    split at h
    · simp at h
    · split at h
      · simp at h
      · split at h
        · simp at h
        · exact (congrArg Prod.snd h).symm

theorem exec_trainParamRx (link : Fin 24) (blk lanes : Nat) (s : State) :
    exec (.trainParamRx link blk lanes) s = execTrainParamRx link blk lanes s := rfl

/-- A good TRAIN_PARAM with two common lanes is answered, and its lanes become both lane maps. -/
theorem trainParamRx_identifies {link : Fin 24} {blk lanes p : Nat} {s : State} (hpresent : s.linkPresent link.val = true)
    (hstate : s.lstate link.val = LS.training ∨ s.lstate link.val = LS.retrain)
    (hctl : s.ctlRx link.val blk 2 1 (3 * 2 ^ 48 + (2 ^ 36 - 1)) = (some p, s)) (hversion : bits p 63 56 = 1)
    (hsymbols : bits p 47 36 = 3072)
    (hlanes : 2 ≤ popcount (bits p 55 52 &&& (lanes % 16)) 4) :
    ∃ l, exec (.trainParamRx link blk lanes) s =
        .next ((((s.send (s.ownParam link.val lanes)).setLink link.val l).put (O.at O.ACTIVE_LANES link.val)
          (bits p 55 52 &&& (lanes % 16))).setLstate link.val LS.identify) ∧
      l.outMap = (bits p 55 52 &&& (lanes % 16)) := by
  have hlistens : ¬(!(s.linkPresent link.val && (s.lstate link.val = 1 || s.lstate link.val = 4))) = true := by
    rcases hstate with hstate | hstate <;> rw [hpresent, hstate] <;> decide
  have hgood : ¬(bits p 63 56 ≠ 1 || bits p 47 36 ≠ 3072) = true := by simp [hversion, hsymbols]
  rw [exec_trainParamRx, execTrainParamRx]
  dsimp only
  rw [if_neg hlistens, hctl]
  dsimp only
  rw [if_neg hgood, if_neg (Nat.not_lt_of_le hlanes)]
  exact ⟨_, rfl, rfl⟩

theorem trainParamRx_takes {link : Fin 24} {blk lanes p : Nat} {s : State} (hpresent : s.linkPresent link.val = true)
    (hstate : s.lstate link.val = LS.training ∨ s.lstate link.val = LS.retrain)
    (hctl : s.ctlRx link.val blk 2 1 (3 * 2 ^ 48 + (2 ^ 36 - 1)) = (some p, s)) (hversion : bits p 63 56 = 1)
    (hsymbols : bits p 47 36 = 3072)
    (hlanes : 2 ≤ popcount (bits p 55 52 &&& (lanes % 16)) 4) :
    Completes (.trainParamRx link blk lanes) s (fun t => t.lstate link.val = LS.identify ∧
      t.obj (O.at O.ACTIVE_LANES link.val) = (bits p 55 52 &&& (lanes % 16)) ∧ (t.link link.val).outMap = (bits p 55 52 &&& (lanes % 16)) ∧
      s.ownParam link.val lanes ∈ t.out ∧ SameMemory s t ∧ t.jobs = s.jobs ∧ t.host = s.host) := by
  obtain ⟨l, hexec, hmap⟩ := trainParamRx_identifies hpresent hstate hctl hversion hsymbols hlanes
  have hkeeps := (((s.send (s.ownParam link.val lanes)).setLink link.val l).put (O.at O.ACTIVE_LANES link.val)
    (bits p 55 52 &&& (lanes % 16))).setLstate_keepsRest link.val LS.identify
  have haside := hkeeps.aside.trans (rfl : _ = s.aside)
  refine ⟨_, hexec, State.setLstate_lstate link.isLt _, ?_, ?_, hkeeps.sent.mem List.mem_cons_self, sameMemory_of_aside haside,
    jobs_of_aside haside, host_of_aside haside⟩
  · rw [State.setLstate_obj link.isLt _ rfl (by decide), State.obj_put_same]
  · rw [hkeeps.field LinkSt.outMap _ fun _ => rfl, State.put_link, State.link_setLink_same, hmap]

/-! ### Training completes (R313 step 8, R315, R47) -/

/-- What the sequence of a link is as it comes UP: after a retrain to the same partner it goes on, otherwise it starts afresh. -/
def LinkSt.resumed (l : LinkSt) : LinkSt :=
  if l.isRetrain && l.prevId = some (Ident.plain l.ident, l.serial0, l.serial1) then
    { l with replay := l.replay.map (fun r => { r with count := 0 }) }
  else
    { l with replay := [], txNext := 0, rxNext := 0, nak := false, txCtr := freshCtr l.txCtr, rxCtr := freshCtr l.rxCtr,
             rxBuf := [], rxMode := .idle, rxLeft := 0, discarding := false, credTx := fullCredits, credOwed := [] }

theorem LinkSt.resumed_replay (l : LinkSt) : l.resumed.replay.any (fun r => 8 ≤ r.count) = false := by
  unfold LinkSt.resumed
  split
  · simp
  · rfl

/-- A trained link's state before it takes UP. -/
def State.trained (s : State) (n : Nat) : State :=
  let l := s.link n
  let s := s.setLink n l.resumed
  let s := s.setLink n { s.link n with fails := 0, failRaised := false, framed := true, gapNext := some (0, 0), authStop := false,
                                       lastAckAt := s.now, gapPlan := (0, 0), fill := 0, ctlWait := [], outMark := s.out.length }
  let s := [0, 1, 2, 3].foldl (fun (s : State) k => (s.ringLocked n k 1).ringLocked n k 0) s
  let s := { s with optics.dropAsked := s.optics.dropAsked.filter (fun k => k / 4 ≠ n),
                    optics.rxs := s.optics.rxs.filter (fun e => e.1 / 4 + 8 ≠ n) }
  let s := s.put (O.at O.LAST_TRAIN_MS n) ((s.now - l.attemptAt) / 8000000 % 2 ^ 32)
  { s with beat.beatnumDue := setBit s.beat.beatnumDue n true }

theorem exec_linkTrainingComplete (link : Fin 24) (s : State) : exec (.linkTrainingComplete link) s = execLinkTrainingComplete link s := rfl

section
variable {s : State} {n : Nat}

theorem State.trained_keeps (s : State) (n : Nat) :
    ∃ l, l.replay = (s.link n).resumed.replay ∧ l.fails = 0 ∧
      Keeps (fun l => (l.replay, l.fails)) [O.at O.LAST_TRAIN_MS n] ((s.setLink n (s.link n).resumed).setLink n l) (s.trained n) := by
  have same (u : State) := Keeps.refl (fun l : LinkSt => (l.replay, l.fails)) [O.at O.LAST_TRAIN_MS n] u
  unfold State.trained
  refine ⟨_, ?_, rfl, Keeps.beat (Keeps.put (Keeps.optics (Keeps.foldl (same _) (fun u k => (same u).ringLocked.ringLocked) _)) (by simp))⟩
  rw [State.link_setLink_same]

theorem State.trained_link (s : State) (n : Nat) :
    ((s.trained n).link n).replay = (s.link n).resumed.replay ∧ ((s.trained n).link n).fails = 0 := by
  obtain ⟨l, hreplay, hfails, hkeeps⟩ := s.trained_keeps n
  have hlink := hkeeps.links n
  rw [State.link_setLink_same, hreplay, hfails, Prod.mk.injEq] at hlink
  exact hlink

/-- A link that comes UP stays UP as it resends what is not acknowledged, and as the beat is acquired on it. -/
theorem State.trained_comesUp (hn : n < 24) {s u : State} (hu : Keeps LinkSt.settled [O.EVENTS_LOST] ((s.trained n).setLstate n LS.up) u) :
    ((u.replayAll n).checkAcquire n).lstate n = LS.up ∧ (((u.replayAll n).checkAcquire n).link n).fails = 0 ∧
      ((u.replayAll n).checkAcquire n).aside = s.aside := by
  obtain ⟨hreplay, hfails⟩ := s.trained_link n
  obtain ⟨_, _, _, htrained⟩ := s.trained_keeps n
  have htaken := (s.trained n).setLstate_keepsRest n LS.up
  have hcount : (u.link n).replay.any (fun r => 8 ≤ r.count) = false := by
    rw [hu.field LinkSt.replay _ fun _ => rfl, htaken.field LinkSt.replay _ fun _ => rfl, hreplay]
    exact LinkSt.resumed_replay _
  have hreplayed := State.replayAll_keeps hcount
  have hacquired := (Keeps.refl LinkSt.settled [O.BEAT_STATE] (u.replayAll n)).checkAcquire (n := n) (by simp)
  have hbeat : O.at O.LINK_STATE n ∉ [O.BEAT_STATE] := by
    simp only [List.mem_singleton, O.at, O.LINK_STATE, O.BEAT_STATE]
    omega
  have hnote : O.at O.LINK_STATE n ∉ O.at O.REPLAYS n :: O.at O.REPLAYED_FLITS n :: outMapObjects n :=
    List.not_mem_cons_of_ne_of_not_mem (O.at_ne n n (by decide))
      (List.not_mem_cons_of_ne_of_not_mem (O.at_ne n n (by decide)) (O.at_notMem_outMapObjects n (by decide)))
  have hevent : O.at O.LINK_STATE n ∉ [O.EVENTS_LOST] := mt List.mem_singleton.mp (O.at_ne n 0 (by decide))
  refine ⟨?_, ?_, ?_⟩
  · exact (hacquired.obj hbeat).trans ((hreplayed.obj hnote).trans ((hu.obj hevent).trans (State.setLstate_lstate hn _)))
  · rw [hacquired.field LinkSt.fails _ fun _ => rfl, hreplayed.field LinkSt.fails _ fun _ => rfl, hu.field LinkSt.fails _ fun _ => rfl,
      htaken.field LinkSt.fails _ fun _ => rfl, hfails]
  · rw [hacquired.aside, hreplayed.aside, hu.aside, htaken.aside, htrained.aside]
    rfl

theorem linkTrainingComplete_ups {link : Fin 24} (hpresent : s.linkPresent link.val = true) (hstate : s.lstate link.val = LS.identify)
    (hexch : (s.link link.val).exch = true) (hheard : (s.link link.val).heard = true) (hloop : (s.link link.val).loopCount = 16)
    (henable : s.obj (O.at O.LINK_ENABLE link.val) = 1) (hlight : reachClass link.val = 2 → s.obj O.LSM_PRESENT = 1) :
    exec (.linkTrainingComplete link) s =
      .next (((if (s.link link.val).encMismatch then
        (((s.trained link.val).setLstate link.val LS.up).raiseLink 0x1D01 link.val).raiseLink 0x2D08 link.val
        else ((s.trained link.val).setLstate link.val LS.up).raiseLink 0x1D01 link.val).replayAll link.val).checkAcquire link.val) := by
  have hlight' : (reachClass link.val ≠ 2 || s.obj O.LSM_PRESENT = 1) = true := by
    simpa [Decidable.imp_iff_not_or] using hlight
  rw [exec_linkTrainingComplete, execLinkTrainingComplete]
  dsimp only
  rw [if_neg (by rw [hpresent, hstate, hexch, hheard, hloop, henable, hlight']; decide)]
  simp only [State.trained, LinkSt.resumed, apply_ite (s.setLink link.val)]

end

/-- Settles O30: a write of LINK_ENABLE, the retry timer, the parameters' exchange and the end of training each give the link its state. -/
theorem linksTrainToUp : Obligations.LinksTrainToUp := by
  intro link s n hpresent
  refine ⟨fun who => linkEnableWrite_disables, fun who => linkEnableWrite_trains, fun hstate henable hexpress => ?retry,
    fun blk lanes p s1 hstate hctl => ?params, fun hstate hexch hheard hloop henable hlight => ?complete⟩
  case retry => exact trainRetryTimer_trains (trainRetryTimer_starts hpresent hstate henable hexpress)
  case params =>
    obtain rfl := State.ctlRx_some hctl
    exact trainParamRx_takes hpresent hstate hctl
  case complete =>
    have hexec := linkTrainingComplete_ups hpresent hstate hexch hheard hloop henable hlight
    obtain ⟨hup, hfails, haside⟩ := State.trained_comesUp (s := s) link.isLt
      (Keeps.onlyIf (c := (s.link link.val).encMismatch) ((Keeps.refl _ _ _).raiseLink (by simp)) ((Keeps.refl _ _ _).raiseLink (by simp)))
    exact ⟨_, hexec, hup, hfails, sameMemory_of_aside haside, jobs_of_aside haside, host_of_aside haside⟩

end Sys2Proof.Machine

/-! Outputs and keys (R312, R322, R333, R335, R535). -/

namespace Sys2Proof.Machine

/-! ### Sending a packet's bytes (R310, R312, R321) -/

/-- The objects that the bytes a link sends may change. -/
abbrev pumpObjects (n : Nat) : List Nat := O.at O.DATA_FLITS_TX n :: outMapObjects n

/-- Credit for the other end's buffer and the waiting packets of a link. -/
def LinkSt.claims (l : LinkSt) : Tab Nat × List OutPkt := (l.credTx, l.queue)

section
variable {s : State} {n : Nat}

theorem State.sendData_keeps (s : State) (n : Nat) (body : List Byte) : Keeps LinkSt.claims (pumpObjects n) s (s.sendData n body) := by
  have same (u : State) := Keeps.refl LinkSt.claims (pumpObjects n) u
  unfold State.sendData
  exact (((same _).setLink (by rfl)).trans ((State.sendFlit_keeps ..).weaken LinkSt.claims (by simp))).inc (by simp)

theorem State.freeInput_keeps (s : State) (n : Nat) (p : OutPkt) : Keeps LinkSt.claims (pumpObjects n) s (s.freeInput p) := by
  unfold State.freeInput
  split
  · exact (Keeps.refl _ _ s).setLink (by rfl)
  · exact Keeps.refl _ _ s

theorem State.pump_keeps (fuel n : Nat) (s : State) : Keeps LinkSt.claims (pumpObjects n) s (State.pump fuel n s) := by
  induction fuel generalizing s with
  | zero => exact Keeps.refl _ _ s
  | succ fuel ih =>
    have sent (body : List Byte) (c : Option OutPkt) := (s.sendData_keeps n body).setLink (n := n)
      (l := { (s.sendData n body).link n with cur := c }) (by rfl)
    unfold State.pump
    dsimp only
    split
    · exact Keeps.refl _ _ s
    · split
      · exact Keeps.refl _ _ s
      · split
        · split
          · exact (sent _ _).trans (State.freeInput_keeps ..)
          · exact (sent _ _).trans (ih _)
        · exact Keeps.refl _ _ s

/-! ### OUTPUT_PACKET_START (R323, R335) -/

theorem exec_outputPacketStart (link : Fin 24) (s : State) : exec (.outputPacketStart link) s = execOutputPacketStart link s := rfl

theorem State.isUp_of_packetsOn (h : s.packetsOn n = true) : s.isUp n = true := by
  simp only [State.packetsOn, State.usable, Bool.and_eq_true] at h
  obtain ⟨⟨⟨-, hup⟩, -⟩, -⟩ := h
  exact hup

theorem State.resumeReplay_of_notDue (h : (s.link n).replayDue = false) : s.resumeReplay n = s := by
  rw [State.resumeReplay, h]
  rfl

/-- The packet that an output starts next is the first that waits of its class, and has its credit. -/
theorem LinkSt.nextPkt_spec {l : LinkSt} {p : OutPkt} (h : l.nextPkt = some p) : p ∈ l.queue ∧ p.need ≤ l.credTx.get p.cls 0 := by
  obtain ⟨c, -, hc⟩ := List.mem_filterMap.mp (List.mem_of_mem_head? (Option.mem_def.mpr h))
  split at hc
  next q hfind =>
    split at hc
    next hneed =>
      obtain rfl := Option.some.inj hc
      have hcls := List.find?_some hfind
      obtain rfl := of_decide_eq_true hcls
      exact ⟨List.mem_of_find?_eq_some hfind, hneed⟩
    next => cases hc
  next => cases hc

end

section
variable {link : Fin 24} {s : State}

/-- A packet starts at an output: its credit is taken, and it waits no more. -/
def State.packetStarted (s : State) (n : Nat) (p : OutPkt) : State :=
  s.setLink n { s.link n with cur := some p, queue := (s.link n).queue.erase p,
                              credTx := (s.link n).credTx.set p.cls ((s.link n).credTx.get p.cls 0 - p.need) }

/-- What an output does that has no replay due and whose direction carries packets. -/
theorem outputPacketStart_of_on (hon : s.packetsOn link.val = true) (hidle : (s.link link.val).idleOnly = false)
    (hdue : (s.link link.val).replayDue = false) :
    (∀ p, (s.link link.val).cur = none → (s.link link.val).nextPkt = some p →
      exec (.outputPacketStart link) s = .next (State.pump 16 link.val (s.packetStarted link.val p))) ∧
    ((s.link link.val).cur = none → (s.link link.val).nextPkt = none → exec (.outputPacketStart link) s = .next s) ∧
    (∀ p, (s.link link.val).cur = some p → exec (.outputPacketStart link) s = .next (State.pump 16 link.val s)) := by
  have hcarries : ¬(!s.packetsOn link.val || (s.link link.val).idleOnly) = true := by rw [hon, hidle]; decide
  have hup : ¬(!s.isUp link.val) = true := by rw [State.isUp_of_packetsOn hon]; decide
  rw [exec_outputPacketStart, execOutputPacketStart]
  dsimp only
  rw [if_neg hcarries, State.resumeReplay_of_notDue hdue, if_neg hup]
  exact ⟨fun p hcur hnext => by rw [hcur, hnext]; rfl, fun hcur hnext => by rw [hcur, hnext], fun p hcur => by rw [hcur]⟩

theorem outputPacketStart_idle (hidle : (s.link link.val).idleOnly = true) : exec (.outputPacketStart link) s = .next s := by
  rw [exec_outputPacketStart]
  exact if_pos (by rw [hidle, Bool.or_true])

theorem outputPacketStart_starts {p : OutPkt} (hexec : exec (.outputPacketStart link) s =
    .next (State.pump 16 link.val (s.packetStarted link.val p))) :
    Completes (.outputPacketStart link) s (fun t =>
      (t.link link.val).credTx.get p.cls 0 = (s.link link.val).credTx.get p.cls 0 - p.need ∧
      (t.link link.val).queue = (s.link link.val).queue.erase p ∧ SameMemory s t ∧ t.jobs = s.jobs ∧ t.host = s.host) := by
  have hkeeps := State.pump_keeps 16 link.val (s.packetStarted link.val p)
  obtain ⟨hcred, hqueue⟩ := Prod.mk.inj (hkeeps.links link.val)
  have haside := hkeeps.aside.trans (rfl : _ = s.aside)
  refine ⟨_, hexec, ?_, ?_, sameMemory_of_aside haside, jobs_of_aside haside, host_of_aside haside⟩
  · rw [hcred, State.packetStarted, State.link_setLink_same, Tab.get_set, if_pos rfl]
  · rw [hqueue, State.packetStarted, State.link_setLink_same]

/-! ### Keys (R322, R535) -/

theorem exec_keyExhausted (link : Fin 24) (s : State) : exec (.keyExhausted link) s = execKeyExhausted link s := rfl
theorem exec_linkKeyNeeded (link : Fin 24) (s : State) : exec (.linkKeyNeeded link) s = execLinkKeyNeeded link s := rfl

theorem State.dropRetired_keeps (s : State) (n : Nat) :
    Keeps (fun l => (l.txPhase, l.txCtr, l.keyStop)) [] s (s.dropRetired n) :=
  Keeps.ite (Keeps.refl _ _ s) ((Keeps.refl _ _ s).setLink (by rfl)).sec

theorem State.dropRetired_dict (s : State) (n : Nat) : (s.dropRetired n).dict = s.dict := by
  unfold State.dropRetired
  dsimp only
  split <;> rfl

/-- A new key of the other phase is taken, with a flit counter that begins at SEQ (R322). -/
theorem keyExhausted_toggles {key : Nat} (hpresent : s.linkPresent link.val = true)
    (hkey : s.linkKey link.val 0 (1 - (s.link link.val).txPhase % 2) = some key) (hretired : (s.link link.val).txRetired = false) :
    Completes (.keyExhausted link) s (fun t => (t.link link.val).txPhase = 1 - (s.link link.val).txPhase % 2 ∧
      (t.link link.val).txCtr = (s.link link.val).txNext ∧ (t.link link.val).keyStop = false ∧ t.dict = s.dict ∧ SameMemory s t ∧
      t.jobs = s.jobs ∧ t.host = s.host) := by
  have hexec : exec (.keyExhausted link) s = .next (s.togglePhase link.val) := by
    rw [exec_keyExhausted, execKeyExhausted, if_neg (by simp [hpresent]), if_pos (by simp [hkey, hretired])]
  have hkeeps := State.dropRetired_keeps (s.setLink link.val { s.link link.val with
    txPhase := 1 - (s.link link.val).txPhase % 2, txCtr := (s.link link.val).txNext, keyStop := false, txRetired := true }) link.val
  have hlink := hkeeps.links link.val
  rw [State.link_setLink_same] at hlink
  simp only [Prod.mk.injEq] at hlink
  obtain ⟨hphase, hctr, hstop⟩ := hlink
  have haside := hkeeps.aside.trans (rfl : _ = s.aside)
  exact ⟨_, hexec, hphase, hctr, hstop, State.dropRetired_dict _ _, sameMemory_of_aside haside, jobs_of_aside haside, host_of_aside haside⟩

/-- Without a key to take, the direction's data stops (R322). -/
theorem keyExhausted_stops (hpresent : s.linkPresent link.val = true)
    (hnone : s.linkKey link.val 0 (1 - (s.link link.val).txPhase % 2) = none ∨ (s.link link.val).txRetired = true) :
    Completes (.keyExhausted link) s (fun t =>
      t = (s.setLink link.val
        { s.link link.val with txCtr := max (s.link link.val).txCtr (2 ^ 40), keyStop := true }).raiseLink 0x3D07 link.val ∧
      (t.link link.val).keyStop = true ∧ SameMemory s t ∧ t.jobs = s.jobs ∧ t.host = s.host) := by
  have hexec : exec (.keyExhausted link) s = .next ((s.setLink link.val
      { s.link link.val with txCtr := max (s.link link.val).txCtr (2 ^ 40), keyStop := true }).raiseLink 0x3D07 link.val) := by
    rw [exec_keyExhausted, execKeyExhausted, if_neg (by simp [hpresent]), if_neg (by rcases hnone with h | h <;> simp [h])]
  have hkeeps := (Keeps.refl LinkSt.keyStop [O.EVENTS_LOST] (s.setLink link.val
    { s.link link.val with txCtr := max (s.link link.val).txCtr (2 ^ 40), keyStop := true })).raiseLink (code := 0x3D07)
    (n := link.val) (by simp)
  have haside := hkeeps.aside.trans (rfl : _ = s.aside)
  refine ⟨_, hexec, rfl, (hkeeps.links link.val).trans ?_, sameMemory_of_aside haside, jobs_of_aside haside, host_of_aside haside⟩
  rw [State.link_setLink_same]

/-- A link's first want of a key is raised (R535). -/
theorem linkKeyNeeded_raises (hpresent : s.linkPresent link.val = true) (hfirst : s.sec.keyNeeded.contains link.val = false) :
    Completes (.linkKeyNeeded link) s (fun t =>
      t = ({ s with sec := { s.sec with keyNeeded := link.val :: s.sec.keyNeeded } }).raiseLink 0x208B link.val ∧
      link.val ∈ t.sec.keyNeeded ∧ SameMemory s t ∧ SameWork s t) := by
  have hnotes := (OnlyNotes.refl { s with sec := { s.sec with keyNeeded := link.val :: s.sec.keyNeeded } } [O.EVENTS_LOST]).raise
    (by simp) 0x208B
    { kind := 1, subj := link.val }
  refine ⟨_, ?_, rfl, ?_, hnotes.sameMemory, hnotes.sameWork⟩
  · rw [exec_linkKeyNeeded]
    exact if_neg (by rw [hpresent, hfirst]; decide)
  · rw [State.raiseLink, hnotes.rest]
    exact List.mem_cons_self

end

/-- Settles O36: an output that may send starts the packet that has its credit, or goes on with the one it is
in; a key runs out or is wanted. -/
theorem outputsSpendCredit : Obligations.OutputsSpendCredit := by
  intro link s n l
  refine ⟨fun hon hkey hauth hdue => ?_, fun _ => outputPacketStart_idle, fun hpresent =>
    ⟨fun key => keyExhausted_toggles hpresent, keyExhausted_stops hpresent, linkKeyNeeded_raises hpresent, fun hknown => ?_⟩⟩
  · have hidle : l.idleOnly = false := by
      have hagree : l.encMismatch = false := by
        simp only [State.packetsOn, Bool.and_eq_true, Bool.not_eq_true'] at hon
        obtain ⟨-, hagree⟩ := hon
        exact hagree
      rw [LinkSt.idleOnly, hagree, hkey, hauth]
      rfl
    obtain ⟨hstarts, hnothing, hgoesOn⟩ := outputPacketStart_of_on hon hidle hdue
    refine ⟨fun p hcur hnext => ?_, hnothing, hgoesOn⟩
    obtain ⟨hqueued, hneed⟩ := LinkSt.nextPkt_spec hnext
    exact ⟨hqueued, hneed, outputPacketStart_starts (hstarts p hcur hnext)⟩
  · rw [exec_linkKeyNeeded]
    exact if_pos (by rw [hknown, Bool.or_true])

end Sys2Proof.Machine

/-! The tests that an arriving packet meets (Table 12.6; R323, R330, R331, R336, R339, R408). -/

namespace Sys2Proof.Machine

section
variable {s : State} {n : Nat} {k : Packet}

/-! ### The header's tests in their order -/

theorem State.headTests_malformed (hok : k.headerOk = false) : s.headTests n k = (s.inc O.MALFORMED_PKT, .drop) := by
  rw [State.headTests, if_pos (by rw [hok]; rfl)]

theorem State.fencedPacket_obj (s : State) (n : Nat) (k : Packet) {i : Nat} (hi : i ≠ O.FENCED_NOTICES_SENT) :
    (s.fencedPacket n k).obj i = s.obj i := by
  unfold State.fencedPacket
  extract_lets recent pay
  split
  · rfl
  · exact State.obj_put_ne _ _ _ _ hi

/-- What becomes of a packet for another chip (tests 3 and 4). -/
def State.passOn (s : State) (n : Nat) (k : Packet) : State × Fate :=
  if k.hops = 0 then
    (((s.inc O.HOP_EXPIRED_DROPS).raiseEvery 0x2E04 0 sec1 { kind := 2, subj := k.dstChip }).answerDrop k 0x12, .drop)
  else
    match (if s.obj O.CHIP_STATE = 2 then none else s.chooseOut k.dstChip k.cls (some n) anyLink) with
    | none => (((s.inc O.NO_ROUTE_DROPPED).noRouteEvent k.dstChip).answerDrop k 0x10, .drop)
    | some o => ((s.inc O.PACKETS_FORWARDED).add O.BYTES_FORWARDED (48 + k.len), .forward o)

theorem State.passOn_expired (hhops : k.hops = 0) : (s.passOn n k).2 = .drop := by rw [State.passOn, if_pos hhops]

theorem State.passOn_forwards {o : Nat} (hhops : k.hops ≠ 0) (hfree : s.obj O.CHIP_STATE ≠ 2)
    (hout : s.chooseOut k.dstChip k.cls (some n) anyLink = some o) : (s.passOn n k).2 = .forward o := by
  rw [State.passOn, if_neg hhops, if_neg hfree, hout]

theorem State.passOn_noRoute (hhops : k.hops ≠ 0)
    (hnone : s.obj O.CHIP_STATE = 2 ∨ s.chooseOut k.dstChip k.cls (some n) anyLink = none) : (s.passOn n k).2 = .drop := by
  have hout : (if s.obj O.CHIP_STATE = 2 then none else s.chooseOut k.dstChip k.cls (some n) anyLink) = none := by
    split
    · rfl
    next hfree => exact hnone.resolve_left hfree
  rw [State.passOn, if_neg hhops, hout]

section
variable (hok : k.headerOk = true)
include hok

theorem State.headTests_stale (htyp : k.typ ≠ 9) (hepoch : k.srcEpoch < s.epochOf k.srcChip) :
    s.headTests n k =
      (((s.inc O.STALE_EPOCH_DROPPED).raiseEvery 0x2E01 k.srcChip sec1 { kind := 2, subj := k.srcChip }).fencedPacket n k, .drop) := by
  rw [State.headTests, if_neg (by simp [hok]), if_pos (by simp [htyp, hepoch])]

theorem State.headTests_ahead (htyp : k.typ ≠ 9) (hepoch : s.epochOf k.srcChip < k.srcEpoch) :
    s.headTests n k = ((s.inc O.EPOCH_AHEAD_DROPPED).raise 0x2E02 { kind := 2, subj := k.srcChip }, .drop) := by
  rw [State.headTests, if_neg (by simp [hok]), if_neg (by simp [Nat.le_of_lt hepoch]), if_pos (by simp [htyp, hepoch])]

/-- A header of the table's epoch, or of a FENCED packet, passes the tests of the epoch. -/
theorem State.headTests_ejects (h : k.typ = 9 ∨ (k.srcEpoch = s.epochOf k.srcChip ∧ s.ownChip k.dstChip = true)) :
    s.headTests n k = (s, .eject) := by
  rw [State.headTests, if_neg (by simp [hok])]
  rcases h with htyp | ⟨hepoch, hown⟩
  · simp [htyp]
  · simp [hepoch, hown]

theorem State.headTests_passesOn (htyp : k.typ ≠ 9) (hepoch : k.srcEpoch = s.epochOf k.srcChip) (hother : s.ownChip k.dstChip = false) :
    s.headTests n k = s.passOn n k := by
  rw [State.headTests, if_neg (by simp [hok]), if_neg (by simp [hepoch]), if_neg (by simp [hepoch]), if_neg (by simp [htyp, hother])]
  rfl

end

theorem State.headTests_stale_counts (hok : k.headerOk = true) (htyp : k.typ ≠ 9) (hstale : k.srcEpoch < s.epochOf k.srcChip) :
    (s.headTests n k).2 = .drop ∧ (s.headTests n k).1.obj O.STALE_EPOCH_DROPPED = (s.obj O.STALE_EPOCH_DROPPED + 1) % 2 ^ 64 := by
  rw [State.headTests_stale hok htyp hstale]
  exact ⟨rfl, (State.fencedPacket_obj _ _ _ (by decide)).trans
    ((State.raiseEvery_obj _ _ _ _ _ _ (by decide)).trans (s.obj_put_same ..))⟩

theorem State.headTests_ahead_counts (hok : k.headerOk = true) (htyp : k.typ ≠ 9) (hahead : s.epochOf k.srcChip < k.srcEpoch) :
    (s.headTests n k).2 = .drop ∧ (s.headTests n k).1.obj O.EPOCH_AHEAD_DROPPED = (s.obj O.EPOCH_AHEAD_DROPPED + 1) % 2 ^ 64 := by
  rw [State.headTests_ahead hok htyp hahead]
  exact ⟨rfl, (State.raise_obj _ _ _ _ (by decide)).trans (s.obj_put_same ..)⟩

/-! ### The link's tests before, and the trailer's after -/

theorem State.packetIn_quarantined (h : s.quarantined n = true) : s.packetIn n k = s.inc O.QUARANTINE_DROPPED := if_pos h

section
variable (hfree : s.quarantined n = false)
include hfree

theorem State.packetIn_off (hoff : s.packetsOn n = false) : s.packetIn n k = s := by
  rw [State.packetIn, if_neg (by simp [hfree]), if_pos (by simp [hoff])]

theorem State.packetIn_badLength (hon : s.packetsOn n = true) (hlen : k.payload.length ≠ k.len) :
    s.packetIn n k = s.inc O.MALFORMED_PKT := by
  rw [State.packetIn, if_neg (by simp [hfree]), if_neg (by simp [hon]), if_pos hlen]

theorem State.packetIn_forwards {o : Nat} (hon : s.packetsOn n = true) (hlen : k.payload.length = k.len)
    (hfate : (s.headTests n k).2 = .forward o) :
    s.packetIn n k = (s.headTests n k).1.enqueue o
      { src := none, cls := k.cls, bytes := k.forwarded, done := true, sent := 0, part := 0xFF, rank := n } := by
  have htests : s.headTests n k = ((s.headTests n k).1, .forward o) := Prod.ext rfl hfate
  rw [State.packetIn, if_neg (by simp [hfree]), if_neg (by simp [hon]), if_neg (not_not_intro hlen), htests]

end

theorem State.ejectPkt_bad {tr : List Byte} {c : Nat} (h : trailerBad k tr = some c) : s.ejectPkt n k tr = s.inc c := by
  rw [State.ejectPkt, h]

theorem trailerBad_aborted {tr : List Byte} (h : recF (ofLE tr) 4 1 = 1) : trailerBad k tr = some O.ABORTED_RX := if_pos h

theorem trailerBad_crc {tr : List Byte} (hstatus : recF (ofLE tr) 4 1 = 0) (hresv : recF (ofLE tr) 5 11 = 0)
    (hcrc : Packet.crcOk k (recF (ofLE tr) 0 4) = false) : trailerBad k tr = some O.END_CRC_FAIL := by
  rw [trailerBad]
  simp [hstatus, hresv, hcrc]

end

/-- Settles O37: each clause is the first test that its premises fail, or the fate that passing them all leaves. -/
theorem packetsAreTested : Obligations.PacketsAreTested := by
  intro link k s n
  refine ⟨State.packetIn_quarantined, State.packetIn_off, State.packetIn_badLength, State.headTests_malformed,
    State.headTests_stale_counts, State.headTests_ahead_counts,
    State.headTests_ejects, fun hok htyp hepoch hother => ?_, fun tr haborted => State.ejectPkt_bad (trailerBad_aborted haborted),
    fun tr hstatus hresv hcrc => State.ejectPkt_bad (trailerBad_crc hstatus hresv hcrc)⟩
  have hpasses : s.headTests n k = s.passOn n k := State.headTests_passesOn hok htyp hepoch hother
  refine ⟨fun hhops => hpasses ▸ State.passOn_expired hhops, fun o hhops hfree hout => ?_,
    fun hhops hnone => hpasses ▸ State.passOn_noRoute hhops hnone⟩
  have hfate : (s.headTests n k).2 = .forward o := hpasses ▸ State.passOn_forwards hhops hfree hout
  exact ⟨hfate, fun hquarantine hon hlen => State.packetIn_forwards hquarantine hon hlen hfate⟩

end Sys2Proof.Machine

/-! Lanes that leave and return (R316 to R319): each command of a link that is UP changes a lane map,
asks for a change of one, or retrains. -/

namespace Sys2Proof.Machine

/-! ### Sets of lanes -/

theorem setBits_length (w n : Nat) : (setBits w n).length = popcount w n := by
  induction n with
  | zero => rfl
  | succ n ih =>
    rw [setBits, List.range_succ, List.filter_append, List.length_append, ← setBits, ih, popcount]
    cases hbit : bit w n <;> simp [hbit, b2n]

theorem bit_setBit_true (w i : Nat) : bit (setBit w i true) i = true := by
  by_cases h : bit w i = true
  · rw [setBit, if_pos rfl, if_pos h, h]
  · have hbit : w / 2 ^ i % 2 ≠ 1 := by simpa [bit] using h
    rw [setBit, if_pos rfl, if_neg h, bit, Nat.add_div_right _ (Nat.two_pow_pos i)]
    exact decide_eq_true (by omega)

theorem mem_mapIdx_first {α β : Type} {xs : List α} (h : xs ≠ []) (f : Nat → β) :
    f 0 ∈ xs.mapIdx (fun i _ => f i) :=
  List.mem_mapIdx.mpr ⟨0, List.length_pos_iff.mpr h, rfl⟩

theorem State.mem_sendAll {s : State} {o : Out} {os : List Out} (h : o ∈ os) : o ∈ (s.sendAll os).out := by
  induction os generalizing s with
  | nil => cases h
  | cons x os ih =>
    rcases List.mem_cons.mp h with rfl | h
    · exact ((Keeps.refl (fun _ => ()) [] (s.send o)).sendAll (os := os)).sent.mem List.mem_cons_self
    · exact ih h

/-! ### Flits with NAK (Table 11.2) -/

theorem ofLE_append (a b : List Byte) : ofLE (a ++ b) = ofLE a + 256 ^ a.length * ofLE b := by
  induction a with
  | nil => simp [ofLE]
  | cons x a ih => rw [List.cons_append, ofLE, ofLE, ih, List.length_cons, Nat.pow_succ', Nat.mul_add, Nat.mul_assoc, Nat.add_assoc]

/-- What follows in a record does not change its earlier fields. -/
theorem recF_mod_add {off n w : Nat} (h : off + n ≤ w) (r t : Nat) : recF (r % 256 ^ w + 256 ^ w * t) off n = recF r off n := by
  have hdvd : 256 ^ (off + n) ∣ 256 ^ w := Nat.pow_dvd_pow 256 h
  have hmod : (r % 256 ^ w + 256 ^ w * t) % 256 ^ (off + n) = r % 256 ^ (off + n) := by
    rw [Nat.add_mod, Nat.mod_mod_of_dvd _ hdvd, Nat.mod_eq_zero_of_dvd (Nat.dvd_mul_right_of_dvd hdvd t), Nat.add_zero, Nat.mod_mod]
  rw [recF, recF, ← Nat.mod_mul_right_div_self, ← Nat.mod_mul_right_div_self, ← Nat.pow_add, hmod]

/-- ACK and NAK of an IDLE flit are those of the link. -/
theorem recF_flitBytes_idle (s : State) (n : Nat) (next sw : Nat × Nat) :
    recF (ofLE (flitBytes (s.flitHeader n 0 0 0 false next sw) [])) 4 2 =
      2 ^ 15 + (if (s.link n).nak then 2 ^ 14 else 0) + ((s.link n).rxNext + 4095) % 4096 := by
  have hnak : (if (s.link n).nak then 2 ^ 14 else 0) ≤ 2 ^ 14 := by split <;> omega
  rw [flitBytes, List.append_assoc, List.append_assoc, ofLE_append, ofLE_toLE, toLE_length, recF_mod_add (by decide), State.flitHeader]
  generalize (if (s.link n).nak then 2 ^ 14 else 0) = nak at *
  simp only [recF, fld, Bool.false_eq_true, if_false]
  omega

theorem flit_nak {s : State} {n : Nat} (hnak : (s.link n).nak = true) (next sw : Nat × Nat) :
    bit (recF (ofLE (flitBytes (s.flitHeader n 0 0 0 false next sw) [])) 4 2) 14 = true := by
  rw [recF_flitBytes_idle, hnak, if_pos rfl, bit]
  exact decide_eq_true (by omega)

/-! ### Counts of lanes that leave (R316) -/

theorem State.foldl_inc_raiseLink {α : Type} {k : Nat} (hk : k ≠ O.EVENTS_LOST) (code n : Nat) {xs : List α} (hxs : xs ≠ []) (s : State) :
    (xs.foldl (fun (s : State) _ => (s.inc k).raiseLink code n) s).obj k = (s.obj k + xs.length) % 2 ^ 64 := by
  induction xs generalizing s with
  | nil => exact absurd rfl hxs
  | cons x xs ih =>
    have hone : ((s.inc k).raiseLink code n).obj k = (s.obj k + 1) % 2 ^ 64 := (State.raise_obj _ _ _ _ hk).trans (s.obj_put_same ..)
    rw [List.foldl_cons, List.length_cons]
    by_cases hrest : xs = []
    · rw [hrest]
      exact hone
    · rw [ih hrest, hone, Nat.mod_add_mod, Nat.add_assoc, Nat.add_comm 1]

section
variable (s : State) (n old new : Nat)

theorem State.lanesChanged_unplanned (hgone : popcount (old &&& (15 ^^^ new)) 4 ≠ 0) :
    (s.lanesChanged n old new false).obj (O.at O.LANE_DROPS_UNPLANNED n) =
      (s.obj (O.at O.LANE_DROPS_UNPLANNED n) + popcount (old &&& (15 ^^^ new)) 4) % 2 ^ 64 := by
  have hleft : setBits (old &&& (15 ^^^ new)) 4 ≠ [] := by
    rwa [← setBits_length, ← Nat.pos_iff_ne_zero, List.length_pos_iff] at hgone
  have hdegraded : O.at O.LANE_DROPS_UNPLANNED n ∉ [O.at O.DEGRADED_NS n] := mt List.mem_singleton.mp (O.at_ne n n (by decide))
  have hlost : O.at O.LANE_DROPS_UNPLANNED n ∉ [O.EVENTS_LOST] := mt List.mem_singleton.mp (O.at_ne n 0 (by decide))
  have returned (u : State) := (Keeps.refl id [O.EVENTS_LOST] u).foldl (f := fun u _ => u.raiseLink 0x1D03 n)
    (fun v _ => (Keeps.refl id [O.EVENTS_LOST] v).raiseLink (by simp)) (setBits (new &&& (15 ^^^ old)) 4)
  have hcount := State.foldl_inc_raiseLink (O.at_ne n 0 (by decide)) 0x2D02 n hleft s (k := O.at O.LANE_DROPS_UNPLANNED n)
  rw [setBits_length] at hcount
  exact ((State.accountLanes_keeps _ n).obj hdegraded).trans (((returned _).obj hlost).trans hcount)

end

/-! ### Planned and unplanned changes of the outbound map (R317, log entry 145) -/

section
variable (l : LinkSt) (keep : Nat)

theorem LinkSt.dropLanes_outMap : (l.dropLanes keep).outMap = l.outMap &&& keep := by
  unfold LinkSt.dropLanes
  dsimp only
  split
  · rfl
  · split <;> rfl

/-- Announced switches go on without the lanes that leave at once. -/
theorem LinkSt.dropLanes_pendMap : (l.dropLanes keep).pendMap = l.pendMap &&& keep := by
  unfold LinkSt.dropLanes LinkSt.pendMap
  cases hout : l.switchOut with
  | none => rfl
  | some x =>
    obtain ⟨m, k⟩ := x
    dsimp only
    cases hthen : l.switchThen with
    | none =>
      by_cases hnew : m &&& keep = l.outMap &&& keep <;> simp [hnew]
    | some y =>
      by_cases hnew : m &&& keep = l.outMap &&& keep
      · by_cases hlater : y &&& keep = l.outMap &&& keep <;> simp [hnew, hlater, Option.filter]
      · simp [hnew]

end

section
variable (l : LinkSt) (f : Nat → Nat) (cal : Bool)

theorem LinkSt.planSwitch_outMap : (l.planSwitch f cal).outMap = l.outMap := by
  unfold LinkSt.planSwitch
  split
  · split <;> rfl
  · split
    · rfl
    · split <;> rfl

/-- Once every announced switch has applied, the planned change has been made too. -/
theorem LinkSt.planSwitch_pendMap : (l.planSwitch f cal).pendMap = f l.pendMap := by
  unfold LinkSt.planSwitch
  cases hout : l.switchOut with
  | none =>
    by_cases hsame : f l.outMap = l.outMap <;> simp [LinkSt.pendMap, hsame, hout]
  | some x =>
    obtain ⟨m, k⟩ := x
    cases hthen : l.switchThen with
    | none =>
      by_cases hbegun : k < 16
      · simp [LinkSt.pendMap, hbegun, hthen, hout]
      · by_cases hsame : f m = l.outMap <;> simp [LinkSt.pendMap, hbegun, hsame, hthen, hout]
    | some y => simp [LinkSt.pendMap, hthen, hout]

theorem LinkSt.planSwitch_announces (hnone : l.switchOut = none) (hnew : f l.pendMap ≠ l.pendMap) :
    (l.planSwitch f cal).switchOut = some (f l.pendMap, 16) := by
  have hpend : l.pendMap = l.outMap := by rw [LinkSt.pendMap, hnone]
  rw [hpend] at hnew ⊢
  rw [LinkSt.planSwitch, hnone]
  exact congrArg LinkSt.switchOut (if_neg hnew)

end

/-! ### Lock lost and limits passed (R316, R318) -/

section
variable {link : Fin 24} {lane : Fin 4} {s : State}

theorem exec_laneLockLost (link : Fin 24) (lane : Fin 4) (s : State) :
    exec (.laneLockLost link lane) s = .next (s.laneLost link.val lane.val) := rfl

theorem exec_laneSerExceeded (link : Fin 24) (lane : Fin 4) (corrected : Nat) (s : State) :
    exec (.laneSerExceeded link lane corrected) s = execLaneSerExceeded link lane corrected s := rfl

/-- A command that makes a link retrain. -/
theorem completes_retrain {c : Instr} {n : Nat} (hn : n < 24) (hexec : exec c s = .next (s.startRetrain n)) :
    Completes c s (fun t => t = s.startRetrain n ∧ t.lstate n = LS.retrain ∧ SameMemory s t) :=
  ⟨_, hexec, rfl, State.startRetrain_lstate hn s, (s.startRetrain_keeps n).sameMemory⟩

section
variable (hpresent : s.linkPresent link.val = true) (hup : s.isUp link.val = true) (hwindow : s.inSubslot link.val = false)
include hpresent hup hwindow

section
variable (hhere : bit (s.obj (O.at O.ACTIVE_LANES link.val) &&& (15 ^^^ (s.link link.val).lostIn)) lane.val = true)
include hhere

theorem State.laneLost_of_here : s.laneLost link.val lane.val =
    if popcount (setBit (s.obj (O.at O.ACTIVE_LANES link.val) &&& (15 ^^^ (s.link link.val).lostIn)) lane.val false) 4 < 2 then
      s.startRetrain link.val
    else
      ((((s.setLink link.val { s.link link.val with nak := true, lostIn := setBit (s.link link.val).lostIn lane.val true }).sendIdle
        link.val).sendAll ((setBits (s.link link.val).outMap 4).mapIdx (fun i _ => dropReq link.val (2 ^ lane.val) 2 i))).markCond) := by
  rw [State.laneLost, if_neg (by simp [hpresent, hup, hwindow, hhere])]

/-- A lane that loses lock is answered with NAK, and stays in the map. -/
theorem laneLockLost_asks
    (hleft : 2 ≤ popcount (setBit (s.obj (O.at O.ACTIVE_LANES link.val) &&& (15 ^^^ (s.link link.val).lostIn)) lane.val false) 4) :
    Completes (.laneLockLost link lane) s (fun t => t.obj (O.at O.ACTIVE_LANES link.val) = s.obj (O.at O.ACTIVE_LANES link.val) ∧
      bit (t.link link.val).lostIn lane.val = true ∧ t.lstate link.val = LS.up ∧
      (∃ f, Out.flit link.val f ∈ t.out ∧ bit (recF (ofLE f) 4 2) 14 = true) ∧
      t.obj (O.at O.LANE_DROPS_UNPLANNED link.val) = s.obj (O.at O.LANE_DROPS_UNPLANNED link.val) ∧
      t.beat.cond = true ∧ SameMemory s t ∧ t.jobs = s.jobs) := by
  have hlost := State.laneLost_of_here hpresent hup hwindow hhere
  rw [if_neg (Nat.not_lt_of_le hleft)] at hlost
  generalize (setBits (s.link link.val).outMap 4).mapIdx (fun i _ => dropReq link.val (2 ^ lane.val) 2 i) = asks at hlost
  generalize hu : s.setLink link.val
    { s.link link.val with nak := true, lostIn := setBit (s.link link.val).lostIn lane.val true } = u at hlost
  have hlink : u.link link.val = _ := hu ▸ State.link_setLink_same ..
  have hidle : Keeps LinkSt.unmapped (outMapObjects link.val) u (u.sendIdle link.val) := u.sendFlit_keeps link.val 0 0 0 false []
  have hkeeps := (hidle.sendAll (os := asks)).markCond
  obtain ⟨next, sw, hflit⟩ := u.sendFlit_out link.val 0 0 0 false []
  have hsent := ((Keeps.refl id [] (u.sendIdle link.val)).sendAll (os := asks)).sent
  have hobj {k : Nat} (hk : k % 256 ∉ [O.LANE_DROPS_PLANNED % 256, O.EVENTS_LOST % 256, O.DEGRADED_NS % 256]) :=
    (hkeeps.obj (O.at_notMem_outMapObjects link.val hk)).trans (by rw [← hu]; rfl : _ = s.obj (O.at k link.val))
  have haside := hkeeps.aside.trans (by rw [← hu]; rfl : _ = s.aside)
  refine ⟨_, (exec_laneLockLost ..).trans (congrArg _ hlost), hobj (by decide), ?_, (hobj (by decide)).trans (of_decide_eq_true hup),
    ⟨_, hsent.mem (hflit ▸ List.mem_cons_self), flit_nak (by rw [hlink]) next sw⟩, hobj (by decide), rfl, sameMemory_of_aside haside,
    jobs_of_aside haside⟩
  rw [hkeeps.field LinkSt.lostIn _ fun _ => rfl, hlink]
  exact bit_setBit_true _ _

theorem laneLockLost_retrains
    (hleft : popcount (setBit (s.obj (O.at O.ACTIVE_LANES link.val) &&& (15 ^^^ (s.link link.val).lostIn)) lane.val false) 4 < 2) :
    Completes (.laneLockLost link lane) s (fun t => t.lstate link.val = LS.retrain ∧ SameMemory s t ∧ t.jobs = s.jobs) := by
  have hlost := State.laneLost_of_here hpresent hup hwindow hhere
  rw [if_pos hleft] at hlost
  exact ⟨_, (exec_laneLockLost ..).trans (congrArg _ hlost), State.startRetrain_lstate link.isLt s, (s.startRetrain_keeps _).sameMemory,
    (s.startRetrain_keeps _).jobs⟩

end

section
variable {corrected : Nat} (hactive : bit (s.obj (O.at O.ACTIVE_LANES link.val)) lane.val = true)
  (hlimit : s.obj O.LANE_SER_LIMIT < corrected)
include hactive hlimit

theorem exec_laneSerExceeded_of_active : exec (.laneSerExceeded link lane corrected) s = .next (
    if popcount (setBit (s.obj (O.at O.ACTIVE_LANES link.val)) lane.val false) 4 < 2 then s.startRetrain link.val
    else ({ s with optics := { s.optics with dropAsked := (4 * link.val + lane.val) :: s.optics.dropAsked } }.send
      (dropReq link.val (2 ^ lane.val) 1 0)).markCond) := by
  rw [exec_laneSerExceeded, execLaneSerExceeded, if_neg (by simp [hpresent, hup, hwindow, hactive, hlimit])]
  split <;> rfl

end

end

end

/-! ### LANE_DROP_REQ (R316 to R318) -/

/-- What a good LANE_DROP_REQ does, by its payload. -/
def State.dropReqTaken (s : State) (n p : Nat) : State :=
  let lanes := bits p 63 60
  let cause := bits p 59 56
  let l := s.link n
  let keep := 15 ^^^ lanes
  let new := l.outMap &&& keep
  let pend := l.pendMap &&& keep
  if cause = 0 || cause > 4 then s.inc (O.at O.MALFORMED_CTRL n)
  else if cause = 3 then
    (if reachClass n = 2 then ((setBits lanes 4).foldl (fun (s : State) k => s.chanFlag (chanNo n k) 2 true) s).forceNow n else s)
  else if (if cause = 2 then new = l.outMap else pend = l.pendMap) then s
  else if popcount pend 4 < 2 || (cause = 2 && popcount new 4 < 2) then s.startRetrain n
  else if cause = 2 then
    let s := s.sendAll ((setBits new 4).mapIdx (fun i _ => Out.block n 2 5 (new * 2 ^ 60) i))
    ((s.setLink n ((s.link n).dropLanes keep)).lanesChanged n l.outMap new false).markCond
  else (s.setLink n (l.planSwitch (· &&& keep) false)).markCond

theorem exec_laneDropReqRx (link : Fin 24) (blk : Nat) (s : State) : exec (.laneDropReqRx link blk) s = execLaneDropReqRx link blk s := rfl

section
variable {link : Fin 24} {s : State} {p : Nat}

theorem next_ite (c : Prop) [Decidable c] (a b : State) :
    (if c then (.next a : Outcome) else .next b) = .next (if c then a else b) := (apply_ite ..).symm

theorem laneDropReqRx_takes {blk : Nat} (hpresent : s.linkPresent link.val = true) (hup : s.isUp link.val = true)
    (hctl : s.ctlRx link.val blk 2 4 (2 ^ 56 - 1) = (some p, s)) :
    exec (.laneDropReqRx link blk) s = .next (s.dropReqTaken link.val p) := by
  rw [exec_laneDropReqRx, execLaneDropReqRx]
  dsimp only
  rw [if_neg (by simp [hpresent, hup]), hctl]
  simp only [next_ite]
  rfl

end

section
variable {s : State} {n p : Nat}

theorem State.dropReqTaken_calibrates (hcause : bits p 59 56 = 3) : s.dropReqTaken n p =
    if reachClass n = 2 then
      ((setBits (bits p 63 60) 4).foldl (fun (u : State) k => u.chanFlag (chanNo n k) 2 true) s).forceNow n
    else s := by
  rw [State.dropReqTaken, hcause]
  rfl

/-- A planned removal that changes the map retrains, or is announced. -/
theorem State.dropReqTaken_planned (hcause : bits p 59 56 = 1 ∨ bits p 59 56 = 4)
    (hchange : (s.link n).pendMap &&& (15 ^^^ bits p 63 60) ≠ (s.link n).pendMap) : s.dropReqTaken n p =
    if popcount ((s.link n).pendMap &&& (15 ^^^ bits p 63 60)) 4 < 2 then s.startRetrain n
    else (s.setLink n ((s.link n).planSwitch (· &&& (15 ^^^ bits p 63 60)) false)).markCond := by
  rcases hcause with hcause | hcause <;> simp [State.dropReqTaken, hcause, hchange]

/-- An unplanned removal that changes the map retrains, or is made at once. -/
theorem State.dropReqTaken_unplanned (hcause : bits p 59 56 = 2)
    (hchange : (s.link n).outMap &&& (15 ^^^ bits p 63 60) ≠ (s.link n).outMap) : s.dropReqTaken n p =
    if popcount ((s.link n).pendMap &&& (15 ^^^ bits p 63 60)) 4 < 2 ∨ popcount ((s.link n).outMap &&& (15 ^^^ bits p 63 60)) 4 < 2 then
      s.startRetrain n
    else
      let new := (s.link n).outMap &&& (15 ^^^ bits p 63 60)
      let t := s.sendAll ((setBits new 4).mapIdx (fun i _ => Out.block n 2 5 (new * 2 ^ 60) i))
      ((t.setLink n ((t.link n).dropLanes (15 ^^^ bits p 63 60))).lanesChanged n (s.link n).outMap new false).markCond := by
  simp [State.dropReqTaken, hcause, hchange]

end

section
variable {link : Fin 24} {s : State} {c : Instr} {p : Nat} (hexec : exec c s = .next (s.dropReqTaken link.val p))
include hexec

/-- Lanes that lost lock leave the outbound map at once, and the partner is told (R318). -/
theorem dropReq_drops (hcause : bits p 59 56 = 2)
    (hchange : (s.link link.val).outMap &&& (15 ^^^ bits p 63 60) ≠ (s.link link.val).outMap)
    (hnew : 2 ≤ popcount ((s.link link.val).outMap &&& (15 ^^^ bits p 63 60)) 4)
    (hpend : 2 ≤ popcount ((s.link link.val).pendMap &&& (15 ^^^ bits p 63 60)) 4) :
    Completes c s (fun t => (t.link link.val).outMap = (s.link link.val).outMap &&& (15 ^^^ bits p 63 60) ∧
      (t.link link.val).pendMap = (s.link link.val).pendMap &&& (15 ^^^ bits p 63 60) ∧
      Out.block link.val 2 5 (((s.link link.val).outMap &&& (15 ^^^ bits p 63 60)) * 2 ^ 60) 0 ∈ t.out ∧ t.beat.cond = true ∧
      SameMemory s t ∧ t.jobs = s.jobs) := by
  rw [State.dropReqTaken_unplanned hcause hchange, if_neg (by omega)] at hexec
  dsimp only at hexec
  generalize hnew' : (s.link link.val).outMap &&& (15 ^^^ bits p 63 60) = new at *
  generalize hos : (setBits new 4).mapIdx (fun i _ => Out.block link.val 2 5 (new * 2 ^ 60) i) = os at hexec
  have hlanes : setBits new 4 ≠ [] := List.ne_nil_of_length_pos (by rw [setBits_length]; omega)
  have htold : Out.block link.val 2 5 (new * 2 ^ 60) 0 ∈ os :=
    hos ▸ mem_mapIdx_first hlanes fun i => Out.block link.val 2 5 (new * 2 ^ 60) i
  have htells := (Keeps.refl id [] s).sendAll (os := os)
  have hlink : (s.sendAll os).link link.val = s.link link.val := htells.links link.val
  rw [hlink] at hexec
  have hkeeps := ((((s.sendAll os).setLink link.val ((s.link link.val).dropLanes (15 ^^^ bits p 63 60))).lanesChanged_keeps link.val
    (s.link link.val).outMap new false)).markCond
  have haside := hkeeps.aside.trans htells.aside
  refine ⟨_, hexec, ?_, ?_, hkeeps.sent.mem (State.mem_sendAll htold), rfl, sameMemory_of_aside haside, jobs_of_aside haside⟩
  · rw [hkeeps.field LinkSt.outMap _ fun _ => rfl, State.link_setLink_same, LinkSt.dropLanes_outMap, hnew']
  · rw [hkeeps.field LinkSt.pendMap _ fun _ => rfl, State.link_setLink_same, LinkSt.dropLanes_pendMap]

/-- Other removals are planned, and announced once no other switch stands before them (R317, log entry 145). -/
theorem dropReq_plans (hcause : bits p 59 56 = 1 ∨ bits p 59 56 = 4)
    (hchange : (s.link link.val).pendMap &&& (15 ^^^ bits p 63 60) ≠ (s.link link.val).pendMap)
    (hpend : 2 ≤ popcount ((s.link link.val).pendMap &&& (15 ^^^ bits p 63 60)) 4) :
    Completes c s (fun t => (t.link link.val).outMap = (s.link link.val).outMap ∧
      (t.link link.val).pendMap = (s.link link.val).pendMap &&& (15 ^^^ bits p 63 60) ∧
      ((s.link link.val).switchOut = none →
        (t.link link.val).switchOut = some ((s.link link.val).pendMap &&& (15 ^^^ bits p 63 60), 16)) ∧
      t.beat.cond = true ∧ t.dict = s.dict ∧ SameMemory s t ∧ t.jobs = s.jobs) := by
  rw [State.dropReqTaken_planned hcause hchange, if_neg (Nat.not_lt_of_le hpend)] at hexec
  have hlink := State.link_setLink_same s link.val ((s.link link.val).planSwitch (· &&& (15 ^^^ bits p 63 60)) false)
  refine ⟨_, hexec, (congrArg LinkSt.outMap hlink).trans (LinkSt.planSwitch_outMap ..),
    (congrArg LinkSt.pendMap hlink).trans (LinkSt.planSwitch_pendMap ..),
    fun hnone => (congrArg LinkSt.switchOut hlink).trans (LinkSt.planSwitch_announces _ _ _ hnone hchange),
    rfl, rfl, sameMemory_refl s, rfl⟩

end

/-! ### LANE_SET, LANE_ADD_READY, RETRAIN_REQ and a lane's own retrain (R315, R318, R319) -/

theorem exec_laneSetRx (link : Fin 24) (blk : Nat) (s : State) : exec (.laneSetRx link blk) s = execLaneSetRx link blk s := rfl
theorem exec_laneAddReadyRx (link : Fin 24) (blk : Nat) (s : State) :
    exec (.laneAddReadyRx link blk) s = execLaneAddReadyRx link blk s := rfl
theorem exec_retrainReqRx (link : Fin 24) (blk : Nat) (s : State) : exec (.retrainReqRx link blk) s = execRetrainReqRx link blk s := rfl
theorem exec_laneRetrained (link : Fin 24) (lane : Fin 4) (s : State) :
    exec (.laneRetrained link lane) s = execLaneRetrained link lane s := rfl

/-- A LANE_SET's map is the inbound map; of the lanes that lost lock, those still in it are yet to leave. -/
def State.mapReceived (s : State) (n new : Nat) : State :=
  (s.setLink n { s.link n with lostIn := (s.link n).lostIn &&& new }).put (O.at O.ACTIVE_LANES n) new

section
variable {link : Fin 24} {lane : Fin 4} {s : State} {blk p : Nat} (hpresent : s.linkPresent link.val = true)
  (hup : s.isUp link.val = true)
include hpresent hup

section
variable (hctl : s.ctlRx link.val blk 2 5 (2 ^ 60 - 1) = (some p, s))
include hctl

theorem laneSetRx_retrains (hfew : popcount (bits p 63 60) 4 < 2) : exec (.laneSetRx link blk) s = .next (s.startRetrain link.val) := by
  rw [exec_laneSetRx, execLaneSetRx]
  dsimp only
  rw [if_neg (by simp [hpresent, hup]), hctl]
  exact if_pos hfew

theorem laneSetRx_of_enough (hleft : 2 ≤ popcount (bits p 63 60) 4) : exec (.laneSetRx link blk) s =
    .next ((s.mapReceived link.val (bits p 63 60)).lanesChanged link.val (s.obj (O.at O.ACTIVE_LANES link.val)) (bits p 63 60) false) := by
  rw [exec_laneSetRx, execLaneSetRx]
  dsimp only
  rw [if_neg (by simp [hpresent, hup]), hctl]
  exact if_neg (Nat.not_lt_of_le hleft)

theorem laneSetRx_takes (hleft : 2 ≤ popcount (bits p 63 60) 4) :
    Completes (.laneSetRx link blk) s (fun t => t.obj (O.at O.ACTIVE_LANES link.val) = bits p 63 60 ∧ t.lstate link.val = LS.up ∧
      (popcount (s.obj (O.at O.ACTIVE_LANES link.val) &&& (15 ^^^ bits p 63 60)) 4 ≠ 0 →
        t.obj (O.at O.LANE_DROPS_UNPLANNED link.val) = (s.obj (O.at O.LANE_DROPS_UNPLANNED link.val) +
          popcount (s.obj (O.at O.ACTIVE_LANES link.val) &&& (15 ^^^ bits p 63 60)) 4) % 2 ^ 64) ∧
      SameMemory s t ∧ t.jobs = s.jobs) := by
  have hexec := laneSetRx_of_enough hpresent hup hctl hleft
  generalize bits p 63 60 = new at *
  generalize hold : s.obj (O.at O.ACTIVE_LANES link.val) = old at *
  generalize hu : s.mapReceived link.val new = u at hexec
  have hkeeps := u.lanesChanged_keeps link.val old new false
  have hnote {k : Nat} (hk : k % 256 ∉ [O.LANE_DROPS_UNPLANNED % 256, O.EVENTS_LOST % 256, O.DEGRADED_NS % 256]) :
      O.at k link.val ∉ laneObjects link.val false := by
    simp only [List.mem_cons, List.not_mem_nil, or_false, not_or] at hk ⊢
    obtain ⟨hunplanned, hlost, hdegraded⟩ := hk
    exact ⟨O.at_ne _ _ hunplanned, O.at_ne _ 0 hlost, O.at_ne _ _ hdegraded⟩
  have hput {k : Nat} (hk : k % 256 ≠ O.ACTIVE_LANES % 256) : u.obj (O.at k link.val) = s.obj (O.at k link.val) :=
    hu ▸ State.obj_put_ne _ _ _ _ (O.at_ne _ _ hk)
  have haside : (u.lanesChanged link.val old new false).aside = s.aside := hkeeps.aside.trans (hu ▸ rfl)
  refine ⟨_, hexec, (hkeeps.obj (hnote (by decide))).trans (hu ▸ State.obj_put_same ..),
    (hkeeps.obj (hnote (by decide))).trans ((hput (by decide)).trans (of_decide_eq_true hup)), fun hgone => ?_,
    sameMemory_of_aside haside, jobs_of_aside haside⟩
  rw [State.lanesChanged_unplanned _ _ _ _ hgone, hput (by decide)]

end

/-- Lanes that are ready are measured together before they return. -/
theorem laneAddReadyRx_measures (hctl : s.ctlRx link.val blk 2 6 (2 ^ 60 - 1) = (some p, s))
    (hadd : bits p 63 60 &&& (15 ^^^ (s.link link.val).outMap) ≠ 0) :
    Completes (.laneAddReadyRx link blk) s (fun t => (t.link link.val).loopOn = true ∧
      (t.link link.val).loopAdd = (s.link link.val).loopAdd ||| (bits p 63 60 &&& (15 ^^^ (s.link link.val).outMap)) ∧
      (t.link link.val).loopCount = 0 ∧ (t.link link.val).outMap = (s.link link.val).outMap ∧ t.dict = s.dict ∧ t.out = s.out ∧
      SameMemory s t ∧ t.jobs = s.jobs) := by
  have hexec : exec (.laneAddReadyRx link blk) s = .next (s.setLink link.val { s.link link.val with
      loopOn := true, loopAdd := (s.link link.val).loopAdd ||| (bits p 63 60 &&& (15 ^^^ (s.link link.val).outMap)), loopCount := 0,
      loopSum := 0, loopOut := [] }) := by
    rw [exec_laneAddReadyRx, execLaneAddReadyRx]
    dsimp only
    rw [if_neg (by simp [hpresent, hup]), hctl]
    exact if_neg hadd
  refine ⟨_, hexec, ?_, ?_, ?_, ?_, rfl, rfl, sameMemory_refl s, rfl⟩ <;> rw [State.link_setLink_same]

theorem retrainReqRx_retrains (hctl : s.ctlRx link.val blk 2 7 (2 ^ 60 - 1) = (some p, s)) (hlo : 1 ≤ bits p 63 60)
    (hhi : bits p 63 60 ≤ 3) :
    exec (.retrainReqRx link blk) s = .next (s.startRetrain link.val) := by
  rw [exec_retrainReqRx, execRetrainReqRx]
  dsimp only
  rw [if_neg (by simp [hpresent, hup]), hctl]
  exact if_pos (by simp [hlo, hhi])

/-- A lane that has retrained is announced, and the delay is measured anew. -/
theorem laneRetrained_announces (hout : bit (s.obj (O.at O.ACTIVE_LANES link.val)) lane.val = false) :
    Completes (.laneRetrained link lane) s (fun t =>
      t = (s.setLink link.val { s.link link.val with loopOn := true, loopCount := 0, loopSum := 0, loopOut := [] }).send
        (.block link.val 2 6 (2 ^ lane.val * 2 ^ 60) 0) ∧
      (t.link link.val).loopOn = true ∧ Out.block link.val 2 6 (2 ^ lane.val * 2 ^ 60) 0 ∈ t.out ∧ t.dict = s.dict ∧ SameMemory s t ∧
      t.jobs = s.jobs) :=
  ⟨_, if_pos (by simp [hpresent, hup, hout]), rfl, congrArg LinkSt.loopOn (State.link_setLink_same s link.val _), List.mem_cons_self, rfl,
    sameMemory_refl s, rfl⟩

end

/-! ### LANE_MAP_SWITCH (R317) -/

/-- The switch that is announced once the map m applies: a planned one that would change it (log entry 145). -/
def LinkSt.nextSwitch (l : LinkSt) (m : Nat) : Option (Nat × Nat) :=
  match l.switchThen with
  | some x => if x = m then none else some (x, 16)
  | none => none

theorem State.switchTo_link (s : State) (n m : Nat) : ((s.switchTo n m).link n).outMap = m ∧
    ((s.switchTo n m).link n).switchOut = (s.link n).nextSwitch m ∧ ((s.switchTo n m).link n).switchThen = none := by
  have changed (u : State) (old : Nat) := u.lanesChanged_keeps n old m true
  unfold State.switchTo
  refine ⟨?_, ?_, ?_⟩
  · rw [(changed _ _).field LinkSt.outMap _ fun _ => rfl, State.link_setLink_same]
  · rw [(changed _ _).field LinkSt.switchOut _ fun _ => rfl, State.link_setLink_same]
    rfl
  · rw [(changed _ _).field LinkSt.switchThen _ fun _ => rfl, State.link_setLink_same]

theorem exec_laneMapSwitch (link : Fin 24) (outbound : Bool) (s : State) :
    exec (.laneMapSwitch link outbound) s = execLaneMapSwitch link outbound s := rfl

/-- The codewords that still have to announce a switch go as IDLE flits (R317). -/
def State.announced (s : State) (n m k : Nat) : State :=
  (List.range (max k 1)).foldl (fun (s : State) i => s.putFlit n 0 0 0 false [] (m, max k 1 - i)) s

theorem State.announced_keeps (s : State) (n m k : Nat) : Keeps LinkSt.unsent [] s (s.announced n m k) := by
  have puts (u : State) (i : Nat) := u.putFlit_keeps n 0 0 0 false [] (m, max k 1 - i)
  unfold State.announced
  exact (Keeps.refl _ _ s).foldl puts _

section
variable {link : Fin 24} {s : State} {m k : Nat}

theorem laneMapSwitch_outbound (hswitch : (s.link link.val).switchOut = some (m, k)) :
    ∃ t, exec (.laneMapSwitch link true) s = .next (t.switchTo link.val m) ∧
      (t = s.announced link.val m k ∨ ∃ at_, t = (s.announced link.val m k).upTo at_) := by
  rw [exec_laneMapSwitch, execLaneMapSwitch, if_pos rfl, hswitch]
  refine ⟨_, rfl, ?_⟩
  split
  · exact .inr ⟨_, rfl⟩
  · exact .inl rfl

/-- An announced outbound map applies, and the one planned behind it is announced next. -/
theorem laneMapSwitch_applies (hswitch : (s.link link.val).switchOut = some (m, k)) :
    Completes (.laneMapSwitch link true) s (fun t => (t.link link.val).outMap = m ∧
      (t.link link.val).switchOut = (s.link link.val).nextSwitch m ∧ (t.link link.val).switchThen = none ∧ SameMemory s t ∧
      t.jobs = s.jobs) := by
  obtain ⟨t, hexec, ht⟩ := laneMapSwitch_outbound hswitch
  have hannounced := s.announced_keeps link.val m k
  have hlink : t.link link.val = (s.announced link.val m k).link link.val := by
    rcases ht with rfl | ⟨at_, rfl⟩
    · rfl
    · exact State.upTo_link ..
  have hnext : (t.link link.val).nextSwitch m = (s.link link.val).nextSwitch m := by
    rw [hlink, hannounced.field (LinkSt.nextSwitch · m) _ fun _ => rfl]
  obtain ⟨hmap, hout, hthen⟩ := t.switchTo_link link.val m
  have hswitched := (t.switchTo_keeps link.val m).aside
  refine ⟨_, hexec, hmap, hout.trans hnext, hthen, ?_⟩
  rcases ht with rfl | ⟨at_, rfl⟩
  · exact ⟨sameMemory_of_aside (hswitched.trans hannounced.aside), jobs_of_aside (hswitched.trans hannounced.aside)⟩
  · exact ⟨hannounced.sameMemory.trans (sameMemory_of_aside_upTo hswitched), (jobs_of_aside_upTo hswitched).trans hannounced.jobs⟩

theorem State.calSeen_keeps (s : State) (n lane : Nat) : Keeps id [] s (s.calSeen n lane) :=
  Keeps.ite (Keeps.ite (Keeps.refl _ _ s) (Keeps.refl _ _ s).optics) (Keeps.refl _ _ s).optics

/-- The rings of the lanes that return are locked, and those of the lanes that leave are seen for their calibration. -/
def State.ringsFollow (s : State) (n old new : Nat) : State :=
  (setBits (old &&& (15 ^^^ new)) 4).foldl (fun (s : State) k => s.calSeen n k)
    ((setBits (new &&& (15 ^^^ old)) 4).foldl (fun (s : State) k => s.ringLocked n k 0) s)

theorem State.ringsFollow_keeps (s : State) (n old new : Nat) : Keeps id [] s (s.ringsFollow n old new) :=
  ((Keeps.refl _ _ s).foldl (fun u _ => (Keeps.refl _ _ u).ringLocked) _).foldl (fun u k => u.calSeen_keeps n k) _

/-- The inbound map an announced switch gives. -/
def State.inboundApplied (s : State) (n m : Nat) : State :=
  ((s.ringsFollow n (s.obj (O.at O.ACTIVE_LANES n)) m).setLink n { s.link n with switchIn := none }).put (O.at O.ACTIVE_LANES n) m

theorem laneMapSwitch_inbound (hswitch : (s.link link.val).switchIn = some (m, k)) : exec (.laneMapSwitch link false) s =
    .next ((s.inboundApplied link.val m).lanesChanged link.val (s.obj (O.at O.ACTIVE_LANES link.val)) m true) := by
  rw [exec_laneMapSwitch, execLaneMapSwitch, if_neg Bool.false_ne_true, hswitch]
  rfl

/-- An announced inbound map applies. -/
theorem laneMapSwitch_takes (hswitch : (s.link link.val).switchIn = some (m, k)) :
    Completes (.laneMapSwitch link false) s (fun t => t.obj (O.at O.ACTIVE_LANES link.val) = m ∧ (t.link link.val).switchIn = none ∧
      SameMemory s t) := by
  have hkeeps := (s.inboundApplied link.val m).lanesChanged_keeps link.val (s.obj (O.at O.ACTIVE_LANES link.val)) m true
  have hactive : O.at O.ACTIVE_LANES link.val ∉ laneObjects link.val true := O.at_notMem_outMapObjects link.val (by decide)
  refine ⟨_, laneMapSwitch_inbound hswitch, (hkeeps.obj hactive).trans (State.obj_put_same ..), ?_,
    sameMemory_of_aside (hkeeps.aside.trans (s.ringsFollow_keeps ..).aside)⟩
  rw [hkeeps.field LinkSt.switchIn _ fun _ => rfl, State.inboundApplied, State.put_link, State.link_setLink_same]

end

/-- Settles O35: each command's guard is met by its premises, and what it does to a lane map is what its branch says. -/
theorem lanesLeaveAndReturn : Obligations.LanesLeaveAndReturn := by
  intro link lane s n l old here hpresent hup
  refine ⟨fun hhere hwindow => ⟨laneLockLost_asks hpresent hup hwindow hhere, laneLockLost_retrains hpresent hup hwindow hhere⟩,
    fun hactive hwindow hleft corrected hlimit => ?serAsks, fun hactive hwindow hfew corrected hlimit => ?serRetrains,
    fun blk p s1 hctl => ?dropReq, fun blk p s1 hctl => ?laneSet, fun blk p s1 hctl => ?addReady,
    fun m k => laneMapSwitch_applies, fun m k => laneMapSwitch_takes, laneRetrained_announces hpresent hup,
    fun blk p s1 hctl hlo hhi => ?retrainReq⟩
  case serAsks =>
    have hexec := exec_laneSerExceeded_of_active hpresent hup hwindow hactive hlimit
    rw [if_neg (Nat.not_lt_of_le hleft)] at hexec
    exact ⟨_, hexec, rfl, List.mem_cons_self, rfl, rfl, sameMemory_refl s, rfl⟩
  case serRetrains =>
    have hexec := exec_laneSerExceeded_of_active hpresent hup hwindow hactive hlimit
    rw [if_pos hfew] at hexec
    exact completes_retrain link.isLt hexec
  case dropReq =>
    obtain rfl := State.ctlRx_some hctl
    have hexec := laneDropReqRx_takes hpresent hup hctl
    refine ⟨dropReq_drops hexec, dropReq_plans hexec, fun hcause hchange hfew => ?_, fun hcause hchange hfew => ?_, fun hcause => ?_⟩
    · rw [State.dropReqTaken_planned hcause hchange, if_pos hfew] at hexec
      exact completes_retrain link.isLt hexec
    · rw [State.dropReqTaken_unplanned hcause hchange, if_pos hfew] at hexec
      exact completes_retrain link.isLt hexec
    · rw [State.dropReqTaken_calibrates hcause] at hexec
      exact completes_of_next hexec
  case laneSet =>
    obtain rfl := State.ctlRx_some hctl
    exact ⟨laneSetRx_takes hpresent hup hctl, fun hfew => completes_retrain link.isLt (laneSetRx_retrains hpresent hup hctl hfew)⟩
  case addReady =>
    obtain rfl := State.ctlRx_some hctl
    exact laneAddReadyRx_measures hpresent hup hctl
  case retrainReq =>
    obtain rfl := State.ctlRx_some hctl
    exact completes_retrain link.isLt (retrainReqRx_retrains hpresent hup hctl hlo hhi)

end Sys2Proof.Machine

/-! The tables of the transport and its timers (chapter 12): writes of the epoch and routing tables (R337, R340, R341), the deadline of
a tag (R345), the idle close of a flow context (R344) and the packets that wait at injection (R343). -/

namespace Sys2Proof.Machine

/-! ### What a judgement leaves of the epoch table -/

theorem State.raiseDisc_net (s : State) (code n : Nat) : (s.raiseDisc code n).net = s.net := State.raise_net ..

theorem State.checkAcquire_net (s : State) (n : Nat) : (s.checkAcquire n).net = s.net := (apply_ite State.net ..).trans (ite_self _)

theorem State.setLink_epoch (s : State) (n : Nat) (l : LinkSt) : (s.setLink n l).net.epoch = s.net.epoch := rfl

theorem State.judge_epoch (s : State) (n : Nat) : (s.judge n).net.epoch = s.net.epoch := by
  have either (c : Prop) [Decidable c] (a b : State) : (if c then a else b).net.epoch = if c then a.net.epoch else b.net.epoch :=
    apply_ite (fun t : State => t.net.epoch) ..
  unfold State.judge
  rcases s.judgement n with ⟨outcome, reason⟩
  simp [either, State.raiseDisc_net, State.checkAcquire_net, State.setLink_epoch, State.updCritical]

theorem State.judgeAll_epoch (s : State) : s.judgeAll.net.epoch = s.net.epoch :=
  List.foldlRecOn (motive := fun t : State => t.net.epoch = s.net.epoch) s.linkList State.judge rfl
    fun t ht n _ => (t.judge_epoch n).trans ht

theorem State.judgeAll_keeps (s : State) : Keeps LinkSt.settled judgeObjects s s.judgeAll :=
  (Keeps.refl _ _ s).foldl State.judge_keeps _

/-! ### EPOCH_VALUE (R337, R340) -/

theorem exec_epochValueWrite (who : Who) (chip v : Nat) (s : State) :
    exec (.epochValueWrite who chip v) s = rowWrite s who O.EPOCH_VALUE v (·.epochValue chip v) := rfl

section
variable {s : State} {chip v : Nat}

section
variable (hchip : chip ≤ 16382)
include hchip

theorem State.epochValue_lower (hv : v < s.epochOf chip) : s.epochValue chip v = (s, St.refused) := by
  rw [State.epochValue, if_neg (Nat.not_lt_of_le hchip), if_pos hv]

theorem State.epochValue_equal (hv : v = s.epochOf chip) : s.epochValue chip v = (s, St.ok) := by
  rw [State.epochValue, if_neg (Nat.not_lt_of_le hchip), if_neg (Nat.not_lt_of_le hv.ge), if_pos hv]

theorem State.epochValue_higher (hv : s.epochOf chip < v) : s.epochValue chip v = (s.raiseEpoch chip v, St.ok) := by
  rw [State.epochValue, if_neg (Nat.not_lt_of_le hchip), if_neg (Nat.lt_asymm hv), if_neg (Nat.ne_of_gt hv)]

end

/-- The epoch table holds a new value, and so do the flow contexts to the chip and the packets to it that wait at injection. -/
def State.epochStored (s : State) (chip v : Nat) : State :=
  { s with net.epoch := s.net.epoch.set chip v,
           net.ctxs := s.net.ctxs.map (fun (e : Nat × Ctx) => if e.2.chip = chip then (e.1, { e.2 with epoch := v }) else e),
           net.waiting := s.net.waiting.map (fun (w : Waiting) =>
             if w.pkt.dstChip = chip then { w with pkt := { w.pkt with dstEpoch := v } } else w) }

/-- A stored epoch is told as an event, and links are judged with it. -/
def State.epochJudged (s : State) (chip v : Nat) : State :=
  ((s.epochStored chip v).raise 0x1E0A { kind := 2, subj := chip, pay := v, len := 2 }).judgeAll

theorem State.epochJudged_epoch (s : State) (chip v : Nat) : (s.epochJudged chip v).net.epoch = s.net.epoch.set chip v := by
  rw [State.epochJudged, State.judgeAll_epoch, State.raise_net]
  rfl

theorem State.epochJudged_keeps (s : State) (chip v : Nat) : Keeps LinkSt.settled judgeObjects s (s.epochJudged chip v) := by
  have hstored : Keeps LinkSt.settled judgeObjects s (s.epochStored chip v) := ⟨rfl, fun _ _ => rfl, fun _ => rfl, List.suffix_rfl⟩
  exact (hstored.raise (by simp)).trans (State.judgeAll_keeps _)

theorem State.fenceAgain_net (s : State) (cause link current : Nat) : (s.fenceAgain cause link current).net = s.net :=
  (apply_ite State.net ..).trans (ite_self _)

theorem State.fenceAgain_keeps (s : State) (cause link current : Nat) :
    Keeps LinkSt.settled (O.FENCE_RECORD :: judgeObjects) s (s.fenceAgain cause link current) :=
  (Keeps.refl _ _ s).onlyIf ((Keeps.refl _ _ s).put (by simp))

section
variable (htags : ∀ e ∈ s.net.tags, e.2.chip ≠ chip) (hother : ¬(s.obj O.CHIP_STATE = 1 ∧ chip = s.obj O.CHIP_NUMBER))
include htags hother

/-- Without a tag to the chip none completes, and the epoch of another chip fences nothing; one that this module held until it was
fenced in this cycle may lower the cause in its record (R416). -/
theorem State.raiseEpoch_of_other : s.raiseEpoch chip v =
    if (s.epochJudged chip v).justFenced chip (s.epochOf chip) then (s.epochJudged chip v).fenceAgain 1 0xFF v
    else s.epochJudged chip v := by
  have hkeeps := s.epochJudged_keeps chip v
  have hnone : s.net.tags.filter (fun (t : Nat × Tag) => t.2.chip = chip) = [] :=
    List.filter_eq_nil_iff.mpr fun e he => by simpa using htags e he
  have hstate : (s.epochJudged chip v).obj O.CHIP_STATE = s.obj O.CHIP_STATE := hkeeps.obj (by decide)
  have hnumber : (s.epochJudged chip v).obj O.CHIP_NUMBER = s.obj O.CHIP_NUMBER := hkeeps.obj (by decide)
  unfold State.raiseEpoch
  rw [← State.epochStored]
  dsimp only
  rw [State.raise_net, State.epochStored, hnone, List.foldl_nil, ← State.epochStored, ← State.epochJudged, hstate, hnumber]
  exact if_neg (by simpa using fun hstate hnumber => absurd ⟨hstate, hnumber⟩ hother)

theorem State.raiseEpoch_epoch : (s.raiseEpoch chip v).net.epoch = s.net.epoch.set chip v := by
  rw [State.raiseEpoch_of_other htags hother]
  split
  · rw [State.fenceAgain_net, State.epochJudged_epoch]
  · exact s.epochJudged_epoch chip v

theorem State.raiseEpoch_keeps : Keeps LinkSt.settled (O.FENCE_RECORD :: judgeObjects) s (s.raiseEpoch chip v) := by
  have hjudged : Keeps LinkSt.settled (O.FENCE_RECORD :: judgeObjects) s (s.epochJudged chip v) :=
    (s.epochJudged_keeps chip v).weaken id (List.subset_cons_self _ _)
  rw [State.raiseEpoch_of_other htags hother]
  exact hjudged.onlyIf (State.fenceAgain_keeps ..)

theorem epochValueWrite_raises {who : Who} (h : Admits s who O.EPOCH_VALUE v) (hchip : chip ≤ 16382) (hv : s.epochOf chip < v) :
    Completes (.epochValueWrite who chip v) s (fun t => t.epochOf chip = v ∧ (∀ c, c ≠ chip → t.epochOf c = s.epochOf c) ∧
      Tells t who O.EPOCH_VALUE St.ok ∧ SameMemory s t ∧ t.jobs = s.jobs ∧ t.host = s.host) := by
  have hkeeps := (State.raiseEpoch_keeps htags hother (v := v)).send (o := .status who O.EPOCH_VALUE St.ok)
  have hepoch (c : Nat) : ((s.raiseEpoch chip v).send (.status who O.EPOCH_VALUE St.ok)).epochOf c =
      if c = chip then v else s.epochOf c := by
    rw [State.epochOf, State.send_net, State.raiseEpoch_epoch htags hother, Tab.get_set]
    rfl
  exact ⟨_, exec_of_answer (exec_epochValueWrite ..) h (State.epochValue_higher hchip hv), (hepoch chip).trans (if_pos rfl),
    fun c hc => (hepoch c).trans (if_neg hc), tells_send .., hkeeps.sameMemory, hkeeps.jobs, hkeeps.host⟩

end

end

/-! ### ROUTE_ENTRY (R341) -/

theorem exec_routeEntryWrite (who : Who) (chip v : Nat) (s : State) : exec (.routeEntryWrite who chip v) s =
    rowWrite s who O.ROUTE_ENTRY v fun s =>
      if 16382 < chip then (s, St.notPresent)
      else if Route.bad v s.linkPresent then (s, St.refused)
      else ({ s with net.route := s.net.route.set chip v }, St.ok) := rfl

section
variable {s : State} {who : Who} {chip v : Nat} (h : Admits s who O.ROUTE_ENTRY v) (hchip : chip ≤ 16382)
include h hchip

theorem routeEntryWrite_stores (hgood : Route.bad v s.linkPresent = false) :
    Completes (.routeEntryWrite who chip v) s (fun t => t.routeOf chip = v ∧ (∀ c, c ≠ chip → t.routeOf c = s.routeOf c) ∧
      Tells t who O.ROUTE_ENTRY St.ok ∧ t.dict = s.dict ∧ SameMemory s t ∧ t.jobs = s.jobs) := by
  have hexec : exec (.routeEntryWrite who chip v) s =
      .next ({ s with net.route := s.net.route.set chip v }.send (.status who O.ROUTE_ENTRY St.ok)) :=
    exec_of_answer (exec_routeEntryWrite ..) h (by rw [if_neg (Nat.not_lt_of_le hchip), hgood]; rfl)
  exact ⟨_, hexec, (Tab.get_set ..).trans (if_pos rfl), fun c hc => (Tab.get_set ..).trans (if_neg hc), tells_send .., rfl,
    sameMemory_refl s, rfl⟩

theorem routeEntryWrite_refused (hbad : Route.bad v s.linkPresent = true) :
    exec (.routeEntryWrite who chip v) s = .next (s.send (.status who O.ROUTE_ENTRY St.refused)) :=
  exec_of_answer (exec_routeEntryWrite ..) h (by rw [if_neg (Nat.not_lt_of_le hchip), hbad]; rfl)

end

/-! ### REQ_TIMEOUT (R345) -/

theorem exec_reqTimeout (tag : Nat) (s : State) : exec (.reqTimeout tag) s = execReqTimeout tag s := rfl

/-- At the deadline of a tag the timeout is counted and told. -/
def State.tagExpired (s : State) (g : Tag) : State :=
  ((s.upTo (g.deadlineNs * 8)).inc O.REQ_TIMEOUTS).raiseEvery 0x2E09 0 sec1 { kind := 2, subj := g.chip, part := g.owner }

theorem State.tagExpired_now (s : State) (g : Tag) : (s.tagExpired g).now = max s.now (g.deadlineNs * 8) := by
  rw [State.tagExpired, State.raiseEvery_now, State.inc_now, State.upTo_now]

theorem State.tagExpired_counts (s : State) (g : Tag) :
    (s.tagExpired g).obj O.REQ_TIMEOUTS = (s.obj O.REQ_TIMEOUTS + 1) % 2 ^ 64 := by
  rw [State.tagExpired, State.raiseEvery_obj _ _ _ _ _ _ (by decide), State.obj_inc, if_pos rfl, State.upTo_obj]

theorem reqTimeout_completes {s : State} {tag : Nat} {g : Tag} (hfind : s.net.tags.find tag = some g)
    (hheld : (s.job g.owner).ckpt.held.any (fun k => decide (k.typ = 3) && decide (k.tag = g.gen * 8192 + tag)) = false) :
    exec (.reqTimeout tag) s = .next ((s.tagExpired g).tagDone tag 0x20) := by
  rw [exec_reqTimeout, execReqTimeout, hfind]
  dsimp only
  rw [hheld]
  rfl

/-! ### CONTEXT_IDLE_CLOSE (R344) -/

theorem Tab.find_del {β : Type} (t : Tab β) (k : Nat) : (t.del k).find k = none := by
  have hdrop : t.del k = t.drop (fun i => decide (i = k)) := by simp only [Tab.del, Tab.drop, ne_eq, decide_not]
  rw [hdrop, Tab.find_drop, if_pos (decide_eq_true rfl)]

theorem exec_contextIdleClose (ctx : Nat) (s : State) : exec (.contextIdleClose ctx) s = execContextIdleClose ctx s := rfl

section
variable {s : State} {i : Nat} {c : Ctx} (hfind : s.net.ctxs.find i = some c) (hopen : c.state = 2) (hout : c.tagsOut = 0)
  (hissued : ∀ e ∈ s.net.reqs, ¬(e.2.part = c.owner ∧ e.2.chip = c.chip ∧ e.2.cls = c.cls ∧ e.2.next < e.2.total))
include hfind hopen hout hissued

theorem exec_contextIdleClose_of_idle : exec (.contextIdleClose i) s =
    let u := s.upTo ((max c.lastUseNs c.freeNs + s.obj O.CONTEXT_IDLE_NS) * 8)
    .next { u with net.ctxs := u.net.ctxs.del i } := by
  have hnone : s.net.reqs.any (fun e => e.2.part = c.owner && e.2.chip = c.chip && e.2.cls = c.cls && e.2.next < e.2.total) = false :=
    List.any_eq_false.mpr fun e he => by simpa [and_assoc] using hissued e he
  rw [exec_contextIdleClose, execContextIdleClose, hfind]
  dsimp only
  rw [hnone, hopen, hout]
  rfl

theorem contextIdleClose_closes :
    Completes (.contextIdleClose i) s (fun t => t.net = { s.net with ctxs := Tab.del s.net.ctxs i } ∧ t.net.ctxs.find i = none ∧
      t.now = max s.now ((max c.lastUseNs c.freeNs + s.obj O.CONTEXT_IDLE_NS) * 8) ∧ t.dict = s.dict ∧ SameMemory s t ∧
      t.jobs = s.jobs) := by
  have hexec := exec_contextIdleClose_of_idle hfind hopen hout hissued
  generalize (max c.lastUseNs c.freeNs + s.obj O.CONTEXT_IDLE_NS) * 8 = idleAt at hexec ⊢
  have hnet : (s.upTo idleAt).net = s.net := s.upTo_net idleAt
  exact ⟨_, hexec, by rw [hnet], Tab.find_del .., s.upTo_now idleAt, s.upTo_dict idleAt,
    ⟨s.upTo_mem idleAt, s.upTo_poison idleAt, s.upTo_layout idleAt⟩, s.upTo_jobs idleAt⟩

end

/-! ### NO_ROUTE_INJECT (R343) -/

theorem exec_noRouteInject (cycles : Nat) (s : State) :
    exec (.noRouteInject cycles) s = .next (if s.boot.stopCause.isSome then s else s.tryWaiting cycles) := rfl

theorem noRouteInject_tries {s : State} (cycles : Nat) (hruns : s.boot.stopCause = none) :
    exec (.noRouteInject cycles) s = .next (s.tryWaiting cycles) := by
  rw [exec_noRouteInject, hruns]
  rfl

theorem noRouteInject_stopped {s : State} (cycles : Nat) (hstop : s.boot.stopCause ≠ none) : exec (.noRouteInject cycles) s = .next s := by
  rw [exec_noRouteInject, if_pos (Option.isSome_iff_ne_none.mpr hstop)]

/-- Settles O39: each table's rule answers its write by the test that the new value meets, and each timer's command meets the state it
fires in. A raised epoch of another chip without tags goes on to judge links, which leaves the epoch table, memory, jobs and host ports. -/
theorem transportTablesAndTimers : Obligations.TransportTablesAndTimers := by
  intro s
  refine ⟨fun who chip v h hchip => ⟨fun hv => ?lower, fun hv => ?equal, fun hv => ?higher, fun hv htags hother => ?raised⟩,
    fun who chip v h hchip => ⟨routeEntryWrite_stores h hchip, routeEntryWrite_refused h hchip⟩,
    fun tag g hfind hheld => ?timeout, fun i c => contextIdleClose_closes,
    fun cycles hruns => ⟨_, noRouteInject_tries cycles hruns, rfl⟩, noRouteInject_stopped⟩
  case lower => exact exec_of_answer (exec_epochValueWrite ..) h (State.epochValue_lower hchip hv)
  case equal => exact exec_of_answer (exec_epochValueWrite ..) h (State.epochValue_equal hchip hv)
  case higher => exact exec_of_answer (exec_epochValueWrite ..) h (State.epochValue_higher hchip hv)
  case raised => exact epochValueWrite_raises htags hother h hchip hv
  case timeout =>
    exact ⟨s.tagExpired g, rfl, s.tagExpired_now g, s.tagExpired_counts g, _, reqTimeout_completes hfind hheld, rfl⟩

end Sys2Proof.Machine
